-- ==== Sys2Proof/Word.lean ====
section
/-! DEFINITION. The byte and the byte string: the units in which frames, DOMAIN entries and memories are held.

Register values are natural numbers: a dictionary entry has the width its type gives it (R7, Table 00.5), and the
width differs from entry to entry, so a value is held as its bit pattern. -/

namespace Sys2Proof

/-- One byte of a frame, of a DOMAIN entry or of a memory. -/
abbrev Byte := BitVec 8

/-- A byte string, first byte first. -/
abbrev Bytes := List Byte

end Sys2Proof
end

