-- ==== Sys2Proof/Config.lean ====
section
/-! DEFINITION. What the spec leaves open and the model leaves open with it: functions with no body, so that nothing in
Lean can evaluate them and no proof can rest on a value of theirs. Each is named in a row of the assumption log. -/

namespace Sys2Proof.Config

/-- A free value, fresh at each use: the argument is the counter State.free, advanced at each use. -/
opaque freeNat : Nat → Nat

/-- What a counter that stands at the largest value of its type becomes at its next count; the spec states no width
beyond its type (key, width, value). -/
opaque counterFull : Nat → Nat → Nat

/-- The servo's demanded rate correction in 0.001 ppm after an offset (R43: its gains are not stated). Arguments: the
free counter, the last offset. -/
opaque servoDemand : Nat → Int → Int

/-- The correction averaged over the last 8 s before a loss (R46), from the samples (instant, correction). -/
opaque holdoverAverage : List (Nat × Int) → Int

/-- The median of four offsets whose two middle ones have an odd sum (R40 does not say how it is rounded). -/
opaque medianOdd : Int → Int → Int

/-- Executive busy time (PLY.LOAD, PLY.LOAD_PEAK): a measured quantity no rule determines. -/
opaque plyLoad : Nat → Nat

/-- Whether exp(−Δt / τ) of R266 is rounded to the binary32 number above it: no rule states the exponential's rounding.
Arguments: Δt in ns, τ in ms. -/
opaque expUp : Nat → Nat → Bool

/-- The temperature of a platinum resistance thermometer (R269): the curves of IEC 60751. Arguments: RANGE, resistance in Ω
as a binary32 pattern. -/
opaque rtdTemp : Nat → Nat → Nat

/-- The points of the stored Ni120 curve that R269 does not list: resistance in Ω at a temperature in °C. -/
opaque ni120 : Int → Nat

/-- The reference functions of IEC 60584-1 for a thermocouple type (R270): the voltage in mV of a temperature in °C, and the
temperature of a voltage, as binary32 patterns. -/
opaque tcVoltage : Nat → Nat → Nat
opaque tcTemp : Nat → Nat → Nat

/-- The range of a thermocouple type's reference function in thousandths of a degree (R261): low and high end. -/
opaque tcLow : Nat → Int
opaque tcHigh : Nat → Int

/-- The long-frame address as HART 7 forms it from the data of a response to command 0 (R290). -/
opaque hartAddress : Bytes → Nat

/-- The byte string of configuration values, as key and value, over which SAFE.CFG_CRC and PAIR.CFG_HASH are taken: no rule
states how a value is laid out in it (R310, R334). -/
opaque cfgBytes : List (Nat × Nat) → Bytes

/-- Half of an odd sum of nanoseconds, as a path delay: no rule states how a delay is rounded (R372). -/
opaque halfOdd : Int → Int

/-- The clockIdentity of a network's ordinary clock, from its MAC address, and its offsetScaledLogVariance (R374 states
neither). -/
opaque clockIdentity : Nat → Nat
opaque clockVariance : Nat

/-- A range of the copied creel after the executive has rebased the TICK.COUNT values stored in it by a difference: no rule
states where in the program area a timer keeps its start tick (R346, R351). -/
opaque rebased : Int → Nat → Bytes → Bytes

/-- The largest step record of a configuration in bytes (R343): Table 09.3 lists what a record holds and not the layout of
every section. Arguments: the bytes of the mapped inputs, the remote stations, the used RX connections, the level-1 tasks. -/
opaque recordMax : Nat → Nat → Nat → Nat → Nat

/-- The TLS records with which the station answers a handshake datagram (R476). -/
opaque tlsFlight : Nat → Bytes

/-- Whether a predicted life that is not a whole number of hours is reported rounded up (R510 to R512 do not say): numerator
and denominator of the life. -/
opaque lifeUp : Nat → Nat → Bool

/-- The CSRs mvendorid, marchid and mimpid by number: no rule states their values; they are the same on all strands (R54), and
the same on all spindles. Arguments: whether of a spindle, the CSR number. -/
opaque coreId : Bool → Nat → Nat

/-- Instructions that the strands have retired by a core cycle: the same on all of them (R57). -/
opaque retired : Nat → Nat

/-- The cycle and instruction counters of a spindle (R90 names the CSR time only). Arguments: spindle, CSR number, core
cycle. -/
opaque spinCount : Nat → Nat → Nat → Nat

/-- What a trap entry writes into mepc and mtval (CSR number, core cycle): the block holds no program counter. -/
opaque trapInfo : Nat → Nat → Nat

/-- The content of the 256 KiB data TCM as the executive rebuilds it from the bytes of the creel's Ply region and the running
program image (R58, R74): no rule lays the tables of the executive out. Arguments: the region, the image. -/
opaque dataTcm : Bytes → Bytes → Bytes

/-- Where a process image entry stands in the creel's area for the process image, and where a remote station's image does, in
units of 8 bytes (R192, Table 03.3): no rule lays the area out. Arguments: the key; the station. -/
opaque imagePlace : Nat → Nat
opaque remotePlace : Nat → Nat

/-- The way of a full set that a new line of an instruction cache replaces (R92 states no policy). Argument: core cycle. -/
opaque icacheVictim : Nat → Nat

end Sys2Proof.Config
end

