-- ==== Sys2Proof/Machine/Bits.lean ====
section
/-! DEFINITION. Bit fields, signed readings, byte order and the CRC of R317: the helpers every family uses.
Bits are numbered from 0 at the least significant bit; the die stores little-endian and the networks send most
significant byte first (R13). -/

namespace Sys2Proof.Machine

/-- The field of `n` bits whose lowest bit is bit `lo`. -/
def field (v lo n : Nat) : Nat := (v >>> lo) % 2 ^ n

/-- `v` with the field of `n` bits at `lo` replaced by `x`. -/
def setField (v lo n x : Nat) : Nat :=
  v - (field v lo n) <<< lo + (x % 2 ^ n) <<< lo

/-- `v` with bit `i` set to `b`. -/
def putBit (v i : Nat) (b : Bool) : Nat := setField v i 1 (if b then 1 else 0)

/-- A truth value as a bit. -/
def b2n (b : Bool) : Nat := if b then 1 else 0

/-- The two's-complement reading of the low `w` bits of `v`. -/
def toInt (w v : Nat) : Int :=
  let u := v % 2 ^ w
  if u < 2 ^ (w - 1) then (u : Int) else (u : Int) - (2 ^ w : Nat)

/-- The `w`-bit two's-complement pattern of an integer. -/
def ofInt (w : Nat) (i : Int) : Nat := (i % ((2 ^ w : Nat) : Int)).toNat

/-- The little-endian bytes of `v`, `n` of them. -/
def leBytes : Nat → Nat → Bytes
  | 0, _ => []
  | n + 1, v => BitVec.ofNat 8 v :: leBytes n (v / 256)

/-- The value of little-endian bytes. -/
def leNat : Bytes → Nat
  | [] => 0
  | b :: bs => b.toNat + 256 * leNat bs

/-- The most-significant-first bytes of `v`, `n` of them (network order, R13). -/
def beBytes (n v : Nat) : Bytes := (leBytes n v).reverse

/-- The value of bytes in network order (R13). -/
def beNat (bs : Bytes) : Nat := leNat bs.reverse

/-- `n` bytes of `bs` from offset `o`; missing bytes are left out. -/
def slice (bs : Bytes) (o n : Nat) : Bytes := (bs.drop o).take n

/-- The network-order value of `n` bytes at offset `o`. -/
def beAt (bs : Bytes) (o n : Nat) : Nat := beNat (slice bs o n)

/-- The little-endian value of `n` bytes at offset `o`. -/
def leAt (bs : Bytes) (o n : Nat) : Nat := leNat (slice bs o n)

/-- `bs` with the bytes `x` written from offset `o`, extended with zero bytes as needed. -/
def splice (bs : Bytes) (o : Nat) (x : Bytes) : Bytes :=
  let pre := bs.take o
  pre ++ List.replicate (o - pre.length) 0 ++ x ++ bs.drop (o + x.length)

/-- Zero bytes. -/
def zeros (n : Nat) : Bytes := List.replicate n 0

/-- Exactly `n` bytes: cut, or filled with zero bytes. -/
def padTo (n : Nat) (bs : Bytes) : Bytes := bs.take n ++ zeros (n - bs.length)

/-- A list with element `i` replaced (nothing happens past the end). -/
def setAt {α : Type} : List α → Nat → α → List α
  | [], _, _ => []
  | _ :: xs, 0, y => y :: xs
  | x :: xs, i + 1, y => x :: setAt xs i y

/-- A list with element `i` passed through `f`. -/
def updAt {α : Type} (f : α → α) : List α → Nat → List α
  | [], _ => []
  | x :: xs, 0 => f x :: xs
  | x :: xs, i + 1 => x :: updAt f xs i

/-- One bit of the CRC of R317: polynomial 0x1EDC6F41, reflected. -/
def crcBit (crc : Nat) : Nat :=
  if crc % 2 = 1 then (crc / 2) ^^^ 0x82F63B78 else crc / 2

/-- One byte of the CRC of R317. -/
def crcByte (crc : Nat) (b : Byte) : Nat :=
  let c := crc ^^^ b.toNat
  crcBit (crcBit (crcBit (crcBit (crcBit (crcBit (crcBit (crcBit c)))))))

/-- CRC-32C of R317 over `bs` from the initial value `init`, final value inverted. -/
def crc32c (init : Nat) (bs : Bytes) : Nat := bs.foldl crcByte init ^^^ 0xFFFFFFFF

/-- The smallest multiple of `p` that is at least `t`. -/
def ceilMul (t p : Nat) : Nat := (t + p - 1) / p * p

/-- The indices whose bit is set in a word of `n` bits, ascending. -/
def bitsSet (n v : Nat) : List Nat := (List.range n).filter v.testBit

/-- The word with exactly the bits of the listed indices set. -/
def maskOf : List Nat → Nat
  | [] => 0
  | i :: is => (2 ^ i) ||| maskOf is

/-- Values saturate at `m` (counters for which the spec says so). -/
def satInc (m v : Nat) : Nat := if v < m then v + 1 else m

/-- The width in bits of a type of Table 05.4. -/
def typeBits : Nat → Nat
  | 0x01 => 1
  | 0x02 | 0x05 => 8
  | 0x03 | 0x06 => 16
  | 0x04 | 0x07 | 0x08 => 32
  | 0x11 | 0x15 | 0x1B => 64
  | _ => 0

/-- The value at bit offset `ofs`: bit b lies in byte b / 8 at bit b mod 8; a wider type is in network order (R383, R402). -/
def payloadValue (p : Bytes) (ofs type : Nat) : Nat :=
  if typeBits type = 1 then b2n ((leAt p (ofs / 8) 1).testBit (ofs % 8))
  else beAt p (ofs / 8) (typeBits type / 8)

/-- A value put at bit offset `ofs`. -/
def putPayload (p : Bytes) (ofs type v : Nat) : Bytes :=
  if typeBits type = 1 then
    splice p (ofs / 8) [BitVec.ofNat 8 (putBit (leAt p (ofs / 8) 1) (ofs % 8) (v.testBit 0))]
  else splice p (ofs / 8) (beBytes (typeBits type / 8) v)

end Sys2Proof.Machine
end

