-- ==== Sys2Proof/Machine/Memory.lean ====
section
/-! DEFINITION. Sparse memories in one canonical form: cells in strictly rising address order, no cell equal to what an
unlisted address reads as. Bytes nothing has written read as 0 (DESIGN CHOICE, log entry 5). The same form holds the
values of the dictionary entries, where an unlisted entry reads as its Default. -/

namespace Sys2Proof.Machine

/-- A byte memory. -/
abbrev Mem := List Host.Cell

/-- What an address that is not listed reads as (log entry 5). -/
def Mem.blank : Byte := 0

/-- The byte at an address. -/
def Mem.get : Mem → Nat → Byte
  | [], _ => Mem.blank
  | (a, b) :: m, x => if a = x then b else if x < a then Mem.blank else Mem.get m x

/-- The memory without a cell at `x`. -/
def Mem.del : Mem → Nat → Mem
  | [], _ => []
  | (a, b) :: m, x => if a = x then m else if x < a then (a, b) :: m else (a, b) :: Mem.del m x

/-- The memory with a cell `(x, v)`. -/
def Mem.ins : Mem → Nat → Byte → Mem
  | [], x, v => [(x, v)]
  | (a, b) :: m, x, v =>
    if a = x then (x, v) :: m else if x < a then (x, v) :: (a, b) :: m else (a, b) :: Mem.ins m x v

/-- One byte written; writing the blank removes the cell, so that equal memories are equal lists. -/
def Mem.put (m : Mem) (x : Nat) (v : Byte) : Mem :=
  if v = Mem.blank then Mem.del m x else Mem.ins m x v

/-- Every listed address lies above `lo`, the addresses rise strictly, and no cell holds the blank. -/
def Mem.wfAbove : Nat → Mem → Bool
  | _, [] => true
  | lo, (a, b) :: m => decide (lo ≤ a) && (b != Mem.blank) && Mem.wfAbove (a + 1) m

/-- The canonical form. -/
def Memory.wf (m : Mem) : Bool := Mem.wfAbove 0 m

/-- `n` bytes from an address. -/
def Mem.read (m : Mem) (x : Nat) : Nat → Bytes
  | 0 => []
  | n + 1 => m.get x :: Mem.read m (x + 1) n

/-- Bytes written from an address. -/
def Mem.write (m : Mem) (x : Nat) : Bytes → Mem
  | [] => m
  | b :: bs => Mem.write (m.put x b) (x + 1) bs

/-- The little-endian word of `n` bytes at an address (R13). -/
def Mem.word (m : Mem) (x n : Nat) : Nat := leNat (m.read x n)

/-- The little-endian word `v` of `n` bytes stored at an address (R13). -/
def Mem.putWord (m : Mem) (x n v : Nat) : Mem := m.write x (leBytes n v)

/-- Values by key, in rising key order; a key that is not listed has its default. -/
abbrev Vals := List (Nat × Nat)

/-- The listed value of a key. -/
def Vals.get? : Vals → Nat → Option Nat
  | [], _ => none
  | (a, b) :: m, x => if a = x then some b else if x < a then none else Vals.get? m x

/-- The values without the key. -/
def Vals.del : Vals → Nat → Vals
  | [], _ => []
  | (a, b) :: m, x => if a = x then m else if x < a then (a, b) :: m else (a, b) :: Vals.del m x

/-- The values with the key set. -/
def Vals.ins : Vals → Nat → Nat → Vals
  | [], x, v => [(x, v)]
  | (a, b) :: m, x, v =>
    if a = x then (x, v) :: m else if x < a then (x, v) :: (a, b) :: m else (a, b) :: Vals.ins m x v

/-- Byte strings by key (the DOMAIN and string entries), in rising key order. -/
abbrev Doms := List (Nat × Bytes)

/-- The byte string of a key, empty if nothing has written it. -/
def Doms.get : Doms → Nat → Bytes
  | [], _ => []
  | (a, b) :: m, x => if a = x then b else if x < a then [] else Doms.get m x

/-- The byte string of a key replaced. -/
def Doms.put : Doms → Nat → Bytes → Doms
  | [], x, v => [(x, v)]
  | (a, b) :: m, x, v =>
    if a = x then (x, v) :: m else if x < a then (x, v) :: (a, b) :: m else (a, b) :: Doms.put m x v

end Sys2Proof.Machine
end

