-- ==== Sys2Proof/Machine/Parts.lean ====
section
/-! DEFINITION. The parts of the state, one structure per unit: what the chapters give the machine beside its
dictionary registers. A dictionary register has its home in `Core.od`, under its own index and sub-index, unless it is
a view of a field here (Machine/Flags.lean computes those). -/

namespace Sys2Proof.Machine

/-- The run states of Table 15.1. -/
inductive RunState where
  | off | vault | boot | selftest | init | stop | run | hold | safe | failed
deriving DecidableEq, Repr

/-- The redundancy roles (chapter 09). -/
inductive Role where
  | alone | active | standby | syncing | witness
deriving DecidableEq, Repr

/-- TIME.STATE (Table 01.5). -/
inductive TimeState where
  | free | acquiring | locked | holdover
deriving DecidableEq, Repr

/-! ## Skein (chapter 13) -/

/-- A record request in the request queue (R449). -/
structure Request where
  code : Nat
  sev : Nat
  arg0 : Nat
  arg1 : Nat
  /-- The STAMP of the record of a step of station time (Table 13.2, STEP; R448); none: any other record. -/
  step : Option Nat
deriving DecidableEq, Repr

/-- A Skein entry (Table 13.1). -/
structure Entry where
  seq : Nat
  stamp : Nat
  code : Nat
  sev : Nat
  flags : Nat
  tick : Nat
  arg0 : Nat
  arg1 : Nat
deriving DecidableEq, Repr

/-- The token bucket of one code (R453). A code without one has a full bucket. -/
structure Bucket where
  code : Nat
  tokens : Nat
  /-- PLY.MONO_MS of its last refill instant. -/
  refilled : Nat
  suppressed : Nat
  sevMax : Nat
  lastArg : Nat
deriving DecidableEq, Repr

/-- One sector of the flash ring: its number and the entries programmed in it, oldest first (R455). -/
structure Sector where
  number : Nat
  entries : List Entry
deriving DecidableEq, Repr

/-- The event recorder. -/
structure Recorder where
  /-- Requests waiting, oldest first, at most 256 (R449). -/
  queue : List Request
  /-- Requests dropped in the present run (R449). -/
  dropRun : Nat
  /-- The RAM ring: slot number and entry, in ascending SEQ (R451, R452). -/
  ring : List (Nat × Entry)
  /-- The last sequence number assigned (R450). -/
  lastSeq : Nat
  buckets : List Bucket
  /-- Entries waiting to be programmed, oldest first, at most 1,024 (R454). -/
  mirror : List Entry
  /-- Entries not mirrored in the present run (R454). -/
  mirrorRun : Nat
  /-- The programmed sectors of the flash ring, oldest first (R455). -/
  flash : List Sector
  /-- Sectors erased ahead of the writer. -/
  erased : List Nat
  /-- Sectors retired after a failed program or erase. -/
  retired : List Nat
  overwritten : Nat
  suppressed : Nat
  summaries : Nat
  bootSeq : Nat
  mirrorLost : Nat
  flashErases : Nat
  /-- SKEIN.LOST of severities 1 to 7. -/
  lost : List Nat
deriving DecidableEq, Repr

/-! ## RISC-V cores (R54, R90) -/

/-- The privilege modes of strands and spindles. -/
inductive Privilege where
  | user | machine
deriving DecidableEq, Repr

/-- The privileged state of one core: its mode, and its CSRs by number, the physical-memory-protection entries among them; a
CSR that is not listed reads 0. -/
structure Cpu where
  mode : Privilege
  csrs : Vals
deriving DecidableEq, Repr

/-! ## The tick and station time (chapter 01) -/

/-- The core clock, station time and the tick generator. -/
structure Clock where
  /-- Station time in ns (R37). -/
  now : Nat
  /-- Core cycles since power-on; PLY.MONO_MS is its count of milliseconds (R71). -/
  cyc : Nat
  /-- The tick generator runs (R24). -/
  running : Bool
  /-- Core cycle at which the tick generator started: the CSR time counts from it (R57). -/
  startCyc : Nat
  /-- Station time at the current tick's boundary, on the scale before a step made at it. -/
  tickStart : Nat
  /-- Core cycle of the current tick's boundary. -/
  tickCyc : Nat
  /-- Station time of the next boundary. -/
  nextB : Nat
  /-- The current tick's scheduled end, before a change of period in STOP moves it (R53). -/
  schedEnd : Nat
  state : TimeState
  /-- The last consecutive valid offsets of one master, oldest first, at most four (R38). -/
  acq : List Int
  /-- The network the count of R38 comes from (1 A, 2 B; 0 none). -/
  acqNet : Nat
  /-- The first lock has been made (R40). -/
  locked : Bool
  /-- The first lock or a re-step is complete and waits for its boundary (R40, R48). -/
  stepDue : Bool
  /-- The source in effect: TIME.SOURCE at the last boundary (R547). -/
  source : Nat
  /-- Consecutive valid offsets within TIME.LOCK_LIMIT while TIME_DIVERGED is set (R44). -/
  okRun : Nat
  /-- Corrections of the last 8 s: (core cycle, TIME.RATE) (R46). -/
  rates : List (Nat × Int)
  /-- Core cycle of the last valid offset (R46). -/
  lastValid : Nat
  /-- Core cycle at which HOLDOVER was entered. -/
  holdSince : Nat
deriving DecidableEq, Repr

/-! ## The Ply (chapter 02) -/

/-- The exceptions of a spindle or strand that the spec names. -/
inductive Trap where
  | illegalInstruction | instructionAccess | loadAccess | storeAccess
deriving DecidableEq, Repr

/-- One strand beside its STRAND registers. -/
structure Strand where
  /-- PLY.MONO_MS of its counted faults, oldest first (R71). -/
  faults : List Nat
  /-- Consecutive minority samples per agreement source 0 to 5 (R67). -/
  minority : List Nat
  /-- Core cycle of the detection that fenced it (R70). -/
  fenceCyc : Nat
  /-- It has passed BIST and its TCMs are copied: it waits for its rejoin boundary (R69). -/
  rejoinWait : Bool
  /-- Its register transfer is in progress since the boundary at this core cycle (Table 02.5, step 5). -/
  xfer : Option Nat
  /-- socmd as it last wrote it, bits 8:0 (R77). -/
  socmd : Nat
  /-- It has written socmd since the previous evaluation (R78). -/
  written : Bool
  /-- The token has alternated at its last write (R78). -/
  tokenOk : Bool
  /-- The token it had written at the previous evaluation. -/
  token : Bool
  /-- It has written socmd since it came into step, so that its token is judged (R79). -/
  tokenKnown : Bool
  /-- The next evaluation is its first since it came into step (R79). -/
  firstEval : Bool
  /-- Its code and data TCM (R55), at the addresses of Table 00.7. -/
  tcm : Mem
  cpu : Cpu
deriving DecidableEq, Repr

/-- One strand's copy of an outward item (Table 02.1). -/
structure ItemCopy where
  /-- Address, register number or CSR number. -/
  addr : Nat
  /-- Byte enables of a store, size of a load, or fflags update of a floating-point write-back. -/
  be : Nat
  data : Nat
deriving DecidableEq, Repr

/-- The Ply. -/
structure Ply where
  strands : List Strand
  /-- agreesel as it reads (Table 02.3). -/
  agreesel : Nat
  agreelo : Nat
  agreehi : Nat
  /-- The samples of the exchange in progress, one per strand X, Y, Z. -/
  samples : List Nat
  /-- Core cycle of the write that started it (R64). -/
  agreeAt : Nat
  /-- What the counters cycle and instret stand above the core cycles and the instructions retired, modulo 2^64 (R57). -/
  cycleOfs : Nat
  instretOfs : Nat
  /-- TICK.COUNT at the last exchange that ended with the safe default. -/
  defaultedAt : Option Nat
  /-- An un-votable reaction is in progress: the strands of U (R74), as a mask. -/
  unvoted : Option Nat
  /-- The evaluation after an un-votable reaction is not judged (R79). -/
  sovSkip : Bool
  /-- The safe outputs are forced off and have not been evaluated since (R80). -/
  forced : Bool
  /-- The lock-step is split (R82). -/
  split : Bool
  /-- A halt (false) or step (true) request held during SAFE, with its strand (R82). -/
  heldReq : Option (Nat × Bool)
  /-- The last item released to its destination: kind and content (R60). -/
  released : Option (Nat × ItemCopy)
  /-- Release and commits resume only at a boundary: set in SAFE (R75). -/
  holdWork : Bool
  /-- The exception the executive's last access raised (R18). -/
  trap : Option Trap
deriving DecidableEq, Repr

/-! ## States and reactions (chapter 15) -/

/-- A reaction: its assigned level, the fault's own level, its code and its unit (R505, Table 15.5). -/
structure Reaction where
  level : Nat
  own : Nat
  code : Nat
  unit : Nat
deriving DecidableEq, Repr

/-- Run-state and reaction bookkeeping. -/
structure React where
  /-- Reactions in progress (Table 15.4). -/
  active : List Reaction
  /-- Reactions queued, in the order of detection, at most 64 (R506). -/
  queue : List Reaction
  /-- The state SAFE was entered from. -/
  safeFrom : RunState
  /-- SAFE was entered by escalation (R508). -/
  safeEsc : Bool
  /-- Core cycle of the last L1 or higher fault during SAFE, or of its entry (R508). -/
  safeQuiet : Nat
  /-- STATE.CMD accepted, waiting for the next boundary: run (true) or stop (false) (R495). -/
  cmd : Option Bool
  /-- The last STATE.CMD accepted during INIT (R496). -/
  initCmd : Option Bool
  /-- Step 5 of Table 16.6 has ended (R530). -/
  startDone : Bool
deriving DecidableEq, Repr

/-! ## Power and the vault (chapter 16) -/

/-- The vault domain (Table 16.3). -/
structure Vault where
  rtc : Nat
  offStamp : Nat
  skeinSeq : Nat
  bootCount : Nat
  vstatus : Nat
  bootBank : Nat
  lastState : Nat
  resetCause : Nat
  slotId : Nat
  debugSplits : Nat
  retCrc : Nat
deriving DecidableEq, Repr

/-- Supplies, reset pin and start-up. -/
structure Power where
  /-- The logic supply is up. -/
  supply : Bool
  /-- L+ low (R521) and over-voltage recorded. -/
  low : Bool
  overV : Bool
  /-- RESET_N is low. -/
  resetLow : Bool
  /-- VBAT is above the supervisor threshold. -/
  vbat : Bool
  /-- Slot-ID straps as read at start-up (R535). -/
  slotId : Nat
  /-- Core cycle of t0 (R530). -/
  t0 : Nat
  /-- LAST_STATE of the vault before this start-up (R530). -/
  prevState : Nat
  /-- Time acquisition of start-up has ended (Table 16.6 step 6), and the core cycle it began at. -/
  acqOver : Bool
  acqStart : Nat
  /-- The outputs are held off by hardware: before the first enable and after a power-fail (R253, R522). -/
  holdOff : Bool
  /-- BANK_FALLBACK: the boot ROM booted from the other bank because the selected one failed (R488). -/
  bankFallback : Bool
  /-- VERSION of the executive image that runs (R487). -/
  execVersion : Nat
  /-- The power-fail sequence was the last to run (R522). -/
  failed : Bool
deriving DecidableEq, Repr

/-! ## Spindles (chapter 03) -/

/-- A bobbin entry: its word of Table 03.6 and what the station keeps beside it. -/
structure Job where
  word : Nat
  /-- The entry's number; the copies and re-runs of a pair share it. -/
  uid : Nat
  /-- The spindle whose bobbin held it. -/
  owner : Nat
  /-- Its position in the order of R102. -/
  key : Nat
  /-- The level-1 task whose instance it counts against (R177). -/
  inst : Option Nat
  /-- The run-ahead record it was placed with (R123). -/
  ahead : Option Nat
  /-- The first core cycle in which job.pop and the drafting port see it (R113). -/
  visible : Nat
  /-- It is copy B of its pair. -/
  second : Bool
deriving DecidableEq, Repr

/-- A word in a stage buffer: staging word index, byte enables, bytes (R121). -/
structure StageWord where
  word : Nat
  be : Nat
  val : Nat
deriving DecidableEq, Repr

/-- What a spindle waits to perform: an operation stalled under R126, or a job.done that waits for a slot (R114). -/
inductive Stalled where
  | push (lo hi : Nat) (paired : Bool)
  | loopGo (addr n : Nat)
  | evClaim
  | evDone (id : Nat)
  | store (addr size val : Nat)
  | load (addr size : Nat)
  /-- A write of an entry through the window: its bytes as the path carries them, or a segment of a DOMAIN entry. -/
  | write (key : Nat) (data : Bytes)
  | segment (key ofs : Nat) (data : Bytes) (last : Bool)
  | interrupt
  | trap (t : Trap)
  | park
deriving DecidableEq, Repr

/-- A loop unit's batch in progress (R140): the entries still to be examined (none: an unreadable list word). -/
structure Batch where
  todo : List (Option Nat)
  /-- Core cycle at which the next entry is examined. -/
  cyc : Nat
  done : Nat
  late : Bool
  fault : Bool
  waits : Nat
deriving DecidableEq, Repr

/-- One spindle with its loop unit. -/
structure Spindle where
  /-- The bobbin, head first (R100). -/
  bobbin : List Job
  /-- Entries loaded for the next release, behind the bobbin (R102, R104). -/
  loaded : List Job
  /-- Entries kept until places become free (R102). -/
  overflow : List Job
  /-- Core cycle of the last pops and drafts from the bobbin, and their number in it: their places are free from the next
  cycle (R104). -/
  popped : Nat × Nat
  /-- The open job, popped and not yet closed. -/
  job : Option Job
  /-- The stage buffer. -/
  buf : List StageWord
  /-- In tick.wait. -/
  waiting : Bool
  /-- What the sleeping spindle wakes with, and since which core cycle (R99). -/
  wake : Option (Nat × Nat)
  /-- Core cycle of the first instruction of the open job (R110). -/
  starts : Nat
  /-- Cause of the last interrupt taken: 11 external, 16 boundary (R106, R433). -/
  cause : Nat
  /-- The core cycle of a draft request that waits for a pair (R109). -/
  draft : Option Nat
  stalled : Option Stalled
  /-- In loop.wait. -/
  loopWait : Bool
  /-- rd of the last Xdraft instruction. -/
  rd : Nat
  /-- The exception the last instruction raised. -/
  trap : Option Trap
  /-- PLY.MONO_MS of the counted faults, oldest first (R116). -/
  faults : List Nat
  /-- The armed batch list: creel address and entries (R99). -/
  arm : Option (Nat × Nat)
  batch : Option Batch
  /-- Table 04.2 of the current tick's batch; 0 until it has ended. -/
  batchWord : Nat
  /-- Armed since the last release, so that its slots are still to be re-stamped (R149). -/
  newArm : Bool
  /-- Local SRAM by offset (R91). -/
  sram : Mem
  /-- The valid lines of the instruction cache: creel address / 64 and content (R92). -/
  icache : List (Nat × Bytes)
  cpu : Cpu
deriving DecidableEq, Repr

/-- A copy parked in a pair-comparison slot (R114). -/
structure Parked where
  sp : Nat
  job : Job
  buf : List StageWord
deriving DecidableEq, Repr

/-- A comparison in progress: copies A and B, and the core cycle of its end (R114). -/
structure Comparison where
  a : Parked
  b : Parked
  ends : Nat
deriving DecidableEq, Repr

/-- A declared input range of a run-ahead record with its shadow (R124). -/
structure AheadRange where
  addr : Nat
  len : Nat
  cls : Nat
  shadow : Option Bytes
deriving DecidableEq, Repr

/-- A run-ahead record (R123 to R127). -/
structure Ahead where
  id : Nat
  job : Job
  ranges : List AheadRange
  bad : Bool
  depends : List Nat
  /-- Its job has been popped. -/
  popped : Bool
  /-- Its words are in their tentative slots. -/
  closed : Bool
deriving DecidableEq, Repr

/-- A tentative slot: staging word, record, value (R125). -/
structure Tentative where
  word : Nat
  record : Nat
  be : Nat
  val : Nat
deriving DecidableEq, Repr

/-- A word made final: staging word, core cycle, spindle (R122). -/
structure Final where
  word : Nat
  cyc : Nat
  sp : Nat
deriving DecidableEq, Repr

/-- What the spindles share: staging, the pair slots, the run-ahead records, the creel's poisoned words. -/
structure Weave where
  sp : List Spindle
  /-- Number given to the last entry. -/
  uid : Nat
  parked : List Parked
  compares : List Comparison
  records : List Ahead
  /-- The final slots, four bytes a word (R120). -/
  stage : Mem
  /-- Words written final since the previous commit of their group (R29). -/
  marks : List Final
  /-- Words made final in this tick (R122). -/
  finals : List Final
  tentative : List Tentative
  /-- Poisoned 64-bit creel words: address / 8 (R96). -/
  poison : List Nat
  /-- Suspended level-0 entries (R106). -/
  suspended : List Job
  /-- Their stage buffers, by entry number. -/
  saves : List (Nat × List StageWord)
  /-- Numbers of pairs that were dropped while a copy still ran (R115). -/
  dropped : List Nat
  /-- Tasks held by a halted spindle: task, spindle (R130). -/
  holds : List (Nat × Nat)
  /-- Groups whose commit phase of this tick has passed. -/
  committed : List Nat
  /-- Those of them that copied at least one word. -/
  copies : List Nat
  /-- This tick's release has been made. -/
  released : Bool
  /-- Retired spindles with TICK.COUNT of their retirement: their batches and pinned jobs move at the next boundary (R117). -/
  retiredAt : List (Nat × Nat)
  /-- Retired spindles whose pinned jobs and batch have no host until the next power-on or RESET_N (R118). -/
  unhosted : List Nat
  /-- The tasks stopped for want of a host, by the hash of their name (R118). -/
  hostless : List Nat
deriving DecidableEq, Repr

/-! ## The loop units (chapter 04) -/

/-- A change of R168 that waits for its boundary. -/
inductive LoopChange where
  /-- A descriptor word: slot, offset, value. -/
  | word (slot ofs val : Nat)
  /-- LOOP.W.OUT: the OUT of the newer view word. -/
  | out (slot val : Nat)
  /-- A table's data. -/
  | table (t : Nat) (data : Bytes)
  /-- A table's SCALE (0), OFFSET (1) or MODE (2). -/
  | attr (t which val : Nat)
  /-- The whole of LOOP.TABLE or COMP.TABLES, from its creel address. -/
  | whole (addr : Nat) (data : Bytes)
deriving DecidableEq, Repr

/-- The attributes of a compensation table (R157). -/
structure CompAttr where
  table : Nat
  scale : Nat
  offset : Nat
  mode : Nat
deriving DecidableEq, Repr

/-- The loop-unit complex. -/
structure Loops where
  /-- Accepted changes, in the order received (R168). -/
  staged : List LoopChange
  /-- Applied changes the configuration record keeps (R169). -/
  kept : List LoopChange
  /-- Slots whose latches and counts are cleared between the next boundary and release (R150). -/
  clears : List Nat
  attrs : List CompAttr
  /-- The boundary view of the process image outputs (R147). -/
  view : Vals
  /-- Every slot is re-stamped before the next release (R149). -/
  restampAll : Bool
  /-- The current tick is stretched by a step of station time: the next one is the first on the new grid (R149). -/
  stepped : Bool
  /-- The state lines of the descriptors as a dictionary read shows them: those of the last boundary (R137). -/
  shown : Mem
deriving DecidableEq, Repr

/-! ## Tasks, images and remote I/O (chapter 05) -/

/-- A level-1 task of an image (R176, R177): its job list gives the home spindle and the bobbin entry. -/
structure TaskDef where
  num : Nat
  hash : Nat
  kind : Nat
  period : Nat
  offset : Nat
  prio : Nat
  event : Nat
  skipLimit : Nat
  jobs : List (Nat × Nat)
  /-- The ranges of program variables that its jobs write: address and bytes (Table 03.9, class 0). -/
  writes : List (Nat × Nat)
deriving DecidableEq, Repr, Inhabited

/-- A level-0 task of an image. -/
structure L0Def where
  num : Nat
  hash : Nat
  home : Nat
  word : Nat
  writes : List (Nat × Nat)
deriving DecidableEq, Repr, Inhabited

/-- An input map entry (Table 05.4). -/
structure InEntry where
  index : Nat
  sub : Nat
  type : Nat
  kind : Nat
  flags : Nat
  src : Nat
  ofs : Nat
  subst : Nat
deriving DecidableEq, Repr, Inhabited

/-- An output map entry (Table 05.5). -/
structure OutEntry where
  index : Nat
  sub : Nat
  type : Nat
  kind : Nat
  cg : Nat
  stage : Nat
  dest : Nat
  ofs : Nat
deriving DecidableEq, Repr, Inhabited

/-- A remote station of an image (R201). -/
structure StationDef where
  num : Nat
  cycle : Nat
  ident : Nat
  network : Nat
  outCg : Nat
  safeIo : Bool
deriving DecidableEq, Repr, Inhabited

/-- A variable, timer instance or edge-detector instance of an image (R201, R203). -/
structure VarDef where
  hash : Nat
  type : Nat
  addr : Nat
  init : Bytes
  retained : Bool
  /-- The preset of a timer instance within its bytes, offset and length: a matched timer takes the new one (R207). -/
  preset : Option (Nat × Nat)
deriving DecidableEq, Repr, Inhabited

/-- An image set as the station reads it: what R201 says it carries, and what the checks of Table 05.7 find. -/
structure ImageSet where
  /-- Where the executive image and the program image begin in the bank. -/
  execAt : Nat
  progAt : Nat
  /-- The checksum of Table 05.7, which no rule lays out, is right. -/
  crcOk : Bool
  /-- Fuse references and rules outside this model's reading of the image that the image breaks: a reject code, or 0. -/
  reject : Nat
  /-- The program area: creel address and content. -/
  base : Nat
  area : Bytes
  roBase : Nat
  roLimit : Nat
  tasks : List TaskDef
  level0 : List L0Def
  /-- Loop descriptors by slot, 128 bytes each. -/
  slots : List (Nat × Bytes)
  tables : List (Nat × Bytes)
  attrs : List (Nat × Nat × Nat × Nat)
  inMap : List InEntry
  outMap : List OutEntry
  stations : List StationDef
  vars : List VarDef
  /-- The batch lists of the loop units: spindle, creel address, entries (R138). -/
  batches : List (Nat × Nat × Nat)
  /-- Values of dictionary entries that the image loads, such as EV.S.CFG: key and value. -/
  entries : List (Nat × Nat)
deriving DecidableEq, Repr, Inhabited

end Sys2Proof.Machine

namespace Sys2Proof.Config

/-- What the bytes of a flash bank say as an image set. R201 lists what an image set carries; no rule states the layout
of its bytes (log entry 15). -/
opaque imageOf : Bytes → Machine.ImageSet

end Sys2Proof.Config

namespace Sys2Proof.Machine

/-- A flash bank (R201). -/
structure Bank where
  bytes : Bytes
  content : Option ImageSet
  /-- The newest complete record of its retain log: hash and value (R209). -/
  retained : List (Nat × Bytes)
deriving DecidableEq, Repr

/-- A task's instance (R178). -/
structure Instance where
  task : Nat
  /-- Core cycle of the release. -/
  start : Nat
  /-- A job closed at or after its deadline commit (R185). -/
  missed : Bool
deriving DecidableEq, Repr

/-- A level-0 cycle in progress: task, core cycle of its first placement (R187). -/
structure L0Cycle where
  task : Nat
  start : Nat
deriving DecidableEq, Repr

/-- A remote station at its controller (R196): the image of the snapshot, images waiting for a snapshot. -/
structure Remote where
  num : Nat
  /-- Images received and not yet in a snapshot: receive time-stamp, network, image (R26). -/
  waiting : List (Nat × Nat × Bytes)
  /-- TICK.COUNT from which the next cycle is counted. -/
  cycleFrom : Nat
  /-- A valid image has arrived in the current cycle. -/
  got : Bool
  /-- Consecutive missed cycles. -/
  misses : Nat
  /-- Remote tick of the last image taken, to tell a second copy (R389). -/
  seen : Option Nat
  /-- TICK.COUNT of the tick in which it last went OFFLINE (R198). -/
  left : Option Nat
deriving DecidableEq, Repr

/-- A remote station's own output side (R199). -/
structure Outputs where
  /-- The last valid image: receive time-stamp, image; none before the first one and after a watchdog expiry. -/
  image : Option (Nat × Bytes)
  /-- SRC_ID and TICK of the last image taken, to tell a second copy (R389). -/
  seen : Option (Nat × Nat)
  /-- Own ticks since the last valid image. -/
  quiet : Nat
  /-- Commit groups that still have to apply it, or the reactions of Table 05.6. -/
  todo : List Nat
  /-- The reactions are what applies: the watchdog has expired, or no image has been applied (R199, R200). -/
  reactDue : Bool
deriving DecidableEq, Repr

/-- Programs and remote I/O. -/
structure Prog where
  banks : List Bank
  /-- The running image set. -/
  image : Option ImageSet
  instances : List Instance
  /-- Event claims: task, core cycle in which the claim completes (R180). -/
  events : List (Nat × Nat)
  cycles : List L0Cycle
  /-- TICK.COUNT of the slack in which level-0 entries were last placed, and the number after the highest task placed
  (R186). -/
  l0Mark : Nat × Nat
  /-- PROG.CHANGEOVER as fixed at arming (R204). -/
  changeAt : Nat
  /-- The variable transfer has run in the slack before the coming boundary (R205). -/
  transferred : Bool
  /-- Core cycle at which that transfer is complete. -/
  transferEnd : Nat
  /-- Core cycle of the next retain copy (R209). -/
  retainDue : Nat
  /-- A retain copy is wanted in the next slack with no open instance. -/
  retainWant : Bool
  remotes : List Remote
  outputs : Outputs
deriving DecidableEq, Repr

/-! ## The event router (chapter 12) -/

/-- An offer at a target: the source offered before, the source offered now, and the core cycle from which it is. -/
structure Offer where
  target : Nat
  prev : Nat
  src : Nat
  cyc : Nat
deriving DecidableEq, Repr

/-- An event in service. -/
structure Service where
  src : Nat
  target : Nat
  group : Nat
deriving DecidableEq, Repr

/-- The event router beside its EV registers. -/
structure Router where
  /-- Sources whose input is 1. -/
  levels : List Nat
  /-- Edge sources whose PENDING is latched. -/
  pending : List Nat
  /-- Coalescing windows: source, core cycle of the first edge. -/
  windows : List (Nat × Nat)
  service : List Service
  withdrawn : List Nat
  offers : List Offer
  /-- EV.S.CFG changes that wait for the next boundary (R427). -/
  cfgDue : List (Nat × Nat)
deriving DecidableEq, Repr

/-! ## The field side (chapters 06 and 07) -/

/-- A DIO channel beside its registers. -/
structure DioChan where
  /-- The configuration in effect (R218). -/
  cfg : Nat
  /-- win_start of R224 in core cycles; none before the first accepted edge. -/
  winStart : Option Nat
  /-- n, frozen and last_edge of R224. -/
  edges : Nat
  frozen : Bool
  lastEdge : Nat
  /-- Core cycle at which the accepted level became 1 (R225). -/
  since : Nat
  /-- Consecutive thermal retries, and the core cycle of the last shutdown (R234). -/
  retries : Nat
  shutAt : Nat
deriving DecidableEq, Repr

/-- A test-pulse source beside its registers. -/
structure TpSource where
  /-- Core cycle at which the last pulse started, and those at which the pulses before it did. -/
  pulse : Option Nat
  before : List Nat
  /-- Core cycle of the last thermal shutdown (R247). -/
  shutAt : Nat
  /-- EXT_VOLTAGE was set at the last pulse. -/
  ext : Bool
deriving DecidableEq, Repr

/-- A dark test in progress: safe output, switch M, core cycles of its start and of its end (R249). -/
structure DarkTest where
  so : Nat
  m : Bool
  start : Nat
  stop : Nat
deriving DecidableEq, Repr

/-- What the digital channels, test-pulse sources and safe outputs hold beside their registers. -/
structure Field where
  dio : List DioChan
  /-- The counters' values, and the accepted levels of their inputs A and B (R227). -/
  counts : List Int
  inputs : List (Bool × Bool)
  tp : List TpSource
  /-- Groups whose LPg is reversed (R240). -/
  reversed : List Nat
  /-- Groups in CUT whose LPg is back above the cut threshold and not yet above the recovery threshold (R257). -/
  lpUp : List Nat
  /-- HOLDING: group and the core cycle at which it was set; groups whose hold is over (R242). -/
  holds : List (Nat × Nat)
  holdOver : List Nat
  /-- Groups with an accepted acknowledgement that waits for its commit (R243). -/
  acks : List Nat
  /-- An accepted SO.ACK with the conditions that persist: bit 8k + f for flag f of SOk (R251). -/
  soAck : Option Nat
  /-- Reaction units whose outputs are in their off state (Table 15.6). -/
  forcedOff : List Nat
  dark : List DarkTest
deriving DecidableEq, Repr

/-- A sigma-delta result: core cycle and station time of its conversion end, physical value, delivered value. -/
structure SdResult where
  cyc : Nat
  stamp : Nat
  phys : Nat
  eu : Nat
  /-- The quality flags that the conversion gives (R261, R262). -/
  flags : Nat
deriving DecidableEq, Repr

/-- A UIO channel beside its registers. -/
structure UioChan where
  /-- The configuration in effect (R260). -/
  cfg : Nat
  /-- Results that no latch has taken or passed over yet (R265). -/
  sd : List SdResult
  /-- The conversion's flags of the result latched last. -/
  flags : Nat
  /-- The filter's state y; none before its first value (R266). -/
  y : Option Nat
  /-- Band of Table 07.3: 0 below 0.5 mA, 1 below ALARM_LO, 2 below 3.8 mA, 3 none, 4 above 20.5 mA, 5 above ALARM_HI. -/
  band : Nat
  /-- Consecutive passing open-wire checks (R271). -/
  passes : Nat
  /-- The NAMUR value (R273). -/
  on : Bool
  /-- The headroom is below 1.0 V (COMPLIANCE of R279). -/
  headLow : Bool
  /-- The thermal limit of R282 in mA, while one is in force. -/
  limit : Option Nat
  /-- The stored off state of IOUT_PASSIVE is PASS; kept without supply (R281). -/
  cell : Bool
  /-- The IOUT_PASSIVE front end runs from its loop, and receives updates from the die (R281). -/
  looped : Bool
  contact : Bool
  /-- The remote reaction OFF is applied (Table 05.6). -/
  off : Bool
  /-- The physical value driven; none in the off state (R276). -/
  drive : Option Nat
deriving DecidableEq, Repr

/-- A HART channel beside its registers (R288 to R292). -/
structure HartChan where
  /-- The request in progress (Table 07.8). -/
  req : Option Bytes
  /-- The request in progress is the station's own identification. -/
  ident : Bool
  attempts : Nat
  /-- Consecutive failed attempts. -/
  fails : Nat
  /-- Communication is lost (0x070A). -/
  lost : Bool
  /-- Core cycle of the last identification poll. -/
  polled : Option Nat
  /-- What the transaction in progress sends and how often, as configured when it began (R289, R296): the frame from its
  delimiter to its check byte, the preamble bytes, the retries. -/
  frame : Bytes
  preambles : Nat
  retries : Nat
deriving DecidableEq, Repr

/-- What the universal channels hold beside their registers. -/
structure Analog where
  ch : List UioChan
  hart : List HartChan
  /-- Groups whose outputs return at the next commit (R284). -/
  ugWait : List Nat
  /-- Core cycle at which the recovery of a group's supply began: group, cycle. -/
  ugStart : List (Nat × Nat)
  /-- Channels with an accepted UIO.ACK that waits for its commit (R280). -/
  acks : List Nat
deriving DecidableEq, Repr

/-! ## Safety functions and Scrim (chapter 08) -/

/-- One evaluator copy of a safe-input pair (R302): its state (0 DEMAND, 1 CLOSING, 2 RELEASE, 3 OPENING, 4 FAULT) and
the core cycle its time counts from. -/
structure PairEval where
  eval : Nat
  t : Nat
deriving DecidableEq, Repr

/-- An axis beside its registers (R312 to R314). -/
structure Axis where
  /-- Snapshot counts and ENC_ERR, newest first (source A). -/
  hist : List (Int × Bool)
  /-- Core cycle since which the sources have disagreed, a source has been invalid, and both have been good (R313). -/
  apart : Option Nat
  invalid : Option Nat
  good : Option Nat
  /-- Executed ticks since t0, v0, and the ticks of standstill (R314). -/
  ticks : Nat
  v0 : Nat
  still : Nat
deriving DecidableEq, Repr

/-- A received Scrim copy that waits for its twin: path (0 A, 1 B), arrival, telegram (R319). -/
structure ScrimCopy where
  path : Nat
  arrival : Nat
  stamp : Nat
  bytes : Bytes
deriving DecidableEq, Repr

/-- An accepted telegram that waits for a snapshot (R320). -/
structure ScrimTaken where
  cyc : Nat
  /-- Accepted as a single copy. -/
  alone : Bool
  bytes : Bytes
deriving DecidableEq, Repr

/-- AVAILABLE and DATA of a telegram (Table 08.3). -/
def ScrimTaken.avail (t : ScrimTaken) : Bool := (beAt t.bytes 1 1).testBit 1
def ScrimTaken.data (t : ScrimTaken) : Bytes := slice t.bytes 0x16 (beAt t.bytes 0x14 1)

/-- A Scrim connection beside its registers. -/
structure ScrimConn where
  pend : Option ScrimCopy
  /-- Consecutive single-copy acceptances. -/
  single : Nat
  waiting : List ScrimTaken
  /-- The telegram of the snapshot. -/
  snap : Option ScrimTaken
  /-- TICK.COUNT of the snapshot the last accepted telegram belongs to (R321). -/
  tick : Nat
deriving DecidableEq, Repr

/-- What the safety services hold beside their registers. -/
structure Safety where
  /-- The evaluator copies of the three strands, 24 pairs each (R302). -/
  evals : List (List PairEval)
  /-- Failed pulse checks in a row, per DIO channel (R303). -/
  pulseFails : List Nat
  /-- Channels whose accepted level was 1 when the pulse of their source began, as a mask (R303). -/
  atPulse : Nat
  /-- Reset channels with a qualified reset that no snapshot has shown yet (R308). -/
  resets : List Nat
  axes : List Axis
  conns : List ScrimConn
  /-- The request word as last committed (R309). -/
  request : Nat
  /-- Availability as last judged (R310). -/
  avail : Bool
  /-- Core cycle of the last recomputation of SAFE.CFG_CRC. -/
  crcAt : Nat
  /-- Safe outputs under R322 whose bit has been read as 0 since their wait began, as a mask. -/
  rsoZero : Nat
deriving DecidableEq, Repr

/-! ## Networks (chapter 10) -/

/-- The data set of an Announce message (IEEE 1588-2019). -/
structure Announce where
  priority1 : Nat
  clockClass : Nat
  accuracy : Nat
  variance : Nat
  priority2 : Nat
  gmId : Nat
  steps : Nat
  /-- sourcePortIdentity of the sender. -/
  source : Nat
  utcOffset : Int
deriving DecidableEq, Repr

/-- What leaves a port without a launch instant (Table 10.5, last row), and forwarded frames. -/
inductive Untimed where
  | forwarded (bytes : Bytes)
  | arpReply (mac ip : Nat)
  | icmpReply (mac ip : Nat) (body : Bytes)
  /-- A PTP message: messageType, sequenceId, its time field in ns. -/
  | ptp (type seq : Nat) (time : Int)
  /-- The station's own Announce (R374): sequenceId, data set, timeSource. -/
  | announce (seq : Nat) (a : Announce) (timeSource : Nat)
  | mrpLinkChange (port : Nat) (up : Bool)
  /-- A datagram of the dictionary service: session, transport header and payload. -/
  | datagram (session : Nat) (bytes : Bytes)
deriving DecidableEq, Repr

/-- A frame that waits for a port: priority queue, instant since which it waits, length on the wire in bytes. -/
structure Held where
  prio : Nat
  since : Nat
  len : Nat
  what : Untimed
deriving DecidableEq, Repr

/-- One external port: the instants at which its last frame of any kind, and its last launch frame, leave it free. -/
structure Port where
  free : Nat
  launchEnd : Nat
  queue : List Held
  /-- Core cycle of the last change of the link. -/
  linkAt : Nat
deriving DecidableEq, Repr

/-- An entry of the forwarding database: address, port, core cycle of its last refresh (R367). -/
structure FdbEntry where
  mac : Nat
  port : Nat
  cyc : Nat
deriving DecidableEq, Repr

/-- A launch-queue entry (R378). -/
structure Launch where
  cls : Nat
  num : Nat
  time : Nat
  sendNow : Bool
  bytes : Bytes
deriving DecidableEq, Repr

/-- A frame due in this tick that is not ready yet (R382): its class and number, networks as a mask, ready and launch
instants, payload length. -/
structure Ready where
  cls : Nat
  num : Nat
  nets : Nat
  ready : Nat
  time : Nat
  sendNow : Bool
  pcp : Nat
  dst : Nat
  ethertype : Nat
  len : Nat
  /-- Payload per network, once its commit has filled it; an application frame takes its buffer at the ready instant. -/
  payload : List Bytes
deriving DecidableEq, Repr

/-- What a Sync with its Follow_Up says (R372): times in ns, `inTime`: it needs no Follow_Up, or its Follow_Up came within
one Sync interval from the same port with the same sequenceId. -/
structure SyncMsg where
  domain : Nat
  source : Nat
  inTime : Bool
  t1 : Int
  correction : Int
  t2 : Int
deriving DecidableEq, Repr

/-- What a delay response says, with the stamps of its exchange: E2E uses t3 and t4, P2P all four (R372). -/
structure DelayMsg where
  domain : Nat
  source : Nat
  port : Nat
  seq : Nat
  t1 : Int
  t2 : Int
  t3 : Int
  t4 : Int
  correction : Int
deriving DecidableEq, Repr

/-- PTP on one network. -/
structure Ptp where
  /-- The masters heard, each with its last Announce. -/
  masters : List Announce
  /-- The best master. -/
  best : Option Announce
  /-- Consecutive Announce intervals in which this network's best master was strictly better than the followed one. -/
  better : Nat
  /-- The path delay of E2E and the peer delays of the two ports, with the core cycle of each measurement. -/
  delay : Option (Int × Nat)
  peer : List (Option (Int × Nat))
  /-- t1 with corrections and t2 of the last Sync (R372). -/
  sync : Option (Int × Int)
  /-- Core cycle of the last valid measurement. -/
  lastValid : Option Nat
  /-- Core cycle of the last Delay_Req or Pdelay_Req, sequence numbers of requests, Syncs and Announces. -/
  reqAt : Nat
  reqSeq : Nat
  syncSeq : Nat
  annSeq : Nat
  /-- Core cycle of the last own Announce, station time of the last own Sync. -/
  annAt : Nat
  syncAt : Nat
deriving DecidableEq, Repr

/-- One network. -/
structure NetSide where
  ports : List Port
  fdb : List FdbEntry
  launch : List Launch
  /-- Core cycle at which the forwarding database is flushed (R376). -/
  flush : Option Nat
  /-- Residence times of two-step Syncs whose Follow_Up is still to pass: source port, sequenceId, ns (R371). -/
  residence : List (Nat × Nat × Nat)
  ptp : Ptp
deriving DecidableEq, Repr

/-- An application frame taken by a receive object (R385): end stamp, network, payload. -/
structure TakenFrame where
  obj : Nat
  stamp : Nat
  net : Nat
  payload : Bytes
deriving DecidableEq, Repr

/-- The station networks. -/
structure Net where
  sides : List NetSide
  ready : List Ready
  /-- The frame launch buffers of frames 0 to 127, and the frames copied into in this tick. -/
  bufs : List Bytes
  copied : List Nat
  taken : List TakenFrame
deriving DecidableEq, Repr

/-! ## The pair and the witness (chapter 09) -/

/-- The outcome of a release in a step record (Table 09.3, TYPE 0x06). -/
inductive ReleaseOutcome where
  | released | skipped | dropped | held
deriving DecidableEq, Repr

/-- A change applied at a boundary (Table 09.3, TYPE 0x07). -/
inductive StepChange where
  /-- A write under R168, or of a loop's MODE. -/
  | loop (x : LoopChange)
  /-- A run-state command: RUN (true) or STOP. -/
  | state (run : Bool)
  /-- A program exchange armed or postponed: its changeover tick. -/
  | armed (tick : Nat)
  | postponed (tick : Nat)
  | changeover
  /-- A change of a committed change set (R483). -/
  | entry (key : Nat) (value : Bytes)
deriving DecidableEq, Repr

/-- A step record (Table 09.3), section by section. -/
structure StepRecord where
  step : Nat
  tickCount : Nat
  period : Nat
  /-- The fixed and the mapped inputs: key, value, quality word. -/
  inputs : List (Nat × Nat × Nat)
  /-- Remote-station images: station, RS.LAST_TICK, image. -/
  images : List (Nat × Nat × Bytes)
  /-- Scrim telegrams accepted for the snapshot: connection, telegram. -/
  scrim : List (Nat × Bytes)
  /-- The agreed values of agreement sources 4 and 5. -/
  fields : Nat × Nat
  releases : List (Nat × ReleaseOutcome)
  changes : List StepChange
  /-- H(n − 1). -/
  hash : Nat
  /-- Its length in bytes. -/
  size : Nat
  /-- Whether the CRC of the copy on L0 and that of the copy on L1 is correct. -/
  lanes : List Bool
deriving DecidableEq, Repr

/-- What the module sends. The list of a command's emissions is its effect on the world outside. -/
inductive Emission where
  /-- A frame without a launch instant: network, port, instant of its delimiter at the MDI. -/
  | sent (net port time : Nat) (what : Untimed)
  /-- A launched frame: network, ports, instant, class and number of Table 10.5, destination address to last payload byte. -/
  | launched (net : Nat) (ports : List Nat) (time cls num : Nat) (bytes : Bytes)
  /-- A J3 control symbol: 1 RELEASE, 2 TAKE_ACK, 3 TAKE_NAK. -/
  | symbol (kind : Nat)
  /-- An order relayed over J3 (R359). -/
  | relay (msg : Bytes)
  /-- The step record of a step (R343). -/
  | stepRecord (record : StepRecord)
  /-- A frame offered to the bus of a CAN controller: identifier with IDE in bit 31, data. -/
  | can (k id : Nat) (data : Bytes)
  /-- A HART request on the loop of a channel, from its first preamble byte to its check byte (R289). -/
  | hart (i : Nat) (bytes : Bytes)
deriving DecidableEq, Repr

/-- What a module says of itself over J3 (R334). -/
structure Identity where
  variant : Nat
  serial : Nat
  partnerId : Nat
  pairId : Nat
  unit : Nat
  witnessId : Nat
  activeId : Nat
  cfgHash : Nat
  /-- The role it announces (Table 09.6). -/
  role : Nat
deriving DecidableEq, Repr

/-- The copy of R346 and R351 as its last page leaves it: creel ranges, registers, the axis monitors with their times in the
adopting module's core cycles, the RX Scrim connections with the telegram of their snapshot and its age in executed ticks, and
the active's TICK.COUNT minus the own one at the same tick number. -/
structure PairCopy where
  creel : List (Nat × Bytes)
  values : List (Nat × Nat)
  axes : List Axis
  conns : List (Nat × Nat × Bytes)
  difference : Int
deriving DecidableEq, Repr

/-- An order pending in a module (R359): its SEQ and its instant AT; TAKE in a standby, RELEASE in an active. -/
structure PairOrder where
  seq : Nat
  due : Nat
deriving DecidableEq, Repr

/-- One module of a served pair as the witness sees it: the core cycles of its last valid heartbeats on A and B, and what
the last one said. -/
structure ServedUnit where
  heard : List (Option Nat)
  role : Nat
  status : Nat
  health : Nat
deriving DecidableEq, Repr

/-- An order of the witness: the SEQ of its RELEASE (TAKE: one more), AT, whether it grants, the taking unit, and the
acknowledgements received: addressed unit and accepted or refused. -/
structure WitnessOrder where
  seq : Nat
  due : Nat
  grant : Bool
  taker : Nat
  acks : List (Nat × Bool)
deriving DecidableEq, Repr

/-- A served pair: primary and secondary, the core cycle since which the active's health has been the worse one, the last
order. -/
structure ServedPair where
  units : List ServedUnit
  worse : Option Nat
  order : Option WitnessOrder
deriving DecidableEq, Repr

/-- The pair sequencer and the redundancy manager. -/
structure Pair where
  /-- The partner-detection step of start-up has been made. -/
  detected : Bool
  /-- The keep-alive of the executive is missing (R336). -/
  stopped : Bool
  /-- L0 and L1 up, presence line, role announced on the lanes, TICK.COUNT of the last RELEASE symbol. -/
  lanes : List Bool
  present : Bool
  announced : Nat
  released : Option Nat
  /-- Core cycle since which both ACTIVE lines have toggled (R339). -/
  both : Option Nat
  /-- Core cycle at which a secondary's start wait began (R350). -/
  startWait : Option Nat
  /-- The step a STANDBY executes in the current tick; none: it runs in phase, or executes none (R342, R347). -/
  stepNow : Option Nat
  /-- A STANDBY runs no step in the current tick. -/
  idle : Bool
  /-- The last complete step record, and the core cycle of its arrival. -/
  record : Option StepRecord
  recordAt : Nat
  /-- Steps that were not run and are still to be treated as skipped (R347, R352). -/
  skipped : List Nat
  /-- Core cycles of the re-synchronisations started (R346). -/
  resyncs : List Nat
  /-- No transfer is requested until PAIR.CMD = 2 (Table 15.6). -/
  held : Bool
  /-- Words copied by the commit groups of this tick: group, index, value (R345). -/
  words : List (Nat × Nat × Nat)
  /-- The outcomes of this boundary's releases, and the changes made since the last record, for the next one (Table 09.3). -/
  outcomes : List (Nat × ReleaseOutcome)
  changes : List StepChange
  /-- The hash of the step of this tick, once its last commit is made. -/
  hash : Nat
  /-- The own latch of the last boundary, and consecutive differing and agreeing comparisons per channel: DIO i at i,
  UIO i at 48 + i (R348). -/
  latch : List (Nat × Nat)
  runs : List (Nat × Nat)
  /-- Sequence number of the messages sent. -/
  seq : Nat
  /-- Core cycle of the last own heartbeat. -/
  beatAt : Nat
  /-- Core cycles of the last valid witness heartbeats on A and B, and the last state word received (R357, R360). -/
  witness : List (Option Nat)
  witnessWord : Nat
  order : Option PairOrder
  /-- A TAKE_ACK is held and no later TAKE_NAK has come; in a standby: it has sent TAKE_ACK. -/
  acked : Bool
  /-- Core cycle of the pending PAIR.CMD = 1 (R363). -/
  requestAt : Option Nat
  /-- Core cycle since which the conditions of R361 have held. -/
  quiet : Option Nat
  /-- TICK.COUNT of the last tick with an unknown word (R357). -/
  unknownAt : Option Nat
  /-- The witness's served pairs. -/
  served : List ServedPair
deriving DecidableEq, Repr

/-! ## CAN controllers (chapter 11) -/

/-- A frame on a CAN bus: IDWORD of Table 11.8, DLC, ESI, remote frame, data bytes. -/
structure CanFrame where
  idword : Nat
  dlc : Nat
  esi : Bool
  remote : Bool
  data : Bytes
deriving DecidableEq, Repr

/-- A transmit buffer beside its status: TXB0 to TXB2 are 0 to 2, SVC 3, REF 4 (R402). -/
structure CanBuf where
  /-- STATE of Table 11.13: 0 IDLE, 1 PENDING, 2 ON_BUS. -/
  st : Nat
  /-- The transmit register: IDWORD and data. -/
  idword : Nat
  reg : Bytes
  shadow : Bytes
  /-- A commit has copied words since the last launch. -/
  copied : Bool
  /-- The shadow is loaded when the frame ends (DEFERRED of Table 11.4). -/
  defer : Bool
  /-- A cancellation came while the buffer was ON_BUS (R407). -/
  cancel : Bool
  /-- The request makes one attempt (R406). -/
  single : Bool
  /-- Station time of the request, and of the start of its frame. -/
  asked : Nat
  sof : Nat
deriving DecidableEq, Repr

/-- A CAN controller beside its registers. -/
structure CanCtl where
  bufs : List CanBuf
  /-- The four receive queues, oldest entry first, and whether frames were dropped since the last one stored. -/
  queues : List (List Bytes)
  dropped : List Bool
  /-- Consecutive ACK errors (R414). -/
  ackErrs : Nat
  /-- The receive error count of ISO 11898-1, which passes 127. -/
  recCount : Nat
  tecCount : Nat
  /-- Another node's frame is on the bus. -/
  busy : Bool
  /-- A sleep command waits for the transceiver (R418); recovery was commanded (R413). -/
  sleeping : Bool
  recover : Bool
  /-- Launches to come: buffer and instant. -/
  plan : List (Nat × Nat)
  /-- Frames taken by receive objects and not yet in a snapshot: filter, stamp, data. -/
  taken : List (Nat × Nat × Bytes)
  /-- A follower's last sync mark, and the whole basic cycles counted from it (R417). -/
  mark : Nat
  cycles : Nat
  /-- The reference instants to come (R416). -/
  refs : List Nat
  /-- A configuration waits for the next boundary (R401). -/
  cfgDue : Bool
  /-- SDO answers that wait for SVC: COB-ID and the eight data bytes. -/
  svc : List (Nat × Bytes)
deriving DecidableEq, Repr

/-! ## The dictionary server (chapter 14) -/

/-- An access path: the memory window of the Ply or of a spindle, SDO on a controller, a session of the dictionary service
(R173, R464). -/
inductive Path where
  | ply
  | spindle (n : Nat)
  | can (k : Nat)
  | session (n : Nat)
deriving DecidableEq, Repr

/-- The window control block of one master (Table 14.4). -/
structure Window where
  hi : Nat
  status : Nat
  domOfs : Nat
  last : Bool
  buf : Bytes
deriving DecidableEq, Repr

/-- A DOMAIN write in progress: its entry, the path that holds the lock, the bytes written so far, the core cycle of its
last segment (R471). -/
structure DomWrite where
  key : Nat
  path : Path
  data : Bytes
  cyc : Nat
deriving DecidableEq, Repr

/-- A segmented SDO transfer (R466): an upload holds the bytes still to be sent, a download is a DomWrite. `toggle` is the
toggle bit expected next. -/
structure SdoTransfer where
  key : Nat
  up : Bool
  toggle : Bool
  data : Bytes
  cyc : Nat
deriving DecidableEq, Repr

/-- An unacknowledged datagram: SEQ, payload, the core cycle of its last sending, repeats made (R392). -/
structure Datagram where
  seq : Nat
  payload : Bytes
  cyc : Nat
  repeats : Nat
deriving DecidableEq, Repr

/-- What the TLS records of a handshake datagram do: the handshake goes on, completes for a credential, or fails, for a
credential if one was named (R475, R476). -/
inductive Handshake where
  | progress
  | complete (i : Nat)
  | failed (i : Option Nat)
deriving DecidableEq, Repr

/-- A session of the dictionary service (R391, R392, R476). -/
structure Session where
  num : Nat
  net : Nat
  /-- The client's address on its network. -/
  mac : Nat
  secure : Bool
  /-- The credential of a secure session whose handshake is complete. -/
  cred : Option Nat
  /-- The highest SEQ received without a gap, and the last SEQ sent. -/
  rx : Nat
  tx : Nat
  out : List Datagram
  /-- Responses that wait for one of the four outstanding places. -/
  queued : List Bytes
  /-- Core cycles of the last datagram received and of the opening. -/
  heard : Nat
  opened : Nat
deriving DecidableEq, Repr

/-- A staged change: the entry and its new value, in network order for a number (R478, R479). -/
structure Change where
  key : Nat
  value : Bytes
deriving DecidableEq, Repr

/-- The change set (R478 to R482). -/
structure ChangeSet where
  /-- The author as CS.AUTHOR reports it. -/
  author : Nat
  /-- The changes in ascending index and sub-index. -/
  changes : List Change
  /-- SEALED: NONCE and PLY.MONO_MS at sealing. -/
  sealing : Option (Nat × Nat)
  /-- The credential whose signature has been accepted first. -/
  signer : Option Nat
  /-- The core cycle of the last staging write. -/
  staged : Nat
  /-- Accepted: the CRED.IDs of the two signers (0 in an unprovisioned module); the set waits for its boundary. -/
  accepted : Option (Nat × Nat)
deriving DecidableEq, Repr

/-- A request that waits while the executive stands still in SAFE (R497). -/
inductive Waiting where
  /-- An access of a master (0 the Ply, n + 1 SPn): address, size in bytes and the value stored. -/
  | access (master addr size : Nat) (store : Option Nat)
  /-- A message of a session. -/
  | message (session : Nat) (msg : Bytes)
  /-- An SDO request of a controller. -/
  | sdo (k : Nat) (data : Bytes)
  /-- A write of an entry on a path, with the bytes as the path carries them. -/
  | write (path : Path) (key : Nat) (data : Bytes)
  /-- A segment of a DOMAIN entry written on a path. -/
  | segment (path : Path) (key ofs : Nat) (data : Bytes) (last : Bool)
  /-- A read of an entry on a path. -/
  | read (path : Path) (key : Nat)
deriving DecidableEq, Repr

/-- A copy of the configuration record in a flash bank (R463, R524). -/
structure CfgCopy where
  serial : Nat
  vals : Vals
  doms : Doms
  /-- Loop changes since the running image was taken into use (R169). -/
  kept : List LoopChange
  /-- PLY.DEBUG_SPLITS (R86). -/
  splits : Nat
deriving DecidableEq, Repr

/-- The dictionary server, the change set and the key store. -/
structure Server where
  /-- The window control blocks: 0 the Ply, n + 1 SPn. -/
  windows : List Window
  /-- Per-path entries: path, key, value (R173, R457). -/
  sels : List (Path × Nat × Nat)
  writes : List DomWrite
  /-- The SDO transfer of each controller. -/
  sdo : List (Option SdoTransfer)
  sessions : List Session
  waiting : List Waiting
  cset : Option ChangeSet
  /-- Consecutive failed authentications per credential, and PLY.MONO_MS of its lock (R475). -/
  fails : List Nat
  locks : List (Option Nat)
  /-- SEC.CMD = 1 waits for the next boundary (R485). -/
  endCommission : Bool
  /-- PLY.MONO_MS at which COMMISSIONING runs out. -/
  commissionEnd : Nat
  /-- Accepted configuration that takes effect at the next boundary (R260, R401). -/
  due : Vals
  dueDoms : Doms
  /-- The core cycle of the first change that the configuration record does not hold yet (R463). -/
  changed : Option Nat
  copies : List (Option CfgCopy)
  /-- NO_PROGRAM (R488) and CFG_REJECTED (R502). -/
  noProgram : Bool
  cfgRejected : Bool
deriving DecidableEq, Repr

/-! ## Health monitors (chapter 15) -/

/-- The hourly samples of every term, newest first: the counter values in the order of Table 15.7 (R510). -/
structure HealthMon where
  samples : List (List Nat)
  /-- HEALTH.POWERED_H of the last evaluation's hour: core cycle of the last evaluation. -/
  lastCyc : Nat
  /-- Items that have been recorded as at their end of life. -/
  ended : List Nat
  /-- The vault's real-time counter was not valid at start-up (VBAT_INVALID of R512). -/
  rtcBad : Bool
deriving DecidableEq, Repr

/-! ## What commands bring from outside -/

/-- A bus event that may wake a controller (R419). -/
inductive WakeEvent where
  | dominant
  | pattern
  | frame (x : CanFrame)
deriving DecidableEq, Repr

/-- A stage of R234: a DIO output, or a test-pulse source, which retries under the same rules (R247). -/
inductive Stage where
  | dio (i : Fin 48)
  | tp (k : Fin 8)
deriving DecidableEq, Repr

/-- What FG_MISSING reports of LPg. -/
inductive SupplyChange where
  | missing (on : Bool)
  | overload (on : Bool)
  | reversed (on : Bool)
deriving DecidableEq, Repr

/-- A message of the dictionary service (Table 10.11). -/
structure DsMessage where
  op : Nat
  tag : Nat
  key : Nat
  flags : Nat
  len : Nat
  offset : Nat
  status : Nat
  data : Bytes
deriving DecidableEq, Repr

/-- An access of a master to an address: a load, a store of a value, or an instruction fetch (R18). -/
inductive AccessKind where
  | load
  | store (v : Nat)
  | fetch
deriving DecidableEq, Repr

/-- What the hourly evaluation reads beside State (R509 to R512): the drift of the 16 oscillator pairs as
(unstressed, stressed) binary32 frequencies in MHz, VBAT in V as binary32, and the erases of the two image banks. -/
structure HealthReading where
  ages : List (Nat × Nat)
  vbat : Nat
  banks : List Nat
deriving DecidableEq, Repr

/-- What a start-up finds (Table 16.6): core cycles until the executive runs, the vault's counter, VBAT in V as binary32,
the BIST results of X, Y and Z as STRAND.BIST_RESULT, whether each copy of the configuration record has a correct CRC, the
slot-ID straps. -/
structure StartUp where
  bootNs : Nat
  rtc : Nat
  vbat : Nat
  strands : List Nat
  copies : List Bool
  slot : Nat
deriving DecidableEq, Repr

/-- What the world brings to a tick boundary: the SAR values of the 24 universal channels, the channels whose headroom is
below 1.0 V at the hold (a mask), the service jobs that the executive places (home, bobbin entry), and whether step 5 of
Table 16.6 has ended. -/
structure BoundaryFacts where
  sar : List Nat
  weak : Nat
  service : List (Nat × Nat)
  ready : Bool
deriving DecidableEq, Repr


/-! ## The block -/

/-- What the last read, write or request was answered with, on its access path (R393, R466, R468). -/
inductive Reply where
  | none
  /-- A value of an entry. -/
  | value (v : Nat)
  /-- Bytes of an entry, or of an answer. -/
  | bytes (b : Bytes)
  /-- Done, nothing to return. -/
  | done
  /-- An SDO abort code. -/
  | abort (code : Nat)
  /-- A request to the debug module is refused: the hart is reported as unavailable (R81). -/
  | unavailable
deriving DecidableEq, Repr

/-- Everything the spec gives the block but the command queue and the event recorder. -/
structure Core where
  /-- The dictionary registers by key (odKey); an entry that is not listed reads as its Default. -/
  od : Vals
  /-- The DOMAIN and string entries by key. -/
  doms : Doms
  /-- The model's own counter of free values (Config.freeNat). -/
  free : Nat
  /-- Record requests of the command in hand, in the order made. -/
  out : List Request
  reply : Reply
  clk : Clock
  run : RunState
  role : Role
  /-- The module toggles its ACTIVE line (R336). -/
  toggling : Bool
  ply : Ply
  react : React
  pwr : Power
  vault : Vault
  /-- The creel, 8 MiB at 0x1000_0000 (R18). -/
  creel : Mem
  arr : Weave
  loops : Loops
  prog : Prog
  router : Router
  io : Field
  uio : Analog
  safety : Safety
  net : Net
  /-- What the command in hand has sent, in order. -/
  sent : List Emission
  pair : Pair
  can : List CanCtl
  srv : Server
  monitor : HealthMon
deriving DecidableEq, Repr

end Sys2Proof.Machine
end

