-- ==== Sys2Proof/Syntax.lean ====
section
/-! DEFINITION. The commands of the block, one constructor for each row of the opcode table. An operand is what the command
brings from outside: a unit's number, a value, a frame, a measured fact. -/

namespace Sys2Proof

open Machine

inductive Instr where
  -- The tick and station time (chapter 01; R547)
  /-- TICK_BOUNDARY (R23). -/
| tickBoundary (x : BoundaryFacts)
  /-- JOB_RELEASE (R102). -/
| jobRelease
  /-- COMMIT_GROUP_COPY (R29). -/
| commitGroupCopy (g : Fin 8)
  /-- PTP_SYNC_RX (R372). -/
| ptpSyncRx (n p : Fin 2) (m : SyncMsg)
  /-- FIRST_LOCK (R40). -/
| firstLock
  /-- TIME_ACQ_WAIT_EXPIRY (R39). -/
| timeAcqWaitExpiry
  /-- HOLDOVER_ENTRY (R46). -/
| holdoverEntry
  /-- TIME_SOURCE_WRITE (R547). -/
| timeSourceWrite (p : Path) (v : Nat)
  /-- TIME_RESTEP (R48). -/
| timeRestep (p : Path) (v : Nat)
  /-- RESTEP_PERFORM (R48). -/
| restepPerform
  /-- TICK_PERIOD_WRITE (R53). -/
| tickPeriodWrite (p : Path) (v : Nat)
  -- The Ply (chapter 02)
  /-- VOTER_ITEM_COMPARE (R61). -/
| voterItemCompare (kind : Nat) (copies : List ItemCopy)
  /-- STRAND_BIST_DONE (R69). -/
| strandBistDone (s : Fin 3) (result : Nat)
  /-- TCM_COPY_DONE (R69). -/
| tcmCopyDone (s : Fin 3)
  /-- UNVOTED_RESUME (R74). -/
| unvotedResume (results : List Nat)
  /-- TCM_SCRUB (R55). -/
| tcmScrub (mask : Nat) (code uncorr : Bool) (addr : Nat)
  /-- AGREESEL_WRITE (R64). -/
| agreeselWrite (sel : Nat) (samples : List Nat)
  /-- AGREE_EXCHANGE_END (R66). -/
| agreeExchangeEnd
  /-- SOCMD_WRITE (R77). -/
| socmdWrite (s : Fin 3) (v : Nat)
  /-- DEBUG_HALT (R82). -/
| debugHalt (s : Fin 3)
  /-- DEBUG_STEP (R82). -/
| debugStep (s : Fin 3)
  /-- DEBUG_ABSTRACT_COMMAND (R81): the strand and the register. -/
| debugAbstractCommand (x : Fin 3 × Nat)
  /-- DEBUG_RESUME_LEAD (R83). -/
| debugResumeLead
  /-- DEBUG_HELD_REQUEST (R82). -/
| debugHeldRequest
  -- The spindles: Xdraft, pairs, run-ahead, errors and debug requests (chapter 03)
  /-- TICK_WAIT (R99). -/
| tickWait (n : Fin 32) (w : Nat)
  /-- TICK_WAIT_WAKE (R99). -/
| tickWaitWake (n : Fin 32)
  /-- JOB_POP (R104). -/
| jobPop (n : Fin 32) (w : Nat)
  /-- DRAFT_PAIR_WAIT_EXPIRY (R109). -/
| draftPairWaitExpiry (n : Fin 32)
  /-- JOB_PUSH (R99). -/
| jobPush (n : Fin 32) (w lo hi : Nat)
  /-- JOB_PAIR (R99). -/
| jobPair (n : Fin 32) (w lo hi : Nat)
  /-- JOB_DONE_FINISH (R122). -/
| jobDoneFinish (n : Fin 32) (w : Nat)
  /-- JOB_DONE_ABANDON (R108). -/
| jobDoneAbandon (n : Fin 32) (w : Nat)
  /-- JOB_DONE_SUSPEND (R106). -/
| jobDoneSuspend (n : Fin 32) (w : Nat)
  /-- STAGE_B (R121). -/
| stageB (n : Fin 32) (w rs1 rs2 : Nat)
  /-- STAGE_H (R121). -/
| stageH (n : Fin 32) (w rs1 rs2 : Nat)
  /-- STAGE_W (R121). -/
| stageW (n : Fin 32) (w rs1 rs2 : Nat)
  /-- LOOP_GO (R99). -/
| loopGo (n : Fin 32) (w : Nat) (machine : Bool) (addr count : Nat)
  /-- LOOP_WAIT (R141). -/
| loopWait (n : Fin 32) (w : Nat)
  /-- EV_CLAIM (R435). -/
| evClaim (n : Fin 32) (w : Nat)
  /-- EV_DONE (R436). -/
| evDone (n : Fin 32) (w rs1 : Nat)
  /-- RAH_MARK (R124). -/
| rahMark (n : Fin 32) (w rs1 rs2 : Nat)
  /-- FENCE_I (R90). -/
| fenceI (n : Fin 32)
  /-- OVERFLOW_APPEND (R102). -/
| overflowAppend (n : Fin 32)
  /-- PAIR_COMPARISON_END (R114). -/
| pairComparisonEnd
  /-- RUN_AHEAD_PLACE (R123). -/
| runAheadPlace (t : Fin 64) (i : Nat) (r : Fin 64)
  /-- LEVEL0_PLACE (R186). -/
| level0Place (t : Fin 8)
  /-- SRAM_UNCORRECTABLE (R91). -/
| sramUncorrectable (n : Fin 32)
  /-- SPINDLE_SCRUB (R91). -/
| spindleScrub (n : Fin 32) (count : Nat)
  /-- CREEL_UNCORRECTABLE (R96). -/
| creelUncorrectable (spindle : Option (Fin 32)) (addr : Nat) (both : Bool)
  /-- CREEL_SCRUB (R96). -/
| creelScrub (count : Nat)
  /-- ICACHE_PARITY_ERROR (R92): the spindle and the address of the fetch. -/
| icacheParityError (x : Fin 32 × Nat)
  /-- SPINDLE_DEBUG_HALT (R130). -/
| spindleDebugHalt (n : Fin 32)
  /-- SPINDLE_DEBUG_STEP (R129). -/
| spindleDebugStep (n : Fin 32)
  /-- SPINDLE_DEBUG_ABSTRACT (R129): the spindle and the register. -/
| spindleDebugAbstract (x : Fin 32 × Nat)
  /-- SPINDLE_DEBUG_RESUME (R130). -/
| spindleDebugResume (n : Fin 32)
  /-- LOAD_STORE_ACCESS_FAULT (R18). -/
| loadStoreAccessFault (m : Fin 33) (addr size : Nat) (kind : AccessKind)
  -- The loop units (chapter 04)
  /-- LOOP_EVALUATION (R152). -/
| loopEvaluation (n : Fin 32) (waits : Nat) (errs : List Nat) (piErr : Option Nat) (check : Bool)
  /-- LOOP_LATE_DISCARD (R161). -/
| loopLateDiscard (n : Fin 32) (cyc : Nat)
  /-- LOOP_DESCRIPTOR_WRITE (R168). -/
| loopDescriptorWrite (p : Path) (key : Nat) (data : Bytes)
  /-- LOOP_W_OUT_WRITE (R154). -/
| loopWOutWrite (p : Path) (v : Nat)
  /-- LOOP_W_CLEAR (R150). -/
| loopWClear (p : Path) (v : Nat)
  /-- LOOP_CLEAR_ALL (R150). -/
| loopClearAll (p : Path) (v : Nat)
  -- Remote stations, program images and retained variables (chapter 05)
  /-- REMOTE_INPUT_IMAGE_RX (R196). -/
| remoteInputImageRx (n : Fin 2) (frame : Bytes)
  /-- REMOTE_MISS_LIMIT (R196). -/
| remoteMissLimit (s : Fin 64)
  /-- REMOTE_OUTPUT_IMAGE_RX (R199). -/
| remoteOutputImageRx (n : Fin 2) (frame : Bytes)
  /-- RSTA_WATCHDOG_EXPIRY (R199). -/
| rstaWatchdogExpiry
  /-- PROG_IMAGE_WRITE (R202). -/
| progImageWrite (p : Path) (ofs : Nat) (data : Bytes) (last : Bool)
  /-- PROG_CMD_VERIFY (R202). -/
| progCmdVerify (p : Path)
  /-- PROG_CMD_PREPARE (R202). -/
| progCmdPrepare (p : Path)
  /-- PROG_CMD_ARM (R204). -/
| progCmdArm (p : Path) (partner : Bool)
  /-- PROG_CMD_CANCEL (R202). -/
| progCmdCancel (p : Path)
  /-- PROG_CMD_ERASE (R202). -/
| progCmdErase (p : Path)
  /-- VARIABLE_TRANSFER (R205). -/
| variableTransfer
  /-- PROG_CHANGEOVER (R206). -/
| progChangeover
  /-- RETAIN_COPY (R209). -/
| retainCopy (fails : Bool)
  -- Digital channels, field groups, test-pulse sources and safe outputs (chapter 06)
  /-- DIO_LEVEL_ACCEPTED (R221). -/
| dioLevelAccepted (i : Fin 48) (level : Bool)
  /-- CHATTER_CLEAR (R224). -/
| chatterClear (i : Fin 48)
  /-- DIO_OPEN_WIRE (R223). -/
| dioOpenWire (i : Fin 48) (below : Bool)
  /-- STUCK_ACTIVE (R225). -/
| stuckActive (i : Fin 48)
  /-- TEST_PULSE_START (R245). -/
| testPulseStart (k : Fin 8)
  /-- PULSE_LOW_SAMPLE (R222). -/
| pulseLowSample (i : Fin 48) (low : Bool)
  /-- COUNTER_EDGE (R227). -/
| counterEdge (k : Fin 8) (a b : Bool)
  /-- COUNT_CMD_PRESET (R230). -/
| countCmdPreset (p : Path) (k : Fin 8) (v : Nat)
  /-- OUTPUT_SHORT (R234). -/
| outputShort (i : Fin 48)
  /-- THERMAL_SHUTDOWN (R234). -/
| thermalShutdown (x : Stage)
  /-- THERMAL_RETRY (R234). -/
| thermalRetry (x : Stage)
  /-- SHORT_CLEAR (R234). -/
| shortClear (x : Stage)
  /-- OPEN_LOAD (R236). -/
| openLoad (i : Fin 48) (below : Bool)
  /-- EXTERNAL_DRIVE (R237). -/
| externalDrive (i : Fin 48) (high : Bool)
  /-- FG_LOW (R240). -/
| fgLow (g : Fin 6) (low : Bool)
  /-- FG_CUT (R241). -/
| fgCut (g : Fin 6)
  /-- FG_RECOVERY (R242). -/
| fgRecovery (g : Fin 6)
  /-- FG_HOLD_END (R242). -/
| fgHoldEnd (g : Fin 6)
  /-- FG_ACK (R243). -/
| fgAck (p : Path) (g : Fin 6) (v : Nat) (above : Bool)
  /-- FG_TRIP (R244). -/
| fgTrip (g : Fin 6)
  /-- FG_MISSING (R240). -/
| fgMissing (g : Fin 6) (x : SupplyChange)
  /-- TP_OVERLOAD (R247). -/
| tpOverload (k : Fin 8)
  /-- TP_EXT_VOLTAGE (R247). -/
| tpExtVoltage (k : Fin 8)
  /-- SO_DARK_TEST (R249). -/
| soDarkTest (k : Fin 8) (m reached : Bool) (openNs : Nat)
  /-- SO_READBACK_MISMATCH (R250). -/
| soReadbackMismatch (k : Fin 8) (m : Bool)
  /-- SO_EXT_VOLTAGE (R250). -/
| soExtVoltage (k : Fin 8)
  /-- SO_OVERLOAD (R250). -/
| soOverload (k : Fin 8)
  /-- SO_ACK (R251). -/
| soAck (p : Path) (v persist : Nat)
  -- Universal channels and HART (chapter 07)
  /-- SD_RESULT (R265). -/
| sdResult (i : Fin 24) (raw int ext extStat : Nat)
  /-- UIO_OPEN_WIRE_CHECK (R271). -/
| uioOpenWireCheck (i : Fin 24) (failed : Bool)
  /-- TRANSMITTER_SHORT (R272). -/
| transmitterShort (i : Fin 24) (on : Bool)
  /-- NAMUR_FAULT (R273). -/
| namurFault (i : Fin 24) (short on : Bool)
  /-- COMPLIANCE (R279). -/
| compliance (i : Fin 24) (low : Bool)
  /-- FAIL_ACTIVE (R279). -/
| failActive (i : Fin 24)
  /-- UIO_ACK (R280). -/
| uioAck (p : Path) (i : Fin 24) (v : Nat)
  /-- PASSIVE_CONTACT_LOSS (R281). -/
| passiveContactLoss (i : Fin 24) (loopLost : Bool)
  /-- PASSIVE_START_UP (R281). -/
| passiveStartUp (i : Fin 24)
  /-- THERMAL_LIMIT (R282). -/
| thermalLimit (i : Fin 24) (tj : Nat)
  /-- THERMAL_OFF (R282). -/
| thermalOff (i : Fin 24)
  /-- UIO_THERMAL_RESTART (R282). -/
| uioThermalRestart (i : Fin 24) (tj : Nat)
  /-- VOUT_SHORT (R283). -/
| voutShort (i : Fin 24) (on : Bool)
  /-- UG_SUPPLY_LOW (R284). -/
| ugSupplyLow (u : Fin 3)
  /-- UG_SUPPLY_RECOVERED (R284). -/
| ugSupplyRecovered (u : Fin 3) (done : Bool)
  /-- HART_REQ (R291). -/
| hartReq (p : Path) (i : Fin 24) (req : Bytes)
  /-- HART_CANCEL (R291). -/
| hartCancel (p : Path) (i : Fin 24) (v : Nat)
  /-- HART_RESPONSE_RX (R289). -/
| hartResponseRx (i : Fin 24) (frame : Bytes) (parityOk : Bool)
  /-- HART_TIMEOUT (R289). -/
| hartTimeout (i : Fin 24)
  /-- HART_BURST_RX (R292). -/
| hartBurstRx (i : Fin 24) (frame : Bytes)
  /-- HART_IDENTIFY_POLL (R290). -/
| hartIdentifyPoll (i : Fin 24)
  /-- HART_OTHER_MASTER_FRAME_RX (R292). -/
| hartOtherMasterFrameRx (i : Fin 24) (frame : Bytes)
  -- Safety functions and Scrim (chapter 08)
  /-- SIN_DISCREPANCY (R302). -/
| sinDiscrepancy (p : Fin 24)
  /-- SAFETY_CRC_CHECK (R310). -/
| safetyCrcCheck
  /-- AXIS_FAULT (R313). -/
| axisFault (k : Fin 4)
  /-- SCRIM_COPY_RX (R319). -/
| scrimCopyRx (n : Fin 2) (frame : Bytes)
  /-- SCRIM_SKEW_EXPIRY (R319). -/
| scrimSkewExpiry (r : Fin 16)
  /-- SCRIM_WATCHDOG (R321). -/
| scrimWatchdog (r : Fin 16)
  -- The redundant pair and the witness (chapter 09)
  /-- PAIRING_IDENTITY_EXCHANGE (R334). -/
| pairingIdentityExchange (x : Identity)
  /-- ACTIVE_TOGGLE_STOP (R336). -/
| activeToggleStop
  /-- TAKEOVER_ON_LOSS (R340). -/
| takeoverOnLoss (gap : Nat)
  /-- TIEBREAK (R339). -/
| tiebreak
  /-- LANE_DOWN (R335). -/
| laneDown (l : Fin 2)
  /-- LANE_UP (R335). -/
| laneUp (l : Fin 2)
  /-- PARTNER_TOGGLING_DETECTED (R337). -/
| partnerTogglingDetected
  /-- RELEASE_RX (R341). -/
| releaseRx (gap : Nat)
  /-- STEP_RECORD_RX (R344). -/
| stepRecordRx (x : StepRecord)
  /-- RECORD_WAIT_EXPIRY (R347). -/
| recordWaitExpiry
  /-- RESYNC_ADOPT (R346). -/
| resyncAdopt (x : PairCopy)
  /-- PARTNER_DETECTION (R350). -/
| partnerDetection
  /-- START_WAIT_EXPIRY (R350). -/
| startWaitExpiry
  /-- CREEL_TRANSFER_ADOPT (R351). -/
| creelTransferAdopt (x : PairCopy)
  /-- MODULE_HEARTBEAT_SEND (R356). -/
| moduleHeartbeatSend
  /-- WITNESS_HEARTBEAT_SEND (R356). -/
| witnessHeartbeatSend
  /-- MODULE_HEARTBEAT_RX (R358). -/
| moduleHeartbeatRx (n : Fin 2) (frame : Bytes)
  /-- WITNESS_HEARTBEAT_RX (R357). -/
| witnessHeartbeatRx (n : Fin 2) (frame : Bytes)
  /-- TAKE_ORDER_RX (R359). -/
| takeOrderRx (n : Fin 2) (frame : Bytes)
  /-- RELEASE_ORDER_RX (R359). -/
| releaseOrderRx (relay : Bool) (n : Fin 2) (frame : Bytes)
  /-- ORDER_ACK_RX (R359). -/
| orderAckRx (n : Fin 2) (frame : Bytes)
  /-- TAKE_ACK_RX (R359). -/
| takeAckRx
  /-- TAKE_NAK_RX (R359). -/
| takeNakRx
  /-- WITNESS_LOST (R360). -/
| witnessLost
  /-- RETURN_REQUEST (R361). -/
| returnRequest
  /-- HANDOVER_REQ_LAPSE (R363). -/
| handoverReqLapse
  /-- PAIR_CMD_HANDOVER (R363). -/
| pairCmdHandover (p : Path)
  /-- PAIR_CMD_RESYNC (R363). -/
| pairCmdResync (p : Path)
  /-- PAIR_CMD_CLEAR_UNFIT (R363). -/
| pairCmdClearUnfit (p : Path)
  -- The station networks and PTP (chapter 10)
  /-- PORT_LINK_CHANGE (R377). -/
| portLinkChange (n p : Fin 2) (speed : Nat)
  /-- FRAME_FORWARD (R367). -/
| frameForward (n p : Fin 2) (frame : Bytes) (fcsOk : Bool) (residence : Nat)
  /-- PTP_ANNOUNCE_RX (R373). -/
| ptpAnnounceRx (n : Fin 2) (domain : Nat) (a : Announce)
  /-- PTP_DELAY_RESP_RX (R372). -/
| ptpDelayRespRx (n : Fin 2) (m : DelayMsg)
  /-- PTP_DELAY_REQ_SEND (R372). -/
| ptpDelayReqSend (n : Fin 2)
  /-- PTP_FOLLOW_TIMEOUT (R373). -/
| ptpFollowTimeout
  /-- PTP_MASTER_SYNC (R374). -/
| ptpMasterSync (n : Fin 2)
  /-- PTP_ANNOUNCE_RECEIPT_TIMEOUT (R38). -/
| ptpAnnounceReceiptTimeout (n : Fin 2)
  /-- PTP_DELAY_REQ_RX (R370). -/
| ptpDelayReqRx (n p : Fin 2) (domain seq : Nat) (stamp : Int) (peer : Bool)
  /-- PTP_MASTER_ANNOUNCE (R374). -/
| ptpMasterAnnounce (n : Fin 2)
  /-- MRP_TOPOLOGY_CHANGE_RX (R376). -/
| mrpTopologyChangeRx (n : Fin 2) (interval : Nat)
  /-- MRP_FLUSH (R376). -/
| mrpFlush (n : Fin 2)
  /-- ARP_REQUEST_RX (R368). -/
| arpRequestRx (n : Fin 2) (mac ip target : Nat)
  /-- ICMP_ECHO_RX (R368). -/
| icmpEchoRx (n : Fin 2) (mac ip target : Nat) (body : Bytes) (fragment : Bool)
  /-- FRAME_READY (R382). -/
| frameReady
  /-- LAUNCH (R378). -/
| launch (n : Fin 2)
  /-- APP_FRAME_RX (R385). -/
| appFrameRx (n : Fin 2) (src ethertype : Nat) (body : Bytes)
  /-- RX_OBJECT_AGED (R385). -/
| rxObjectAged (o : Fin 128)
  /-- FDB_ENTRY_AGEING (R367). -/
| fdbEntryAgeing (n : Fin 2) (mac : Nat)
  -- The dictionary service: sessions and messages (R391 to R393, R476)
  /-- DS_OPEN (R391). -/
| dsOpen (n : Fin 2) (mac : Nat) (datagram : Bytes)
  /-- DS_CLOSE (R391). -/
| dsClose (n : Fin 2) (datagram : Bytes)
  /-- DS_ACK_ONLY (R392). -/
| dsAckOnly (n : Fin 2) (datagram : Bytes)
  /-- DS_DATAGRAM (R392). -/
| dsDatagram (n : Fin 2) (datagram : Bytes) (tls : Handshake)
  /-- DS_RETRANSMIT_TIMEOUT (R392). -/
| dsRetransmitTimeout (session : Nat)
  /-- DS_IDLE_TIMEOUT (R392). -/
| dsIdleTimeout (session : Nat)
  /-- TLS_HANDSHAKE_TIMEOUT (R476). -/
| tlsHandshakeTimeout (session : Nat)
  /-- DS_READ (R393). -/
| dsRead (session : Nat) (msg : Bytes)
  /-- DS_WRITE (R393). -/
| dsWrite (session : Nat) (msg : Bytes)
  /-- DS_READ_SEGMENT (R393). -/
| dsReadSegment (session : Nat) (msg : Bytes)
  /-- DS_WRITE_SEGMENT (R393). -/
| dsWriteSegment (session : Nat) (msg : Bytes)
  -- The CAN controllers (chapter 11)
  /-- CAN_LAUNCH (R403). -/
| canLaunch (k : Fin 4) (busy : Bool)
  /-- CAN_FRAME_TX_END (R406). -/
| canFrameTxEnd (k : Fin 4) (ok : Bool)
  /-- CAN_ARBITRATION_LOST (R405). -/
| canArbitrationLost (k : Fin 4)
  /-- CAN_BUS_ERROR (R413). -/
| canBusError (k : Fin 4) (kind : Fin 8) (tx first : Bool)
  /-- CAN_BUSOFF_RECOVERY (R413). -/
| canBusoffRecovery (k : Fin 4)
  /-- CAN_INTEGRATION_COMPLETE (R401). -/
| canIntegrationComplete (k : Fin 4)
  /-- CAN_TXB_CANCEL (R407). -/
| canTxbCancel (p : Path) (b : Fin 12) (v : Nat)
  /-- CAN_FRAME_RX (R409). -/
| canFrameRx (k : Fin 4) (x : CanFrame) (sof : Nat)
  /-- CAN_RX_OBJECT_AGED (R410). -/
| canRxObjectAged (o : Fin 128)
  /-- CAN_Q_ACK (R411). -/
| canQAck (p : Path) (q : Fin 16) (v : Nat)
  /-- TT_REFERENCE_LAUNCH (R416). -/
| ttReferenceLaunch (k : Fin 4) (busy : Bool)
  /-- TT_REFERENCE_RX (R417). -/
| ttReferenceRx (k : Fin 4) (x : CanFrame) (sof : Nat)
  /-- TT_REFERENCE_MISSED (R417). -/
| ttReferenceMissed (k : Fin 4)
  /-- TT_FOLLOWER_LOST (R417). -/
| ttFollowerLost (k : Fin 4)
  /-- CAN_CMD_SLEEP (R418). -/
| canCmdSleep (p : Path) (k : Fin 4)
  /-- CAN_SLEEP_ENTERED (R418). -/
| canSleepEntered (k : Fin 4)
  /-- CAN_CMD_WAKE (R419). -/
| canCmdWake (p : Path) (k : Fin 4)
  /-- CAN_BUS_WAKE (R419). -/
| canBusWake (k : Fin 4) (e : WakeEvent)
  /-- CAN_CMD_RECOVER (R413). -/
| canCmdRecover (p : Path) (k : Fin 4)
  -- The SDO server (R420, R466)
  /-- SDO_INITIATE_DOWNLOAD (R466). -/
| sdoInitiateDownload (k : Fin 4) (data : Bytes)
  /-- SDO_DOWNLOAD_SEGMENT (R466). -/
| sdoDownloadSegment (k : Fin 4) (data : Bytes)
  /-- SDO_INITIATE_UPLOAD (R466). -/
| sdoInitiateUpload (k : Fin 4) (data : Bytes)
  /-- SDO_UPLOAD_SEGMENT (R466). -/
| sdoUploadSegment (k : Fin 4) (data : Bytes)
  /-- SDO_ABORT (R466). -/
| sdoAbort (k : Fin 4) (data : Bytes)
  /-- SDO_BLOCK_REQUEST (R466). -/
| sdoBlockRequest (k : Fin 4) (data : Bytes)
  /-- SDO_SEGMENT_TIMEOUT (R466). -/
| sdoSegmentTimeout (k : Fin 4)
  -- The event router (chapter 12)
  /-- EV_SOURCE_CHANGE (R430). -/
| evSourceChange (s : Fin 494) (on : Bool)
  /-- EV_COAL_WINDOW_END (R431). -/
| evCoalWindowEnd (s : Fin 494)
  /-- EV_RAISE (R428). -/
| evRaise (p : Path) (s : Fin 494) (v : Nat)
  /-- EV_CLEAR (R428). -/
| evClear (p : Path) (s : Fin 494) (v : Nat)
  /-- EV_MASK_WRITE (R435). -/
| evMaskWrite (p : Path) (s : Fin 494) (v : Nat)
  /-- EV_RETARGET (R437). -/
| evRetarget (p : Path) (s : Fin 494) (v : Nat)
  /-- EV_CFG_WRITE (R427). -/
| evCfgWrite (p : Path) (s : Fin 494) (v : Nat)
  /-- EV_INTERRUPT_TAKE (R433). -/
| evInterruptTake (n : Fin 32) (mie wfi : Bool)
  /-- EV_PLY_CLAIM (R434). -/
| evPlyClaim
  /-- EV_PLY_COMPLETE (R436). -/
| evPlyComplete (id : Nat)
  -- The event recorder (chapter 13)
  /-- SKEIN_REQUEST (R449). -/
| skeinRequest (code sev arg0 arg1 : Nat)
  /-- SKEIN_WRITE (R450). -/
| skeinWrite
  /-- SKEIN_REFILL (R453). -/
| skeinRefill (code : Nat)
  /-- SKEIN_MIRROR_PROGRAM (R454). -/
| skeinMirrorProgram (ok : Bool)
  /-- SKEIN_FLASH_ERASE (R455). -/
| skeinFlashErase (ok : Bool)
  /-- SKEIN_READ (R457). -/
| skeinRead (p : Path)
  -- The dictionary, the memory window, Countersign and security (chapter 14)
  /-- DICTIONARY_WRITE (R465). -/
| dictionaryWrite (p : Path) (key : Nat) (data : Bytes)
  /-- WIN_WIDE_LOAD (R468). -/
| winWideLoad (m : Fin 33) (key : Nat)
  /-- WIN_WIDE_STORE (R468). -/
| winWideStore (m : Fin 33) (key v : Nat)
  /-- WIN_DOMAIN_LOAD (R469). -/
| winDomainLoad (m : Fin 33) (key : Nat)
  /-- WIN_DOMAIN_STORE (R469). -/
| winDomainStore (m : Fin 33) (key v : Nat)
  /-- DOMAIN_LOCK_TIMEOUT (R471). -/
| domainLockTimeout (p : Path) (key : Nat)
  /-- CONFIG_RECORD_WRITE (R463). -/
| configRecordWrite
  /-- CS_STAGE_WRITE (R478). -/
| csStageWrite (p : Path) (key : Nat) (data : Bytes)
  /-- CS_CMD_SEAL (R480). -/
| csCmdSeal (p : Path)
  /-- CS_CMD_ABANDON (R480). -/
| csCmdAbandon (p : Path)
  /-- CS_SIGN (R481). -/
| csSign (p : Path) (sig : Bytes)
  /-- CS_WINDOW_EXPIRY (R480). -/
| csWindowExpiry
  /-- CS_IDLE_ABANDON (R478). -/
| csIdleAbandon
  /-- CREDENTIAL_LOCK_EXPIRY (R475). -/
| credentialLockExpiry (i : Fin 16)
  /-- SEC_CMD_END_COMMISSIONING (R485). -/
| secCmdEndCommissioning (p : Path)
  /-- COMMISSIONING_EXPIRY (R485). -/
| commissioningExpiry
  -- Run states, queued reactions and health (chapter 15)
  /-- STATE_CMD_STOP (R495). -/
| stateCmdStop (p : Path)
  /-- STATE_CMD_RUN (R495). -/
| stateCmdRun (p : Path)
  /-- REACTION_QUEUED_START (R504). -/
| reactionQueuedStart
  /-- SAFE_RESUME (R508). -/
| safeResume
  /-- HEALTH_EVALUATION (R510). -/
| healthEvaluation (x : HealthReading)
  -- Power, reset and the vault (chapter 16)
  /-- LOGIC_SUPPLY_LOW (R521). -/
| logicSupplyLow (low : Bool)
  /-- LOGIC_SUPPLY_OVERVOLTAGE (R521). -/
| logicSupplyOvervoltage (high : Bool)
  /-- POWER_FAIL (R522). -/
| powerFail (programmed rtc : Nat)
  /-- LOGIC_SUPPLY_RISE (R523). -/
| logicSupplyRise (x : StartUp) (recovered : Bool)
  /-- RESET_N_ASSERT (R533). -/
| resetNAssert
  /-- RESET_N_RELEASE (R533). -/
| resetNRelease (x : StartUp) (held : Nat)
  /-- VBAT_SUPERVISOR_TRIP (R526). -/
| vbatSupervisorTrip
  /-- VBAT_RESTORE (R526). -/
| vbatRestore
  /-- RTC_WRITE (R528). -/
| rtcWrite
  /-- DIE_OVERTEMPERATURE (R538). -/
| dieOvertemperature
deriving DecidableEq, Repr

end Sys2Proof
end

