-- ==== Sys2Proof/Machine/Float32.lean ====
section
/-! DEFINITION. Binary32 arithmetic of R136 on bit patterns: round to nearest even, a subnormal operand read as zero
of its sign, a subnormal result written as zero of its sign, a fused multiply-add. Every finite value is an integer
times a power of two, so each operation computes exactly and rounds once. -/

namespace Sys2Proof.Machine.F32

/-- What a bit pattern stands for. -/
inductive Val where
  | nan
  | inf (neg : Bool)
  | fin (neg : Bool) (m : Nat) (e : Int)
deriving DecidableEq, Repr

/-- The quiet NaN written when an operation has no number as its result. -/
def qnan : Nat := 0x7FC00000

/-- The zero of a sign. -/
def zero (neg : Bool) : Nat := if neg then 0x80000000 else 0

/-- The infinity of a sign. -/
def infinity (neg : Bool) : Nat := if neg then 0xFF800000 else 0x7F800000

/-- Is the sign bit set? -/
def signBit (x : Nat) : Bool := x.testBit 31

/-- The value of a pattern; a subnormal reads as zero (R136). -/
def val (x : Nat) : Val :=
  let e := field x 23 8
  let f := field x 0 23
  if e = 255 then (if f = 0 then .inf (signBit x) else .nan)
  else if e = 0 then .fin (signBit x) 0 0
  else .fin (signBit x) (f + 2 ^ 23) ((e : Int) - 150)

/-- An operand as the unit reads it: a subnormal is zero of its sign (R136). -/
def flush (x : Nat) : Nat := if field x 23 8 = 0 then zero (signBit x) else x

/-- Is the pattern a NaN? -/
def isNaN (x : Nat) : Bool := field x 23 8 == 255 && field x 0 23 != 0

/-- Is the pattern a finite number? -/
def isFinite (x : Nat) : Bool := field x 23 8 != 255

/-- The pattern with the sign turned over. -/
def neg (x : Nat) : Nat := putBit x 31 (!signBit x)

/-- The pattern with the sign cleared. -/
def abs (x : Nat) : Nat := putBit x 31 false

/-- `num` divided by `den`, rounded to nearest, ties to even. -/
def divRne (num den : Nat) : Nat :=
  let q := num / den
  let r := num % den
  if 2 * r > den || (2 * r == den && q % 2 == 1) then q + 1 else q

/-- `num * 2^e / den` as a fraction of two naturals. -/
def scale (num den : Nat) (e : Int) : Nat × Nat :=
  if 0 ≤ e then (num * 2 ^ e.toNat, den) else (num, den * 2 ^ (-e).toNat)

/-- The exponent of the leading bit of the positive fraction `num / den`. -/
def leadExp (num den : Nat) : Int :=
  let e0 : Int := (Nat.log2 num : Int) - (Nat.log2 den : Int)
  let (a, b) := scale num den (-e0)
  if a < b then e0 - 1 else e0

/-- The magnitude `num / den` rounded to a precision of `p` bits, as an integer and the exponent of its last bit. -/
def roundTo (p num den : Nat) : Nat × Int :=
  let lsb := leadExp num den - ((p : Int) - 1)
  let (a, b) := scale num den (-lsb)
  (divRne a b, lsb)

/-- The magnitude `num / den` with a sign, rounded to binary32. -/
def roundFrac (neg : Bool) (num den : Nat) : Nat :=
  if num = 0 then zero neg
  else
    let lsb : Int := max (leadExp num den - 23) (-149)
    let (a, b) := scale num den (-lsb)
    let q := divRne a b
    let (q, lsb) := if q = 2 ^ 24 then (2 ^ 23, lsb + 1) else (q, lsb)
    if q < 2 ^ 23 then zero neg
    else if lsb + 150 ≥ 255 then infinity neg
    else (if neg then 0x80000000 else 0) + (lsb + 150).toNat * 2 ^ 23 + (q - 2 ^ 23)

/-- The integer `m` times `2^e`, rounded; `zneg` is the sign of a zero result. -/
def roundInt (zneg : Bool) (m : Int) (e : Int) : Nat :=
  if m = 0 then zero zneg
  else
    let (a, b) := scale m.natAbs 1 e
    roundFrac (decide (m < 0)) a b

/-- A signed magnitude as an integer. -/
def signed (neg : Bool) (m : Nat) : Int := if neg then -(m : Int) else (m : Int)

/-- The exact sum of two integers times powers of two. -/
def addExact (m1 : Int) (e1 : Int) (m2 : Int) (e2 : Int) : Int × Int :=
  let e := min e1 e2
  (m1 * 2 ^ (e1 - e).toNat + m2 * 2 ^ (e2 - e).toNat, e)

/-- The sum of two values, one of them already exact (the addition of a fused multiply-add rounds once). -/
def addVal : Val → Val → Nat
  | .nan, _ => qnan
  | _, .nan => qnan
  | .inf a, .inf b => if a = b then infinity a else qnan
  | .inf a, _ => infinity a
  | _, .inf b => infinity b
  | .fin n1 m1 e1, .fin n2 m2 e2 =>
    if m1 = 0 && m2 = 0 then zero (n1 && n2)
    else
      let (m, e) := addExact (signed n1 m1) e1 (signed n2 m2) e2
      roundInt false m e

/-- The exact product of two values. -/
def mulVal : Val → Val → Val
  | .nan, _ => .nan
  | _, .nan => .nan
  | .inf a, .inf b => .inf (a != b)
  | .inf a, .fin b m _ => if m = 0 then .nan else .inf (a != b)
  | .fin a m _, .inf b => if m = 0 then .nan else .inf (a != b)
  | .fin a m1 e1, .fin b m2 e2 => .fin (a != b) (m1 * m2) (e1 + e2)

/-- A value rounded to binary32. -/
def pack : Val → Nat
  | .nan => qnan
  | .inf s => infinity s
  | .fin s m e => if m = 0 then zero s else roundInt s (signed s m) e

def add (a b : Nat) : Nat := addVal (val a) (val b)
def sub (a b : Nat) : Nat := addVal (val a) (val (neg b))
def mul (a b : Nat) : Nat := pack (mulVal (val a) (val b))
/-- `a * b + c` with one rounding. -/
def fma (a b c : Nat) : Nat := addVal (mulVal (val a) (val b)) (val c)

/-- The correctly rounded quotient. -/
def div (a b : Nat) : Nat :=
  match val a, val b with
  | .nan, _ => qnan
  | _, .nan => qnan
  | .inf _, .inf _ => qnan
  | .inf s, .fin t _ _ => infinity (s != t)
  | .fin s _ _, .inf t => zero (s != t)
  | .fin s m1 e1, .fin t m2 e2 =>
    if m2 = 0 then (if m1 = 0 then qnan else infinity (s != t))
    else if m1 = 0 then zero (s != t)
    else
      let (x, y) := scale m1 m2 (e1 - e2)
      roundFrac (s != t) x y

/-- The order of two finite or infinite values; false where either is a NaN. -/
def lt (a b : Nat) : Bool :=
  match val a, val b with
  | .nan, _ => false
  | _, .nan => false
  | .inf s, .inf t => s && !t
  | .inf s, _ => s
  | _, .inf t => !t
  | .fin s m1 e1, .fin t m2 e2 => decide ((addExact (signed s m1) e1 (-(signed t m2)) e2).1 < 0)

def eq (a b : Nat) : Bool := !isNaN a && !isNaN b && !lt a b && !lt b a
def le (a b : Nat) : Bool := lt a b || eq a b
def max (a b : Nat) : Nat := if lt a b then b else a
def min (a b : Nat) : Nat := if lt b a then b else a

/-- An integer rounded to binary32. -/
def ofInt (i : Int) : Nat := roundInt false i 0

/-- A natural number rounded to binary32. -/
def ofNat (n : Nat) : Nat := roundFrac false n 1

/-- The fraction `num / den` rounded to binary32. -/
def ofFrac (num den : Nat) : Nat := if den = 0 then qnan else roundFrac false num den

/-- A finite value rounded to the nearest integer, ties to even; none for an infinity or a NaN. -/
def toIntRne (x : Nat) : Option Int :=
  match val x with
  | .fin s m e =>
    let (a, b) := scale m 1 e
    some (signed s (divRne a b))
  | _ => none

/-- The largest integer not above a finite value. -/
def floor (x : Nat) : Option Int :=
  match val x with
  | .fin s m e =>
    let (a, b) := scale m 1 e
    some (Int.fdiv (signed s a) b)
  | _ => none

/-- The integer square root of `n`, bit by bit from bit `k` down. -/
def isqrt (n : Nat) : Nat → Nat → Nat
  | 0, r => r
  | k + 1, r =>
    let t := r + 2 ^ k
    isqrt n k (if t * t ≤ n then t else r)

/-- The square root, rounded to nearest even. -/
def sqrt (x : Nat) : Nat :=
  match val x with
  | .nan => qnan
  | .inf s => if s then qnan else infinity false
  | .fin s m e =>
    if m = 0 then zero s
    else if s then qnan
    else
      let (m, e) := if e % 2 = 0 then (m, e) else (2 * m, e - 1)
      let big := m * 2 ^ 64
      let r := isqrt big 64 0
      let sticky := if r * r = big then 0 else 1
      roundInt false ((2 * r + sticky : Nat) : Int) (e / 2 - 33)

end Sys2Proof.Machine.F32
end

