-- ==== Sys2Proof/Machine/LoopLaws.lean ====
section
/-! DEFINITION. The arithmetic of the loop unit (R136, R152 to R158): the control laws, their bumpless set-up, and the
compensation lookup with its 48-bit significand. A result that is not finite ends the evaluation (R156), so every step
answers an Option. -/

namespace Sys2Proof.Machine.Law

/-- A result, if it is finite. -/
def fin (x : Nat) : Option Nat := if F32.isFinite x then some x else none

def add (a b : Nat) : Option Nat := fin (F32.add a b)
def sub (a b : Nat) : Option Nat := fin (F32.sub a b)
def mul (a b : Nat) : Option Nat := fin (F32.mul a b)
def div (a b : Nat) : Option Nat := fin (F32.div a b)
/-- a × b added to the running value c, one rounding. -/
def fma (a b c : Nat) : Option Nat := fin (F32.fma a b c)

/-- 1.0, 2.0 and 10^−9 in binary32. -/
def one : Nat := 0x3F800000
def two : Nat := 0x40000000
def nano : Nat := F32.ofFrac 1 1000000000

def pos (x : Nat) : Bool := F32.lt 0 x
def negative (x : Nat) : Bool := F32.lt x 0

/-- The sample time of R151. -/
def sampleTime (periodNs d : Nat) : Nat := F32.mul (F32.mul (F32.ofNat periodNs) (F32.ofNat d)) nano

/-- The parameters, limits and state of a slot. -/
structure Slot where
  k1 : Nat
  k2 : Nat
  k3 : Nat
  k4 : Nat
  k5 : Nat
  s1 : Nat
  s2 : Nat
  s3 : Nat
  s4 : Nat
  s5 : Nat
  lo : Nat
  hi : Nat
  cweight : Bool
  gap : Bool
  ts : Nat
deriving DecidableEq, Repr

/-- The inputs of one evaluation; the inner loop's saturation under WLINK (R160). -/
structure Inputs where
  pv : Nat
  sp : Nat
  ff : Nat
  comp : Nat
  innerHi : Bool
  innerLo : Bool
deriving DecidableEq, Repr

/-- What an evaluation yields: the limited output, its saturation flags, frozen integration, and the new state. -/
structure Result where
  u : Nat
  satHi : Bool
  satLo : Bool
  windup : Bool
  slot : Slot
deriving DecidableEq, Repr

/-- clamp(x) of R152; the limits are operands too (R136). -/
def clamp (s : Slot) (x : Nat) : Nat := F32.flush (if F32.lt s.hi x then s.hi else if F32.lt x s.lo then s.lo else x)

/-- The result of a law from the value before clamping. -/
def result (s : Slot) (x : Nat) (windup : Bool) : Result :=
  ⟨clamp s x, F32.lt s.hi x, F32.lt x s.lo, windup, s⟩

/-- wlink_freeze(e) of R160. -/
def freeze (s : Slot) (i : Inputs) (e : Nat) : Option Bool := do
  let ke ← mul s.k2 e
  pure ((i.innerHi && pos ke) || (i.innerLo && negative ke))

/-- p, v and d of the PID law. -/
def pidTerms (s : Slot) (i : Inputs) : Option (Nat × Nat × Nat) := do
  let bsp ← mul s.k4 i.sp
  let p ← mul s.k1 (← sub bsp i.pv)
  let v ← sub (if s.cweight then i.sp else 0) i.pv
  let s3 := if s.gap then v else s.s3
  let n ← fma s.k3 (← sub v s3) (← mul s.k5 s.s2)
  let d ← div n (← add s.k5 s.ts)
  pure (p, v, d)

def pid (s : Slot) (i : Inputs) : Option Result := do
  let e ← sub i.sp i.pv
  let (p, v, d) ← pidTerms s i
  let int ← fma (← mul s.k2 s.ts) e s.s1
  let ur ← add (← add (← add (← add p int) d) i.ff) i.comp
  let ke ← mul s.k2 e
  let hold := (F32.lt s.hi ur && pos ke) || (F32.lt ur s.lo && negative ke) || (← freeze s i e)
  let s' := { s with s1 := if hold then s.s1 else int, s2 := d, s3 := v }
  pure { result s' ur hold with slot := s' }

def pi (s : Slot) (i : Inputs) : Option Result := do
  let e ← sub i.sp i.pv
  let ur ← add (← add (← add (← mul s.k1 e) s.s1) i.ff) i.comp
  let u := clamp s ur
  if ← freeze s i e then pure (result s ur true)
  else
    let x ← fma s.k3 (← sub u ur) (← mul s.k2 e)
    let s1 ← fma s.ts x s.s1
    let s' := { s with s1 := s1 }
    pure { result s' ur false with slot := s' }

def leadLag (s : Slot) (i : Inputs) : Option Result := do
  let a ← div two s.ts
  let den ← fma a s.k3 one
  let b0 ← div (← mul s.k1 (← fma a s.k2 one)) den
  let b1 ← div (← mul s.k1 (← fma (F32.neg a) s.k2 one)) den
  let a1 ← div (← fma (F32.neg a) s.k3 one) den
  let s3 := if s.gap then i.pv else s.s3
  let y ← fma (F32.neg a1) s.s4 (← fma b1 s3 (← mul b0 i.pv))
  let x ← add (← add y i.ff) i.comp
  let u := clamp s x
  let s4 ← sub (← sub u i.ff) i.comp
  let s' := { s with s3 := i.pv, s4 := s4 }
  pure { result s' x false with slot := s' }

def ratio (s : Slot) (i : Inputs) : Option Result := do
  let x ← add (← add (← add (← mul s.k1 i.pv) s.k2) i.ff) i.comp
  pure (result s x false)

def stage2 (s : Slot) (i : Inputs) : Option Result := do
  let y ← fma s.k3 s.s3 (← fma s.k2 s.s2 (← mul s.k1 i.pv))
  let y ← fma (F32.neg s.k5) s.s5 (← fma (F32.neg s.k4) s.s4 y)
  let x ← add (← add y i.ff) i.comp
  let s' := { s with s2 := i.pv, s3 := s.s2, s4 := y, s5 := s.s4 }
  pure { result s' x false with slot := s' }

def sum (s : Slot) (i : Inputs) : Option Result := do
  let x ← fma s.k3 i.ff (← fma s.k2 i.sp (← mul s.k1 i.pv))
  let x ← add (← add x s.k4) i.comp
  pure (result s x false)

/-- One AUTO evaluation (R152). LAW 0 and 7 are reserved: no configuration with them is accepted (R167). -/
def evaluate (law : Nat) (s : Slot) (i : Inputs) : Option Result :=
  match law with
  | 1 => pid s i
  | 2 => pi s i
  | 3 => leadLag s i
  | 4 => ratio s i
  | 5 => stage2 s i
  | 6 => sum s i
  | _ => none

/-- The state set up for a bumpless return to AUTO from the output u (R154). -/
def setUp (law : Nat) (s : Slot) (i : Inputs) (u : Nat) : Option Slot :=
  match law with
  | 1 => do
    let (p, v, d) ← pidTerms s i
    let s1 ← sub (← sub (← sub (← sub u p) d) i.ff) i.comp
    pure { s with s1 := s1, s2 := d, s3 := v }
  | 2 => do
    let e ← sub i.sp i.pv
    let s1 ← sub (← sub (← fma (F32.neg s.k1) e u) i.ff) i.comp
    pure { s with s1 := s1 }
  | 3 => do
    let s4 ← sub (← sub u i.ff) i.comp
    pure { s with s3 := i.pv, s4 := s4 }
  | 5 => do
    let y ← sub (← sub u i.ff) i.comp
    pure { s with s2 := i.pv, s3 := i.pv, s4 := y, s5 := y }
  | _ => some s

/-! ## The compensation lookup (R157) -/

/-- A dyadic number m × 2^e. -/
structure Dy where
  m : Int
  e : Int
deriving DecidableEq, Repr

/-- A finite binary32 value as a dyadic number. -/
def ofF32 (x : Nat) : Dy :=
  match F32.val x with
  | .fin s m e => ⟨F32.signed s m, e⟩
  | _ => ⟨0, 0⟩

/-- Rounded to a significand of 48 bits, to nearest even. -/
def round48 (d : Dy) : Dy :=
  if d.m = 0 then d
  else
    let (a, b) := F32.scale d.m.natAbs 1 d.e
    let (q, l) := F32.roundTo 48 a b
    ⟨if d.m < 0 then -(q : Int) else q, l⟩

def dyMul (a b : Dy) : Dy := round48 ⟨a.m * b.m, a.e + b.e⟩
def dyAdd (a b : Dy) : Dy := let r := F32.addExact a.m a.e b.m b.e; round48 ⟨r.1, r.2⟩
def dyNeg (a : Dy) : Dy := ⟨-a.m, a.e⟩
/-- The largest whole number not above it. -/
def dyFloor (a : Dy) : Int := if 0 ≤ a.e then a.m * 2 ^ a.e.toNat else Int.fdiv a.m (2 ^ (-a.e).toNat)
def dyLt (a b : Dy) : Bool := decide ((F32.addExact a.m a.e (-b.m) b.e).1 < 0)
def toF32 (a : Dy) : Nat := F32.roundInt false a.m a.e

/-- The table index i, the next index j and the fraction r of a position. -/
def index (p : Dy) (scale offset : Nat) (clampMode : Bool) : Nat × Nat × Nat :=
  let x := dyAdd (dyMul p (ofF32 scale)) (ofF32 offset)
  if clampMode then
    let f := if dyLt x ⟨0, 0⟩ then ⟨0, 0⟩ else if dyLt ⟨1, 0⟩ x then ⟨1, 0⟩ else x
    let q := dyMul f ⟨1023, 0⟩
    let i := min (dyFloor q).toNat 1022
    (i, i + 1, toF32 (dyAdd q ⟨-(i : Int), 0⟩))
  else
    let f := dyAdd x ⟨-(dyFloor x), 0⟩
    let q := dyMul f ⟨1024, 0⟩
    let i := (dyFloor q).toNat
    (i % 1024, (i + 1) % 1024, toF32 (dyAdd q ⟨-(i : Int), 0⟩))

/-- T[i] + r × (T[j] − T[i]). -/
def interpolate (ti tj r : Nat) : Option Nat := do fma r (← sub tj ti) ti

/-! ## Conversions (R146) -/

/-- A limited output converted to TYPE: the pattern and whether it saturated. -/
def convert (type u : Nat) : Nat × Bool :=
  let sat (w : Nat) (lo hi : Int) : Nat × Bool :=
    match F32.toIntRne u with
    | some v => (ofInt w (max lo (min hi v)), decide (v < lo) || decide (hi < v))
    | none => (0, true)
  match type with
  | 1 => sat 32 (-(2 ^ 31)) (2 ^ 31 - 1)
  | 2 => sat 16 (-(2 ^ 15)) (2 ^ 15 - 1)
  | 3 => sat 16 0 (2 ^ 16 - 1)
  | _ => (u, false)

/-- A read value of TYPE as an exact integer; 0 for REAL32. -/
def rawInt (type raw : Nat) : Int :=
  match type with
  | 1 => toInt 32 raw
  | 2 => toInt 16 raw
  | 3 => ((raw % 2 ^ 16 : Nat) : Int)
  | _ => 0

/-- A read value of TYPE as a REAL32: a subnormal reads as zero (R136). -/
def readReal (type raw : Nat) : Nat := if type = 0 then F32.flush (raw % 2 ^ 32) else F32.ofInt (rawInt type raw)

/-- The sign of the movement since the previous evaluation (R158): 1, 0 or −1. -/
def moveSign (type pos prev : Nat) : Int :=
  let d : Int := match type with
    | 1 => toInt 32 (ofInt 32 (rawInt 1 pos - rawInt 1 prev))
    | 2 => toInt 16 (ofInt 16 (rawInt 2 pos - rawInt 2 prev))
    | 3 => toInt 16 (ofInt 16 (rawInt 3 pos - rawInt 3 prev))
    | _ => if F32.lt prev pos then 1 else if F32.lt pos prev then -1 else 0
  d.sign

end Sys2Proof.Machine.Law
end

