-- ==== Sys2Proof/Machine/Codes.lean ====
section
/-! DEFINITION. The Skein codes of every chapter with their severities and reaction levels (R446, R447 and the code
table of each chapter). -/

namespace Sys2Proof.Machine

/-- One row of a code table: the code, its severity, the highest severity at which it is listed (R453) and its own
reaction level (R503). -/
structure SkeinCode where
  code : Nat
  sev : Nat
  sevMax : Nat
  level : Nat
deriving DecidableEq, Repr

/-- Code class 0x01 (Table 13.5). -/
def skeinCodes01 : List SkeinCode := [
  ⟨0x0101, 4, 4, 0⟩, -- First lock; station time stepped (R40)
  ⟨0x0102, 5, 5, 0⟩, -- TIME_DIVERGED set (R44)
  ⟨0x0103, 3, 3, 0⟩, -- TIME_DIVERGED cleared (R44)
  ⟨0x0104, 3, 3, 0⟩, -- HOLDOVER entered (R46)
  ⟨0x0105, 4, 4, 0⟩, -- Re-step performed (R48)
  ⟨0x0106, 3, 3, 0⟩] -- Re-step request cancelled (R48)

/-- Code class 0x02 (Table 02.6). -/
def skeinCodes02 : List SkeinCode := [
  ⟨0x0201, 4, 4, 1⟩, -- Minority mismatch; strand fenced
  ⟨0x0202, 3, 3, 0⟩, -- Strand rejoined
  ⟨0x0203, 5, 5, 1⟩, -- Strand retired, BIST failed
  ⟨0x0204, 5, 5, 1⟩, -- Strand retired, fault limit
  ⟨0x0205, 6, 6, 3⟩, -- Un-votable event
  ⟨0x0206, 6, 6, 0⟩, -- Resumed after un-votable event, as TRIPLEX or DUPLEX_DEGRADED
  ⟨0x0207, 7, 7, 4⟩, -- Fewer than two strands remain; FAILED
  ⟨0x0208, 1, 1, 0⟩, -- Corrected TCM error
  ⟨0x0209, 4, 4, 0⟩, -- Agreement exchange ended with safe default
  ⟨0x020A, 5, 5, 0⟩, -- Debug request refused, or lock-step split
  ⟨0x020B, 5, 5, 2⟩, -- Safe-output voter forced off
  ⟨0x020C, 6, 6, 0⟩] -- DUPLEX_DEGRADED entered: one strand retired, two in step

/-- Code class 0x03 (Table 03.10). -/
def skeinCodes03 : List SkeinCode := [
  ⟨0x0301, 4, 4, 0⟩, -- Pair mismatch; re-run admitted or skipped
  ⟨0x0302, 4, 4, 0⟩, -- Re-run mismatch; outputs hold
  ⟨0x0303, 5, 5, 1⟩, -- Spindle retired
  ⟨0x0304, 4, 4, 0⟩, -- Uncorrectable local-SRAM error; job abandoned
  ⟨0x0305, 5, 5, 0⟩, -- Uncorrectable creel error
  ⟨0x0306, 4, 4, 0⟩, -- Stage buffer overflow; job abandoned
  ⟨0x0307, 6, 6, 2⟩, -- Pinned jobs without a host; task stopped (one record per task, R118)
  ⟨0x0308, 4, 4, 0⟩, -- Spindle debug halt, resume or refused request
  ⟨0x0309, 1, 1, 0⟩, -- Corrected local-SRAM, instruction-cache or creel error
  ⟨0x030A, 1, 1, 0⟩] -- Run-ahead record discarded

/-- Code class 0x04 (Table 04.14). -/
def skeinCodes04 : List SkeinCode := [
  ⟨0x0401, 3, 3, 0⟩, -- Late execution; result discarded
  ⟨0x0402, 5, 5, 0⟩, -- Uncorrectable creel error in a descriptor, view word or table entry
  ⟨0x0403, 3, 3, 0⟩, -- Non-finite value; evaluation discarded
  ⟨0x0404, 4, 4, 0⟩, -- Datapath check failure; counted fault
  ⟨0x0405, 2, 2, 0⟩, -- BAD_PV set or cleared
  ⟨0x0406, 2, 2, 0⟩, -- Online change applied to a descriptor or table
  ⟨0x0407, 6, 6, 2⟩] -- Loop batch of a retired spindle without a host; loops not evaluated (R118)

/-- Code class 0x05 (Table 05.8). -/
def skeinCodes05 : List SkeinCode := [
  ⟨0x0501, 3, 3, 0⟩, -- Periodic task overrun; release skipped
  ⟨0x0502, 5, 5, 2⟩, -- Task stopped at its skip limit
  ⟨0x0503, 3, 3, 0⟩, -- Level-0 cycle exceeded TASK.L0_WATCH_MS
  ⟨0x0504, 1, 1, 0⟩, -- Event release merged
  ⟨0x0505, 4, 4, 0⟩, -- Remote station OFFLINE
  ⟨0x0506, 2, 2, 0⟩, -- Remote station ONLINE
  ⟨0x0507, 3, 3, 0⟩, -- Remote station outputs discarded
  ⟨0x0508, 4, 4, 2⟩, -- Remote station watchdog expired (written by the remote station)
  ⟨0x0509, 4, 4, 0⟩, -- Program exchange performed
  ⟨0x050A, 4, 4, 0⟩, -- Program exchange refused or aborted
  ⟨0x050B, 3, 3, 0⟩, -- Changeover postponed
  ⟨0x050C, 5, 5, 0⟩] -- Retain log write failed

/-- Code class 0x06 (Table 06.7). -/
def skeinCodes06 : List SkeinCode := [
  ⟨0x0601, 3, 3, 0⟩, -- SHORT set on an output
  ⟨0x0602, 4, 4, 2⟩, -- SHORT_LATCHED; output held off
  ⟨0x0603, 4, 4, 0⟩, -- EXTERNAL_DRIVE set
  ⟨0x0604, 2, 2, 0⟩, -- CHATTER set or cleared
  ⟨0x0605, 3, 3, 0⟩, -- STUCK_ACTIVE set
  ⟨0x0606, 3, 3, 0⟩, -- Field supply LOW
  ⟨0x0607, 5, 5, 2⟩, -- Field supply CUT; group outputs off
  ⟨0x0608, 3, 3, 0⟩, -- Group outputs returned
  ⟨0x0609, 5, 5, 2⟩, -- Group current TRIP
  ⟨0x060A, 3, 3, 0⟩, -- OPEN_LOAD or OPEN_WIRE set
  ⟨0x060B, 3, 3, 0⟩, -- Counter OVERRANGE or illegal transition
  ⟨0x060C, 5, 5, 0⟩, -- Test-pulse source fault
  ⟨0x060D, 5, 5, 2⟩, -- Safe output latched off
  ⟨0x060E, 4, 4, 0⟩] -- Output thermal shutdown

/-- Code class 0x07 (Table 07.10). -/
def skeinCodes07 : List SkeinCode := [
  ⟨0x0701, 3, 3, 0⟩, -- OPEN_WIRE set
  ⟨0x0702, 3, 3, 0⟩, -- SHORT set
  ⟨0x0703, 3, 3, 0⟩, -- COMPLIANCE set
  ⟨0x0704, 4, 4, 2⟩, -- Fail value applied after headroom loss
  ⟨0x0705, 3, 3, 0⟩, -- ALARM_CURRENT set
  ⟨0x0706, 3, 3, 0⟩, -- Thermal limit entered
  ⟨0x0707, 4, 4, 2⟩, -- Thermal shutdown
  ⟨0x0708, 5, 5, 2⟩, -- Group supply low; group outputs off
  ⟨0x0709, 3, 3, 0⟩, -- Cold-junction fallback
  ⟨0x070A, 2, 2, 0⟩, -- HART communication lost or regained
  ⟨0x070B, 3, 3, 0⟩, -- HART DEVICE set
  ⟨0x070C, 3, 3, 0⟩] -- Group supply recovered

/-- Code class 0x08 (Table 08.8). -/
def skeinCodes08 : List SkeinCode := [
  ⟨0x0801, 4, 4, 2⟩, -- Pair FAULT, discrepancy
  ⟨0x0802, 4, 4, 2⟩, -- Pair FAULT, pulse check or test-pulse source
  ⟨0x0803, 2, 2, 0⟩, -- Function demand: ON to STOPPING or OFF
  ⟨0x0804, 2, 2, 0⟩, -- Function returned to ON
  ⟨0x0805, 5, 5, 2⟩, -- SS1 ramp violation
  ⟨0x0806, 5, 5, 2⟩, -- Axis fault
  ⟨0x0807, 4, 4, 0⟩, -- Scrim copies disagree
  ⟨0x0808, 3, 3, 0⟩, -- Scrim connection DEGRADED
  ⟨0x0809, 5, 5, 2⟩, -- Scrim watchdog expired
  ⟨0x080A, 2, 2, 0⟩, -- Scrim connection OK
  ⟨0x080B, 6, 6, 2⟩, -- Safety functions not available
  ⟨0x080C, 4, 4, 0⟩, -- Standby pair field differs from the replicated field
  ⟨0x080D, 2, 2, 0⟩] -- Reset ignored

/-- Code class 0x09 (Table 09.9). -/
def skeinCodes09 : List SkeinCode := [
  ⟨0x0901, 3, 3, 0⟩, -- Pair synchronised; STANDBY
  ⟨0x0902, 6, 6, 2⟩, -- Pairing refused
  ⟨0x0903, 5, 5, 1⟩, -- Takeover on loss of ACTIVE
  ⟨0x0904, 4, 4, 0⟩, -- Ordered handover
  ⟨0x0905, 4, 4, 0⟩, -- Output hash mismatch or step divergence; re-synchronisation started
  ⟨0x0906, 2, 2, 0⟩, -- Re-synchronisation adopted
  ⟨0x0907, 5, 5, 1⟩, -- Standby UNFIT
  ⟨0x0908, 3, 3, 0⟩, -- Standby input differs from the replicated snapshot
  ⟨0x0909, 3, 3, 0⟩, -- Step record missing
  ⟨0x090A, 4, 4, 0⟩, -- Witness lost or regained
  ⟨0x090B, 4, 4, 0⟩, -- Order ignored
  ⟨0x090C, 4, 4, 0⟩, -- J3 lane down or up
  ⟨0x090D, 5, 5, 1⟩, -- Both modules toggling; tie-break
  ⟨0x090E, 2, 2, 0⟩, -- Return requested
  ⟨0x090F, 4, 6, 1⟩] -- STANDBY demoted to SYNCING, or cold start under R354

/-- Code class 0x0A (Table 10.12). -/
def skeinCodes0A : List SkeinCode := [
  ⟨0x0A01, 3, 3, 0⟩, -- Port down or up, with its speed
  ⟨0x0A02, 5, 5, 0⟩, -- Network lost or regained
  ⟨0x0A03, 3, 3, 0⟩, -- Launch entry late
  ⟨0x0A04, 3, 3, 0⟩, -- Best master changed, or followed network moved under R373
  ⟨0x0A05, 2, 2, 0⟩, -- MRP topology change received
  ⟨0x0A06, 3, 3, 0⟩, -- Receive object AGED
  ⟨0x0A07, 2, 2, 0⟩, -- Dictionary session opened or closed
  ⟨0x0A08, 4, 4, 0⟩] -- Launch queue full

/-- Code class 0x0B (Table 11.10). -/
def skeinCodes0B : List SkeinCode := [
  ⟨0x0B01, 3, 3, 0⟩, -- Error-passive entered or left
  ⟨0x0B02, 4, 4, 0⟩, -- Bus-off
  ⟨0x0B03, 3, 3, 0⟩, -- Bus-off recovered
  ⟨0x0B04, 3, 3, 0⟩, -- NOACK set or cleared
  ⟨0x0B05, 3, 3, 0⟩, -- Receive queue full; frames dropped
  ⟨0x0B06, 3, 3, 0⟩, -- Receive object AGED
  ⟨0x0B07, 3, 3, 0⟩, -- Launch late
  ⟨0x0B08, 4, 4, 0⟩, -- Reference message missed
  ⟨0x0B09, 3, 3, 0⟩, -- Follower state changed
  ⟨0x0B0A, 2, 2, 0⟩] -- Sleep entered, or woken

/-- Code class 0x0C (Table 12.6). -/
def skeinCodes0C : List SkeinCode := [
  ⟨0x0C01, 4, 4, 0⟩, -- Source redirected to a fallback target
  ⟨0x0C02, 3, 3, 0⟩, -- Completion of an identifier not in service at the target
  ⟨0x0C03, 3, 3, 0⟩] -- RAISE on a source that is not a software source

/-- Code class 0x0D (Table 13.6). -/
def skeinCodes0D : List SkeinCode := [
  ⟨0x0D01, 2, 2, 0⟩, -- Writer started
  ⟨0x0D02, 4, 4, 0⟩, -- Sequence continued from flash
  ⟨0x0D03, 4, 4, 0⟩, -- Mirror queue full; entries not mirrored
  ⟨0x0D04, 5, 5, 0⟩, -- Flash program or erase failed
  ⟨0x0D05, 4, 4, 0⟩] -- Request queue full; requests dropped

/-- Code class 0x0E (Table 14.10). -/
def skeinCodes0E : List SkeinCode := [
  ⟨0x0E01, 5, 5, 0⟩, -- Image verification failed
  ⟨0x0E02, 4, 4, 0⟩, -- Authentication failed: TLS handshake or signature
  ⟨0x0E03, 4, 4, 0⟩, -- Credential locked
  ⟨0x0E04, 2, 2, 0⟩, -- Change set sealed
  ⟨0x0E05, 4, 4, 0⟩, -- Change set committed
  ⟨0x0E06, 3, 3, 0⟩, -- Change set abandoned, expired or rejected
  ⟨0x0E07, 4, 4, 0⟩, -- COMMISSIONING set or cleared
  ⟨0x0E08, 4, 4, 0⟩, -- Module provisioned
  ⟨0x0E09, 4, 4, 0⟩] -- Key slot revoked

/-- Code class 0x0F (Table 15.8). -/
def skeinCodes0F : List SkeinCode := [
  ⟨0x0F01, 2, 2, 0⟩, -- Run state changed
  ⟨0x0F02, 3, 3, 0⟩, -- Configuration, image or change set refused
  ⟨0x0F03, 6, 6, 0⟩, -- Configuration record refused at start-up; Defaults in use
  ⟨0x0F04, 5, 5, 0⟩, -- Reaction escalated
  ⟨0x0F05, 6, 6, 3⟩, -- SAFE entered by escalation
  ⟨0x0F06, 4, 4, 0⟩, -- SAFE left after escalation
  ⟨0x0F07, 7, 7, 4⟩, -- Reaction queue full
  ⟨0x0F08, 3, 3, 0⟩, -- Module life below HEALTH.WARN_H
  ⟨0x0F09, 4, 4, 0⟩, -- Health item at end of life
  ⟨0x0F0A, 4, 4, 0⟩] -- VBAT low or invalid

/-- Code class 0x10 (Table 16.14). -/
def skeinCodes10 : List SkeinCode := [
  ⟨0x1001, 4, 4, 0⟩, -- Logic supply low, or recovered
  ⟨0x1002, 4, 4, 0⟩, -- Logic supply over-voltage set or cleared
  ⟨0x1003, 6, 6, 0⟩, -- Power-fail sequence started
  ⟨0x1004, 2, 2, 0⟩, -- Start-up completed
  ⟨0x1005, 7, 7, 4⟩, -- Die over-temperature; FAILED
  ⟨0x1006, 4, 4, 0⟩, -- Vault retained block invalid at start-up
  ⟨0x1007, 4, 4, 0⟩, -- Boot bank changed by long RESET_N
  ⟨0x1008, 4, 4, 0⟩] -- Slot ID differs from the previous start-up

/-- The code table of a class. -/
def skeinClass : Nat → List SkeinCode
  | 0x01 => skeinCodes01
  | 0x02 => skeinCodes02
  | 0x03 => skeinCodes03
  | 0x04 => skeinCodes04
  | 0x05 => skeinCodes05
  | 0x06 => skeinCodes06
  | 0x07 => skeinCodes07
  | 0x08 => skeinCodes08
  | 0x09 => skeinCodes09
  | 0x0A => skeinCodes0A
  | 0x0B => skeinCodes0B
  | 0x0C => skeinCodes0C
  | 0x0D => skeinCodes0D
  | 0x0E => skeinCodes0E
  | 0x0F => skeinCodes0F
  | 0x10 => skeinCodes10
  | _ => []

/-- The row of a code. -/
def skeinCode? (c : Nat) : Option SkeinCode := (skeinClass (c / 256)).find? fun r => r.code == c

/-- The severity of a code (R446). -/
def codeSev (c : Nat) : Nat := match skeinCode? c with | some r => r.sev | none => 1

/-- The highest severity at which a code is listed, which selects its bucket (R453). -/
def codeSevMax (c : Nat) : Nat := match skeinCode? c with | some r => r.sevMax | none => 1

/-- A code's own reaction level (R503). -/
def codeLevel (c : Nat) : Nat := match skeinCode? c with | some r => r.level | none => 0

end Sys2Proof.Machine
end

