-- ==== Sys2Proof/Machine/Dictionary.lean ====
section
/-! DEFINITION. The object dictionary as a table: every entry the chapters' entry tables list, with its type, access
code, default and the range of values its Meaning column states (R14 to R16, R462 and the entry table of each chapter).
A row covers a range of indices (records repeated per unit) and of sub-indices (arrays). -/

namespace Sys2Proof.Machine

/-- The CiA 301 type of an entry (Notation, chapter 00). -/
inductive OdType where
  | u8 | u16 | u32 | u64 | i8 | i16 | i32 | i64 | real32 | bool | domain | vstring
deriving DecidableEq, Repr

/-- The access code of an entry (Table 00.5). -/
inductive OdAcc where
  | ro | rw | wo | const | rws | rwc | rwsc
deriving DecidableEq, Repr

/-- The values an entry takes, as its Meaning column states them; another value is refused with abort 0x0609_0030. -/
inductive OdRange where
  /-- The table states no range: every value of the type. -/
  | any
  /-- From `lo` to `hi`, and the values of `also`. -/
  | nat (lo hi : Nat) (also : List Nat)
  /-- A signed range. -/
  | int (lo hi : Int)
  /-- A range of finite binary32 values, given by patterns. -/
  | real (lo hi : Nat)
  /-- A finite binary32 value above 0. -/
  | positive
  /-- A finite binary32 value of 0 or above. -/
  | nonneg
  /-- A word whose bits outside the mask are reserved (R12). -/
  | mask (m : Nat)
deriving DecidableEq, Repr

/-- One row of an entry table. -/
structure OdRow where
  idxLo : Nat
  idxHi : Nat
  subLo : Nat
  subHi : Nat
  type : OdType
  acc : OdAcc
  default : Nat
  range : OdRange
deriving DecidableEq, Repr

/-- The number of bits of a type; a DOMAIN and a string have their own length. -/
def OdType.width : OdType → Nat
  | .u8 => 8 | .u16 => 16 | .u32 => 32 | .u64 => 64
  | .i8 => 8 | .i16 => 16 | .i32 => 32 | .i64 => 64
  | .real32 => 32 | .bool => 1 | .domain => 0 | .vstring => 0

/-- The number of bytes of a numeric type on the wire (CiA 301: a BOOLEAN takes one). -/
def OdType.bytes : OdType → Nat
  | .bool => 1
  | t => t.width / 8

/-- Does a value lie in the range its row states? -/
def OdRange.admits (t : OdType) (r : OdRange) (v : Nat) : Bool :=
  match r with
  | .any => true
  | .nat lo hi also => (lo ≤ v && v ≤ hi) || also.contains v
  | .int lo hi => decide (lo ≤ toInt t.width v) && decide (toInt t.width v ≤ hi)
  | .real lo hi => F32.isFinite v && F32.le lo v && F32.le v hi
  | .positive => F32.isFinite v && F32.lt 0 v
  | .nonneg => F32.isFinite v && F32.le 0 v
  | .mask m => v &&& m == v

/-- The key of entry Index:Sub: the index in bits 23:8, the sub-index in bits 7:0. -/
def odKey (idx sub : Nat) : Nat := idx * 256 + sub


/-- Entries of page 0x1000, part 0. -/
def odRows10_0 : List OdRow := [
  ⟨0x1000, 0x1000, 0x00, 0x00, .u32, .const, 0, .any⟩, -- DEVICE_TYPE
  ⟨0x1001, 0x1001, 0x00, 0x00, .u8, .ro, 0, .any⟩, -- ERROR_REGISTER
  ⟨0x1008, 0x1008, 0x00, 0x00, .vstring, .const, 0, .any⟩, -- DEVICE_NAME
  ⟨0x1009, 0x1009, 0x00, 0x00, .vstring, .const, 0, .any⟩, -- HW_VERSION
  ⟨0x100A, 0x100A, 0x00, 0x00, .vstring, .ro, 0, .any⟩, -- SW_VERSION
  ⟨0x1018, 0x1018, 0x00, 0x00, .u8, .const, 4, .any⟩, -- —
  ⟨0x1018, 0x1018, 0x01, 0x01, .u32, .const, 0x3A9, .any⟩, -- VENDOR_ID
  ⟨0x1018, 0x1018, 0x02, 0x02, .u32, .const, 0x70001, .any⟩, -- PRODUCT_CODE
  ⟨0x1018, 0x1018, 0x03, 0x03, .u32, .const, 0, .any⟩, -- REVISION
  ⟨0x1018, 0x1018, 0x04, 0x04, .u32, .const, 0, .any⟩] -- SERIAL

/-- Entries of page 0x1000. -/
def odRows10 : List OdRow := odRows10_0

/-- Entries of page 0x1200, part 0. -/
def odRows12_0 : List OdRow := [
  ⟨0x1200, 0x1203, 0x00, 0x00, .u8, .const, 2, .any⟩, -- —
  ⟨0x1200, 0x1203, 0x01, 0x01, .u32, .ro, 0x80000000, .any⟩, -- SDO.COB_RX
  ⟨0x1200, 0x1203, 0x02, 0x02, .u32, .ro, 0x80000000, .any⟩] -- SDO.COB_TX

/-- Entries of page 0x1200. -/
def odRows12 : List OdRow := odRows12_0

/-- Entries of page 0x2000, part 0. -/
def odRows20_0 : List OdRow := [
  ⟨0x2001, 0x2001, 0x00, 0x00, .u8, .const, 1, .any⟩, -- —
  ⟨0x2001, 0x2001, 0x01, 0x01, .u32, .const, 0x100CFA0, .any⟩, -- FUSE.WORD
  ⟨0x2010, 0x2010, 0x00, 0x00, .u8, .const, 6, .any⟩, -- —
  ⟨0x2010, 0x2010, 0x01, 0x01, .u8, .rws, 4, .nat 0 4 []⟩, -- TICK.PERIOD
  ⟨0x2010, 0x2010, 0x02, 0x02, .u32, .ro, 0xF4240, .any⟩, -- TICK.PERIOD_NS
  ⟨0x2010, 0x2010, 0x03, 0x03, .u64, .ro, 0, .any⟩, -- TICK.NUMBER
  ⟨0x2010, 0x2010, 0x04, 0x04, .u64, .ro, 0, .any⟩, -- TICK.COUNT
  ⟨0x2010, 0x2010, 0x05, 0x05, .u8, .ro, 0, .any⟩, -- TICK.PHASE
  ⟨0x2010, 0x2010, 0x06, 0x06, .u32, .ro, 0, .any⟩, -- TICK.STRETCHED
  ⟨0x2020, 0x2020, 0x00, 0x00, .u8, .const, 9, .any⟩, -- —
  ⟨0x2020, 0x2020, 0x01, 0x08, .u8, .rws, 12, .nat 8 15 []⟩, -- COMMIT.PHASE
  ⟨0x2020, 0x2020, 0x09, 0x09, .u8, .ro, 0, .any⟩, -- COMMIT.STATUS
  ⟨0x2030, 0x2030, 0x00, 0x00, .u8, .const, 15, .any⟩, -- —
  ⟨0x2030, 0x2030, 0x01, 0x01, .u64, .ro, 0, .any⟩, -- TIME.NOW
  ⟨0x2030, 0x2030, 0x02, 0x02, .u8, .rws, 3, .nat 0 3 []⟩, -- TIME.SOURCE
  ⟨0x2030, 0x2030, 0x03, 0x03, .u8, .ro, 1, .any⟩, -- TIME.STATE
  ⟨0x2030, 0x2030, 0x04, 0x04, .u16, .ro, 1, .any⟩, -- TIME.FLAGS
  ⟨0x2030, 0x2030, 0x05, 0x05, .i64, .ro, 0, .any⟩, -- TIME.OFFSET
  ⟨0x2030, 0x2030, 0x06, 0x06, .i32, .ro, 0, .any⟩, -- TIME.RATE
  ⟨0x2030, 0x2030, 0x07, 0x07, .u32, .rws, 0x3E8, .nat 100 100000 []⟩, -- TIME.LOCK_LIMIT
  ⟨0x2030, 0x2030, 0x08, 0x08, .u32, .const, 0xF4240, .any⟩, -- TIME.DIVERGE_LIMIT
  ⟨0x2030, 0x2030, 0x09, 0x09, .u32, .rws, 0x3E8, .nat 0 60000 []⟩, -- TIME.ACQ_WAIT
  ⟨0x2030, 0x2030, 0x0A, 0x0A, .u8, .wo, 0, .nat 1 1 []⟩, -- TIME.RESTEP
  ⟨0x2030, 0x2030, 0x0B, 0x0B, .u64, .rws, 0, .any⟩, -- TIME.RESTEP_VALUE
  ⟨0x2030, 0x2030, 0x0C, 0x0C, .u32, .ro, 0, .any⟩, -- TIME.STEP_COUNT
  ⟨0x2030, 0x2030, 0x0D, 0x0D, .i64, .ro, 0, .any⟩, -- TIME.LAST_STEP
  ⟨0x2030, 0x2030, 0x0E, 0x0E, .u32, .ro, 0, .any⟩, -- TIME.HOLDOVER_S
  ⟨0x2030, 0x2030, 0x0F, 0x0F, .i16, .ro, 37, .any⟩] -- TIME.UTC_OFFSET

/-- Entries of page 0x2000. -/
def odRows20 : List OdRow := odRows20_0

/-- Entries of page 0x2100, part 0. -/
def odRows21_0 : List OdRow := [
  ⟨0x2100, 0x2100, 0x00, 0x00, .u8, .const, 8, .any⟩, -- —
  ⟨0x2100, 0x2100, 0x01, 0x01, .u8, .ro, 0, .any⟩, -- PLY.CONFIG
  ⟨0x2100, 0x2100, 0x02, 0x02, .u16, .ro, 0, .any⟩, -- PLY.FLAGS
  ⟨0x2100, 0x2100, 0x03, 0x03, .u8, .ro, 0, .any⟩, -- PLY.LOAD
  ⟨0x2100, 0x2100, 0x04, 0x04, .u8, .ro, 0, .any⟩, -- PLY.LOAD_PEAK
  ⟨0x2100, 0x2100, 0x05, 0x05, .u32, .ro, 0, .any⟩, -- PLY.UNVOTED_COUNT
  ⟨0x2100, 0x2100, 0x06, 0x06, .u32, .ro, 0, .any⟩, -- PLY.REJOIN_COUNT
  ⟨0x2100, 0x2100, 0x07, 0x07, .u32, .ro, 0, .any⟩, -- PLY.LAST_RECOVERY_US
  ⟨0x2100, 0x2100, 0x08, 0x08, .u64, .ro, 0, .any⟩, -- PLY.MONO_MS
  ⟨0x2101, 0x2103, 0x00, 0x00, .u8, .const, 9, .any⟩, -- —
  ⟨0x2101, 0x2103, 0x01, 0x01, .u16, .ro, 1, .any⟩, -- STRAND.STATUS
  ⟨0x2101, 0x2103, 0x02, 0x02, .u32, .ro, 0, .any⟩, -- STRAND.FAULTS
  ⟨0x2101, 0x2103, 0x03, 0x03, .u8, .ro, 0, .any⟩, -- STRAND.FAULT_WINDOW
  ⟨0x2101, 0x2103, 0x04, 0x04, .u64, .ro, 0, .any⟩, -- STRAND.FAULT_OLDEST_MS
  ⟨0x2101, 0x2103, 0x05, 0x05, .u64, .ro, 0, .any⟩, -- STRAND.FAULT_NEWEST_MS
  ⟨0x2101, 0x2103, 0x06, 0x06, .u32, .ro, 0, .any⟩, -- STRAND.ECC_CORR
  ⟨0x2101, 0x2103, 0x07, 0x07, .u32, .ro, 0, .any⟩, -- STRAND.ECC_UNCORR
  ⟨0x2101, 0x2103, 0x08, 0x08, .u8, .ro, 0, .any⟩, -- STRAND.BIST_RESULT
  ⟨0x2101, 0x2103, 0x09, 0x09, .u32, .ro, 0, .any⟩, -- STRAND.AGREE_MINORITY
  ⟨0x2110, 0x2110, 0x00, 0x00, .u8, .const, 5, .any⟩, -- —
  ⟨0x2110, 0x2110, 0x01, 0x01, .u32, .ro, 0, .any⟩, -- VOTER.MISMATCHES
  ⟨0x2110, 0x2110, 0x02, 0x02, .u32, .ro, 0, .any⟩, -- VOTER.LAST_INFO
  ⟨0x2110, 0x2110, 0x03, 0x03, .u32, .ro, 0, .any⟩, -- VOTER.LAST_ADDR
  ⟨0x2110, 0x2110, 0x04, 0x04, .u64, .ro, 0, .any⟩, -- VOTER.LAST_TIME
  ⟨0x2110, 0x2110, 0x05, 0x05, .u64, .ro, 0, .any⟩, -- VOTER.LAST_TICK
  ⟨0x2120, 0x2120, 0x00, 0x00, .u8, .const, 4, .any⟩, -- —
  ⟨0x2120, 0x2120, 0x01, 0x01, .u64, .ro, 0, .any⟩, -- AGREE.COUNT
  ⟨0x2120, 0x2120, 0x02, 0x02, .u32, .ro, 0, .any⟩, -- AGREE.RETRIES
  ⟨0x2120, 0x2120, 0x03, 0x03, .u32, .ro, 0, .any⟩, -- AGREE.NOMAJ
  ⟨0x2120, 0x2120, 0x04, 0x04, .u8, .const, 8, .any⟩, -- AGREE.MINORITY_LIMIT
  ⟨0x2130, 0x2130, 0x00, 0x00, .u8, .const, 3, .any⟩, -- —
  ⟨0x2130, 0x2130, 0x01, 0x01, .u32, .ro, 0, .any⟩, -- SOV.STATUS
  ⟨0x2130, 0x2130, 0x02, 0x02, .u32, .ro, 0, .any⟩, -- SOV.FORCE_OFF_COUNT
  ⟨0x2130, 0x2130, 0x03, 0x03, .u32, .ro, 0, .any⟩, -- SOV.TOKEN_MISS
  ⟨0x2140, 0x2140, 0x00, 0x00, .u8, .const, 4, .any⟩, -- —
  ⟨0x2140, 0x2140, 0x01, 0x01, .bool, .rwc, 0, .nat 0 1 []⟩, -- PLY.DEBUG_EN
  ⟨0x2140, 0x2140, 0x02, 0x02, .u8, .rwc, 0, .nat 0 2 []⟩, -- PLY.DEBUG_LEAD
  ⟨0x2140, 0x2140, 0x03, 0x03, .u32, .ro, 0, .any⟩, -- PLY.DEBUG_SPLITS
  ⟨0x2140, 0x2140, 0x04, 0x04, .u8, .ro, 0, .any⟩, -- PLY.DEBUG_HALTED
  ⟨0x2150, 0x2150, 0x00, 0x00, .u8, .const, 3, .any⟩] -- —

/-- Entries of page 0x2100, part 1. -/
def odRows21_1 : List OdRow := [
  ⟨0x2150, 0x2150, 0x01, 0x01, .u8, .const, 3, .any⟩, -- PLY.FAULT_LIMIT
  ⟨0x2150, 0x2150, 0x02, 0x02, .u32, .const, 0x5265C00, .any⟩, -- PLY.FAULT_WINDOW_MS
  ⟨0x2150, 0x2150, 0x03, 0x03, .u16, .const, 6, .any⟩] -- PLY.BIST_MS

/-- Entries of page 0x2100. -/
def odRows21 : List OdRow := odRows21_0 ++ odRows21_1

/-- Entries of page 0x2200, part 0. -/
def odRows22_0 : List OdRow := [
  ⟨0x2200, 0x2200, 0x00, 0x00, .u8, .const, 8, .any⟩, -- —
  ⟨0x2200, 0x2200, 0x01, 0x01, .u32, .const, 0, .any⟩, -- SPIN.ENABLED
  ⟨0x2200, 0x2200, 0x02, 0x02, .u32, .ro, 0, .any⟩, -- SPIN.RETIRED
  ⟨0x2200, 0x2200, 0x03, 0x03, .u32, .ro, 0, .any⟩, -- SPIN.HALTED
  ⟨0x2200, 0x2200, 0x04, 0x04, .bool, .rwc, 0, .nat 0 1 []⟩, -- SPIN.DEBUG_EN
  ⟨0x2200, 0x2200, 0x05, 0x05, .u8, .const, 3, .any⟩, -- SPIN.FAULT_LIMIT
  ⟨0x2200, 0x2200, 0x06, 0x06, .u32, .const, 0x36EE80, .any⟩, -- SPIN.FAULT_WINDOW_MS
  ⟨0x2200, 0x2200, 0x07, 0x07, .u8, .ro, 0, .any⟩, -- SPIN.LOAD
  ⟨0x2200, 0x2200, 0x08, 0x08, .u64, .ro, 0, .any⟩, -- SPIN.HELD_TASKS
  ⟨0x2201, 0x2220, 0x00, 0x00, .u8, .const, 13, .any⟩, -- —
  ⟨0x2201, 0x2220, 0x01, 0x01, .u16, .ro, 1, .any⟩, -- SP.STATUS
  ⟨0x2201, 0x2220, 0x02, 0x02, .u8, .rws, 255, .nat 0 31 [255]⟩, -- SP.SPARE
  ⟨0x2201, 0x2220, 0x03, 0x03, .u8, .ro, 0, .any⟩, -- SP.PARTNER
  ⟨0x2201, 0x2220, 0x04, 0x04, .u32, .ro, 0, .any⟩, -- SP.FAULTS
  ⟨0x2201, 0x2220, 0x05, 0x05, .u8, .ro, 0, .any⟩, -- SP.FAULT_WINDOW
  ⟨0x2201, 0x2220, 0x06, 0x06, .u64, .ro, 0, .any⟩, -- SP.FAULT_OLDEST_MS
  ⟨0x2201, 0x2220, 0x07, 0x07, .u8, .ro, 0, .any⟩, -- SP.LAST_FAULT
  ⟨0x2201, 0x2220, 0x08, 0x08, .u64, .ro, 0, .any⟩, -- SP.JOBS
  ⟨0x2201, 0x2220, 0x09, 0x09, .u32, .ro, 0, .any⟩, -- SP.DRAFTS_TAKEN
  ⟨0x2201, 0x2220, 0x0A, 0x0A, .u32, .ro, 0, .any⟩, -- SP.DRAFTS_LOST
  ⟨0x2201, 0x2220, 0x0B, 0x0B, .u8, .ro, 0, .any⟩, -- SP.BUSY
  ⟨0x2201, 0x2220, 0x0C, 0x0C, .u8, .ro, 0, .any⟩, -- SP.BOBBIN_PEAK
  ⟨0x2201, 0x2220, 0x0D, 0x0D, .u32, .ro, 0, .any⟩, -- SP.ECC_CORR
  ⟨0x2230, 0x2230, 0x00, 0x00, .u8, .const, 5, .any⟩, -- —
  ⟨0x2230, 0x2230, 0x01, 0x01, .bool, .rws, 1, .nat 0 1 []⟩, -- DRAFT.ENABLE
  ⟨0x2230, 0x2230, 0x02, 0x02, .u64, .ro, 0, .any⟩, -- DRAFT.COUNT
  ⟨0x2230, 0x2230, 0x03, 0x03, .u64, .ro, 0, .any⟩, -- DRAFT.EMPTY
  ⟨0x2230, 0x2230, 0x04, 0x04, .u32, .ro, 0, .any⟩, -- DRAFT.PAIRS
  ⟨0x2230, 0x2230, 0x05, 0x05, .u16, .const, 64, .any⟩, -- DRAFT.PAIR_WAIT
  ⟨0x2240, 0x2240, 0x00, 0x00, .u8, .const, 5, .any⟩, -- —
  ⟨0x2240, 0x2240, 0x01, 0x01, .domain, .ro, 0, .any⟩, -- STAGE.BLOCK_MAP
  ⟨0x2240, 0x2240, 0x02, 0x02, .u32, .ro, 0, .any⟩, -- STAGE.FINAL_LAST
  ⟨0x2240, 0x2240, 0x03, 0x03, .u32, .ro, 0, .any⟩, -- STAGE.LATE
  ⟨0x2240, 0x2240, 0x04, 0x04, .u32, .ro, 0, .any⟩, -- STAGE.MULTI
  ⟨0x2240, 0x2240, 0x05, 0x05, .u32, .ro, 0, .any⟩, -- STAGE.OVERFLOW
  ⟨0x2250, 0x2250, 0x00, 0x00, .u8, .const, 10, .any⟩, -- —
  ⟨0x2250, 0x2250, 0x01, 0x01, .bool, .rws, 1, .nat 0 1 []⟩, -- RA.ENABLE
  ⟨0x2250, 0x2250, 0x02, 0x02, .u64, .ro, 0, .any⟩, -- RA.STARTED
  ⟨0x2250, 0x2250, 0x03, 0x03, .u64, .ro, 0, .any⟩, -- RA.CONFIRMED
  ⟨0x2250, 0x2250, 0x04, 0x04, .u64, .ro, 0, .any⟩] -- RA.DISCARDED

/-- Entries of page 0x2200, part 1. -/
def odRows22_1 : List OdRow := [
  ⟨0x2250, 0x2250, 0x05, 0x05, .u64, .ro, 0, .any⟩, -- RA.DISCARDED_DEP
  ⟨0x2250, 0x2250, 0x06, 0x06, .u64, .ro, 0, .any⟩, -- RA.STALLS
  ⟨0x2250, 0x2250, 0x07, 0x07, .u32, .ro, 0, .any⟩, -- RA.RO_BASE
  ⟨0x2250, 0x2250, 0x08, 0x08, .u32, .ro, 0, .any⟩, -- RA.RO_LIMIT
  ⟨0x2250, 0x2250, 0x09, 0x09, .u8, .ro, 0, .any⟩, -- RA.RECORDS_PEAK
  ⟨0x2250, 0x2250, 0x0A, 0x0A, .u16, .ro, 0, .any⟩, -- RA.CHECK_CYCLES
  ⟨0x2260, 0x2260, 0x00, 0x00, .u8, .const, 6, .any⟩, -- —
  ⟨0x2260, 0x2260, 0x01, 0x01, .u64, .ro, 0, .any⟩, -- PAIR.COMPARED
  ⟨0x2260, 0x2260, 0x02, 0x02, .u32, .ro, 0, .any⟩, -- PAIR.MISMATCH
  ⟨0x2260, 0x2260, 0x03, 0x03, .u32, .ro, 0, .any⟩, -- PAIR.RERUN_PASS
  ⟨0x2260, 0x2260, 0x04, 0x04, .u32, .ro, 0, .any⟩, -- PAIR.RERUN_FAIL
  ⟨0x2260, 0x2260, 0x05, 0x05, .u32, .ro, 0, .any⟩, -- PAIR.RERUN_SKIPPED
  ⟨0x2260, 0x2260, 0x06, 0x06, .u32, .ro, 0, .any⟩, -- PAIR.LAST_INFO
  ⟨0x2270, 0x2270, 0x00, 0x00, .u8, .const, 8, .any⟩, -- —
  ⟨0x2270, 0x2270, 0x01, 0x01, .u32, .ro, 0, .any⟩, -- CREEL.ECC_CORR
  ⟨0x2270, 0x2270, 0x02, 0x02, .u32, .ro, 0, .any⟩, -- CREEL.ECC_UNCORR
  ⟨0x2270, 0x2270, 0x03, 0x03, .u32, .ro, 0, .any⟩, -- CREEL.LAST_UNCORR_ADDR
  ⟨0x2270, 0x2270, 0x04, 0x04, .u16, .ro, 0, .any⟩, -- CREEL.WAIT_MAX
  ⟨0x2270, 0x2270, 0x05, 0x05, .u32, .ro, 0, .any⟩, -- CREEL.PROG_USED
  ⟨0x2270, 0x2270, 0x06, 0x06, .u32, .const, 0x107C0000, .any⟩, -- CREEL.PLY_BASE
  ⟨0x2270, 0x2270, 0x07, 0x07, .u32, .const, 0x40000, .any⟩, -- CREEL.PLY_SIZE
  ⟨0x2270, 0x2270, 0x08, 0x08, .u32, .ro, 0, .any⟩] -- CREEL.PLY_MIRROR_FIX

/-- Entries of page 0x2200. -/
def odRows22 : List OdRow := odRows22_0 ++ odRows22_1

/-- Entries of page 0x2300, part 0. -/
def odRows23_0 : List OdRow := [
  ⟨0x2300, 0x2300, 0x00, 0x00, .u8, .const, 9, .any⟩, -- —
  ⟨0x2300, 0x2300, 0x01, 0x01, .u16, .const, 0x1000, .any⟩, -- LOOP.SLOTS
  ⟨0x2300, 0x2300, 0x02, 0x02, .u16, .const, 0x100, .any⟩, -- LOOP.TABLES
  ⟨0x2300, 0x2300, 0x03, 0x03, .u16, .ro, 0, .any⟩, -- LOOP.IN_USE
  ⟨0x2300, 0x2300, 0x04, 0x04, .u8, .const, 90, .any⟩, -- LOOP.ADMIT_PCT
  ⟨0x2300, 0x2300, 0x05, 0x05, .u64, .ro, 0, .any⟩, -- LOOP.LATE_TOTAL
  ⟨0x2300, 0x2300, 0x06, 0x06, .u32, .ro, 0, .any⟩, -- LOOP.FAULT_TOTAL
  ⟨0x2300, 0x2300, 0x07, 0x07, .u16, .ro, 0, .any⟩, -- LOOP.APPLY_PENDING
  ⟨0x2300, 0x2300, 0x08, 0x08, .u16, .ro, 0, .any⟩, -- LOOP.VIEW_WORDS
  ⟨0x2300, 0x2300, 0x09, 0x09, .u8, .wo, 0, .nat 1 1 []⟩, -- LOOP.CLEAR_ALL
  ⟨0x2310, 0x2310, 0x00, 0x00, .u8, .const, 1, .any⟩, -- —
  ⟨0x2310, 0x2310, 0x01, 0x01, .domain, .rws, 0, .any⟩, -- LOOP.TABLE
  ⟨0x2311, 0x2311, 0x00, 0x00, .u8, .const, 1, .any⟩, -- —
  ⟨0x2311, 0x2311, 0x01, 0x01, .u16, .rw, 0, .nat 0 4095 []⟩, -- LOOP.SEL
  ⟨0x2312, 0x2312, 0x00, 0x00, .u8, .const, 32, .any⟩, -- —
  ⟨0x2312, 0x2312, 0x01, 0x01, .u32, .rws, 0, .any⟩, -- LOOP.W.CTRL
  ⟨0x2312, 0x2312, 0x02, 0x02, .u32, .rws, 0, .any⟩, -- LOOP.W.TAG
  ⟨0x2312, 0x2312, 0x03, 0x03, .u32, .rws, 0, .any⟩, -- LOOP.W.RATE
  ⟨0x2312, 0x2312, 0x04, 0x04, .u32, .rws, 0, .any⟩, -- LOOP.W.COMP
  ⟨0x2312, 0x2312, 0x05, 0x09, .u32, .rws, 0, .any⟩, -- LOOP.W.H_PV to LOOP.W.H_POS
  ⟨0x2312, 0x2312, 0x0A, 0x0A, .real32, .rw, 0, .any⟩, -- LOOP.W.OUT_HI
  ⟨0x2312, 0x2312, 0x0B, 0x0B, .real32, .rw, 0, .any⟩, -- LOOP.W.OUT_LO
  ⟨0x2312, 0x2312, 0x0C, 0x10, .real32, .rw, 0, .any⟩, -- LOOP.W.K1 to LOOP.W.K5
  ⟨0x2312, 0x2312, 0x11, 0x11, .real32, .rw, 0, .any⟩, -- LOOP.W.OUT
  ⟨0x2312, 0x2312, 0x12, 0x12, .u32, .ro, 0, .any⟩, -- LOOP.W.VIEW_INFO
  ⟨0x2312, 0x2312, 0x13, 0x13, .u32, .ro, 0, .any⟩, -- LOOP.W.STATUS
  ⟨0x2312, 0x2312, 0x14, 0x14, .u16, .ro, 0, .any⟩, -- LOOP.W.LATE_COUNT
  ⟨0x2312, 0x2312, 0x15, 0x15, .u16, .ro, 0, .any⟩, -- LOOP.W.FAULT_COUNT
  ⟨0x2312, 0x2312, 0x16, 0x1A, .real32, .ro, 0, .any⟩, -- LOOP.W.S1 to LOOP.W.S5
  ⟨0x2312, 0x2312, 0x1B, 0x1B, .real32, .ro, 0, .any⟩, -- LOOP.W.SP_HELD
  ⟨0x2312, 0x2312, 0x1C, 0x1C, .u32, .ro, 0, .any⟩, -- LOOP.W.TAKE_STAMP
  ⟨0x2312, 0x2312, 0x1D, 0x1D, .u32, .ro, 0, .any⟩, -- LOOP.W.POS_PREV
  ⟨0x2312, 0x2312, 0x1E, 0x1E, .real32, .ro, 0, .any⟩, -- LOOP.W.COMP_OUT
  ⟨0x2312, 0x2312, 0x1F, 0x1F, .u32, .ro, 0, .any⟩, -- LOOP.W.EXEC
  ⟨0x2312, 0x2312, 0x20, 0x20, .u8, .wo, 0, .nat 1 1 []⟩, -- LOOP.W.CLEAR
  ⟨0x2320, 0x2320, 0x00, 0x00, .u8, .const, 1, .any⟩, -- —
  ⟨0x2320, 0x2320, 0x01, 0x01, .domain, .rws, 0, .any⟩, -- COMP.TABLES
  ⟨0x2321, 0x2321, 0x00, 0x00, .u8, .const, 1, .any⟩, -- —
  ⟨0x2321, 0x2321, 0x01, 0x01, .u8, .rw, 0, .nat 0 255 []⟩, -- COMP.SEL
  ⟨0x2322, 0x2322, 0x00, 0x00, .u8, .const, 4, .any⟩] -- —

/-- Entries of page 0x2300, part 1. -/
def odRows23_1 : List OdRow := [
  ⟨0x2322, 0x2322, 0x01, 0x01, .domain, .rw, 0, .any⟩, -- COMP.DATA
  ⟨0x2322, 0x2322, 0x02, 0x02, .real32, .rw, 0x3F800000, .any⟩, -- COMP.SCALE
  ⟨0x2322, 0x2322, 0x03, 0x03, .real32, .rw, 0, .any⟩, -- COMP.OFFSET
  ⟨0x2322, 0x2322, 0x04, 0x04, .u8, .rw, 0, .nat 0 1 []⟩, -- COMP.MODE
  ⟨0x2330, 0x234F, 0x00, 0x00, .u8, .const, 9, .any⟩, -- —
  ⟨0x2330, 0x234F, 0x01, 0x01, .u16, .ro, 1, .any⟩, -- LU.STATUS
  ⟨0x2330, 0x234F, 0x02, 0x02, .u16, .ro, 0, .any⟩, -- LU.ENTRIES
  ⟨0x2330, 0x234F, 0x03, 0x03, .u32, .ro, 0, .any⟩, -- LU.WINDOW
  ⟨0x2330, 0x234F, 0x04, 0x04, .u16, .ro, 0, .any⟩, -- LU.DUE_MAX
  ⟨0x2330, 0x234F, 0x05, 0x05, .u8, .ro, 0, .any⟩, -- LU.LOAD_PCT
  ⟨0x2330, 0x234F, 0x06, 0x06, .u32, .ro, 0, .any⟩, -- LU.LAST_END
  ⟨0x2330, 0x234F, 0x07, 0x07, .u32, .ro, 0, .any⟩, -- LU.PEAK_END
  ⟨0x2330, 0x234F, 0x08, 0x08, .u32, .ro, 0, .any⟩, -- LU.WAIT_CYCLES
  ⟨0x2330, 0x234F, 0x09, 0x09, .u32, .ro, 0, .any⟩] -- LU.LATE

/-- Entries of page 0x2300. -/
def odRows23 : List OdRow := odRows23_0 ++ odRows23_1

/-- Entries of page 0x2500, part 0. -/
def odRows25_0 : List OdRow := [
  ⟨0x2500, 0x2500, 0x00, 0x00, .u8, .const, 6, .any⟩, -- —
  ⟨0x2500, 0x2500, 0x01, 0x01, .u8, .ro, 0, .any⟩, -- TASK.L1_DEFINED
  ⟨0x2500, 0x2500, 0x02, 0x02, .u8, .ro, 0, .any⟩, -- TASK.L0_DEFINED
  ⟨0x2500, 0x2500, 0x03, 0x03, .u32, .ro, 0, .any⟩, -- TASK.SKIPS_TOTAL
  ⟨0x2500, 0x2500, 0x04, 0x04, .u32, .ro, 0, .any⟩, -- TASK.DROPPED_TOTAL
  ⟨0x2500, 0x2500, 0x05, 0x05, .u16, .rws, 100, .nat 1 60000 []⟩, -- TASK.L0_WATCH_MS
  ⟨0x2500, 0x2500, 0x06, 0x06, .u64, .ro, 0, .any⟩, -- TASK.OPEN_MASK
  ⟨0x2501, 0x2540, 0x00, 0x00, .u8, .const, 17, .any⟩, -- —
  ⟨0x2501, 0x2540, 0x01, 0x01, .u32, .ro, 0, .any⟩, -- TASK.NAME_HASH
  ⟨0x2501, 0x2540, 0x02, 0x02, .u8, .ro, 0, .any⟩, -- TASK.KIND
  ⟨0x2501, 0x2540, 0x03, 0x03, .u16, .rws, 1, .nat 1 65535 []⟩, -- TASK.PERIOD
  ⟨0x2501, 0x2540, 0x04, 0x04, .u16, .rws, 0, .any⟩, -- TASK.OFFSET
  ⟨0x2501, 0x2540, 0x05, 0x05, .u8, .rws, 31, .nat 0 31 []⟩, -- TASK.PRIO
  ⟨0x2501, 0x2540, 0x06, 0x06, .u16, .rws, 0, .nat 0 511 []⟩, -- TASK.EVENT
  ⟨0x2501, 0x2540, 0x07, 0x07, .u16, .ro, 0, .any⟩, -- TASK.STATUS
  ⟨0x2501, 0x2540, 0x08, 0x08, .u64, .ro, 0, .any⟩, -- TASK.RELEASES
  ⟨0x2501, 0x2540, 0x09, 0x09, .u32, .ro, 0, .any⟩, -- TASK.SKIPS
  ⟨0x2501, 0x2540, 0x0A, 0x0A, .u32, .ro, 0, .any⟩, -- TASK.DROPPED
  ⟨0x2501, 0x2540, 0x0B, 0x0B, .u32, .ro, 0, .any⟩, -- TASK.DEADLINE_MISS
  ⟨0x2501, 0x2540, 0x0C, 0x0C, .u32, .ro, 0, .any⟩, -- TASK.EXEC_LAST
  ⟨0x2501, 0x2540, 0x0D, 0x0D, .u32, .ro, 0, .any⟩, -- TASK.EXEC_MAX
  ⟨0x2501, 0x2540, 0x0E, 0x0E, .u8, .rws, 0, .any⟩, -- TASK.SKIP_LIMIT
  ⟨0x2501, 0x2540, 0x0F, 0x0F, .u8, .ro, 0, .any⟩, -- TASK.CONSEC
  ⟨0x2501, 0x2540, 0x10, 0x10, .u32, .ro, 0, .any⟩, -- TASK.EV_MERGED
  ⟨0x2501, 0x2540, 0x11, 0x11, .u16, .ro, 0, .any⟩, -- TASK.NEXT
  ⟨0x2548, 0x254F, 0x00, 0x00, .u8, .const, 6, .any⟩, -- —
  ⟨0x2548, 0x254F, 0x01, 0x01, .u32, .ro, 0, .any⟩, -- L0.NAME_HASH
  ⟨0x2548, 0x254F, 0x02, 0x02, .u8, .ro, 0, .any⟩, -- L0.STATUS
  ⟨0x2548, 0x254F, 0x03, 0x03, .u64, .ro, 0, .any⟩, -- L0.CYCLES
  ⟨0x2548, 0x254F, 0x04, 0x04, .u32, .ro, 0, .any⟩, -- L0.CYCLE_LAST_US
  ⟨0x2548, 0x254F, 0x05, 0x05, .u32, .ro, 0, .any⟩, -- L0.CYCLE_MAX_US
  ⟨0x2548, 0x254F, 0x06, 0x06, .u32, .ro, 0, .any⟩, -- L0.WATCH_EXCEEDED
  ⟨0x2550, 0x2550, 0x00, 0x00, .u8, .const, 18, .any⟩, -- —
  ⟨0x2550, 0x2550, 0x01, 0x01, .u8, .ro, 0, .any⟩, -- PROG.ACTIVE_BANK
  ⟨0x2550, 0x2550, 0x02, 0x02, .u8, .ro, 0, .any⟩, -- PROG.STATE
  ⟨0x2550, 0x2550, 0x03, 0x03, .u8, .wo, 0, .nat 1 5 []⟩, -- PROG.CMD
  ⟨0x2550, 0x2550, 0x04, 0x04, .u64, .rw, 0, .any⟩, -- PROG.CHANGEOVER
  ⟨0x2550, 0x2550, 0x05, 0x05, .u16, .ro, 0, .any⟩, -- PROG.RESULT
  ⟨0x2550, 0x2550, 0x06, 0x06, .u32, .ro, 0, .any⟩, -- PROG.ACTIVE_ID
  ⟨0x2550, 0x2550, 0x07, 0x07, .u32, .ro, 0, .any⟩] -- PROG.INACTIVE_ID

/-- Entries of page 0x2500, part 1. -/
def odRows25_1 : List OdRow := [
  ⟨0x2550, 0x2550, 0x08, 0x08, .u32, .ro, 0, .any⟩, -- PROG.EXCH_COUNT
  ⟨0x2550, 0x2550, 0x09, 0x09, .u64, .ro, 0, .any⟩, -- PROG.LAST_CHANGEOVER
  ⟨0x2550, 0x2550, 0x0A, 0x0A, .u8, .rw, 16, .nat 1 255 []⟩, -- PROG.POSTPONE_MAX
  ⟨0x2550, 0x2550, 0x0B, 0x0B, .u8, .ro, 0, .any⟩, -- PROG.POSTPONED
  ⟨0x2550, 0x2550, 0x0C, 0x0C, .u32, .ro, 0, .any⟩, -- PROG.VAR_MATCHED
  ⟨0x2550, 0x2550, 0x0D, 0x0D, .u32, .ro, 0, .any⟩, -- PROG.VAR_NEW
  ⟨0x2550, 0x2550, 0x0E, 0x0E, .u32, .ro, 0, .any⟩, -- PROG.VAR_TYPE_CHANGED
  ⟨0x2550, 0x2550, 0x0F, 0x0F, .u32, .ro, 0, .any⟩, -- PROG.VAR_DROPPED
  ⟨0x2550, 0x2550, 0x10, 0x10, .u32, .ro, 0, .any⟩, -- PROG.XFER_BYTES
  ⟨0x2550, 0x2550, 0x11, 0x11, .u16, .rws, 0x3E8, .nat 100 60000 []⟩, -- PROG.RETAIN_PERIOD
  ⟨0x2550, 0x2550, 0x12, 0x12, .u32, .ro, 0, .any⟩, -- PROG.RETAIN_BYTES
  ⟨0x2551, 0x2551, 0x00, 0x00, .u8, .const, 1, .any⟩, -- —
  ⟨0x2551, 0x2551, 0x01, 0x01, .domain, .wo, 0, .any⟩, -- PROG.IMAGE
  ⟨0x2560, 0x2560, 0x00, 0x00, .u8, .const, 6, .any⟩, -- —
  ⟨0x2560, 0x2560, 0x01, 0x01, .domain, .ro, 0, .any⟩, -- PI.IN_MAP
  ⟨0x2560, 0x2560, 0x02, 0x02, .domain, .ro, 0, .any⟩, -- PI.OUT_MAP
  ⟨0x2560, 0x2560, 0x03, 0x03, .u16, .ro, 0, .any⟩, -- PI.IN_ENTRIES
  ⟨0x2560, 0x2560, 0x04, 0x04, .u16, .ro, 0, .any⟩, -- PI.OUT_ENTRIES
  ⟨0x2560, 0x2560, 0x05, 0x05, .u16, .ro, 0, .any⟩, -- PI.BAD_COUNT
  ⟨0x2560, 0x2560, 0x06, 0x06, .u16, .ro, 0, .any⟩, -- PI.UNCERTAIN_COUNT
  ⟨0x2570, 0x2570, 0x00, 0x00, .u8, .const, 6, .any⟩, -- —
  ⟨0x2570, 0x2570, 0x01, 0x01, .u8, .ro, 0, .any⟩, -- RIO.STATIONS
  ⟨0x2570, 0x2570, 0x02, 0x02, .u8, .rws, 2, .nat 1 16 []⟩, -- RIO.MISS_LIMIT
  ⟨0x2570, 0x2570, 0x03, 0x03, .u64, .ro, 0, .any⟩, -- RIO.ONLINE
  ⟨0x2570, 0x2570, 0x04, 0x04, .u64, .ro, 0, .any⟩, -- RIO.STALE
  ⟨0x2570, 0x2570, 0x05, 0x05, .u32, .ro, 0, .any⟩, -- RIO.OUT_DISCARDED
  ⟨0x2570, 0x2570, 0x06, 0x06, .u32, .ro, 0, .any⟩, -- RIO.SUPERSEDED
  ⟨0x2580, 0x2580, 0x00, 0x00, .u8, .const, 7, .any⟩, -- —
  ⟨0x2580, 0x2580, 0x01, 0x01, .u8, .rws, 255, .nat 0 63 [255]⟩, -- RSTA.NUMBER
  ⟨0x2580, 0x2580, 0x02, 0x02, .u8, .rws, 10, .nat 3 255 []⟩, -- RSTA.WATCHDOG
  ⟨0x2580, 0x2580, 0x03, 0x03, .u8, .ro, 0, .any⟩, -- RSTA.STATE
  ⟨0x2580, 0x2580, 0x04, 0x04, .u32, .ro, 0, .any⟩, -- RSTA.WD_EXPIRIES
  ⟨0x2580, 0x2580, 0x05, 0x05, .u32, .rws, 0, .any⟩, -- RSTA.CTRL_ID1
  ⟨0x2580, 0x2580, 0x06, 0x06, .u32, .rws, 0, .any⟩, -- RSTA.CTRL_ID2
  ⟨0x2580, 0x2580, 0x07, 0x07, .u64, .ro, 0, .any⟩, -- RSTA.OUT_LAST_TICK
  ⟨0x2581, 0x2581, 0x00, 0x00, .u8, .const, 48, .any⟩, -- —
  ⟨0x2581, 0x2581, 0x01, 0x30, .u8, .rws, 0, .nat 0 2 []⟩, -- RSTA.DIO_REACT
  ⟨0x2582, 0x2582, 0x00, 0x00, .u8, .const, 24, .any⟩, -- —
  ⟨0x2582, 0x2582, 0x01, 0x18, .u8, .rws, 0, .nat 0 2 []⟩, -- RSTA.UIO_REACT
  ⟨0x2583, 0x2583, 0x00, 0x00, .u8, .const, 24, .any⟩] -- —

/-- Entries of page 0x2500, part 2. -/
def odRows25_2 : List OdRow := [
  ⟨0x2583, 0x2583, 0x01, 0x18, .real32, .rws, 0, .any⟩] -- RSTA.UIO_SUBST

/-- Entries of page 0x2500. -/
def odRows25 : List OdRow := odRows25_0 ++ odRows25_1 ++ odRows25_2

/-- Entries of page 0x2600, part 0. -/
def odRows26_0 : List OdRow := [
  ⟨0x2600, 0x2600, 0x00, 0x00, .u8, .const, 4, .any⟩, -- —
  ⟨0x2600, 0x2600, 0x01, 0x01, .u8, .const, 48, .any⟩, -- DIO.CHANNELS
  ⟨0x2600, 0x2600, 0x02, 0x02, .u64, .ro, 0, .any⟩, -- DIO.FAULT_MASK
  ⟨0x2600, 0x2600, 0x03, 0x03, .u64, .ro, 0, .any⟩, -- DIO.STAGE_MASK
  ⟨0x2600, 0x2600, 0x04, 0x04, .u8, .rws, 16, .nat 1 255 []⟩, -- DIO.RETRY_MAX
  ⟨0x2601, 0x2601, 0x00, 0x00, .u8, .const, 48, .any⟩, -- —
  ⟨0x2601, 0x2601, 0x01, 0x30, .u32, .rws, 48, .any⟩, -- DIO.CFG
  ⟨0x2602, 0x2602, 0x00, 0x00, .u8, .const, 48, .any⟩, -- —
  ⟨0x2602, 0x2602, 0x01, 0x30, .real32, .rws, 0x41300000, .real 0x40400000 0x41D00000⟩, -- DIO.THR_ON
  ⟨0x2603, 0x2603, 0x00, 0x00, .u8, .const, 48, .any⟩, -- —
  ⟨0x2603, 0x2603, 0x01, 0x30, .real32, .rws, 0x3F800000, .real 0x3E4CCCCD 0x40A00000⟩, -- DIO.THR_HYST
  ⟨0x2604, 0x2604, 0x00, 0x00, .u8, .const, 48, .any⟩, -- —
  ⟨0x2604, 0x2604, 0x01, 0x30, .real32, .rws, 0x40200000, .real 0x3F000000 0x41200000⟩, -- DIO.SINK_MA
  ⟨0x2605, 0x2605, 0x00, 0x00, .u8, .const, 48, .any⟩, -- —
  ⟨0x2605, 0x2605, 0x01, 0x30, .u8, .rws, 0, .nat 2 255 [0]⟩, -- DIO.CHATTER_N
  ⟨0x2606, 0x2606, 0x00, 0x00, .u8, .const, 48, .any⟩, -- —
  ⟨0x2606, 0x2606, 0x01, 0x30, .u16, .rws, 0x3E8, .nat 10 60000 []⟩, -- DIO.CHATTER_WIN
  ⟨0x2607, 0x2607, 0x00, 0x00, .u8, .const, 48, .any⟩, -- —
  ⟨0x2607, 0x2607, 0x01, 0x30, .u16, .rws, 0, .any⟩, -- DIO.MAX_ON
  ⟨0x2608, 0x2608, 0x00, 0x00, .u8, .const, 48, .any⟩, -- —
  ⟨0x2608, 0x2608, 0x01, 0x30, .u32, .ro, 0, .any⟩, -- DIO.STATUS
  ⟨0x2609, 0x2609, 0x00, 0x00, .u8, .const, 48, .any⟩, -- —
  ⟨0x2609, 0x2609, 0x01, 0x30, .real32, .ro, 0, .any⟩, -- DIO.VOLTAGE
  ⟨0x260A, 0x260A, 0x00, 0x00, .u8, .const, 48, .any⟩, -- —
  ⟨0x260A, 0x260A, 0x01, 0x30, .real32, .ro, 0, .any⟩, -- DIO.CURRENT
  ⟨0x260B, 0x260B, 0x00, 0x00, .u8, .const, 48, .any⟩, -- —
  ⟨0x260B, 0x260B, 0x01, 0x30, .u32, .ro, 0, .any⟩, -- DIO.EDGES
  ⟨0x260C, 0x260C, 0x00, 0x00, .u8, .const, 48, .any⟩, -- —
  ⟨0x260C, 0x260C, 0x01, 0x30, .u64, .ro, 0, .any⟩, -- DIO.OUT_SWITCHES
  ⟨0x260D, 0x260D, 0x00, 0x00, .u8, .const, 48, .any⟩, -- —
  ⟨0x260D, 0x260D, 0x01, 0x30, .u64, .ro, 0, .any⟩, -- DIO.DEMAG_MJ
  ⟨0x260E, 0x260E, 0x00, 0x00, .u8, .const, 48, .any⟩, -- —
  ⟨0x260E, 0x260E, 0x01, 0x30, .u32, .ro, 0, .any⟩, -- DIO.THERM_CYCLES
  ⟨0x260F, 0x260F, 0x00, 0x00, .u8, .const, 48, .any⟩, -- —
  ⟨0x260F, 0x260F, 0x01, 0x30, .u32, .ro, 0, .any⟩, -- DIO.SHORTS
  ⟨0x2640, 0x2640, 0x00, 0x00, .u8, .const, 6, .any⟩, -- —
  ⟨0x2640, 0x2640, 0x01, 0x06, .real32, .ro, 0, .any⟩, -- FG.VOLTAGE
  ⟨0x2641, 0x2641, 0x00, 0x00, .u8, .const, 6, .any⟩, -- —
  ⟨0x2641, 0x2641, 0x01, 0x06, .real32, .ro, 0, .any⟩, -- FG.CURRENT
  ⟨0x2642, 0x2642, 0x00, 0x00, .u8, .const, 6, .any⟩] -- —

/-- Entries of page 0x2600, part 1. -/
def odRows26_1 : List OdRow := [
  ⟨0x2642, 0x2642, 0x01, 0x06, .u16, .ro, 4, .any⟩, -- FG.STATUS
  ⟨0x2643, 0x2643, 0x00, 0x00, .u8, .const, 6, .any⟩, -- —
  ⟨0x2643, 0x2643, 0x01, 0x06, .real32, .rws, 0x41900000, .real 0x41480000 0x41C00000⟩, -- FG.LOW_V
  ⟨0x2644, 0x2644, 0x00, 0x00, .u8, .const, 6, .any⟩, -- —
  ⟨0x2644, 0x2644, 0x01, 0x06, .u8, .rws, 0, .nat 0 1 []⟩, -- FG.RECOVERY
  ⟨0x2645, 0x2645, 0x00, 0x00, .u8, .const, 6, .any⟩, -- —
  ⟨0x2645, 0x2645, 0x01, 0x06, .u8, .wo, 0, .nat 1 1 []⟩, -- FG.ACK
  ⟨0x2646, 0x2646, 0x00, 0x00, .u8, .const, 6, .any⟩, -- —
  ⟨0x2646, 0x2646, 0x01, 0x06, .u8, .rws, 0, .nat 0 7 []⟩, -- FG.OUT_CG
  ⟨0x2647, 0x2647, 0x00, 0x00, .u8, .const, 6, .any⟩, -- —
  ⟨0x2647, 0x2647, 0x01, 0x06, .u32, .ro, 0, .any⟩, -- FG.CUTS
  ⟨0x2648, 0x2648, 0x00, 0x00, .u8, .const, 6, .any⟩, -- —
  ⟨0x2648, 0x2648, 0x01, 0x06, .u32, .ro, 0, .any⟩, -- FG.TRIPS
  ⟨0x2650, 0x2650, 0x00, 0x00, .u8, .const, 8, .any⟩, -- —
  ⟨0x2650, 0x2650, 0x01, 0x08, .u8, .rws, 0, .nat 0 5 []⟩, -- COUNT.MODE
  ⟨0x2651, 0x2651, 0x00, 0x00, .u8, .const, 8, .any⟩, -- —
  ⟨0x2651, 0x2651, 0x01, 0x08, .u8, .rws, 0, .nat 0 3 []⟩, -- COUNT.FILTER
  ⟨0x2652, 0x2652, 0x00, 0x00, .u8, .const, 8, .any⟩, -- —
  ⟨0x2652, 0x2652, 0x01, 0x08, .u32, .rws, 0, .any⟩, -- COUNT.MODULO
  ⟨0x2653, 0x2653, 0x00, 0x00, .u8, .const, 8, .any⟩, -- —
  ⟨0x2653, 0x2653, 0x01, 0x08, .i32, .rw, 0, .any⟩, -- COUNT.PRESET
  ⟨0x2654, 0x2654, 0x00, 0x00, .u8, .const, 8, .any⟩, -- —
  ⟨0x2654, 0x2654, 0x01, 0x08, .u8, .wo, 0, .nat 1 1 []⟩, -- COUNT.CMD
  ⟨0x2655, 0x2655, 0x00, 0x00, .u8, .const, 8, .any⟩, -- —
  ⟨0x2655, 0x2655, 0x01, 0x08, .u16, .ro, 0, .any⟩, -- COUNT.STATUS
  ⟨0x2656, 0x2656, 0x00, 0x00, .u8, .const, 8, .any⟩, -- —
  ⟨0x2656, 0x2656, 0x01, 0x08, .u32, .ro, 0, .any⟩, -- COUNT.ENC_ERRORS
  ⟨0x2660, 0x2660, 0x00, 0x00, .u8, .const, 8, .any⟩, -- —
  ⟨0x2660, 0x2660, 0x01, 0x08, .u8, .rwsc, 0, .nat 0 2 []⟩, -- TP.MODE
  ⟨0x2661, 0x2661, 0x00, 0x00, .u8, .const, 8, .any⟩, -- —
  ⟨0x2661, 0x2661, 0x01, 0x08, .u16, .ro, 0, .any⟩, -- TP.STATUS
  ⟨0x2662, 0x2662, 0x00, 0x00, .u8, .const, 8, .any⟩, -- —
  ⟨0x2662, 0x2662, 0x01, 0x08, .real32, .ro, 0, .any⟩, -- TP.CURRENT
  ⟨0x2663, 0x2663, 0x00, 0x00, .u8, .const, 8, .any⟩, -- —
  ⟨0x2663, 0x2663, 0x01, 0x08, .u32, .ro, 0, .any⟩, -- TP.FAULTS
  ⟨0x2670, 0x2670, 0x00, 0x00, .u8, .const, 3, .any⟩, -- —
  ⟨0x2670, 0x2670, 0x01, 0x01, .u8, .rwsc, 0, .nat 0 7 []⟩, -- SO.CG
  ⟨0x2670, 0x2670, 0x02, 0x02, .u16, .rwsc, 0x3E8, .nat 100 10000 []⟩, -- SO.DARK_PERIOD
  ⟨0x2670, 0x2670, 0x03, 0x03, .u8, .wo, 0, .nat 1 1 []⟩, -- SO.ACK
  ⟨0x2671, 0x2671, 0x00, 0x00, .u8, .const, 8, .any⟩] -- —

/-- Entries of page 0x2600, part 2. -/
def odRows26_2 : List OdRow := [
  ⟨0x2671, 0x2671, 0x01, 0x08, .u16, .ro, 0, .any⟩, -- SO.STATUS
  ⟨0x2672, 0x2672, 0x00, 0x00, .u8, .const, 8, .any⟩, -- —
  ⟨0x2672, 0x2672, 0x01, 0x08, .real32, .ro, 0, .any⟩, -- SO.CURRENT
  ⟨0x2673, 0x2673, 0x00, 0x00, .u8, .const, 8, .any⟩, -- —
  ⟨0x2673, 0x2673, 0x01, 0x08, .bool, .rwsc, 1, .nat 0 1 []⟩, -- SO.DARK_EN
  ⟨0x2674, 0x2674, 0x00, 0x00, .u8, .const, 8, .any⟩, -- —
  ⟨0x2674, 0x2674, 0x01, 0x08, .u32, .ro, 0, .any⟩, -- SO.FAULTS
  ⟨0x2675, 0x2675, 0x00, 0x00, .u8, .const, 8, .any⟩, -- —
  ⟨0x2675, 0x2675, 0x01, 0x08, .u64, .ro, 0, .any⟩] -- SO.SWITCHES

/-- Entries of page 0x2600. -/
def odRows26 : List OdRow := odRows26_0 ++ odRows26_1 ++ odRows26_2

/-- Entries of page 0x2700, part 0. -/
def odRows27_0 : List OdRow := [
  ⟨0x2700, 0x2700, 0x00, 0x00, .u8, .const, 5, .any⟩, -- —
  ⟨0x2700, 0x2700, 0x01, 0x01, .u8, .const, 24, .any⟩, -- UIO.CHANNELS
  ⟨0x2700, 0x2700, 0x02, 0x02, .u32, .ro, 0, .any⟩, -- UIO.FAULT_MASK
  ⟨0x2700, 0x2700, 0x03, 0x03, .real32, .ro, 0, .any⟩, -- UIO.CJ_EXT_TEMP
  ⟨0x2700, 0x2700, 0x04, 0x04, .u8, .ro, 0, .any⟩, -- UIO.CJ_EXT_STATUS
  ⟨0x2700, 0x2700, 0x05, 0x05, .u32, .ro, 0, .any⟩, -- UIO.HART_ACTIVE
  ⟨0x2701, 0x2701, 0x00, 0x00, .u8, .const, 24, .any⟩, -- —
  ⟨0x2701, 0x2701, 0x01, 0x18, .u32, .rws, 0, .any⟩, -- UIO.CFG
  ⟨0x2702, 0x2702, 0x00, 0x00, .u8, .const, 24, .any⟩, -- —
  ⟨0x2702, 0x2702, 0x01, 0x18, .real32, .rws, 0x40800000, .any⟩, -- UIO.PHYS_LO
  ⟨0x2703, 0x2703, 0x00, 0x00, .u8, .const, 24, .any⟩, -- —
  ⟨0x2703, 0x2703, 0x01, 0x18, .real32, .rws, 0x41A00000, .any⟩, -- UIO.PHYS_HI
  ⟨0x2704, 0x2704, 0x00, 0x00, .u8, .const, 24, .any⟩, -- —
  ⟨0x2704, 0x2704, 0x01, 0x18, .real32, .rws, 0, .any⟩, -- UIO.EU_LO
  ⟨0x2705, 0x2705, 0x00, 0x00, .u8, .const, 24, .any⟩, -- —
  ⟨0x2705, 0x2705, 0x01, 0x18, .real32, .rws, 0x42C80000, .any⟩, -- UIO.EU_HI
  ⟨0x2706, 0x2706, 0x00, 0x00, .u8, .const, 24, .any⟩, -- —
  ⟨0x2706, 0x2706, 0x01, 0x18, .real32, .rws, 0x3F800000, .real 0x00000000 0x41200000⟩, -- UIO.SQRT_CUT
  ⟨0x2707, 0x2707, 0x00, 0x00, .u8, .const, 24, .any⟩, -- —
  ⟨0x2707, 0x2707, 0x01, 0x18, .domain, .rws, 0, .any⟩, -- UIO.CHAR_TABLE
  ⟨0x2708, 0x2708, 0x00, 0x00, .u8, .const, 24, .any⟩, -- —
  ⟨0x2708, 0x2708, 0x01, 0x18, .u16, .rws, 50, .nat 10 10 [50, 60, 100, 250, 500, 1000]⟩, -- UIO.SD_RATE
  ⟨0x2709, 0x2709, 0x00, 0x00, .u8, .const, 24, .any⟩, -- —
  ⟨0x2709, 0x2709, 0x01, 0x18, .u16, .rws, 0, .nat 0 10000 []⟩, -- UIO.FILTER_MS
  ⟨0x270A, 0x270A, 0x00, 0x00, .u8, .const, 24, .any⟩, -- —
  ⟨0x270A, 0x270A, 0x01, 0x18, .real32, .rws, 0x40666666, .real 0x40400000 0x40733333⟩, -- UIO.ALARM_LO
  ⟨0x270B, 0x270B, 0x00, 0x00, .u8, .const, 24, .any⟩, -- —
  ⟨0x270B, 0x270B, 0x01, 0x18, .real32, .rws, 0x41A80000, .real 0x41A40000 0x41B80000⟩, -- UIO.ALARM_HI
  ⟨0x270C, 0x270C, 0x00, 0x00, .u8, .const, 24, .any⟩, -- —
  ⟨0x270C, 0x270C, 0x01, 0x18, .u8, .rws, 0, .nat 0 3 []⟩, -- UIO.CJ_SRC
  ⟨0x270D, 0x270D, 0x00, 0x00, .u8, .const, 24, .any⟩, -- —
  ⟨0x270D, 0x270D, 0x01, 0x18, .real32, .rws, 0x41C80000, .real 0xC2480000 0x42C80000⟩, -- UIO.CJ_FIXED
  ⟨0x270E, 0x270E, 0x00, 0x00, .u8, .const, 24, .any⟩, -- —
  ⟨0x270E, 0x270E, 0x01, 0x18, .u8, .rws, 255, .nat 0 23 [255]⟩, -- UIO.CJ_CHAN
  ⟨0x270F, 0x270F, 0x00, 0x00, .u8, .const, 24, .any⟩, -- —
  ⟨0x270F, 0x270F, 0x01, 0x18, .real32, .rws, 0, .real 0x00000000 0x42480000⟩, -- UIO.LEAD_OHM
  ⟨0x2710, 0x2710, 0x00, 0x00, .u8, .const, 24, .any⟩, -- —
  ⟨0x2710, 0x2710, 0x01, 0x18, .u32, .ro, 0, .any⟩, -- UIO.STATUS
  ⟨0x2711, 0x2711, 0x00, 0x00, .u8, .const, 24, .any⟩, -- —
  ⟨0x2711, 0x2711, 0x01, 0x18, .real32, .ro, 0, .any⟩] -- UIO.RAW

/-- Entries of page 0x2700, part 1. -/
def odRows27_1 : List OdRow := [
  ⟨0x2712, 0x2712, 0x00, 0x00, .u8, .const, 24, .any⟩, -- —
  ⟨0x2712, 0x2712, 0x01, 0x18, .real32, .ro, 0, .any⟩, -- UIO.HEADROOM
  ⟨0x2713, 0x2713, 0x00, 0x00, .u8, .const, 24, .any⟩, -- —
  ⟨0x2713, 0x2713, 0x01, 0x18, .real32, .ro, 0, .any⟩, -- UIO.SUPPLY_V
  ⟨0x2714, 0x2714, 0x00, 0x00, .u8, .const, 24, .any⟩, -- —
  ⟨0x2714, 0x2714, 0x01, 0x18, .real32, .ro, 0, .any⟩, -- UIO.TJ
  ⟨0x2715, 0x2715, 0x00, 0x00, .u8, .const, 24, .any⟩, -- —
  ⟨0x2715, 0x2715, 0x01, 0x18, .u8, .wo, 0, .nat 1 1 []⟩, -- UIO.ACK
  ⟨0x2716, 0x2716, 0x00, 0x00, .u8, .const, 24, .any⟩, -- —
  ⟨0x2716, 0x2716, 0x01, 0x18, .u32, .ro, 0, .any⟩, -- UIO.FAILS
  ⟨0x2717, 0x2717, 0x00, 0x00, .u8, .const, 24, .any⟩, -- —
  ⟨0x2717, 0x2717, 0x01, 0x18, .u32, .ro, 0, .any⟩, -- UIO.THERM_CYCLES
  ⟨0x2718, 0x2718, 0x00, 0x00, .u8, .const, 24, .any⟩, -- —
  ⟨0x2718, 0x2718, 0x01, 0x18, .u64, .ro, 0, .any⟩, -- UIO.DISSIP_J
  ⟨0x2740, 0x2740, 0x00, 0x00, .u8, .const, 3, .any⟩, -- —
  ⟨0x2740, 0x2740, 0x01, 0x03, .u8, .rws, 0, .nat 0 7 []⟩, -- UG.OUT_CG
  ⟨0x2741, 0x2741, 0x00, 0x00, .u8, .const, 3, .any⟩, -- —
  ⟨0x2741, 0x2741, 0x01, 0x03, .u16, .ro, 0, .any⟩, -- UG.STATUS
  ⟨0x2742, 0x2742, 0x00, 0x00, .u8, .const, 3, .any⟩, -- —
  ⟨0x2742, 0x2742, 0x01, 0x03, .real32, .ro, 0, .any⟩, -- UG.POWER
  ⟨0x2760, 0x2777, 0x00, 0x00, .u8, .const, 15, .any⟩, -- —
  ⟨0x2760, 0x2777, 0x01, 0x01, .u8, .rw, 0, .nat 0 1 []⟩, -- HART.MASTER
  ⟨0x2760, 0x2777, 0x02, 0x02, .u8, .rw, 0, .nat 0 63 []⟩, -- HART.POLL_ADDR
  ⟨0x2760, 0x2777, 0x03, 0x03, .bool, .rw, 1, .nat 0 1 []⟩, -- HART.AUTO_ID
  ⟨0x2760, 0x2777, 0x04, 0x04, .u64, .rw, 0, .mask 0xFFFFFFFFFF⟩, -- HART.UNIQUE_ID
  ⟨0x2760, 0x2777, 0x05, 0x05, .u8, .rw, 5, .nat 5 20 []⟩, -- HART.PREAMBLES
  ⟨0x2760, 0x2777, 0x06, 0x06, .u8, .rw, 3, .nat 0 7 []⟩, -- HART.RETRY_MAX
  ⟨0x2760, 0x2777, 0x07, 0x07, .domain, .wo, 0, .any⟩, -- HART.REQ
  ⟨0x2760, 0x2777, 0x08, 0x08, .domain, .ro, 0, .any⟩, -- HART.RSP
  ⟨0x2760, 0x2777, 0x09, 0x09, .u8, .ro, 0, .any⟩, -- HART.STATE
  ⟨0x2760, 0x2777, 0x0A, 0x0A, .u8, .ro, 0, .any⟩, -- HART.DEV_STATUS
  ⟨0x2760, 0x2777, 0x0B, 0x0B, .domain, .ro, 0, .any⟩, -- HART.BURST
  ⟨0x2760, 0x2777, 0x0C, 0x0C, .u32, .ro, 0, .any⟩, -- HART.BURST_COUNT
  ⟨0x2760, 0x2777, 0x0D, 0x0D, .u32, .ro, 0, .any⟩, -- HART.TRANSACTIONS
  ⟨0x2760, 0x2777, 0x0E, 0x0E, .u32, .ro, 0, .any⟩, -- HART.ERRORS
  ⟨0x2760, 0x2777, 0x0F, 0x0F, .u8, .wo, 0, .nat 1 1 []⟩] -- HART.CANCEL

/-- Entries of page 0x2700. -/
def odRows27 : List OdRow := odRows27_0 ++ odRows27_1

/-- Entries of page 0x2800, part 0. -/
def odRows28_0 : List OdRow := [
  ⟨0x2800, 0x2800, 0x00, 0x00, .u8, .const, 8, .any⟩, -- —
  ⟨0x2800, 0x2800, 0x01, 0x01, .u16, .ro, 2, .any⟩, -- SAFE.STATE
  ⟨0x2800, 0x2800, 0x02, 0x02, .u32, .ro, 0, .any⟩, -- SAFE.CFG_CRC
  ⟨0x2800, 0x2800, 0x03, 0x03, .u32, .rwsc, 0, .any⟩, -- SAFE.CFG_REF
  ⟨0x2800, 0x2800, 0x04, 0x04, .u32, .ro, 0, .any⟩, -- SAFE.SIN_LO
  ⟨0x2800, 0x2800, 0x05, 0x05, .u32, .ro, 0, .any⟩, -- SAFE.SIN_HI
  ⟨0x2800, 0x2800, 0x06, 0x06, .u8, .ro, 0, .any⟩, -- SAFE.SO_REQ
  ⟨0x2800, 0x2800, 0x07, 0x07, .u8, .ro, 0, .any⟩, -- SAFE.SOCMD
  ⟨0x2800, 0x2800, 0x08, 0x08, .u32, .ro, 0, .any⟩, -- SAFE.STBY_DIFF
  ⟨0x2810, 0x2810, 0x00, 0x00, .u8, .const, 24, .any⟩, -- —
  ⟨0x2810, 0x2810, 0x01, 0x18, .u8, .rwsc, 0, .any⟩, -- SIN.TYPE
  ⟨0x2811, 0x2811, 0x00, 0x00, .u8, .const, 24, .any⟩, -- —
  ⟨0x2811, 0x2811, 0x01, 0x18, .u16, .rwsc, 100, .nat 10 5000 []⟩, -- SIN.DISC_MS
  ⟨0x2812, 0x2812, 0x00, 0x00, .u8, .const, 24, .any⟩, -- —
  ⟨0x2812, 0x2812, 0x01, 0x18, .u16, .ro, 0, .any⟩, -- SIN.STATUS
  ⟨0x2813, 0x2813, 0x00, 0x00, .u8, .const, 24, .any⟩, -- —
  ⟨0x2813, 0x2813, 0x01, 0x18, .u32, .ro, 0, .any⟩, -- SIN.FAULTS
  ⟨0x2814, 0x2814, 0x00, 0x00, .u8, .const, 24, .any⟩, -- —
  ⟨0x2814, 0x2814, 0x01, 0x18, .u32, .ro, 0, .any⟩, -- SIN.PULSE_FAILS
  ⟨0x2820, 0x2820, 0x00, 0x00, .u8, .const, 16, .any⟩, -- —
  ⟨0x2820, 0x2820, 0x01, 0x10, .u8, .rwsc, 0, .nat 0 2 []⟩, -- SF.TYPE
  ⟨0x2821, 0x2821, 0x00, 0x00, .u8, .const, 16, .any⟩, -- —
  ⟨0x2821, 0x2821, 0x01, 0x10, .u32, .rwsc, 0, .mask 0xFFFFFF⟩, -- SF.INPUTS
  ⟨0x2822, 0x2822, 0x00, 0x00, .u8, .const, 16, .any⟩, -- —
  ⟨0x2822, 0x2822, 0x01, 0x10, .u32, .rwsc, 0, .any⟩, -- SF.SCRIM_IN
  ⟨0x2823, 0x2823, 0x00, 0x00, .u8, .const, 16, .any⟩, -- —
  ⟨0x2823, 0x2823, 0x01, 0x10, .u8, .rwsc, 0, .any⟩, -- SF.OUTPUTS
  ⟨0x2824, 0x2824, 0x00, 0x00, .u8, .const, 16, .any⟩, -- —
  ⟨0x2824, 0x2824, 0x01, 0x10, .u8, .rwsc, 255, .nat 0 3 [255]⟩, -- SF.AXIS
  ⟨0x2825, 0x2825, 0x00, 0x00, .u8, .const, 16, .any⟩, -- —
  ⟨0x2825, 0x2825, 0x01, 0x10, .u8, .rwsc, 1, .nat 0 1 []⟩, -- SF.RESTART
  ⟨0x2826, 0x2826, 0x00, 0x00, .u8, .const, 16, .any⟩, -- —
  ⟨0x2826, 0x2826, 0x01, 0x10, .u8, .rwsc, 255, .nat 0 47 [255]⟩, -- SF.RESET_CH
  ⟨0x2827, 0x2827, 0x00, 0x00, .u8, .const, 16, .any⟩, -- —
  ⟨0x2827, 0x2827, 0x01, 0x10, .u8, .ro, 0, .any⟩, -- SF.STATE
  ⟨0x2828, 0x2828, 0x00, 0x00, .u8, .const, 16, .any⟩, -- —
  ⟨0x2828, 0x2828, 0x01, 0x10, .u32, .ro, 0, .any⟩, -- SF.DEMANDS
  ⟨0x2830, 0x2830, 0x00, 0x00, .u8, .const, 4, .any⟩, -- —
  ⟨0x2830, 0x2830, 0x01, 0x04, .u8, .rwsc, 255, .nat 0 7 [255]⟩, -- AXIS.CNT
  ⟨0x2831, 0x2831, 0x00, 0x00, .u8, .const, 4, .any⟩] -- —

/-- Entries of page 0x2800, part 1. -/
def odRows28_1 : List OdRow := [
  ⟨0x2831, 0x2831, 0x01, 0x04, .real32, .rwsc, 0x3F800000, .any⟩, -- AXIS.ENC_SCALE
  ⟨0x2832, 0x2832, 0x00, 0x00, .u8, .const, 4, .any⟩, -- —
  ⟨0x2832, 0x2832, 0x01, 0x04, .u16, .rwsc, 16, .nat 1 4096 []⟩, -- AXIS.SPEED_WIN
  ⟨0x2833, 0x2833, 0x00, 0x00, .u8, .const, 4, .any⟩, -- —
  ⟨0x2833, 0x2833, 0x01, 0x04, .u8, .rwsc, 255, .nat 0 15 [255]⟩, -- AXIS.DRV_CONN
  ⟨0x2834, 0x2834, 0x00, 0x00, .u8, .const, 4, .any⟩, -- —
  ⟨0x2834, 0x2834, 0x01, 0x04, .u8, .rwsc, 0, .any⟩, -- AXIS.DRV_OFS
  ⟨0x2835, 0x2835, 0x00, 0x00, .u8, .const, 4, .any⟩, -- —
  ⟨0x2835, 0x2835, 0x01, 0x04, .real32, .rwsc, 0x41200000, .positive⟩, -- AXIS.DECEL
  ⟨0x2836, 0x2836, 0x00, 0x00, .u8, .const, 4, .any⟩, -- —
  ⟨0x2836, 0x2836, 0x01, 0x04, .real32, .rwsc, 0x40A00000, .nonneg⟩, -- AXIS.RAMP_TOL
  ⟨0x2837, 0x2837, 0x00, 0x00, .u8, .const, 4, .any⟩, -- —
  ⟨0x2837, 0x2837, 0x01, 0x04, .u32, .rwsc, 0x2710, .nat 100 600000 []⟩, -- AXIS.RAMP_MAX_MS
  ⟨0x2838, 0x2838, 0x00, 0x00, .u8, .const, 4, .any⟩, -- —
  ⟨0x2838, 0x2838, 0x01, 0x04, .real32, .rwsc, 0x40000000, .positive⟩, -- AXIS.STILL
  ⟨0x2839, 0x2839, 0x00, 0x00, .u8, .const, 4, .any⟩, -- —
  ⟨0x2839, 0x2839, 0x01, 0x04, .u16, .rwsc, 200, .nat 10 10000 []⟩, -- AXIS.STILL_MS
  ⟨0x283A, 0x283A, 0x00, 0x00, .u8, .const, 4, .any⟩, -- —
  ⟨0x283A, 0x283A, 0x01, 0x04, .real32, .rwsc, 0x40A00000, .positive⟩, -- AXIS.SRC_TOL
  ⟨0x283B, 0x283B, 0x00, 0x00, .u8, .const, 4, .any⟩, -- —
  ⟨0x283B, 0x283B, 0x01, 0x04, .u16, .rwsc, 100, .nat 10 5000 []⟩, -- AXIS.SRC_TOL_MS
  ⟨0x283C, 0x283C, 0x00, 0x00, .u8, .const, 4, .any⟩, -- —
  ⟨0x283C, 0x283C, 0x01, 0x04, .real32, .ro, 0, .any⟩, -- AXIS.SPEED_A
  ⟨0x283D, 0x283D, 0x00, 0x00, .u8, .const, 4, .any⟩, -- —
  ⟨0x283D, 0x283D, 0x01, 0x04, .real32, .ro, 0, .any⟩, -- AXIS.SPEED_B
  ⟨0x283E, 0x283E, 0x00, 0x00, .u8, .const, 4, .any⟩, -- —
  ⟨0x283E, 0x283E, 0x01, 0x04, .u16, .ro, 0, .any⟩, -- AXIS.STATUS
  ⟨0x2840, 0x284F, 0x00, 0x00, .u8, .const, 21, .any⟩, -- —
  ⟨0x2840, 0x284F, 0x01, 0x01, .u8, .rwsc, 0, .nat 0 2 []⟩, -- SCRIM.DIR
  ⟨0x2840, 0x284F, 0x02, 0x02, .u16, .rwsc, 0, .any⟩, -- SCRIM.CONN_ID
  ⟨0x2840, 0x284F, 0x03, 0x03, .u32, .rwsc, 0, .any⟩, -- SCRIM.PEER1
  ⟨0x2840, 0x284F, 0x04, 0x04, .u32, .rwsc, 0, .any⟩, -- SCRIM.PEER2
  ⟨0x2840, 0x284F, 0x05, 0x05, .u8, .rwsc, 8, .nat 1 32 []⟩, -- SCRIM.LEN
  ⟨0x2840, 0x284F, 0x06, 0x06, .u16, .rwsc, 1, .nat 1 1024 []⟩, -- SCRIM.CYCLE
  ⟨0x2840, 0x284F, 0x07, 0x07, .u8, .rwsc, 0, .nat 0 7 []⟩, -- SCRIM.TX_CG
  ⟨0x2840, 0x284F, 0x08, 0x08, .u16, .rwsc, 20, .nat 1 10000 []⟩, -- SCRIM.WD_MS
  ⟨0x2840, 0x284F, 0x09, 0x09, .u8, .rwsc, 2, .nat 0 16 []⟩, -- SCRIM.SINGLE_MAX
  ⟨0x2840, 0x284F, 0x0A, 0x0A, .u16, .rwsc, 0x1F4, .nat 20 5000 []⟩, -- SCRIM.SKEW_US
  ⟨0x2840, 0x284F, 0x0B, 0x0B, .u32, .rwsc, 0, .nat 10 1000000 [0]⟩, -- SCRIM.MAX_AGE_US
  ⟨0x2840, 0x284F, 0x0C, 0x0C, .u8, .ro, 0, .any⟩] -- SCRIM.STATE

/-- Entries of page 0x2800, part 2. -/
def odRows28_2 : List OdRow := [
  ⟨0x2840, 0x284F, 0x0D, 0x0D, .u32, .ro, 0, .any⟩, -- SCRIM.SEQ
  ⟨0x2840, 0x284F, 0x0E, 0x0E, .u64, .ro, 0, .any⟩, -- SCRIM.ACCEPT2
  ⟨0x2840, 0x284F, 0x0F, 0x0F, .u32, .ro, 0, .any⟩, -- SCRIM.ACCEPT1
  ⟨0x2840, 0x284F, 0x10, 0x10, .u32, .ro, 0, .any⟩, -- SCRIM.DISAGREE
  ⟨0x2840, 0x284F, 0x11, 0x11, .u32, .ro, 0, .any⟩, -- SCRIM.INVALID_A
  ⟨0x2840, 0x284F, 0x12, 0x12, .u32, .ro, 0, .any⟩, -- SCRIM.INVALID_B
  ⟨0x2840, 0x284F, 0x13, 0x13, .u32, .ro, 0, .any⟩, -- SCRIM.REJECTED
  ⟨0x2840, 0x284F, 0x14, 0x14, .u32, .ro, 0, .any⟩, -- SCRIM.TIMEOUTS
  ⟨0x2840, 0x284F, 0x15, 0x15, .domain, .ro, 0, .any⟩, -- SCRIM.DATA
  ⟨0x2860, 0x2860, 0x00, 0x00, .u8, .const, 8, .any⟩, -- —
  ⟨0x2860, 0x2860, 0x01, 0x08, .u16, .rwsc, 0xFFFF, .any⟩, -- RSO.SRC
  ⟨0x2861, 0x2861, 0x00, 0x00, .u8, .const, 8, .any⟩, -- —
  ⟨0x2861, 0x2861, 0x01, 0x08, .u8, .ro, 0, .any⟩] -- RSO.STATE

/-- Entries of page 0x2800. -/
def odRows28 : List OdRow := odRows28_0 ++ odRows28_1 ++ odRows28_2

/-- Entries of page 0x2900, part 0. -/
def odRows29_0 : List OdRow := [
  ⟨0x2900, 0x2900, 0x00, 0x00, .u8, .const, 15, .any⟩, -- —
  ⟨0x2900, 0x2900, 0x01, 0x01, .bool, .rwsc, 0, .nat 0 1 []⟩, -- PAIR.ENABLE
  ⟨0x2900, 0x2900, 0x02, 0x02, .u8, .rwsc, 0, .nat 0 1 []⟩, -- PAIR.UNIT
  ⟨0x2900, 0x2900, 0x03, 0x03, .u32, .rwsc, 0, .any⟩, -- PAIR.PAIR_ID
  ⟨0x2900, 0x2900, 0x04, 0x04, .u32, .rwsc, 0, .any⟩, -- PAIR.PARTNER_ID
  ⟨0x2900, 0x2900, 0x05, 0x05, .u32, .rwsc, 0, .any⟩, -- PAIR.WITNESS_ID
  ⟨0x2900, 0x2900, 0x06, 0x06, .u16, .rwsc, 0x1388, .nat 1000 60000 []⟩, -- PAIR.START_WAIT_MS
  ⟨0x2900, 0x2900, 0x07, 0x07, .u32, .rwsc, 0xE10, .nat 60 86400 [0]⟩, -- PAIR.RETURN_HOLD_S
  ⟨0x2900, 0x2900, 0x08, 0x08, .u16, .rws, 10, .nat 1 100 []⟩, -- PAIR.HB_MS
  ⟨0x2900, 0x2900, 0x09, 0x09, .u16, .rws, 100, .any⟩, -- PAIR.WIT_LOSS_MS
  ⟨0x2900, 0x2900, 0x0A, 0x0A, .u16, .rws, 100, .nat 1 10000 []⟩, -- PAIR.RECORD_WAIT_MS
  ⟨0x2900, 0x2900, 0x0B, 0x0B, .u8, .rws, 3, .nat 1 16 []⟩, -- PAIR.RESYNC_LIMIT
  ⟨0x2900, 0x2900, 0x0C, 0x0C, .u16, .rws, 16, .nat 1 10000 []⟩, -- PAIR.CMP_TICKS
  ⟨0x2900, 0x2900, 0x0D, 0x0D, .real32, .rws, 0x3F000000, .real 0x3D4CCCCD 0x41200000⟩, -- PAIR.CMP_UIO_TOL
  ⟨0x2900, 0x2900, 0x0E, 0x0E, .u64, .rws, 0, .any⟩, -- PAIR.CMP_DIO
  ⟨0x2900, 0x2900, 0x0F, 0x0F, .u32, .rws, 0, .any⟩, -- PAIR.CMP_UIO
  ⟨0x2910, 0x2910, 0x00, 0x00, .u8, .const, 18, .any⟩, -- —
  ⟨0x2910, 0x2910, 0x01, 0x01, .u8, .ro, 0, .any⟩, -- PAIR.ROLE
  ⟨0x2910, 0x2910, 0x02, 0x02, .u16, .ro, 0, .any⟩, -- PAIR.STATUS
  ⟨0x2910, 0x2910, 0x03, 0x03, .u32, .ro, 0, .any⟩, -- PAIR.PARTNER_WORD
  ⟨0x2910, 0x2910, 0x04, 0x04, .u32, .ro, 0, .any⟩, -- PAIR.WITNESS_WORD
  ⟨0x2910, 0x2910, 0x05, 0x05, .u32, .ro, 0x100, .any⟩, -- PAIR.HEALTH
  ⟨0x2910, 0x2910, 0x06, 0x06, .u32, .ro, 0, .any⟩, -- PAIR.PARTNER_HEALTH
  ⟨0x2910, 0x2910, 0x07, 0x07, .u64, .ro, 0, .any⟩, -- PAIR.STEP
  ⟨0x2910, 0x2910, 0x08, 0x08, .u32, .ro, 0, .any⟩, -- PAIR.HASH
  ⟨0x2910, 0x2910, 0x09, 0x09, .u32, .ro, 0, .any⟩, -- PAIR.HASH_PARTNER
  ⟨0x2910, 0x2910, 0x0A, 0x0A, .u32, .ro, 0, .any⟩, -- PAIR.REC_BYTES
  ⟨0x2910, 0x2910, 0x0B, 0x0B, .u32, .ro, 0, .any⟩, -- PAIR.REC_LIMIT
  ⟨0x2910, 0x2910, 0x0C, 0x0C, .i32, .ro, 0, .any⟩, -- PAIR.TIME_DIFF
  ⟨0x2910, 0x2910, 0x0D, 0x0D, .u32, .ro, 0, .any⟩, -- PAIR.RETURN_LEFT_S
  ⟨0x2910, 0x2910, 0x0E, 0x0E, .u8, .ro, 0, .any⟩, -- PAIR.SYNC_PCT
  ⟨0x2910, 0x2910, 0x0F, 0x0F, .u64, .ro, 0, .any⟩, -- PAIR.DIFF_DIO
  ⟨0x2910, 0x2910, 0x10, 0x10, .u32, .ro, 0, .any⟩, -- PAIR.DIFF_UIO
  ⟨0x2910, 0x2910, 0x11, 0x11, .u8, .ro, 0, .any⟩, -- PAIR.REFUSE_REASON
  ⟨0x2910, 0x2910, 0x12, 0x12, .u32, .ro, 0, .any⟩, -- PAIR.CFG_HASH
  ⟨0x2920, 0x2920, 0x00, 0x00, .u8, .const, 10, .any⟩, -- —
  ⟨0x2920, 0x2920, 0x01, 0x01, .u32, .ro, 0, .any⟩, -- PAIR.TAKEOVERS_LOSS
  ⟨0x2920, 0x2920, 0x02, 0x02, .u32, .ro, 0, .any⟩, -- PAIR.HANDOVERS
  ⟨0x2920, 0x2920, 0x03, 0x03, .u32, .ro, 0, .any⟩, -- PAIR.HASH_MISMATCH
  ⟨0x2920, 0x2920, 0x04, 0x04, .u32, .ro, 0, .any⟩] -- PAIR.RESYNCS

/-- Entries of page 0x2900, part 1. -/
def odRows29_1 : List OdRow := [
  ⟨0x2920, 0x2920, 0x05, 0x05, .u32, .ro, 0, .any⟩, -- PAIR.RECORDS_MISSED
  ⟨0x2920, 0x2920, 0x06, 0x06, .u32, .ro, 0, .any⟩, -- PAIR.LAST_GAP_NS
  ⟨0x2920, 0x2920, 0x07, 0x07, .u32, .ro, 0, .any⟩, -- PAIR.TIEBREAKS
  ⟨0x2920, 0x2920, 0x08, 0x08, .u32, .ro, 0, .any⟩, -- PAIR.ORDERS_IGNORED
  ⟨0x2920, 0x2920, 0x09, 0x09, .u32, .ro, 0, .any⟩, -- PAIR.LANE_ERRORS
  ⟨0x2920, 0x2920, 0x0A, 0x0A, .u32, .ro, 0, .any⟩, -- PAIR.AGREE_UNKNOWN
  ⟨0x2930, 0x2930, 0x00, 0x00, .u8, .const, 1, .any⟩, -- —
  ⟨0x2930, 0x2930, 0x01, 0x01, .u8, .wo, 0, .nat 1 3 []⟩, -- PAIR.CMD
  ⟨0x2980, 0x2980, 0x00, 0x00, .u8, .const, 6, .any⟩, -- —
  ⟨0x2980, 0x2980, 0x01, 0x01, .bool, .rwsc, 0, .nat 0 1 []⟩, -- WIT.ENABLE
  ⟨0x2980, 0x2980, 0x02, 0x02, .u16, .rws, 10, .nat 1 100 []⟩, -- WIT.HB_MS
  ⟨0x2980, 0x2980, 0x03, 0x03, .u16, .rwsc, 50, .any⟩, -- WIT.LOSS_MS
  ⟨0x2980, 0x2980, 0x04, 0x04, .u16, .rwsc, 0x7D0, .nat 100 60000 []⟩, -- WIT.JUDGE_MS
  ⟨0x2980, 0x2980, 0x05, 0x05, .u16, .rwsc, 20, .nat 5 1000 []⟩, -- WIT.ORDER_LEAD_MS
  ⟨0x2980, 0x2980, 0x06, 0x06, .u8, .ro, 0, .any⟩, -- WIT.PAIRS
  ⟨0x2981, 0x2988, 0x00, 0x00, .u8, .const, 9, .any⟩, -- —
  ⟨0x2981, 0x2988, 0x01, 0x01, .u32, .rwsc, 0, .any⟩, -- WIT.P.PAIR_ID
  ⟨0x2981, 0x2988, 0x02, 0x02, .u32, .rwsc, 0, .any⟩, -- WIT.P.ID_PRIMARY
  ⟨0x2981, 0x2988, 0x03, 0x03, .u32, .rwsc, 0, .any⟩, -- WIT.P.ID_SECONDARY
  ⟨0x2981, 0x2988, 0x04, 0x04, .u8, .ro, 0, .any⟩, -- WIT.P.STATE
  ⟨0x2981, 0x2988, 0x05, 0x05, .u32, .ro, 0, .any⟩, -- WIT.P.ACTIVE_ID
  ⟨0x2981, 0x2988, 0x06, 0x06, .u32, .ro, 0, .any⟩, -- WIT.P.HEALTH_PRIMARY
  ⟨0x2981, 0x2988, 0x07, 0x07, .u32, .ro, 0, .any⟩, -- WIT.P.HEALTH_SECONDARY
  ⟨0x2981, 0x2988, 0x08, 0x08, .u32, .ro, 0, .any⟩, -- WIT.P.ORDERS
  ⟨0x2981, 0x2988, 0x09, 0x09, .u64, .ro, 0, .any⟩] -- WIT.P.LAST_AT

/-- Entries of page 0x2900. -/
def odRows29 : List OdRow := odRows29_0 ++ odRows29_1

/-- Entries of page 0x2A00, part 0. -/
def odRows2A_0 : List OdRow := [
  ⟨0x2A00, 0x2A00, 0x00, 0x00, .u8, .const, 8, .any⟩, -- —
  ⟨0x2A00, 0x2A00, 0x01, 0x01, .u16, .rws, 0x88B5, .any⟩, -- NET.ETHERTYPE
  ⟨0x2A00, 0x2A00, 0x02, 0x02, .u64, .rws, 0x30000001000, .mask 0xFFFFFFFFFFFF⟩, -- NET.GROUP_MAC
  ⟨0x2A00, 0x2A00, 0x03, 0x03, .u16, .rws, 0, .nat 0 4094 []⟩, -- NET.VLAN
  ⟨0x2A00, 0x2A00, 0x04, 0x04, .u32, .rws, 0x1194, .nat 0 100000 []⟩, -- NET.RIO_SLOT_NS
  ⟨0x2A00, 0x2A00, 0x05, 0x05, .u8, .ro, 0, .any⟩, -- NET.DS_SESSIONS
  ⟨0x2A00, 0x2A00, 0x06, 0x06, .u16, .rwsc, 0xC423, .any⟩, -- NET.DS_PORT
  ⟨0x2A00, 0x2A00, 0x07, 0x07, .bool, .rwsc, 0, .nat 0 1 []⟩, -- NET.DS_PLAIN
  ⟨0x2A00, 0x2A00, 0x08, 0x08, .u8, .ro, 0, .any⟩, -- NET.LINK_LOST_MASK
  ⟨0x2A01, 0x2A02, 0x00, 0x00, .u8, .const, 11, .any⟩, -- —
  ⟨0x2A01, 0x2A02, 0x01, 0x01, .u64, .const, 0, .any⟩, -- NET.MAC
  ⟨0x2A01, 0x2A02, 0x02, 0x02, .u16, .ro, 16, .any⟩, -- NET.STATUS
  ⟨0x2A01, 0x2A02, 0x03, 0x03, .bool, .rws, 0, .nat 0 1 []⟩, -- NET.MRP_EN
  ⟨0x2A01, 0x2A02, 0x04, 0x04, .u32, .rws, 0, .any⟩, -- NET.IP_ADDR
  ⟨0x2A01, 0x2A02, 0x05, 0x05, .u32, .rws, 0xFFFFFF00, .any⟩, -- NET.IP_MASK
  ⟨0x2A01, 0x2A02, 0x06, 0x06, .u32, .rws, 0, .any⟩, -- NET.IP_GW
  ⟨0x2A01, 0x2A02, 0x07, 0x07, .u64, .ro, 0, .any⟩, -- NET.RX_FRAMES
  ⟨0x2A01, 0x2A02, 0x08, 0x08, .u64, .ro, 0, .any⟩, -- NET.TX_FRAMES
  ⟨0x2A01, 0x2A02, 0x09, 0x09, .u32, .ro, 0, .any⟩, -- NET.RX_ERRORS
  ⟨0x2A01, 0x2A02, 0x0A, 0x0A, .u32, .ro, 0, .any⟩, -- NET.DROPPED
  ⟨0x2A01, 0x2A02, 0x0B, 0x0B, .u32, .ro, 0, .any⟩, -- NET.LINK_LOSSES
  ⟨0x2A10, 0x2A10, 0x00, 0x00, .u8, .const, 2, .any⟩, -- —
  ⟨0x2A10, 0x2A10, 0x01, 0x01, .u8, .ro, 0, .any⟩, -- PTP.FOLLOWED
  ⟨0x2A10, 0x2A10, 0x02, 0x02, .u32, .ro, 0, .any⟩, -- PTP.MOVES
  ⟨0x2A11, 0x2A12, 0x00, 0x00, .u8, .const, 19, .any⟩, -- —
  ⟨0x2A11, 0x2A12, 0x01, 0x01, .bool, .rws, 1, .nat 0 1 []⟩, -- PTP.ENABLE
  ⟨0x2A11, 0x2A12, 0x02, 0x02, .u8, .rws, 0, .nat 0 127 []⟩, -- PTP.DOMAIN
  ⟨0x2A11, 0x2A12, 0x03, 0x03, .u8, .rws, 0, .nat 0 1 []⟩, -- PTP.DELAY_MECH
  ⟨0x2A11, 0x2A12, 0x04, 0x04, .u8, .rws, 0, .nat 0 1 []⟩, -- PTP.TRANSPORT
  ⟨0x2A11, 0x2A12, 0x05, 0x05, .u8, .rws, 0, .nat 0 1 []⟩, -- PTP.MODE
  ⟨0x2A11, 0x2A12, 0x06, 0x06, .u8, .rws, 128, .any⟩, -- PTP.PRIORITY1
  ⟨0x2A11, 0x2A12, 0x07, 0x07, .u8, .rws, 128, .any⟩, -- PTP.PRIORITY2
  ⟨0x2A11, 0x2A12, 0x08, 0x08, .i8, .rws, 253, .int (-7) 1⟩, -- PTP.LOG_SYNC
  ⟨0x2A11, 0x2A12, 0x09, 0x09, .i8, .rws, 1, .int (-3) 4⟩, -- PTP.LOG_ANNOUNCE
  ⟨0x2A11, 0x2A12, 0x0A, 0x0A, .i8, .rws, 0, .int (-4) 5⟩, -- PTP.LOG_DELAY
  ⟨0x2A11, 0x2A12, 0x0B, 0x0B, .i32, .rws, 0, .any⟩, -- PTP.ASYM_NS
  ⟨0x2A11, 0x2A12, 0x0C, 0x0C, .u32, .rws, 0x2710, .any⟩, -- PTP.DELAY_MAX_NS
  ⟨0x2A11, 0x2A12, 0x0D, 0x0D, .u8, .ro, 1, .any⟩, -- PTP.PORT_STATE
  ⟨0x2A11, 0x2A12, 0x0E, 0x0E, .u32, .ro, 0, .any⟩, -- PTP.MEAN_DELAY
  ⟨0x2A11, 0x2A12, 0x0F, 0x0F, .u64, .ro, 0, .any⟩] -- PTP.GM_ID

/-- Entries of page 0x2A00, part 1. -/
def odRows2A_1 : List OdRow := [
  ⟨0x2A11, 0x2A12, 0x10, 0x10, .u8, .ro, 0, .any⟩, -- PTP.GM_CLASS
  ⟨0x2A11, 0x2A12, 0x11, 0x11, .u32, .ro, 0, .any⟩, -- PTP.VALID
  ⟨0x2A11, 0x2A12, 0x12, 0x12, .u32, .ro, 0, .any⟩, -- PTP.INVALID
  ⟨0x2A11, 0x2A12, 0x13, 0x13, .u64, .ro, 0, .any⟩, -- PTP.TC_FORWARDED
  ⟨0x2A18, 0x2A18, 0x00, 0x00, .u8, .const, 4, .any⟩, -- —
  ⟨0x2A18, 0x2A18, 0x01, 0x01, .u16, .const, 0x158, .any⟩, -- PHY.RX_1000
  ⟨0x2A18, 0x2A18, 0x02, 0x02, .u16, .const, 216, .any⟩, -- PHY.TX_1000
  ⟨0x2A18, 0x2A18, 0x03, 0x03, .u16, .const, 0x126, .any⟩, -- PHY.RX_100
  ⟨0x2A18, 0x2A18, 0x04, 0x04, .u16, .const, 168, .any⟩, -- PHY.TX_100
  ⟨0x2A20, 0x2A20, 0x00, 0x00, .u8, .const, 7, .any⟩, -- —
  ⟨0x2A20, 0x2A20, 0x01, 0x01, .u8, .const, 64, .any⟩, -- LQ.DEPTH
  ⟨0x2A20, 0x2A20, 0x02, 0x02, .u8, .ro, 0, .any⟩, -- LQ.PEAK_A
  ⟨0x2A20, 0x2A20, 0x03, 0x03, .u8, .ro, 0, .any⟩, -- LQ.PEAK_B
  ⟨0x2A20, 0x2A20, 0x04, 0x04, .u32, .ro, 0, .any⟩, -- LQ.LATE
  ⟨0x2A20, 0x2A20, 0x05, 0x05, .u32, .ro, 0, .any⟩, -- LQ.DELAYED
  ⟨0x2A20, 0x2A20, 0x06, 0x06, .u32, .ro, 0, .any⟩, -- LQ.FULL
  ⟨0x2A20, 0x2A20, 0x07, 0x07, .u32, .ro, 0, .any⟩, -- LQ.LINKDOWN
  ⟨0x2A30, 0x2A30, 0x00, 0x00, .u8, .const, 4, .any⟩, -- —
  ⟨0x2A30, 0x2A30, 0x01, 0x01, .domain, .rws, 0, .any⟩, -- FRAME.TX_TABLE
  ⟨0x2A30, 0x2A30, 0x02, 0x02, .domain, .rws, 0, .any⟩, -- FRAME.RX_TABLE
  ⟨0x2A30, 0x2A30, 0x03, 0x03, .u8, .ro, 0, .any⟩, -- FRAME.TX_USED
  ⟨0x2A30, 0x2A30, 0x04, 0x04, .u8, .ro, 0, .any⟩, -- FRAME.RX_USED
  ⟨0x2A31, 0x2A31, 0x00, 0x00, .u8, .const, 128, .any⟩, -- —
  ⟨0x2A31, 0x2A31, 0x01, 0x80, .u16, .ro, 0, .any⟩, -- FRAME.TX_STATUS
  ⟨0x2A32, 0x2A32, 0x00, 0x00, .u8, .const, 128, .any⟩, -- —
  ⟨0x2A32, 0x2A32, 0x01, 0x80, .u16, .ro, 0, .any⟩, -- FRAME.RX_STATUS
  ⟨0x2A33, 0x2A33, 0x00, 0x00, .u8, .const, 128, .any⟩, -- —
  ⟨0x2A33, 0x2A33, 0x01, 0x80, .u16, .ro, 0, .any⟩] -- FRAME.RX_AGE

/-- Entries of page 0x2A00. -/
def odRows2A : List OdRow := odRows2A_0 ++ odRows2A_1

/-- Entries of page 0x2B00, part 0. -/
def odRows2B_0 : List OdRow := [
  ⟨0x2B00, 0x2B00, 0x00, 0x00, .u8, .const, 3, .any⟩, -- —
  ⟨0x2B00, 0x2B00, 0x01, 0x01, .u8, .const, 4, .any⟩, -- CAN.CONTROLLERS
  ⟨0x2B00, 0x2B00, 0x02, 0x02, .u32, .const, 0x5F5E100, .any⟩, -- CAN.CLOCK_HZ
  ⟨0x2B00, 0x2B00, 0x03, 0x03, .u32, .ro, 0, .any⟩, -- CAN.LATE
  ⟨0x2B01, 0x2B04, 0x00, 0x00, .u8, .const, 25, .any⟩, -- —
  ⟨0x2B01, 0x2B04, 0x01, 0x01, .u8, .rws, 0, .nat 0 2 []⟩, -- CAN.MODE
  ⟨0x2B01, 0x2B04, 0x02, 0x02, .u32, .rws, 0x4E264C01, .any⟩, -- CAN.NBT
  ⟨0x2B01, 0x2B04, 0x03, 0x03, .u32, .rws, 0x12441481, .any⟩, -- CAN.DBT
  ⟨0x2B01, 0x2B04, 0x04, 0x04, .bool, .rws, 0, .nat 0 1 []⟩, -- CAN.TERM
  ⟨0x2B01, 0x2B04, 0x05, 0x05, .u8, .rws, 0, .nat 0 127 []⟩, -- CAN.NODE_ID
  ⟨0x2B01, 0x2B04, 0x06, 0x06, .u8, .rws, 0, .nat 0 1 []⟩, -- CAN.TX_ORDER
  ⟨0x2B01, 0x2B04, 0x07, 0x07, .u8, .rws, 16, .any⟩, -- CAN.NOACK_LIMIT
  ⟨0x2B01, 0x2B04, 0x08, 0x08, .bool, .rws, 1, .nat 0 1 []⟩, -- CAN.NOACK_SS
  ⟨0x2B01, 0x2B04, 0x09, 0x09, .bool, .rws, 1, .nat 0 1 []⟩, -- CAN.BUSOFF_AUTO
  ⟨0x2B01, 0x2B04, 0x0A, 0x0A, .u16, .ro, 0, .any⟩, -- CAN.STATUS
  ⟨0x2B01, 0x2B04, 0x0B, 0x0B, .u8, .ro, 0, .any⟩, -- CAN.TEC
  ⟨0x2B01, 0x2B04, 0x0C, 0x0C, .u8, .ro, 0, .any⟩, -- CAN.REC
  ⟨0x2B01, 0x2B04, 0x0D, 0x0D, .u8, .wo, 0, .nat 1 3 []⟩, -- CAN.CMD
  ⟨0x2B01, 0x2B04, 0x0E, 0x0E, .u8, .rws, 0, .nat 0 3 []⟩, -- CAN.WAKE_MODE
  ⟨0x2B01, 0x2B04, 0x0F, 0x0F, .u32, .rws, 0, .mask 0x9FFFFFFF⟩, -- CAN.WAKE_ID
  ⟨0x2B01, 0x2B04, 0x10, 0x10, .u32, .rws, 0x1FFFFFFF, .any⟩, -- CAN.WAKE_MASK
  ⟨0x2B01, 0x2B04, 0x11, 0x11, .u64, .rws, 0, .any⟩, -- CAN.WAKE_DATA
  ⟨0x2B01, 0x2B04, 0x12, 0x12, .u64, .rws, 0, .any⟩, -- CAN.WAKE_DMASK
  ⟨0x2B01, 0x2B04, 0x13, 0x13, .u64, .ro, 0, .any⟩, -- CAN.TX_FRAMES
  ⟨0x2B01, 0x2B04, 0x14, 0x14, .u64, .ro, 0, .any⟩, -- CAN.RX_FRAMES
  ⟨0x2B01, 0x2B04, 0x15, 0x15, .u32, .ro, 0, .any⟩, -- CAN.ERRORS
  ⟨0x2B01, 0x2B04, 0x16, 0x16, .u8, .ro, 0, .any⟩, -- CAN.LAST_ERR
  ⟨0x2B01, 0x2B04, 0x17, 0x17, .u32, .ro, 0, .any⟩, -- CAN.BUSOFFS
  ⟨0x2B01, 0x2B04, 0x18, 0x18, .u32, .ro, 0, .any⟩, -- CAN.WAKES
  ⟨0x2B01, 0x2B04, 0x19, 0x19, .u32, .ro, 0, .any⟩, -- CAN.SLEEP_SKIPPED
  ⟨0x2B05, 0x2B05, 0x00, 0x00, .u8, .const, 4, .any⟩, -- —
  ⟨0x2B05, 0x2B05, 0x01, 0x04, .u32, .ro, 0, .any⟩, -- CAN.LAST_WAKE_ID
  ⟨0x2B08, 0x2B0B, 0x00, 0x00, .u8, .const, 12, .any⟩, -- —
  ⟨0x2B08, 0x2B0B, 0x01, 0x01, .u8, .rws, 0, .nat 0 2 []⟩, -- TT.ROLE
  ⟨0x2B08, 0x2B0B, 0x02, 0x02, .u16, .rws, 0, .mask 0x7FF⟩, -- TT.REF_ID
  ⟨0x2B08, 0x2B0B, 0x03, 0x03, .u16, .rws, 16, .nat 1 1024 []⟩, -- TT.CYCLE_TICKS
  ⟨0x2B08, 0x2B0B, 0x04, 0x04, .u8, .rws, 1, .nat 1 2 [4, 8, 16, 32, 64]⟩, -- TT.MATRIX_CYCLES
  ⟨0x2B08, 0x2B0B, 0x05, 0x05, .u32, .rws, 0, .any⟩, -- TT.REF_OFS_NS
  ⟨0x2B08, 0x2B0B, 0x06, 0x06, .u8, .rws, 3, .nat 1 16 []⟩, -- TT.LOSS_LIMIT
  ⟨0x2B08, 0x2B0B, 0x07, 0x07, .u8, .ro, 0, .any⟩] -- TT.STATE

/-- Entries of page 0x2B00, part 1. -/
def odRows2B_1 : List OdRow := [
  ⟨0x2B08, 0x2B0B, 0x08, 0x08, .u8, .ro, 0, .any⟩, -- TT.CYCLE_COUNT
  ⟨0x2B08, 0x2B0B, 0x09, 0x09, .u32, .ro, 0, .any⟩, -- TT.REF_SENT
  ⟨0x2B08, 0x2B0B, 0x0A, 0x0A, .u32, .ro, 0, .any⟩, -- TT.REF_MISSED
  ⟨0x2B08, 0x2B0B, 0x0B, 0x0B, .u32, .ro, 0, .any⟩, -- TT.REF_DELAY_MAX_NS
  ⟨0x2B08, 0x2B0B, 0x0C, 0x0C, .u64, .ro, 0, .any⟩, -- TT.REF_STAMP
  ⟨0x2B10, 0x2B10, 0x00, 0x00, .u8, .const, 4, .any⟩, -- —
  ⟨0x2B10, 0x2B10, 0x01, 0x04, .domain, .rws, 0, .any⟩, -- CAN.TX_TABLE
  ⟨0x2B11, 0x2B11, 0x00, 0x00, .u8, .const, 12, .any⟩, -- —
  ⟨0x2B11, 0x2B11, 0x01, 0x0C, .u16, .ro, 0, .any⟩, -- CAN.TXB_STATUS
  ⟨0x2B12, 0x2B12, 0x00, 0x00, .u8, .const, 12, .any⟩, -- —
  ⟨0x2B12, 0x2B12, 0x01, 0x0C, .u8, .wo, 0, .nat 1 1 []⟩, -- CAN.TXB_CMD
  ⟨0x2B13, 0x2B13, 0x00, 0x00, .u8, .const, 12, .any⟩, -- —
  ⟨0x2B13, 0x2B13, 0x01, 0x0C, .u32, .ro, 0, .any⟩, -- CAN.TXB_SENT
  ⟨0x2B14, 0x2B14, 0x00, 0x00, .u8, .const, 12, .any⟩, -- —
  ⟨0x2B14, 0x2B14, 0x01, 0x0C, .u32, .ro, 0, .any⟩, -- CAN.TXB_REPLACED
  ⟨0x2B20, 0x2B20, 0x00, 0x00, .u8, .const, 4, .any⟩, -- —
  ⟨0x2B20, 0x2B20, 0x01, 0x04, .domain, .rws, 0, .any⟩, -- CAN.RX_FILTERS
  ⟨0x2B21, 0x2B21, 0x00, 0x00, .u8, .const, 128, .any⟩, -- —
  ⟨0x2B21, 0x2B21, 0x01, 0x80, .u16, .ro, 0, .any⟩, -- CAN.RXO_STATUS
  ⟨0x2B22, 0x2B22, 0x00, 0x00, .u8, .const, 128, .any⟩, -- —
  ⟨0x2B22, 0x2B22, 0x01, 0x80, .u16, .ro, 0, .any⟩, -- CAN.RXO_AGE
  ⟨0x2B30, 0x2B30, 0x00, 0x00, .u8, .const, 16, .any⟩, -- —
  ⟨0x2B30, 0x2B30, 0x01, 0x10, .domain, .ro, 0, .any⟩, -- CAN.Q_HEAD
  ⟨0x2B31, 0x2B31, 0x00, 0x00, .u8, .const, 16, .any⟩, -- —
  ⟨0x2B31, 0x2B31, 0x01, 0x10, .u8, .wo, 0, .any⟩, -- CAN.Q_ACK
  ⟨0x2B32, 0x2B32, 0x00, 0x00, .u8, .const, 16, .any⟩, -- —
  ⟨0x2B32, 0x2B32, 0x01, 0x10, .u8, .ro, 0, .any⟩, -- CAN.Q_COUNT
  ⟨0x2B33, 0x2B33, 0x00, 0x00, .u8, .const, 16, .any⟩, -- —
  ⟨0x2B33, 0x2B33, 0x01, 0x10, .u32, .ro, 0, .any⟩, -- CAN.Q_DROPPED
  ⟨0x2B34, 0x2B34, 0x00, 0x00, .u8, .const, 16, .any⟩, -- —
  ⟨0x2B34, 0x2B34, 0x01, 0x10, .u8, .rws, 0, .nat 0 2 []⟩, -- CAN.Q_READER
  ⟨0x2B35, 0x2B35, 0x00, 0x00, .u8, .const, 16, .any⟩, -- —
  ⟨0x2B35, 0x2B35, 0x01, 0x10, .u8, .ro, 0, .any⟩] -- CAN.Q_PEAK

/-- Entries of page 0x2B00. -/
def odRows2B : List OdRow := odRows2B_0 ++ odRows2B_1

/-- Entries of page 0x2C00, part 0. -/
def odRows2C_0 : List OdRow := [
  ⟨0x2C00, 0x2C00, 0x00, 0x00, .u8, .const, 7, .any⟩, -- —
  ⟨0x2C00, 0x2C00, 0x01, 0x01, .u16, .const, 0x200, .any⟩, -- EV.SOURCES
  ⟨0x2C00, 0x2C00, 0x02, 0x02, .u8, .const, 33, .any⟩, -- EV.TARGETS
  ⟨0x2C00, 0x2C00, 0x03, 0x03, .u8, .rws, 5, .nat 1 7 []⟩, -- EV.SKEIN_SEV
  ⟨0x2C00, 0x2C00, 0x04, 0x04, .u64, .ro, 0, .any⟩, -- EV.OFFERS
  ⟨0x2C00, 0x2C00, 0x05, 0x05, .u32, .ro, 0, .any⟩, -- EV.MERGED
  ⟨0x2C00, 0x2C00, 0x06, 0x06, .u32, .ro, 0, .any⟩, -- EV.FALLBACKS
  ⟨0x2C00, 0x2C00, 0x07, 0x07, .u32, .ro, 0, .any⟩, -- EV.REFUSED_RAISES
  ⟨0x2C10, 0x2C13, 0x00, 0x00, .u8, .const, 128, .any⟩, -- —
  ⟨0x2C10, 0x2C13, 0x01, 0x80, .u32, .rws, 0x1FF0, .any⟩, -- EV.S.CFG
  ⟨0x2C14, 0x2C17, 0x00, 0x00, .u8, .const, 128, .any⟩, -- —
  ⟨0x2C14, 0x2C17, 0x01, 0x80, .u32, .rw, 1, .any⟩, -- EV.S.CTRL
  ⟨0x2C18, 0x2C1B, 0x00, 0x00, .u8, .const, 128, .any⟩, -- —
  ⟨0x2C18, 0x2C1B, 0x01, 0x80, .u16, .ro, 0, .any⟩, -- EV.S.STATUS
  ⟨0x2C1C, 0x2C1F, 0x00, 0x00, .u8, .const, 128, .any⟩, -- —
  ⟨0x2C1C, 0x2C1F, 0x01, 0x80, .u32, .ro, 0, .any⟩, -- EV.S.COUNT
  ⟨0x2C40, 0x2C40, 0x00, 0x00, .u8, .const, 33, .any⟩, -- —
  ⟨0x2C40, 0x2C40, 0x01, 0x21, .u8, .rw, 16, .nat 0 16 []⟩, -- EV.T.THRESH
  ⟨0x2C41, 0x2C41, 0x00, 0x00, .u8, .const, 33, .any⟩, -- —
  ⟨0x2C41, 0x2C41, 0x01, 0x21, .u8, .rws, 0, .nat 0 32 []⟩, -- EV.T.FALLBACK
  ⟨0x2C42, 0x2C42, 0x00, 0x00, .u8, .const, 33, .any⟩, -- —
  ⟨0x2C42, 0x2C42, 0x01, 0x21, .u32, .ro, 0, .any⟩, -- EV.T.STATUS
  ⟨0x2C43, 0x2C43, 0x00, 0x00, .u8, .const, 33, .any⟩, -- —
  ⟨0x2C43, 0x2C43, 0x01, 0x21, .u64, .ro, 0, .any⟩, -- EV.T.CLAIMS
  ⟨0x2C44, 0x2C44, 0x00, 0x00, .u8, .const, 33, .any⟩, -- —
  ⟨0x2C44, 0x2C44, 0x01, 0x21, .u32, .ro, 0, .any⟩, -- EV.T.SPURIOUS
  ⟨0x2C45, 0x2C45, 0x00, 0x00, .u8, .const, 33, .any⟩, -- —
  ⟨0x2C45, 0x2C45, 0x01, 0x21, .u32, .ro, 0, .any⟩, -- EV.T.WAKES
  ⟨0x2C46, 0x2C46, 0x00, 0x00, .u8, .const, 33, .any⟩, -- —
  ⟨0x2C46, 0x2C46, 0x01, 0x21, .u32, .ro, 0, .any⟩] -- EV.T.BAD_DONE

/-- Entries of page 0x2C00. -/
def odRows2C : List OdRow := odRows2C_0

/-- Entries of page 0x2D00, part 0. -/
def odRows2D_0 : List OdRow := [
  ⟨0x2D00, 0x2D00, 0x00, 0x00, .u8, .const, 8, .any⟩, -- —
  ⟨0x2D00, 0x2D00, 0x01, 0x01, .u32, .const, 0x10000, .any⟩, -- SKEIN.ENTRIES
  ⟨0x2D00, 0x2D00, 0x02, 0x02, .u64, .ro, 0, .any⟩, -- SKEIN.HEAD_SEQ
  ⟨0x2D00, 0x2D00, 0x03, 0x03, .u64, .ro, 0, .any⟩, -- SKEIN.OLDEST_SEQ
  ⟨0x2D00, 0x2D00, 0x04, 0x04, .u32, .ro, 0, .any⟩, -- SKEIN.COUNT
  ⟨0x2D00, 0x2D00, 0x05, 0x05, .u64, .ro, 0, .any⟩, -- SKEIN.OVERWRITTEN
  ⟨0x2D00, 0x2D00, 0x06, 0x06, .u64, .ro, 0, .any⟩, -- SKEIN.SUPPRESSED
  ⟨0x2D00, 0x2D00, 0x07, 0x07, .u32, .ro, 0, .any⟩, -- SKEIN.SUMMARIES
  ⟨0x2D00, 0x2D00, 0x08, 0x08, .u64, .ro, 0, .any⟩, -- SKEIN.BOOT_SEQ
  ⟨0x2D01, 0x2D01, 0x00, 0x00, .u8, .const, 7, .any⟩, -- —
  ⟨0x2D01, 0x2D01, 0x01, 0x07, .u32, .ro, 0, .any⟩, -- SKEIN.LOST
  ⟨0x2D02, 0x2D02, 0x00, 0x00, .u8, .const, 7, .any⟩, -- —
  ⟨0x2D02, 0x2D02, 0x01, 0x01, .u8, .rws, 4, .nat 1 255 []⟩, -- SKEIN.BUCKET_DEPTH
  ⟨0x2D02, 0x2D02, 0x02, 0x02, .u8, .rws, 8, .nat 1 255 []⟩, -- SKEIN.BUCKET_DEPTH
  ⟨0x2D02, 0x2D02, 0x03, 0x03, .u8, .rws, 8, .nat 1 255 []⟩, -- SKEIN.BUCKET_DEPTH
  ⟨0x2D02, 0x2D02, 0x04, 0x04, .u8, .rws, 16, .nat 1 255 []⟩, -- SKEIN.BUCKET_DEPTH
  ⟨0x2D02, 0x2D02, 0x05, 0x05, .u8, .rws, 16, .nat 1 255 []⟩, -- SKEIN.BUCKET_DEPTH
  ⟨0x2D02, 0x2D02, 0x06, 0x06, .u8, .rws, 32, .nat 1 255 []⟩, -- SKEIN.BUCKET_DEPTH
  ⟨0x2D02, 0x2D02, 0x07, 0x07, .u8, .rws, 32, .nat 1 255 []⟩, -- SKEIN.BUCKET_DEPTH
  ⟨0x2D03, 0x2D03, 0x00, 0x00, .u8, .const, 7, .any⟩, -- —
  ⟨0x2D03, 0x2D03, 0x01, 0x01, .u16, .rws, 0x3E8, .nat 1 60000 []⟩, -- SKEIN.REFILL_MS
  ⟨0x2D03, 0x2D03, 0x02, 0x02, .u16, .rws, 0x3E8, .nat 1 60000 []⟩, -- SKEIN.REFILL_MS
  ⟨0x2D03, 0x2D03, 0x03, 0x03, .u16, .rws, 0x1F4, .nat 1 60000 []⟩, -- SKEIN.REFILL_MS
  ⟨0x2D03, 0x2D03, 0x04, 0x04, .u16, .rws, 250, .nat 1 60000 []⟩, -- SKEIN.REFILL_MS
  ⟨0x2D03, 0x2D03, 0x05, 0x05, .u16, .rws, 100, .nat 1 60000 []⟩, -- SKEIN.REFILL_MS
  ⟨0x2D03, 0x2D03, 0x06, 0x06, .u16, .rws, 10, .nat 1 60000 []⟩, -- SKEIN.REFILL_MS
  ⟨0x2D03, 0x2D03, 0x07, 0x07, .u16, .rws, 10, .nat 1 60000 []⟩, -- SKEIN.REFILL_MS
  ⟨0x2D04, 0x2D04, 0x00, 0x00, .u8, .const, 7, .any⟩, -- —
  ⟨0x2D04, 0x2D04, 0x01, 0x07, .u32, .ro, 0, .any⟩, -- SKEIN.HELD
  ⟨0x2D10, 0x2D10, 0x00, 0x00, .u8, .const, 7, .any⟩, -- —
  ⟨0x2D10, 0x2D10, 0x01, 0x01, .u32, .const, 0x80000, .any⟩, -- SKEIN.FLASH_ENTRIES
  ⟨0x2D10, 0x2D10, 0x02, 0x02, .u64, .ro, 0, .any⟩, -- SKEIN.FLASH_HEAD_SEQ
  ⟨0x2D10, 0x2D10, 0x03, 0x03, .u64, .ro, 0, .any⟩, -- SKEIN.FLASH_OLDEST_SEQ
  ⟨0x2D10, 0x2D10, 0x04, 0x04, .u16, .ro, 0, .any⟩, -- SKEIN.MIRROR_PENDING
  ⟨0x2D10, 0x2D10, 0x05, 0x05, .u32, .ro, 0, .any⟩, -- SKEIN.MIRROR_LOST
  ⟨0x2D10, 0x2D10, 0x06, 0x06, .u32, .ro, 0, .any⟩, -- SKEIN.FLASH_ERASES
  ⟨0x2D10, 0x2D10, 0x07, 0x07, .u16, .ro, 0, .any⟩, -- SKEIN.FLASH_RETIRED
  ⟨0x2D20, 0x2D20, 0x00, 0x00, .u8, .const, 4, .any⟩, -- —
  ⟨0x2D20, 0x2D20, 0x01, 0x01, .u64, .rw, 0, .any⟩, -- SKEIN.READ_FROM
  ⟨0x2D20, 0x2D20, 0x02, 0x02, .u8, .rw, 0, .nat 0 1 []⟩] -- SKEIN.READ_SRC

/-- Entries of page 0x2D00, part 1. -/
def odRows2D_1 : List OdRow := [
  ⟨0x2D20, 0x2D20, 0x03, 0x03, .u8, .rw, 1, .nat 1 7 []⟩, -- SKEIN.READ_MIN_SEV
  ⟨0x2D20, 0x2D20, 0x04, 0x04, .domain, .ro, 0, .any⟩] -- SKEIN.READ

/-- Entries of page 0x2D00. -/
def odRows2D : List OdRow := odRows2D_0 ++ odRows2D_1

/-- Entries of page 0x2E00, part 0. -/
def odRows2E_0 : List OdRow := [
  ⟨0x2E00, 0x2E00, 0x00, 0x00, .u8, .const, 10, .any⟩, -- —
  ⟨0x2E00, 0x2E00, 0x01, 0x01, .u16, .ro, 0, .any⟩, -- SEC.STATUS
  ⟨0x2E00, 0x2E00, 0x02, 0x02, .u16, .rwc, 1, .mask 0x7F⟩, -- SEC.ANON_RIGHTS
  ⟨0x2E00, 0x2E00, 0x03, 0x03, .u16, .rwc, 7, .mask 0x4F⟩, -- SEC.FW_RIGHTS
  ⟨0x2E00, 0x2E00, 0x04, 0x04, .bool, .rwc, 0, .nat 0 1 []⟩, -- SEC.COMMISSIONING
  ⟨0x2E00, 0x2E00, 0x05, 0x05, .u32, .rwc, 0x7080, .nat 600 86400 []⟩, -- SEC.COMMISSION_MAX_S
  ⟨0x2E00, 0x2E00, 0x06, 0x06, .u32, .ro, 0, .any⟩, -- SEC.COMMISSION_LEFT_S
  ⟨0x2E00, 0x2E00, 0x07, 0x07, .u8, .wo, 0, .nat 1 1 []⟩, -- SEC.CMD
  ⟨0x2E00, 0x2E00, 0x08, 0x08, .u32, .rwc, 0, .any⟩, -- SEC.EXEC_MIN_VERSION
  ⟨0x2E00, 0x2E00, 0x09, 0x09, .u8, .rwc, 3, .nat 1 3 []⟩, -- SEC.TLS_SUITES
  ⟨0x2E00, 0x2E00, 0x0A, 0x0A, .u32, .ro, 0, .any⟩, -- SEC.AUTH_FAILS
  ⟨0x2E01, 0x2E01, 0x00, 0x00, .u8, .const, 5, .any⟩, -- —
  ⟨0x2E01, 0x2E01, 0x01, 0x01, .u16, .rwc, 63, .mask 0x7F⟩, -- SEC.ROLE_RIGHTS
  ⟨0x2E01, 0x2E01, 0x02, 0x02, .u16, .rwc, 33, .mask 0x7F⟩, -- SEC.ROLE_RIGHTS
  ⟨0x2E01, 0x2E01, 0x03, 0x03, .u16, .rwc, 97, .mask 0x7F⟩, -- SEC.ROLE_RIGHTS
  ⟨0x2E01, 0x2E01, 0x04, 0x04, .u16, .rwc, 67, .mask 0x7F⟩, -- SEC.ROLE_RIGHTS
  ⟨0x2E01, 0x2E01, 0x05, 0x05, .u16, .rwc, 15, .mask 0x7F⟩, -- SEC.ROLE_RIGHTS
  ⟨0x2E10, 0x2E1F, 0x00, 0x00, .u8, .const, 8, .any⟩, -- —
  ⟨0x2E10, 0x2E1F, 0x01, 0x01, .u32, .rwc, 0, .any⟩, -- CRED.ID
  ⟨0x2E10, 0x2E1F, 0x02, 0x02, .u8, .rwc, 0, .nat 1 5 []⟩, -- CRED.ROLE
  ⟨0x2E10, 0x2E1F, 0x03, 0x03, .vstring, .rwc, 0, .any⟩, -- CRED.NAME
  ⟨0x2E10, 0x2E1F, 0x04, 0x04, .domain, .wo, 0, .any⟩, -- CRED.SECRET
  ⟨0x2E10, 0x2E1F, 0x05, 0x05, .bool, .rwc, 0, .nat 0 1 []⟩, -- CRED.ENABLE
  ⟨0x2E10, 0x2E1F, 0x06, 0x06, .u8, .ro, 0, .any⟩, -- CRED.STATE
  ⟨0x2E10, 0x2E1F, 0x07, 0x07, .u32, .ro, 0, .any⟩, -- CRED.USES
  ⟨0x2E10, 0x2E1F, 0x08, 0x08, .u32, .ro, 0, .any⟩, -- CRED.FAILS
  ⟨0x2E20, 0x2E20, 0x00, 0x00, .u8, .const, 4, .any⟩, -- —
  ⟨0x2E20, 0x2E20, 0x01, 0x01, .domain, .const, 0, .any⟩, -- KEY.PUB
  ⟨0x2E20, 0x2E20, 0x02, 0x04, .domain, .rwc, 0, .any⟩, -- KEY.PUB
  ⟨0x2E21, 0x2E21, 0x00, 0x00, .u8, .const, 4, .any⟩, -- —
  ⟨0x2E21, 0x2E21, 0x01, 0x01, .u8, .const, 1, .any⟩, -- KEY.STATE
  ⟨0x2E21, 0x2E21, 0x02, 0x04, .u8, .rwc, 0, .nat 0 2 []⟩, -- KEY.STATE
  ⟨0x2E22, 0x2E22, 0x00, 0x00, .u8, .const, 1, .any⟩, -- —
  ⟨0x2E22, 0x2E22, 0x01, 0x01, .domain, .wo, 0, .any⟩, -- SEC.PAIR_KEY
  ⟨0x2E30, 0x2E30, 0x00, 0x00, .u8, .const, 13, .any⟩, -- —
  ⟨0x2E30, 0x2E30, 0x01, 0x01, .u8, .ro, 0, .any⟩, -- CS.STATE
  ⟨0x2E30, 0x2E30, 0x02, 0x02, .u32, .ro, 0, .any⟩, -- CS.AUTHOR
  ⟨0x2E30, 0x2E30, 0x03, 0x03, .u8, .ro, 0, .any⟩, -- CS.CHANGES
  ⟨0x2E30, 0x2E30, 0x04, 0x04, .domain, .ro, 0, .any⟩, -- CS.CONTENT
  ⟨0x2E30, 0x2E30, 0x05, 0x05, .domain, .ro, 0, .any⟩, -- CS.DIGEST
  ⟨0x2E30, 0x2E30, 0x06, 0x06, .u8, .wo, 0, .nat 1 2 []⟩, -- CS.CMD
  ⟨0x2E30, 0x2E30, 0x07, 0x07, .domain, .wo, 0, .any⟩] -- CS.SIGN

/-- Entries of page 0x2E00, part 1. -/
def odRows2E_1 : List OdRow := [
  ⟨0x2E30, 0x2E30, 0x08, 0x08, .u32, .ro, 0, .any⟩, -- CS.SIGNER1
  ⟨0x2E30, 0x2E30, 0x09, 0x09, .u64, .ro, 0, .any⟩, -- CS.SEALED_MS
  ⟨0x2E30, 0x2E30, 0x0A, 0x0A, .u16, .const, 0x258, .any⟩, -- CS.WINDOW_S
  ⟨0x2E30, 0x2E30, 0x0B, 0x0B, .u8, .ro, 0, .any⟩, -- CS.RESULT
  ⟨0x2E30, 0x2E30, 0x0C, 0x0C, .u16, .ro, 0, .any⟩, -- CS.REJECT
  ⟨0x2E30, 0x2E30, 0x0D, 0x0D, .u32, .ro, 0, .any⟩] -- CS.COMMITS

/-- Entries of page 0x2E00. -/
def odRows2E : List OdRow := odRows2E_0 ++ odRows2E_1

/-- Entries of page 0x2F00, part 0. -/
def odRows2F_0 : List OdRow := [
  ⟨0x2F00, 0x2F00, 0x00, 0x00, .u8, .const, 11, .any⟩, -- —
  ⟨0x2F00, 0x2F00, 0x01, 0x01, .u8, .ro, 0, .any⟩, -- STATE.RUN
  ⟨0x2F00, 0x2F00, 0x02, 0x02, .u8, .wo, 0, .nat 1 2 []⟩, -- STATE.CMD
  ⟨0x2F00, 0x2F00, 0x03, 0x03, .u8, .rws, 0, .nat 0 1 []⟩, -- STATE.START_MODE
  ⟨0x2F00, 0x2F00, 0x04, 0x04, .u8, .rws, 0, .nat 0 1 []⟩, -- STATE.STOP_FIELD
  ⟨0x2F00, 0x2F00, 0x05, 0x05, .u8, .rws, 1, .nat 0 1 []⟩, -- STATE.SAFE_FIELD
  ⟨0x2F00, 0x2F00, 0x06, 0x06, .u16, .rws, 10, .nat 1 1000 []⟩, -- STATE.SAFE_HOLD_MS
  ⟨0x2F00, 0x2F00, 0x07, 0x07, .u16, .ro, 8, .any⟩, -- STATE.FLAGS
  ⟨0x2F00, 0x2F00, 0x08, 0x08, .u64, .ro, 0, .any⟩, -- STATE.LAST_CHANGE
  ⟨0x2F00, 0x2F00, 0x09, 0x09, .u32, .ro, 0, .any⟩, -- STATE.SAFE_COUNT
  ⟨0x2F00, 0x2F00, 0x0A, 0x0A, .u16, .ro, 0, .any⟩, -- STATE.LAST_REJECT
  ⟨0x2F00, 0x2F00, 0x0B, 0x0B, .u32, .ro, 0, .any⟩, -- STATE.REJECTS
  ⟨0x2F10, 0x2F10, 0x00, 0x00, .u8, .const, 6, .any⟩, -- —
  ⟨0x2F10, 0x2F10, 0x01, 0x01, .u8, .ro, 0, .any⟩, -- REACT.IN_PROGRESS
  ⟨0x2F10, 0x2F10, 0x02, 0x02, .u8, .ro, 0, .any⟩, -- REACT.QUEUED
  ⟨0x2F10, 0x2F10, 0x03, 0x03, .u8, .ro, 0, .any⟩, -- REACT.QUEUE_PEAK
  ⟨0x2F10, 0x2F10, 0x04, 0x04, .u32, .ro, 0, .any⟩, -- REACT.ESCALATIONS
  ⟨0x2F10, 0x2F10, 0x05, 0x05, .u64, .ro, 0, .any⟩, -- REACT.LAST
  ⟨0x2F10, 0x2F10, 0x06, 0x06, .u8, .const, 64, .any⟩, -- REACT.QUEUE_DEPTH
  ⟨0x2F11, 0x2F11, 0x00, 0x00, .u8, .const, 5, .any⟩, -- —
  ⟨0x2F11, 0x2F11, 0x01, 0x05, .u32, .ro, 0, .any⟩, -- REACT.COUNT
  ⟨0x2F20, 0x2F20, 0x00, 0x00, .u8, .const, 11, .any⟩, -- —
  ⟨0x2F20, 0x2F20, 0x01, 0x01, .u32, .ro, 0xFFFFFFFF, .any⟩, -- HEALTH.MODULE_H
  ⟨0x2F20, 0x2F20, 0x02, 0x02, .u8, .ro, 0, .any⟩, -- HEALTH.LIMIT_ITEM
  ⟨0x2F20, 0x2F20, 0x03, 0x03, .u32, .ro, 0, .any⟩, -- HEALTH.POWERED_H
  ⟨0x2F20, 0x2F20, 0x04, 0x04, .u16, .rws, 0x2D0, .nat 24 8760 []⟩, -- HEALTH.WINDOW_H
  ⟨0x2F20, 0x2F20, 0x05, 0x05, .u32, .rws, 0x2238, .nat 0 1000000 []⟩, -- HEALTH.WARN_H
  ⟨0x2F20, 0x2F20, 0x06, 0x06, .u16, .ro, 0, .any⟩, -- HEALTH.STATUS
  ⟨0x2F20, 0x2F20, 0x07, 0x07, .real32, .ro, 0, .any⟩, -- HEALTH.VBAT_V
  ⟨0x2F20, 0x2F20, 0x08, 0x08, .real32, .rws, 0, .real 0x00000000 0x47C35000⟩, -- HEALTH.VBAT_CAP_MAH
  ⟨0x2F20, 0x2F20, 0x09, 0x09, .real32, .ro, 0, .any⟩, -- HEALTH.VBAT_USED_MAH
  ⟨0x2F20, 0x2F20, 0x0A, 0x0A, .u32, .ro, 0, .any⟩, -- HEALTH.BANK_ERASES0
  ⟨0x2F20, 0x2F20, 0x0B, 0x0B, .u32, .ro, 0, .any⟩, -- HEALTH.BANK_ERASES1
  ⟨0x2F21, 0x2F21, 0x00, 0x00, .u8, .const, 16, .any⟩, -- —
  ⟨0x2F21, 0x2F21, 0x01, 0x10, .real32, .ro, 0, .any⟩, -- HEALTH.AGE_DELTA
  ⟨0x2F22, 0x2F22, 0x00, 0x00, .u8, .const, 85, .any⟩, -- —
  ⟨0x2F22, 0x2F22, 0x01, 0x55, .real32, .ro, 0, .any⟩, -- HEALTH.CONSUMED
  ⟨0x2F23, 0x2F23, 0x00, 0x00, .u8, .const, 85, .any⟩, -- —
  ⟨0x2F23, 0x2F23, 0x01, 0x55, .u32, .ro, 0xFFFFFFFF, .any⟩] -- HEALTH.LIFE_H

/-- Entries of page 0x2F00. -/
def odRows2F : List OdRow := odRows2F_0

/-- Entries of page 0x3000, part 0. -/
def odRows30_0 : List OdRow := [
  ⟨0x3000, 0x3000, 0x00, 0x00, .u8, .const, 12, .any⟩, -- —
  ⟨0x3000, 0x3000, 0x01, 0x01, .u8, .ro, 0, .any⟩, -- RS.STATE
  ⟨0x3000, 0x3000, 0x02, 0x02, .u16, .ro, 0, .any⟩, -- RS.FLAGS
  ⟨0x3000, 0x3000, 0x03, 0x03, .u8, .rws, 1, .nat 1 64 []⟩, -- RS.CYCLE
  ⟨0x3000, 0x3000, 0x04, 0x04, .u32, .rws, 0, .any⟩, -- RS.IDENT
  ⟨0x3000, 0x3000, 0x05, 0x05, .u64, .ro, 0, .any⟩, -- RS.LAST_TICK
  ⟨0x3000, 0x3000, 0x06, 0x06, .u16, .ro, 0, .any⟩, -- RS.AGE
  ⟨0x3000, 0x3000, 0x07, 0x07, .u32, .ro, 0, .any⟩, -- RS.MISSED
  ⟨0x3000, 0x3000, 0x08, 0x08, .u32, .ro, 0, .any⟩, -- RS.SUPERSEDED
  ⟨0x3000, 0x3000, 0x09, 0x09, .u32, .ro, 0, .any⟩, -- RS.OUT_DISCARDED
  ⟨0x3000, 0x3000, 0x0A, 0x0A, .u32, .ro, 0, .any⟩, -- RS.DROPOUTS
  ⟨0x3000, 0x3000, 0x0B, 0x0B, .u8, .rws, 3, .nat 1 3 []⟩, -- RS.NETWORK
  ⟨0x3000, 0x3000, 0x0C, 0x0C, .u8, .rws, 0, .nat 0 7 []⟩, -- RS.OUT_CG
  ⟨0x3001, 0x3001, 0x00, 0x00, .u8, .const, 1, .any⟩, -- —
  ⟨0x3001, 0x3001, 0x01, 0x01, .domain, .ro, 0, .any⟩, -- RS.IN_IMAGE
  ⟨0x3002, 0x3002, 0x00, 0x00, .u8, .const, 1, .any⟩, -- —
  ⟨0x3002, 0x3002, 0x01, 0x01, .domain, .ro, 0, .any⟩] -- RS.OUT_IMAGE

/-- Entries of page 0x3000. -/
def odRows30 : List OdRow := odRows30_0

/-- Entries of page 0x6000, part 0. -/
def odRows60_0 : List OdRow := [
  ⟨0x6000, 0x6000, 0x00, 0x00, .u8, .const, 48, .any⟩, -- —
  ⟨0x6000, 0x6000, 0x01, 0x30, .bool, .ro, 0, .any⟩, -- PI.DIO_IN
  ⟨0x6001, 0x6001, 0x00, 0x00, .u8, .const, 1, .any⟩, -- —
  ⟨0x6001, 0x6001, 0x01, 0x01, .u64, .ro, 0, .any⟩, -- PI.DIO_IN_WORD
  ⟨0x6010, 0x6010, 0x00, 0x00, .u8, .const, 24, .any⟩, -- —
  ⟨0x6010, 0x6010, 0x01, 0x18, .real32, .ro, 0, .any⟩, -- PI.UIO_IN
  ⟨0x6020, 0x6020, 0x00, 0x00, .u8, .const, 8, .any⟩, -- —
  ⟨0x6020, 0x6020, 0x01, 0x08, .i32, .ro, 0, .any⟩, -- PI.COUNT
  ⟨0x6030, 0x6030, 0x00, 0x00, .u8, .const, 24, .any⟩, -- —
  ⟨0x6030, 0x6030, 0x01, 0x18, .u64, .ro, 0, .any⟩] -- PI.UIO_STAMP

/-- Entries of page 0x6000. -/
def odRows60 : List OdRow := odRows60_0

/-- Entries of page 0x7000, part 0. -/
def odRows70_0 : List OdRow := [
  ⟨0x7000, 0x7000, 0x00, 0x00, .u8, .const, 48, .any⟩, -- —
  ⟨0x7000, 0x7000, 0x01, 0x30, .bool, .ro, 0, .any⟩, -- PI.DIO_OUT
  ⟨0x7010, 0x7010, 0x00, 0x00, .u8, .const, 24, .any⟩, -- —
  ⟨0x7010, 0x7010, 0x01, 0x18, .real32, .ro, 0, .any⟩] -- PI.UIO_OUT

/-- Entries of page 0x7000. -/
def odRows70 : List OdRow := odRows70_0

/-- The rows of the page of index range 0xPP00 to 0xPPFF (Table 00.6). -/
def odPage : Nat → List OdRow
  | 0x10 => odRows10
  | 0x12 => odRows12
  | 0x20 => odRows20
  | 0x21 => odRows21
  | 0x22 => odRows22
  | 0x23 => odRows23
  | 0x25 => odRows25
  | 0x26 => odRows26
  | 0x27 => odRows27
  | 0x28 => odRows28
  | 0x29 => odRows29
  | 0x2A => odRows2A
  | 0x2B => odRows2B
  | 0x2C => odRows2C
  | 0x2D => odRows2D
  | 0x2E => odRows2E
  | 0x2F => odRows2F
  | 0x30 => odRows30
  | 0x60 => odRows60
  | 0x70 => odRows70
  | _ => []

/-- The blocks of 0x40 indices of the remote stations have one layout, that of station 0 (R212). -/
def odFold (idx : Nat) : Nat := if 0x3000 ≤ idx && idx ≤ 0x3FFF then 0x3000 + idx % 0x40 else idx

/-- The row of entry Index:Sub, if the dictionary has it (R16). -/
def odRow? (k : Nat) : Option OdRow :=
  let idx := odFold (k / 256)
  let sub := k % 256
  (odPage (idx / 256)).find? fun r => r.idxLo ≤ idx && idx ≤ r.idxHi && r.subLo ≤ sub && sub ≤ r.subHi

/-- What an entry reads as before anything has written it: the Default column of its row. -/
def odDefault (k : Nat) : Nat :=
  match odRow? k with
  | some r => r.default
  | none => 0

end Sys2Proof.Machine

namespace Sys2Proof.Machine.Od

/-! The names of the entries. A name of a repeated record takes the unit's number first; an array takes the number of
its element, counted from 0. -/

/-- TICK.PERIOD, 0x2010:01. -/
abbrev TICK_PERIOD : Nat := 0x201001
/-- TICK.PERIOD_NS, 0x2010:02. -/
abbrev TICK_PERIOD_NS : Nat := 0x201002
/-- TICK.NUMBER, 0x2010:03. -/
abbrev TICK_NUMBER : Nat := 0x201003
/-- TICK.COUNT, 0x2010:04. -/
abbrev TICK_COUNT : Nat := 0x201004
/-- TICK.PHASE, 0x2010:05. -/
abbrev TICK_PHASE : Nat := 0x201005
/-- TICK.STRETCHED, 0x2010:06. -/
abbrev TICK_STRETCHED : Nat := 0x201006
/-- COMMIT.PHASE, 0x2020:01. -/
abbrev COMMIT_PHASE (i : Nat) : Nat := 0x202001 + i
/-- COMMIT.STATUS, 0x2020:09. -/
abbrev COMMIT_STATUS : Nat := 0x202009
/-- TIME.NOW, 0x2030:01. -/
abbrev TIME_NOW : Nat := 0x203001
/-- TIME.SOURCE, 0x2030:02. -/
abbrev TIME_SOURCE : Nat := 0x203002
/-- TIME.STATE, 0x2030:03. -/
abbrev TIME_STATE : Nat := 0x203003
/-- TIME.FLAGS, 0x2030:04. -/
abbrev TIME_FLAGS : Nat := 0x203004
/-- TIME.OFFSET, 0x2030:05. -/
abbrev TIME_OFFSET : Nat := 0x203005
/-- TIME.RATE, 0x2030:06. -/
abbrev TIME_RATE : Nat := 0x203006
/-- TIME.LOCK_LIMIT, 0x2030:07. -/
abbrev TIME_LOCK_LIMIT : Nat := 0x203007
/-- TIME.DIVERGE_LIMIT, 0x2030:08. -/
abbrev TIME_DIVERGE_LIMIT : Nat := 0x203008
/-- TIME.ACQ_WAIT, 0x2030:09. -/
abbrev TIME_ACQ_WAIT : Nat := 0x203009
/-- TIME.RESTEP, 0x2030:0A. -/
abbrev TIME_RESTEP : Nat := 0x20300A
/-- TIME.RESTEP_VALUE, 0x2030:0B. -/
abbrev TIME_RESTEP_VALUE : Nat := 0x20300B
/-- TIME.STEP_COUNT, 0x2030:0C. -/
abbrev TIME_STEP_COUNT : Nat := 0x20300C
/-- TIME.LAST_STEP, 0x2030:0D. -/
abbrev TIME_LAST_STEP : Nat := 0x20300D
/-- TIME.HOLDOVER_S, 0x2030:0E. -/
abbrev TIME_HOLDOVER_S : Nat := 0x20300E
/-- TIME.UTC_OFFSET, 0x2030:0F. -/
abbrev TIME_UTC_OFFSET : Nat := 0x20300F
/-- PLY.CONFIG, 0x2100:01. -/
abbrev PLY_CONFIG : Nat := 0x210001
/-- PLY.FLAGS, 0x2100:02. -/
abbrev PLY_FLAGS : Nat := 0x210002
/-- PLY.LOAD, 0x2100:03. -/
abbrev PLY_LOAD : Nat := 0x210003
/-- PLY.LOAD_PEAK, 0x2100:04. -/
abbrev PLY_LOAD_PEAK : Nat := 0x210004
/-- PLY.UNVOTED_COUNT, 0x2100:05. -/
abbrev PLY_UNVOTED_COUNT : Nat := 0x210005
/-- PLY.REJOIN_COUNT, 0x2100:06. -/
abbrev PLY_REJOIN_COUNT : Nat := 0x210006
/-- PLY.LAST_RECOVERY_US, 0x2100:07. -/
abbrev PLY_LAST_RECOVERY_US : Nat := 0x210007
/-- PLY.MONO_MS, 0x2100:08. -/
abbrev PLY_MONO_MS : Nat := 0x210008
/-- STRAND.STATUS, 0x2101:01. -/
abbrev STRAND_STATUS (n : Nat) : Nat := 0x210101 + n * 256
/-- STRAND.FAULTS, 0x2101:02. -/
abbrev STRAND_FAULTS (n : Nat) : Nat := 0x210102 + n * 256
/-- STRAND.FAULT_WINDOW, 0x2101:03. -/
abbrev STRAND_FAULT_WINDOW (n : Nat) : Nat := 0x210103 + n * 256
/-- STRAND.FAULT_OLDEST_MS, 0x2101:04. -/
abbrev STRAND_FAULT_OLDEST_MS (n : Nat) : Nat := 0x210104 + n * 256
/-- STRAND.FAULT_NEWEST_MS, 0x2101:05. -/
abbrev STRAND_FAULT_NEWEST_MS (n : Nat) : Nat := 0x210105 + n * 256
/-- STRAND.ECC_CORR, 0x2101:06. -/
abbrev STRAND_ECC_CORR (n : Nat) : Nat := 0x210106 + n * 256
/-- STRAND.ECC_UNCORR, 0x2101:07. -/
abbrev STRAND_ECC_UNCORR (n : Nat) : Nat := 0x210107 + n * 256
/-- STRAND.BIST_RESULT, 0x2101:08. -/
abbrev STRAND_BIST_RESULT (n : Nat) : Nat := 0x210108 + n * 256
/-- STRAND.AGREE_MINORITY, 0x2101:09. -/
abbrev STRAND_AGREE_MINORITY (n : Nat) : Nat := 0x210109 + n * 256
/-- VOTER.MISMATCHES, 0x2110:01. -/
abbrev VOTER_MISMATCHES : Nat := 0x211001
/-- VOTER.LAST_INFO, 0x2110:02. -/
abbrev VOTER_LAST_INFO : Nat := 0x211002
/-- VOTER.LAST_ADDR, 0x2110:03. -/
abbrev VOTER_LAST_ADDR : Nat := 0x211003
/-- VOTER.LAST_TIME, 0x2110:04. -/
abbrev VOTER_LAST_TIME : Nat := 0x211004
/-- VOTER.LAST_TICK, 0x2110:05. -/
abbrev VOTER_LAST_TICK : Nat := 0x211005
/-- AGREE.COUNT, 0x2120:01. -/
abbrev AGREE_COUNT : Nat := 0x212001
/-- AGREE.RETRIES, 0x2120:02. -/
abbrev AGREE_RETRIES : Nat := 0x212002
/-- AGREE.NOMAJ, 0x2120:03. -/
abbrev AGREE_NOMAJ : Nat := 0x212003
/-- AGREE.MINORITY_LIMIT, 0x2120:04. -/
abbrev AGREE_MINORITY_LIMIT : Nat := 0x212004
/-- SOV.STATUS, 0x2130:01. -/
abbrev SOV_STATUS : Nat := 0x213001
/-- SOV.FORCE_OFF_COUNT, 0x2130:02. -/
abbrev SOV_FORCE_OFF_COUNT : Nat := 0x213002
/-- SOV.TOKEN_MISS, 0x2130:03. -/
abbrev SOV_TOKEN_MISS : Nat := 0x213003
/-- PLY.DEBUG_EN, 0x2140:01. -/
abbrev PLY_DEBUG_EN : Nat := 0x214001
/-- PLY.DEBUG_LEAD, 0x2140:02. -/
abbrev PLY_DEBUG_LEAD : Nat := 0x214002
/-- PLY.DEBUG_SPLITS, 0x2140:03. -/
abbrev PLY_DEBUG_SPLITS : Nat := 0x214003
/-- PLY.DEBUG_HALTED, 0x2140:04. -/
abbrev PLY_DEBUG_HALTED : Nat := 0x214004
/-- PLY.FAULT_LIMIT, 0x2150:01. -/
abbrev PLY_FAULT_LIMIT : Nat := 0x215001
/-- PLY.FAULT_WINDOW_MS, 0x2150:02. -/
abbrev PLY_FAULT_WINDOW_MS : Nat := 0x215002
/-- PLY.BIST_MS, 0x2150:03. -/
abbrev PLY_BIST_MS : Nat := 0x215003
/-- SPIN.ENABLED, 0x2200:01. -/
abbrev SPIN_ENABLED : Nat := 0x220001
/-- SPIN.RETIRED, 0x2200:02. -/
abbrev SPIN_RETIRED : Nat := 0x220002
/-- SPIN.HALTED, 0x2200:03. -/
abbrev SPIN_HALTED : Nat := 0x220003
/-- SPIN.DEBUG_EN, 0x2200:04. -/
abbrev SPIN_DEBUG_EN : Nat := 0x220004
/-- SPIN.FAULT_LIMIT, 0x2200:05. -/
abbrev SPIN_FAULT_LIMIT : Nat := 0x220005
/-- SPIN.FAULT_WINDOW_MS, 0x2200:06. -/
abbrev SPIN_FAULT_WINDOW_MS : Nat := 0x220006
/-- SPIN.LOAD, 0x2200:07. -/
abbrev SPIN_LOAD : Nat := 0x220007
/-- SPIN.HELD_TASKS, 0x2200:08. -/
abbrev SPIN_HELD_TASKS : Nat := 0x220008
/-- SP.STATUS, 0x2201:01. -/
abbrev SP_STATUS (n : Nat) : Nat := 0x220101 + n * 256
/-- SP.SPARE, 0x2201:02. -/
abbrev SP_SPARE (n : Nat) : Nat := 0x220102 + n * 256
/-- SP.PARTNER, 0x2201:03. -/
abbrev SP_PARTNER (n : Nat) : Nat := 0x220103 + n * 256
/-- SP.FAULTS, 0x2201:04. -/
abbrev SP_FAULTS (n : Nat) : Nat := 0x220104 + n * 256
/-- SP.FAULT_WINDOW, 0x2201:05. -/
abbrev SP_FAULT_WINDOW (n : Nat) : Nat := 0x220105 + n * 256
/-- SP.FAULT_OLDEST_MS, 0x2201:06. -/
abbrev SP_FAULT_OLDEST_MS (n : Nat) : Nat := 0x220106 + n * 256
/-- SP.LAST_FAULT, 0x2201:07. -/
abbrev SP_LAST_FAULT (n : Nat) : Nat := 0x220107 + n * 256
/-- SP.JOBS, 0x2201:08. -/
abbrev SP_JOBS (n : Nat) : Nat := 0x220108 + n * 256
/-- SP.DRAFTS_TAKEN, 0x2201:09. -/
abbrev SP_DRAFTS_TAKEN (n : Nat) : Nat := 0x220109 + n * 256
/-- SP.DRAFTS_LOST, 0x2201:0A. -/
abbrev SP_DRAFTS_LOST (n : Nat) : Nat := 0x22010A + n * 256
/-- SP.BUSY, 0x2201:0B. -/
abbrev SP_BUSY (n : Nat) : Nat := 0x22010B + n * 256
/-- SP.BOBBIN_PEAK, 0x2201:0C. -/
abbrev SP_BOBBIN_PEAK (n : Nat) : Nat := 0x22010C + n * 256
/-- SP.ECC_CORR, 0x2201:0D. -/
abbrev SP_ECC_CORR (n : Nat) : Nat := 0x22010D + n * 256
/-- DRAFT.ENABLE, 0x2230:01. -/
abbrev DRAFT_ENABLE : Nat := 0x223001
/-- DRAFT.COUNT, 0x2230:02. -/
abbrev DRAFT_COUNT : Nat := 0x223002
/-- DRAFT.EMPTY, 0x2230:03. -/
abbrev DRAFT_EMPTY : Nat := 0x223003
/-- DRAFT.PAIRS, 0x2230:04. -/
abbrev DRAFT_PAIRS : Nat := 0x223004
/-- DRAFT.PAIR_WAIT, 0x2230:05. -/
abbrev DRAFT_PAIR_WAIT : Nat := 0x223005
/-- STAGE.BLOCK_MAP, 0x2240:01. -/
abbrev STAGE_BLOCK_MAP : Nat := 0x224001
/-- STAGE.FINAL_LAST, 0x2240:02. -/
abbrev STAGE_FINAL_LAST : Nat := 0x224002
/-- STAGE.LATE, 0x2240:03. -/
abbrev STAGE_LATE : Nat := 0x224003
/-- STAGE.MULTI, 0x2240:04. -/
abbrev STAGE_MULTI : Nat := 0x224004
/-- STAGE.OVERFLOW, 0x2240:05. -/
abbrev STAGE_OVERFLOW : Nat := 0x224005
/-- RA.ENABLE, 0x2250:01. -/
abbrev RA_ENABLE : Nat := 0x225001
/-- RA.STARTED, 0x2250:02. -/
abbrev RA_STARTED : Nat := 0x225002
/-- RA.CONFIRMED, 0x2250:03. -/
abbrev RA_CONFIRMED : Nat := 0x225003
/-- RA.DISCARDED, 0x2250:04. -/
abbrev RA_DISCARDED : Nat := 0x225004
/-- RA.DISCARDED_DEP, 0x2250:05. -/
abbrev RA_DISCARDED_DEP : Nat := 0x225005
/-- RA.STALLS, 0x2250:06. -/
abbrev RA_STALLS : Nat := 0x225006
/-- RA.RO_BASE, 0x2250:07. -/
abbrev RA_RO_BASE : Nat := 0x225007
/-- RA.RO_LIMIT, 0x2250:08. -/
abbrev RA_RO_LIMIT : Nat := 0x225008
/-- RA.RECORDS_PEAK, 0x2250:09. -/
abbrev RA_RECORDS_PEAK : Nat := 0x225009
/-- RA.CHECK_CYCLES, 0x2250:0A. -/
abbrev RA_CHECK_CYCLES : Nat := 0x22500A
/-- PAIR.COMPARED, 0x2260:01. -/
abbrev PAIR_COMPARED : Nat := 0x226001
/-- PAIR.MISMATCH, 0x2260:02. -/
abbrev PAIR_MISMATCH : Nat := 0x226002
/-- PAIR.RERUN_PASS, 0x2260:03. -/
abbrev PAIR_RERUN_PASS : Nat := 0x226003
/-- PAIR.RERUN_FAIL, 0x2260:04. -/
abbrev PAIR_RERUN_FAIL : Nat := 0x226004
/-- PAIR.RERUN_SKIPPED, 0x2260:05. -/
abbrev PAIR_RERUN_SKIPPED : Nat := 0x226005
/-- PAIR.LAST_INFO, 0x2260:06. -/
abbrev PAIR_LAST_INFO : Nat := 0x226006
/-- CREEL.ECC_CORR, 0x2270:01. -/
abbrev CREEL_ECC_CORR : Nat := 0x227001
/-- CREEL.ECC_UNCORR, 0x2270:02. -/
abbrev CREEL_ECC_UNCORR : Nat := 0x227002
/-- CREEL.LAST_UNCORR_ADDR, 0x2270:03. -/
abbrev CREEL_LAST_UNCORR_ADDR : Nat := 0x227003
/-- CREEL.WAIT_MAX, 0x2270:04. -/
abbrev CREEL_WAIT_MAX : Nat := 0x227004
/-- CREEL.PROG_USED, 0x2270:05. -/
abbrev CREEL_PROG_USED : Nat := 0x227005
/-- CREEL.PLY_BASE, 0x2270:06. -/
abbrev CREEL_PLY_BASE : Nat := 0x227006
/-- CREEL.PLY_SIZE, 0x2270:07. -/
abbrev CREEL_PLY_SIZE : Nat := 0x227007
/-- CREEL.PLY_MIRROR_FIX, 0x2270:08. -/
abbrev CREEL_PLY_MIRROR_FIX : Nat := 0x227008
/-- LOOP.SLOTS, 0x2300:01. -/
abbrev LOOP_SLOTS : Nat := 0x230001
/-- LOOP.TABLES, 0x2300:02. -/
abbrev LOOP_TABLES : Nat := 0x230002
/-- LOOP.IN_USE, 0x2300:03. -/
abbrev LOOP_IN_USE : Nat := 0x230003
/-- LOOP.ADMIT_PCT, 0x2300:04. -/
abbrev LOOP_ADMIT_PCT : Nat := 0x230004
/-- LOOP.LATE_TOTAL, 0x2300:05. -/
abbrev LOOP_LATE_TOTAL : Nat := 0x230005
/-- LOOP.FAULT_TOTAL, 0x2300:06. -/
abbrev LOOP_FAULT_TOTAL : Nat := 0x230006
/-- LOOP.APPLY_PENDING, 0x2300:07. -/
abbrev LOOP_APPLY_PENDING : Nat := 0x230007
/-- LOOP.VIEW_WORDS, 0x2300:08. -/
abbrev LOOP_VIEW_WORDS : Nat := 0x230008
/-- LOOP.CLEAR_ALL, 0x2300:09. -/
abbrev LOOP_CLEAR_ALL : Nat := 0x230009
/-- LOOP.TABLE, 0x2310:01. -/
abbrev LOOP_TABLE : Nat := 0x231001
/-- LOOP.SEL, 0x2311:01. -/
abbrev LOOP_SEL : Nat := 0x231101
/-- LOOP.W.CTRL, 0x2312:01. -/
abbrev LOOP_W_CTRL : Nat := 0x231201
/-- LOOP.W.TAG, 0x2312:02. -/
abbrev LOOP_W_TAG : Nat := 0x231202
/-- LOOP.W.RATE, 0x2312:03. -/
abbrev LOOP_W_RATE : Nat := 0x231203
/-- LOOP.W.COMP, 0x2312:04. -/
abbrev LOOP_W_COMP : Nat := 0x231204
/-- LOOP.W.OUT_HI, 0x2312:0A. -/
abbrev LOOP_W_OUT_HI : Nat := 0x23120A
/-- LOOP.W.OUT_LO, 0x2312:0B. -/
abbrev LOOP_W_OUT_LO : Nat := 0x23120B
/-- LOOP.W.OUT, 0x2312:11. -/
abbrev LOOP_W_OUT : Nat := 0x231211
/-- LOOP.W.VIEW_INFO, 0x2312:12. -/
abbrev LOOP_W_VIEW_INFO : Nat := 0x231212
/-- LOOP.W.STATUS, 0x2312:13. -/
abbrev LOOP_W_STATUS : Nat := 0x231213
/-- LOOP.W.LATE_COUNT, 0x2312:14. -/
abbrev LOOP_W_LATE_COUNT : Nat := 0x231214
/-- LOOP.W.FAULT_COUNT, 0x2312:15. -/
abbrev LOOP_W_FAULT_COUNT : Nat := 0x231215
/-- LOOP.W.SP_HELD, 0x2312:1B. -/
abbrev LOOP_W_SP_HELD : Nat := 0x23121B
/-- LOOP.W.TAKE_STAMP, 0x2312:1C. -/
abbrev LOOP_W_TAKE_STAMP : Nat := 0x23121C
/-- LOOP.W.POS_PREV, 0x2312:1D. -/
abbrev LOOP_W_POS_PREV : Nat := 0x23121D
/-- LOOP.W.COMP_OUT, 0x2312:1E. -/
abbrev LOOP_W_COMP_OUT : Nat := 0x23121E
/-- LOOP.W.EXEC, 0x2312:1F. -/
abbrev LOOP_W_EXEC : Nat := 0x23121F
/-- LOOP.W.CLEAR, 0x2312:20. -/
abbrev LOOP_W_CLEAR : Nat := 0x231220
/-- COMP.TABLES, 0x2320:01. -/
abbrev COMP_TABLES : Nat := 0x232001
/-- COMP.SEL, 0x2321:01. -/
abbrev COMP_SEL : Nat := 0x232101
/-- COMP.DATA, 0x2322:01. -/
abbrev COMP_DATA : Nat := 0x232201
/-- COMP.SCALE, 0x2322:02. -/
abbrev COMP_SCALE : Nat := 0x232202
/-- COMP.OFFSET, 0x2322:03. -/
abbrev COMP_OFFSET : Nat := 0x232203
/-- COMP.MODE, 0x2322:04. -/
abbrev COMP_MODE : Nat := 0x232204
/-- LU.STATUS, 0x2330:01. -/
abbrev LU_STATUS (n : Nat) : Nat := 0x233001 + n * 256
/-- LU.ENTRIES, 0x2330:02. -/
abbrev LU_ENTRIES (n : Nat) : Nat := 0x233002 + n * 256
/-- LU.WINDOW, 0x2330:03. -/
abbrev LU_WINDOW (n : Nat) : Nat := 0x233003 + n * 256
/-- LU.DUE_MAX, 0x2330:04. -/
abbrev LU_DUE_MAX (n : Nat) : Nat := 0x233004 + n * 256
/-- LU.LOAD_PCT, 0x2330:05. -/
abbrev LU_LOAD_PCT (n : Nat) : Nat := 0x233005 + n * 256
/-- LU.LAST_END, 0x2330:06. -/
abbrev LU_LAST_END (n : Nat) : Nat := 0x233006 + n * 256
/-- LU.PEAK_END, 0x2330:07. -/
abbrev LU_PEAK_END (n : Nat) : Nat := 0x233007 + n * 256
/-- LU.WAIT_CYCLES, 0x2330:08. -/
abbrev LU_WAIT_CYCLES (n : Nat) : Nat := 0x233008 + n * 256
/-- LU.LATE, 0x2330:09. -/
abbrev LU_LATE (n : Nat) : Nat := 0x233009 + n * 256
/-- PI.DIO_IN, 0x6000:01. -/
abbrev PI_DIO_IN (i : Nat) : Nat := 0x600001 + i
/-- PI.DIO_IN_WORD, 0x6001:01. -/
abbrev PI_DIO_IN_WORD : Nat := 0x600101
/-- PI.UIO_IN, 0x6010:01. -/
abbrev PI_UIO_IN (i : Nat) : Nat := 0x601001 + i
/-- PI.COUNT, 0x6020:01. -/
abbrev PI_COUNT (i : Nat) : Nat := 0x602001 + i
/-- PI.UIO_STAMP, 0x6030:01. -/
abbrev PI_UIO_STAMP (i : Nat) : Nat := 0x603001 + i
/-- PI.DIO_OUT, 0x7000:01. -/
abbrev PI_DIO_OUT (i : Nat) : Nat := 0x700001 + i
/-- PI.UIO_OUT, 0x7010:01. -/
abbrev PI_UIO_OUT (i : Nat) : Nat := 0x701001 + i
/-- TASK.L1_DEFINED, 0x2500:01. -/
abbrev TASK_L1_DEFINED : Nat := 0x250001
/-- TASK.L0_DEFINED, 0x2500:02. -/
abbrev TASK_L0_DEFINED : Nat := 0x250002
/-- TASK.SKIPS_TOTAL, 0x2500:03. -/
abbrev TASK_SKIPS_TOTAL : Nat := 0x250003
/-- TASK.DROPPED_TOTAL, 0x2500:04. -/
abbrev TASK_DROPPED_TOTAL : Nat := 0x250004
/-- TASK.L0_WATCH_MS, 0x2500:05. -/
abbrev TASK_L0_WATCH_MS : Nat := 0x250005
/-- TASK.OPEN_MASK, 0x2500:06. -/
abbrev TASK_OPEN_MASK : Nat := 0x250006
/-- TASK.NAME_HASH, 0x2501:01. -/
abbrev TASK_NAME_HASH (n : Nat) : Nat := 0x250101 + n * 256
/-- TASK.KIND, 0x2501:02. -/
abbrev TASK_KIND (n : Nat) : Nat := 0x250102 + n * 256
/-- TASK.PERIOD, 0x2501:03. -/
abbrev TASK_PERIOD (n : Nat) : Nat := 0x250103 + n * 256
/-- TASK.OFFSET, 0x2501:04. -/
abbrev TASK_OFFSET (n : Nat) : Nat := 0x250104 + n * 256
/-- TASK.PRIO, 0x2501:05. -/
abbrev TASK_PRIO (n : Nat) : Nat := 0x250105 + n * 256
/-- TASK.EVENT, 0x2501:06. -/
abbrev TASK_EVENT (n : Nat) : Nat := 0x250106 + n * 256
/-- TASK.STATUS, 0x2501:07. -/
abbrev TASK_STATUS (n : Nat) : Nat := 0x250107 + n * 256
/-- TASK.RELEASES, 0x2501:08. -/
abbrev TASK_RELEASES (n : Nat) : Nat := 0x250108 + n * 256
/-- TASK.SKIPS, 0x2501:09. -/
abbrev TASK_SKIPS (n : Nat) : Nat := 0x250109 + n * 256
/-- TASK.DROPPED, 0x2501:0A. -/
abbrev TASK_DROPPED (n : Nat) : Nat := 0x25010A + n * 256
/-- TASK.DEADLINE_MISS, 0x2501:0B. -/
abbrev TASK_DEADLINE_MISS (n : Nat) : Nat := 0x25010B + n * 256
/-- TASK.EXEC_LAST, 0x2501:0C. -/
abbrev TASK_EXEC_LAST (n : Nat) : Nat := 0x25010C + n * 256
/-- TASK.EXEC_MAX, 0x2501:0D. -/
abbrev TASK_EXEC_MAX (n : Nat) : Nat := 0x25010D + n * 256
/-- TASK.SKIP_LIMIT, 0x2501:0E. -/
abbrev TASK_SKIP_LIMIT (n : Nat) : Nat := 0x25010E + n * 256
/-- TASK.CONSEC, 0x2501:0F. -/
abbrev TASK_CONSEC (n : Nat) : Nat := 0x25010F + n * 256
/-- TASK.EV_MERGED, 0x2501:10. -/
abbrev TASK_EV_MERGED (n : Nat) : Nat := 0x250110 + n * 256
/-- TASK.NEXT, 0x2501:11. -/
abbrev TASK_NEXT (n : Nat) : Nat := 0x250111 + n * 256
/-- L0.NAME_HASH, 0x2548:01. -/
abbrev L0_NAME_HASH (n : Nat) : Nat := 0x254801 + n * 256
/-- L0.STATUS, 0x2548:02. -/
abbrev L0_STATUS (n : Nat) : Nat := 0x254802 + n * 256
/-- L0.CYCLES, 0x2548:03. -/
abbrev L0_CYCLES (n : Nat) : Nat := 0x254803 + n * 256
/-- L0.CYCLE_LAST_US, 0x2548:04. -/
abbrev L0_CYCLE_LAST_US (n : Nat) : Nat := 0x254804 + n * 256
/-- L0.CYCLE_MAX_US, 0x2548:05. -/
abbrev L0_CYCLE_MAX_US (n : Nat) : Nat := 0x254805 + n * 256
/-- L0.WATCH_EXCEEDED, 0x2548:06. -/
abbrev L0_WATCH_EXCEEDED (n : Nat) : Nat := 0x254806 + n * 256
/-- PROG.ACTIVE_BANK, 0x2550:01. -/
abbrev PROG_ACTIVE_BANK : Nat := 0x255001
/-- PROG.STATE, 0x2550:02. -/
abbrev PROG_STATE : Nat := 0x255002
/-- PROG.CMD, 0x2550:03. -/
abbrev PROG_CMD : Nat := 0x255003
/-- PROG.CHANGEOVER, 0x2550:04. -/
abbrev PROG_CHANGEOVER : Nat := 0x255004
/-- PROG.RESULT, 0x2550:05. -/
abbrev PROG_RESULT : Nat := 0x255005
/-- PROG.ACTIVE_ID, 0x2550:06. -/
abbrev PROG_ACTIVE_ID : Nat := 0x255006
/-- PROG.INACTIVE_ID, 0x2550:07. -/
abbrev PROG_INACTIVE_ID : Nat := 0x255007
/-- PROG.EXCH_COUNT, 0x2550:08. -/
abbrev PROG_EXCH_COUNT : Nat := 0x255008
/-- PROG.LAST_CHANGEOVER, 0x2550:09. -/
abbrev PROG_LAST_CHANGEOVER : Nat := 0x255009
/-- PROG.POSTPONE_MAX, 0x2550:0A. -/
abbrev PROG_POSTPONE_MAX : Nat := 0x25500A
/-- PROG.POSTPONED, 0x2550:0B. -/
abbrev PROG_POSTPONED : Nat := 0x25500B
/-- PROG.VAR_MATCHED, 0x2550:0C. -/
abbrev PROG_VAR_MATCHED : Nat := 0x25500C
/-- PROG.VAR_NEW, 0x2550:0D. -/
abbrev PROG_VAR_NEW : Nat := 0x25500D
/-- PROG.VAR_TYPE_CHANGED, 0x2550:0E. -/
abbrev PROG_VAR_TYPE_CHANGED : Nat := 0x25500E
/-- PROG.VAR_DROPPED, 0x2550:0F. -/
abbrev PROG_VAR_DROPPED : Nat := 0x25500F
/-- PROG.XFER_BYTES, 0x2550:10. -/
abbrev PROG_XFER_BYTES : Nat := 0x255010
/-- PROG.RETAIN_PERIOD, 0x2550:11. -/
abbrev PROG_RETAIN_PERIOD : Nat := 0x255011
/-- PROG.RETAIN_BYTES, 0x2550:12. -/
abbrev PROG_RETAIN_BYTES : Nat := 0x255012
/-- PROG.IMAGE, 0x2551:01. -/
abbrev PROG_IMAGE : Nat := 0x255101
/-- PI.IN_MAP, 0x2560:01. -/
abbrev PI_IN_MAP : Nat := 0x256001
/-- PI.OUT_MAP, 0x2560:02. -/
abbrev PI_OUT_MAP : Nat := 0x256002
/-- PI.IN_ENTRIES, 0x2560:03. -/
abbrev PI_IN_ENTRIES : Nat := 0x256003
/-- PI.OUT_ENTRIES, 0x2560:04. -/
abbrev PI_OUT_ENTRIES : Nat := 0x256004
/-- PI.BAD_COUNT, 0x2560:05. -/
abbrev PI_BAD_COUNT : Nat := 0x256005
/-- PI.UNCERTAIN_COUNT, 0x2560:06. -/
abbrev PI_UNCERTAIN_COUNT : Nat := 0x256006
/-- RIO.STATIONS, 0x2570:01. -/
abbrev RIO_STATIONS : Nat := 0x257001
/-- RIO.MISS_LIMIT, 0x2570:02. -/
abbrev RIO_MISS_LIMIT : Nat := 0x257002
/-- RIO.ONLINE, 0x2570:03. -/
abbrev RIO_ONLINE : Nat := 0x257003
/-- RIO.STALE, 0x2570:04. -/
abbrev RIO_STALE : Nat := 0x257004
/-- RIO.OUT_DISCARDED, 0x2570:05. -/
abbrev RIO_OUT_DISCARDED : Nat := 0x257005
/-- RIO.SUPERSEDED, 0x2570:06. -/
abbrev RIO_SUPERSEDED : Nat := 0x257006
/-- RSTA.NUMBER, 0x2580:01. -/
abbrev RSTA_NUMBER : Nat := 0x258001
/-- RSTA.WATCHDOG, 0x2580:02. -/
abbrev RSTA_WATCHDOG : Nat := 0x258002
/-- RSTA.STATE, 0x2580:03. -/
abbrev RSTA_STATE : Nat := 0x258003
/-- RSTA.WD_EXPIRIES, 0x2580:04. -/
abbrev RSTA_WD_EXPIRIES : Nat := 0x258004
/-- RSTA.CTRL_ID1, 0x2580:05. -/
abbrev RSTA_CTRL_ID1 : Nat := 0x258005
/-- RSTA.CTRL_ID2, 0x2580:06. -/
abbrev RSTA_CTRL_ID2 : Nat := 0x258006
/-- RSTA.OUT_LAST_TICK, 0x2580:07. -/
abbrev RSTA_OUT_LAST_TICK : Nat := 0x258007
/-- RSTA.DIO_REACT, 0x2581:01. -/
abbrev RSTA_DIO_REACT (i : Nat) : Nat := 0x258101 + i
/-- RSTA.UIO_REACT, 0x2582:01. -/
abbrev RSTA_UIO_REACT (i : Nat) : Nat := 0x258201 + i
/-- RSTA.UIO_SUBST, 0x2583:01. -/
abbrev RSTA_UIO_SUBST (i : Nat) : Nat := 0x258301 + i
/-- DIO.CHANNELS, 0x2600:01. -/
abbrev DIO_CHANNELS : Nat := 0x260001
/-- DIO.FAULT_MASK, 0x2600:02. -/
abbrev DIO_FAULT_MASK : Nat := 0x260002
/-- DIO.STAGE_MASK, 0x2600:03. -/
abbrev DIO_STAGE_MASK : Nat := 0x260003
/-- DIO.RETRY_MAX, 0x2600:04. -/
abbrev DIO_RETRY_MAX : Nat := 0x260004
/-- DIO.CFG, 0x2601:01. -/
abbrev DIO_CFG (i : Nat) : Nat := 0x260101 + i
/-- DIO.THR_ON, 0x2602:01. -/
abbrev DIO_THR_ON (i : Nat) : Nat := 0x260201 + i
/-- DIO.THR_HYST, 0x2603:01. -/
abbrev DIO_THR_HYST (i : Nat) : Nat := 0x260301 + i
/-- DIO.SINK_MA, 0x2604:01. -/
abbrev DIO_SINK_MA (i : Nat) : Nat := 0x260401 + i
/-- DIO.CHATTER_N, 0x2605:01. -/
abbrev DIO_CHATTER_N (i : Nat) : Nat := 0x260501 + i
/-- DIO.CHATTER_WIN, 0x2606:01. -/
abbrev DIO_CHATTER_WIN (i : Nat) : Nat := 0x260601 + i
/-- DIO.MAX_ON, 0x2607:01. -/
abbrev DIO_MAX_ON (i : Nat) : Nat := 0x260701 + i
/-- DIO.STATUS, 0x2608:01. -/
abbrev DIO_STATUS (i : Nat) : Nat := 0x260801 + i
/-- DIO.VOLTAGE, 0x2609:01. -/
abbrev DIO_VOLTAGE (i : Nat) : Nat := 0x260901 + i
/-- DIO.CURRENT, 0x260A:01. -/
abbrev DIO_CURRENT (i : Nat) : Nat := 0x260A01 + i
/-- DIO.EDGES, 0x260B:01. -/
abbrev DIO_EDGES (i : Nat) : Nat := 0x260B01 + i
/-- DIO.OUT_SWITCHES, 0x260C:01. -/
abbrev DIO_OUT_SWITCHES (i : Nat) : Nat := 0x260C01 + i
/-- DIO.DEMAG_MJ, 0x260D:01. -/
abbrev DIO_DEMAG_MJ (i : Nat) : Nat := 0x260D01 + i
/-- DIO.THERM_CYCLES, 0x260E:01. -/
abbrev DIO_THERM_CYCLES (i : Nat) : Nat := 0x260E01 + i
/-- DIO.SHORTS, 0x260F:01. -/
abbrev DIO_SHORTS (i : Nat) : Nat := 0x260F01 + i
/-- FG.VOLTAGE, 0x2640:01. -/
abbrev FG_VOLTAGE (i : Nat) : Nat := 0x264001 + i
/-- FG.CURRENT, 0x2641:01. -/
abbrev FG_CURRENT (i : Nat) : Nat := 0x264101 + i
/-- FG.STATUS, 0x2642:01. -/
abbrev FG_STATUS (i : Nat) : Nat := 0x264201 + i
/-- FG.LOW_V, 0x2643:01. -/
abbrev FG_LOW_V (i : Nat) : Nat := 0x264301 + i
/-- FG.RECOVERY, 0x2644:01. -/
abbrev FG_RECOVERY (i : Nat) : Nat := 0x264401 + i
/-- FG.ACK, 0x2645:01. -/
abbrev FG_ACK (i : Nat) : Nat := 0x264501 + i
/-- FG.OUT_CG, 0x2646:01. -/
abbrev FG_OUT_CG (i : Nat) : Nat := 0x264601 + i
/-- FG.CUTS, 0x2647:01. -/
abbrev FG_CUTS (i : Nat) : Nat := 0x264701 + i
/-- FG.TRIPS, 0x2648:01. -/
abbrev FG_TRIPS (i : Nat) : Nat := 0x264801 + i
/-- COUNT.MODE, 0x2650:01. -/
abbrev COUNT_MODE (i : Nat) : Nat := 0x265001 + i
/-- COUNT.FILTER, 0x2651:01. -/
abbrev COUNT_FILTER (i : Nat) : Nat := 0x265101 + i
/-- COUNT.MODULO, 0x2652:01. -/
abbrev COUNT_MODULO (i : Nat) : Nat := 0x265201 + i
/-- COUNT.PRESET, 0x2653:01. -/
abbrev COUNT_PRESET (i : Nat) : Nat := 0x265301 + i
/-- COUNT.CMD, 0x2654:01. -/
abbrev COUNT_CMD (i : Nat) : Nat := 0x265401 + i
/-- COUNT.STATUS, 0x2655:01. -/
abbrev COUNT_STATUS (i : Nat) : Nat := 0x265501 + i
/-- COUNT.ENC_ERRORS, 0x2656:01. -/
abbrev COUNT_ENC_ERRORS (i : Nat) : Nat := 0x265601 + i
/-- TP.MODE, 0x2660:01. -/
abbrev TP_MODE (i : Nat) : Nat := 0x266001 + i
/-- TP.STATUS, 0x2661:01. -/
abbrev TP_STATUS (i : Nat) : Nat := 0x266101 + i
/-- TP.CURRENT, 0x2662:01. -/
abbrev TP_CURRENT (i : Nat) : Nat := 0x266201 + i
/-- TP.FAULTS, 0x2663:01. -/
abbrev TP_FAULTS (i : Nat) : Nat := 0x266301 + i
/-- SO.CG, 0x2670:01. -/
abbrev SO_CG : Nat := 0x267001
/-- SO.DARK_PERIOD, 0x2670:02. -/
abbrev SO_DARK_PERIOD : Nat := 0x267002
/-- SO.ACK, 0x2670:03. -/
abbrev SO_ACK : Nat := 0x267003
/-- SO.STATUS, 0x2671:01. -/
abbrev SO_STATUS (i : Nat) : Nat := 0x267101 + i
/-- SO.CURRENT, 0x2672:01. -/
abbrev SO_CURRENT (i : Nat) : Nat := 0x267201 + i
/-- SO.DARK_EN, 0x2673:01. -/
abbrev SO_DARK_EN (i : Nat) : Nat := 0x267301 + i
/-- SO.FAULTS, 0x2674:01. -/
abbrev SO_FAULTS (i : Nat) : Nat := 0x267401 + i
/-- SO.SWITCHES, 0x2675:01. -/
abbrev SO_SWITCHES (i : Nat) : Nat := 0x267501 + i
/-- UIO.CHANNELS, 0x2700:01. -/
abbrev UIO_CHANNELS : Nat := 0x270001
/-- UIO.FAULT_MASK, 0x2700:02. -/
abbrev UIO_FAULT_MASK : Nat := 0x270002
/-- UIO.CJ_EXT_TEMP, 0x2700:03. -/
abbrev UIO_CJ_EXT_TEMP : Nat := 0x270003
/-- UIO.CJ_EXT_STATUS, 0x2700:04. -/
abbrev UIO_CJ_EXT_STATUS : Nat := 0x270004
/-- UIO.HART_ACTIVE, 0x2700:05. -/
abbrev UIO_HART_ACTIVE : Nat := 0x270005
/-- UIO.CFG, 0x2701:01. -/
abbrev UIO_CFG (i : Nat) : Nat := 0x270101 + i
/-- UIO.PHYS_LO, 0x2702:01. -/
abbrev UIO_PHYS_LO (i : Nat) : Nat := 0x270201 + i
/-- UIO.PHYS_HI, 0x2703:01. -/
abbrev UIO_PHYS_HI (i : Nat) : Nat := 0x270301 + i
/-- UIO.EU_LO, 0x2704:01. -/
abbrev UIO_EU_LO (i : Nat) : Nat := 0x270401 + i
/-- UIO.EU_HI, 0x2705:01. -/
abbrev UIO_EU_HI (i : Nat) : Nat := 0x270501 + i
/-- UIO.SQRT_CUT, 0x2706:01. -/
abbrev UIO_SQRT_CUT (i : Nat) : Nat := 0x270601 + i
/-- UIO.CHAR_TABLE, 0x2707:01. -/
abbrev UIO_CHAR_TABLE (i : Nat) : Nat := 0x270701 + i
/-- UIO.SD_RATE, 0x2708:01. -/
abbrev UIO_SD_RATE (i : Nat) : Nat := 0x270801 + i
/-- UIO.FILTER_MS, 0x2709:01. -/
abbrev UIO_FILTER_MS (i : Nat) : Nat := 0x270901 + i
/-- UIO.ALARM_LO, 0x270A:01. -/
abbrev UIO_ALARM_LO (i : Nat) : Nat := 0x270A01 + i
/-- UIO.ALARM_HI, 0x270B:01. -/
abbrev UIO_ALARM_HI (i : Nat) : Nat := 0x270B01 + i
/-- UIO.CJ_SRC, 0x270C:01. -/
abbrev UIO_CJ_SRC (i : Nat) : Nat := 0x270C01 + i
/-- UIO.CJ_FIXED, 0x270D:01. -/
abbrev UIO_CJ_FIXED (i : Nat) : Nat := 0x270D01 + i
/-- UIO.CJ_CHAN, 0x270E:01. -/
abbrev UIO_CJ_CHAN (i : Nat) : Nat := 0x270E01 + i
/-- UIO.LEAD_OHM, 0x270F:01. -/
abbrev UIO_LEAD_OHM (i : Nat) : Nat := 0x270F01 + i
/-- UIO.STATUS, 0x2710:01. -/
abbrev UIO_STATUS (i : Nat) : Nat := 0x271001 + i
/-- UIO.RAW, 0x2711:01. -/
abbrev UIO_RAW (i : Nat) : Nat := 0x271101 + i
/-- UIO.HEADROOM, 0x2712:01. -/
abbrev UIO_HEADROOM (i : Nat) : Nat := 0x271201 + i
/-- UIO.SUPPLY_V, 0x2713:01. -/
abbrev UIO_SUPPLY_V (i : Nat) : Nat := 0x271301 + i
/-- UIO.TJ, 0x2714:01. -/
abbrev UIO_TJ (i : Nat) : Nat := 0x271401 + i
/-- UIO.ACK, 0x2715:01. -/
abbrev UIO_ACK (i : Nat) : Nat := 0x271501 + i
/-- UIO.FAILS, 0x2716:01. -/
abbrev UIO_FAILS (i : Nat) : Nat := 0x271601 + i
/-- UIO.THERM_CYCLES, 0x2717:01. -/
abbrev UIO_THERM_CYCLES (i : Nat) : Nat := 0x271701 + i
/-- UIO.DISSIP_J, 0x2718:01. -/
abbrev UIO_DISSIP_J (i : Nat) : Nat := 0x271801 + i
/-- UG.OUT_CG, 0x2740:01. -/
abbrev UG_OUT_CG (i : Nat) : Nat := 0x274001 + i
/-- UG.STATUS, 0x2741:01. -/
abbrev UG_STATUS (i : Nat) : Nat := 0x274101 + i
/-- UG.POWER, 0x2742:01. -/
abbrev UG_POWER (i : Nat) : Nat := 0x274201 + i
/-- HART.MASTER, 0x2760:01. -/
abbrev HART_MASTER (n : Nat) : Nat := 0x276001 + n * 256
/-- HART.POLL_ADDR, 0x2760:02. -/
abbrev HART_POLL_ADDR (n : Nat) : Nat := 0x276002 + n * 256
/-- HART.AUTO_ID, 0x2760:03. -/
abbrev HART_AUTO_ID (n : Nat) : Nat := 0x276003 + n * 256
/-- HART.UNIQUE_ID, 0x2760:04. -/
abbrev HART_UNIQUE_ID (n : Nat) : Nat := 0x276004 + n * 256
/-- HART.PREAMBLES, 0x2760:05. -/
abbrev HART_PREAMBLES (n : Nat) : Nat := 0x276005 + n * 256
/-- HART.RETRY_MAX, 0x2760:06. -/
abbrev HART_RETRY_MAX (n : Nat) : Nat := 0x276006 + n * 256
/-- HART.REQ, 0x2760:07. -/
abbrev HART_REQ (n : Nat) : Nat := 0x276007 + n * 256
/-- HART.RSP, 0x2760:08. -/
abbrev HART_RSP (n : Nat) : Nat := 0x276008 + n * 256
/-- HART.STATE, 0x2760:09. -/
abbrev HART_STATE (n : Nat) : Nat := 0x276009 + n * 256
/-- HART.DEV_STATUS, 0x2760:0A. -/
abbrev HART_DEV_STATUS (n : Nat) : Nat := 0x27600A + n * 256
/-- HART.BURST, 0x2760:0B. -/
abbrev HART_BURST (n : Nat) : Nat := 0x27600B + n * 256
/-- HART.BURST_COUNT, 0x2760:0C. -/
abbrev HART_BURST_COUNT (n : Nat) : Nat := 0x27600C + n * 256
/-- HART.TRANSACTIONS, 0x2760:0D. -/
abbrev HART_TRANSACTIONS (n : Nat) : Nat := 0x27600D + n * 256
/-- HART.ERRORS, 0x2760:0E. -/
abbrev HART_ERRORS (n : Nat) : Nat := 0x27600E + n * 256
/-- HART.CANCEL, 0x2760:0F. -/
abbrev HART_CANCEL (n : Nat) : Nat := 0x27600F + n * 256
/-- SAFE.STATE, 0x2800:01. -/
abbrev SAFE_STATE : Nat := 0x280001
/-- SAFE.CFG_CRC, 0x2800:02. -/
abbrev SAFE_CFG_CRC : Nat := 0x280002
/-- SAFE.CFG_REF, 0x2800:03. -/
abbrev SAFE_CFG_REF : Nat := 0x280003
/-- SAFE.SIN_LO, 0x2800:04. -/
abbrev SAFE_SIN_LO : Nat := 0x280004
/-- SAFE.SIN_HI, 0x2800:05. -/
abbrev SAFE_SIN_HI : Nat := 0x280005
/-- SAFE.SO_REQ, 0x2800:06. -/
abbrev SAFE_SO_REQ : Nat := 0x280006
/-- SAFE.SOCMD, 0x2800:07. -/
abbrev SAFE_SOCMD : Nat := 0x280007
/-- SAFE.STBY_DIFF, 0x2800:08. -/
abbrev SAFE_STBY_DIFF : Nat := 0x280008
/-- SIN.TYPE, 0x2810:01. -/
abbrev SIN_TYPE (i : Nat) : Nat := 0x281001 + i
/-- SIN.DISC_MS, 0x2811:01. -/
abbrev SIN_DISC_MS (i : Nat) : Nat := 0x281101 + i
/-- SIN.STATUS, 0x2812:01. -/
abbrev SIN_STATUS (i : Nat) : Nat := 0x281201 + i
/-- SIN.FAULTS, 0x2813:01. -/
abbrev SIN_FAULTS (i : Nat) : Nat := 0x281301 + i
/-- SIN.PULSE_FAILS, 0x2814:01. -/
abbrev SIN_PULSE_FAILS (i : Nat) : Nat := 0x281401 + i
/-- SF.TYPE, 0x2820:01. -/
abbrev SF_TYPE (i : Nat) : Nat := 0x282001 + i
/-- SF.INPUTS, 0x2821:01. -/
abbrev SF_INPUTS (i : Nat) : Nat := 0x282101 + i
/-- SF.SCRIM_IN, 0x2822:01. -/
abbrev SF_SCRIM_IN (i : Nat) : Nat := 0x282201 + i
/-- SF.OUTPUTS, 0x2823:01. -/
abbrev SF_OUTPUTS (i : Nat) : Nat := 0x282301 + i
/-- SF.AXIS, 0x2824:01. -/
abbrev SF_AXIS (i : Nat) : Nat := 0x282401 + i
/-- SF.RESTART, 0x2825:01. -/
abbrev SF_RESTART (i : Nat) : Nat := 0x282501 + i
/-- SF.RESET_CH, 0x2826:01. -/
abbrev SF_RESET_CH (i : Nat) : Nat := 0x282601 + i
/-- SF.STATE, 0x2827:01. -/
abbrev SF_STATE (i : Nat) : Nat := 0x282701 + i
/-- SF.DEMANDS, 0x2828:01. -/
abbrev SF_DEMANDS (i : Nat) : Nat := 0x282801 + i
/-- AXIS.CNT, 0x2830:01. -/
abbrev AXIS_CNT (i : Nat) : Nat := 0x283001 + i
/-- AXIS.ENC_SCALE, 0x2831:01. -/
abbrev AXIS_ENC_SCALE (i : Nat) : Nat := 0x283101 + i
/-- AXIS.SPEED_WIN, 0x2832:01. -/
abbrev AXIS_SPEED_WIN (i : Nat) : Nat := 0x283201 + i
/-- AXIS.DRV_CONN, 0x2833:01. -/
abbrev AXIS_DRV_CONN (i : Nat) : Nat := 0x283301 + i
/-- AXIS.DRV_OFS, 0x2834:01. -/
abbrev AXIS_DRV_OFS (i : Nat) : Nat := 0x283401 + i
/-- AXIS.DECEL, 0x2835:01. -/
abbrev AXIS_DECEL (i : Nat) : Nat := 0x283501 + i
/-- AXIS.RAMP_TOL, 0x2836:01. -/
abbrev AXIS_RAMP_TOL (i : Nat) : Nat := 0x283601 + i
/-- AXIS.RAMP_MAX_MS, 0x2837:01. -/
abbrev AXIS_RAMP_MAX_MS (i : Nat) : Nat := 0x283701 + i
/-- AXIS.STILL, 0x2838:01. -/
abbrev AXIS_STILL (i : Nat) : Nat := 0x283801 + i
/-- AXIS.STILL_MS, 0x2839:01. -/
abbrev AXIS_STILL_MS (i : Nat) : Nat := 0x283901 + i
/-- AXIS.SRC_TOL, 0x283A:01. -/
abbrev AXIS_SRC_TOL (i : Nat) : Nat := 0x283A01 + i
/-- AXIS.SRC_TOL_MS, 0x283B:01. -/
abbrev AXIS_SRC_TOL_MS (i : Nat) : Nat := 0x283B01 + i
/-- AXIS.SPEED_A, 0x283C:01. -/
abbrev AXIS_SPEED_A (i : Nat) : Nat := 0x283C01 + i
/-- AXIS.SPEED_B, 0x283D:01. -/
abbrev AXIS_SPEED_B (i : Nat) : Nat := 0x283D01 + i
/-- AXIS.STATUS, 0x283E:01. -/
abbrev AXIS_STATUS (i : Nat) : Nat := 0x283E01 + i
/-- SCRIM.DIR, 0x2840:01. -/
abbrev SCRIM_DIR (n : Nat) : Nat := 0x284001 + n * 256
/-- SCRIM.CONN_ID, 0x2840:02. -/
abbrev SCRIM_CONN_ID (n : Nat) : Nat := 0x284002 + n * 256
/-- SCRIM.PEER1, 0x2840:03. -/
abbrev SCRIM_PEER1 (n : Nat) : Nat := 0x284003 + n * 256
/-- SCRIM.PEER2, 0x2840:04. -/
abbrev SCRIM_PEER2 (n : Nat) : Nat := 0x284004 + n * 256
/-- SCRIM.LEN, 0x2840:05. -/
abbrev SCRIM_LEN (n : Nat) : Nat := 0x284005 + n * 256
/-- SCRIM.CYCLE, 0x2840:06. -/
abbrev SCRIM_CYCLE (n : Nat) : Nat := 0x284006 + n * 256
/-- SCRIM.TX_CG, 0x2840:07. -/
abbrev SCRIM_TX_CG (n : Nat) : Nat := 0x284007 + n * 256
/-- SCRIM.WD_MS, 0x2840:08. -/
abbrev SCRIM_WD_MS (n : Nat) : Nat := 0x284008 + n * 256
/-- SCRIM.SINGLE_MAX, 0x2840:09. -/
abbrev SCRIM_SINGLE_MAX (n : Nat) : Nat := 0x284009 + n * 256
/-- SCRIM.SKEW_US, 0x2840:0A. -/
abbrev SCRIM_SKEW_US (n : Nat) : Nat := 0x28400A + n * 256
/-- SCRIM.MAX_AGE_US, 0x2840:0B. -/
abbrev SCRIM_MAX_AGE_US (n : Nat) : Nat := 0x28400B + n * 256
/-- SCRIM.STATE, 0x2840:0C. -/
abbrev SCRIM_STATE (n : Nat) : Nat := 0x28400C + n * 256
/-- SCRIM.SEQ, 0x2840:0D. -/
abbrev SCRIM_SEQ (n : Nat) : Nat := 0x28400D + n * 256
/-- SCRIM.ACCEPT2, 0x2840:0E. -/
abbrev SCRIM_ACCEPT2 (n : Nat) : Nat := 0x28400E + n * 256
/-- SCRIM.ACCEPT1, 0x2840:0F. -/
abbrev SCRIM_ACCEPT1 (n : Nat) : Nat := 0x28400F + n * 256
/-- SCRIM.DISAGREE, 0x2840:10. -/
abbrev SCRIM_DISAGREE (n : Nat) : Nat := 0x284010 + n * 256
/-- SCRIM.INVALID_A, 0x2840:11. -/
abbrev SCRIM_INVALID_A (n : Nat) : Nat := 0x284011 + n * 256
/-- SCRIM.INVALID_B, 0x2840:12. -/
abbrev SCRIM_INVALID_B (n : Nat) : Nat := 0x284012 + n * 256
/-- SCRIM.REJECTED, 0x2840:13. -/
abbrev SCRIM_REJECTED (n : Nat) : Nat := 0x284013 + n * 256
/-- SCRIM.TIMEOUTS, 0x2840:14. -/
abbrev SCRIM_TIMEOUTS (n : Nat) : Nat := 0x284014 + n * 256
/-- SCRIM.DATA, 0x2840:15. -/
abbrev SCRIM_DATA (n : Nat) : Nat := 0x284015 + n * 256
/-- RSO.SRC, 0x2860:01. -/
abbrev RSO_SRC (i : Nat) : Nat := 0x286001 + i
/-- RSO.STATE, 0x2861:01. -/
abbrev RSO_STATE (i : Nat) : Nat := 0x286101 + i
/-- PAIR.ENABLE, 0x2900:01. -/
abbrev PAIR_ENABLE : Nat := 0x290001
/-- PAIR.UNIT, 0x2900:02. -/
abbrev PAIR_UNIT : Nat := 0x290002
/-- PAIR.PAIR_ID, 0x2900:03. -/
abbrev PAIR_PAIR_ID : Nat := 0x290003
/-- PAIR.PARTNER_ID, 0x2900:04. -/
abbrev PAIR_PARTNER_ID : Nat := 0x290004
/-- PAIR.WITNESS_ID, 0x2900:05. -/
abbrev PAIR_WITNESS_ID : Nat := 0x290005
/-- PAIR.START_WAIT_MS, 0x2900:06. -/
abbrev PAIR_START_WAIT_MS : Nat := 0x290006
/-- PAIR.RETURN_HOLD_S, 0x2900:07. -/
abbrev PAIR_RETURN_HOLD_S : Nat := 0x290007
/-- PAIR.HB_MS, 0x2900:08. -/
abbrev PAIR_HB_MS : Nat := 0x290008
/-- PAIR.WIT_LOSS_MS, 0x2900:09. -/
abbrev PAIR_WIT_LOSS_MS : Nat := 0x290009
/-- PAIR.RECORD_WAIT_MS, 0x2900:0A. -/
abbrev PAIR_RECORD_WAIT_MS : Nat := 0x29000A
/-- PAIR.RESYNC_LIMIT, 0x2900:0B. -/
abbrev PAIR_RESYNC_LIMIT : Nat := 0x29000B
/-- PAIR.CMP_TICKS, 0x2900:0C. -/
abbrev PAIR_CMP_TICKS : Nat := 0x29000C
/-- PAIR.CMP_UIO_TOL, 0x2900:0D. -/
abbrev PAIR_CMP_UIO_TOL : Nat := 0x29000D
/-- PAIR.CMP_DIO, 0x2900:0E. -/
abbrev PAIR_CMP_DIO : Nat := 0x29000E
/-- PAIR.CMP_UIO, 0x2900:0F. -/
abbrev PAIR_CMP_UIO : Nat := 0x29000F
/-- PAIR.ROLE, 0x2910:01. -/
abbrev PAIR_ROLE : Nat := 0x291001
/-- PAIR.STATUS, 0x2910:02. -/
abbrev PAIR_STATUS : Nat := 0x291002
/-- PAIR.PARTNER_WORD, 0x2910:03. -/
abbrev PAIR_PARTNER_WORD : Nat := 0x291003
/-- PAIR.WITNESS_WORD, 0x2910:04. -/
abbrev PAIR_WITNESS_WORD : Nat := 0x291004
/-- PAIR.HEALTH, 0x2910:05. -/
abbrev PAIR_HEALTH : Nat := 0x291005
/-- PAIR.PARTNER_HEALTH, 0x2910:06. -/
abbrev PAIR_PARTNER_HEALTH : Nat := 0x291006
/-- PAIR.STEP, 0x2910:07. -/
abbrev PAIR_STEP : Nat := 0x291007
/-- PAIR.HASH, 0x2910:08. -/
abbrev PAIR_HASH : Nat := 0x291008
/-- PAIR.HASH_PARTNER, 0x2910:09. -/
abbrev PAIR_HASH_PARTNER : Nat := 0x291009
/-- PAIR.REC_BYTES, 0x2910:0A. -/
abbrev PAIR_REC_BYTES : Nat := 0x29100A
/-- PAIR.REC_LIMIT, 0x2910:0B. -/
abbrev PAIR_REC_LIMIT : Nat := 0x29100B
/-- PAIR.TIME_DIFF, 0x2910:0C. -/
abbrev PAIR_TIME_DIFF : Nat := 0x29100C
/-- PAIR.RETURN_LEFT_S, 0x2910:0D. -/
abbrev PAIR_RETURN_LEFT_S : Nat := 0x29100D
/-- PAIR.SYNC_PCT, 0x2910:0E. -/
abbrev PAIR_SYNC_PCT : Nat := 0x29100E
/-- PAIR.DIFF_DIO, 0x2910:0F. -/
abbrev PAIR_DIFF_DIO : Nat := 0x29100F
/-- PAIR.DIFF_UIO, 0x2910:10. -/
abbrev PAIR_DIFF_UIO : Nat := 0x291010
/-- PAIR.REFUSE_REASON, 0x2910:11. -/
abbrev PAIR_REFUSE_REASON : Nat := 0x291011
/-- PAIR.CFG_HASH, 0x2910:12. -/
abbrev PAIR_CFG_HASH : Nat := 0x291012
/-- PAIR.TAKEOVERS_LOSS, 0x2920:01. -/
abbrev PAIR_TAKEOVERS_LOSS : Nat := 0x292001
/-- PAIR.HANDOVERS, 0x2920:02. -/
abbrev PAIR_HANDOVERS : Nat := 0x292002
/-- PAIR.HASH_MISMATCH, 0x2920:03. -/
abbrev PAIR_HASH_MISMATCH : Nat := 0x292003
/-- PAIR.RESYNCS, 0x2920:04. -/
abbrev PAIR_RESYNCS : Nat := 0x292004
/-- PAIR.RECORDS_MISSED, 0x2920:05. -/
abbrev PAIR_RECORDS_MISSED : Nat := 0x292005
/-- PAIR.LAST_GAP_NS, 0x2920:06. -/
abbrev PAIR_LAST_GAP_NS : Nat := 0x292006
/-- PAIR.TIEBREAKS, 0x2920:07. -/
abbrev PAIR_TIEBREAKS : Nat := 0x292007
/-- PAIR.ORDERS_IGNORED, 0x2920:08. -/
abbrev PAIR_ORDERS_IGNORED : Nat := 0x292008
/-- PAIR.LANE_ERRORS, 0x2920:09. -/
abbrev PAIR_LANE_ERRORS : Nat := 0x292009
/-- PAIR.AGREE_UNKNOWN, 0x2920:0A. -/
abbrev PAIR_AGREE_UNKNOWN : Nat := 0x29200A
/-- PAIR.CMD, 0x2930:01. -/
abbrev PAIR_CMD : Nat := 0x293001
/-- WIT.ENABLE, 0x2980:01. -/
abbrev WIT_ENABLE : Nat := 0x298001
/-- WIT.HB_MS, 0x2980:02. -/
abbrev WIT_HB_MS : Nat := 0x298002
/-- WIT.LOSS_MS, 0x2980:03. -/
abbrev WIT_LOSS_MS : Nat := 0x298003
/-- WIT.JUDGE_MS, 0x2980:04. -/
abbrev WIT_JUDGE_MS : Nat := 0x298004
/-- WIT.ORDER_LEAD_MS, 0x2980:05. -/
abbrev WIT_ORDER_LEAD_MS : Nat := 0x298005
/-- WIT.PAIRS, 0x2980:06. -/
abbrev WIT_PAIRS : Nat := 0x298006
/-- WIT.P.PAIR_ID, 0x2981:01. -/
abbrev WIT_P_PAIR_ID (n : Nat) : Nat := 0x298101 + n * 256
/-- WIT.P.ID_PRIMARY, 0x2981:02. -/
abbrev WIT_P_ID_PRIMARY (n : Nat) : Nat := 0x298102 + n * 256
/-- WIT.P.ID_SECONDARY, 0x2981:03. -/
abbrev WIT_P_ID_SECONDARY (n : Nat) : Nat := 0x298103 + n * 256
/-- WIT.P.STATE, 0x2981:04. -/
abbrev WIT_P_STATE (n : Nat) : Nat := 0x298104 + n * 256
/-- WIT.P.ACTIVE_ID, 0x2981:05. -/
abbrev WIT_P_ACTIVE_ID (n : Nat) : Nat := 0x298105 + n * 256
/-- WIT.P.HEALTH_PRIMARY, 0x2981:06. -/
abbrev WIT_P_HEALTH_PRIMARY (n : Nat) : Nat := 0x298106 + n * 256
/-- WIT.P.HEALTH_SECONDARY, 0x2981:07. -/
abbrev WIT_P_HEALTH_SECONDARY (n : Nat) : Nat := 0x298107 + n * 256
/-- WIT.P.ORDERS, 0x2981:08. -/
abbrev WIT_P_ORDERS (n : Nat) : Nat := 0x298108 + n * 256
/-- WIT.P.LAST_AT, 0x2981:09. -/
abbrev WIT_P_LAST_AT (n : Nat) : Nat := 0x298109 + n * 256
/-- NET.ETHERTYPE, 0x2A00:01. -/
abbrev NET_ETHERTYPE : Nat := 0x2A0001
/-- NET.GROUP_MAC, 0x2A00:02. -/
abbrev NET_GROUP_MAC : Nat := 0x2A0002
/-- NET.VLAN, 0x2A00:03. -/
abbrev NET_VLAN : Nat := 0x2A0003
/-- NET.RIO_SLOT_NS, 0x2A00:04. -/
abbrev NET_RIO_SLOT_NS : Nat := 0x2A0004
/-- NET.DS_SESSIONS, 0x2A00:05. -/
abbrev NET_DS_SESSIONS : Nat := 0x2A0005
/-- NET.DS_PORT, 0x2A00:06. -/
abbrev NET_DS_PORT : Nat := 0x2A0006
/-- NET.DS_PLAIN, 0x2A00:07. -/
abbrev NET_DS_PLAIN : Nat := 0x2A0007
/-- NET.LINK_LOST_MASK, 0x2A00:08. -/
abbrev NET_LINK_LOST_MASK : Nat := 0x2A0008
/-- NET.MAC, 0x2A01:01. -/
abbrev NET_MAC (n : Nat) : Nat := 0x2A0101 + n * 256
/-- NET.STATUS, 0x2A01:02. -/
abbrev NET_STATUS (n : Nat) : Nat := 0x2A0102 + n * 256
/-- NET.MRP_EN, 0x2A01:03. -/
abbrev NET_MRP_EN (n : Nat) : Nat := 0x2A0103 + n * 256
/-- NET.IP_ADDR, 0x2A01:04. -/
abbrev NET_IP_ADDR (n : Nat) : Nat := 0x2A0104 + n * 256
/-- NET.IP_MASK, 0x2A01:05. -/
abbrev NET_IP_MASK (n : Nat) : Nat := 0x2A0105 + n * 256
/-- NET.IP_GW, 0x2A01:06. -/
abbrev NET_IP_GW (n : Nat) : Nat := 0x2A0106 + n * 256
/-- NET.RX_FRAMES, 0x2A01:07. -/
abbrev NET_RX_FRAMES (n : Nat) : Nat := 0x2A0107 + n * 256
/-- NET.TX_FRAMES, 0x2A01:08. -/
abbrev NET_TX_FRAMES (n : Nat) : Nat := 0x2A0108 + n * 256
/-- NET.RX_ERRORS, 0x2A01:09. -/
abbrev NET_RX_ERRORS (n : Nat) : Nat := 0x2A0109 + n * 256
/-- NET.DROPPED, 0x2A01:0A. -/
abbrev NET_DROPPED (n : Nat) : Nat := 0x2A010A + n * 256
/-- NET.LINK_LOSSES, 0x2A01:0B. -/
abbrev NET_LINK_LOSSES (n : Nat) : Nat := 0x2A010B + n * 256
/-- PTP.FOLLOWED, 0x2A10:01. -/
abbrev PTP_FOLLOWED : Nat := 0x2A1001
/-- PTP.MOVES, 0x2A10:02. -/
abbrev PTP_MOVES : Nat := 0x2A1002
/-- PTP.ENABLE, 0x2A11:01. -/
abbrev PTP_ENABLE (n : Nat) : Nat := 0x2A1101 + n * 256
/-- PTP.DOMAIN, 0x2A11:02. -/
abbrev PTP_DOMAIN (n : Nat) : Nat := 0x2A1102 + n * 256
/-- PTP.DELAY_MECH, 0x2A11:03. -/
abbrev PTP_DELAY_MECH (n : Nat) : Nat := 0x2A1103 + n * 256
/-- PTP.TRANSPORT, 0x2A11:04. -/
abbrev PTP_TRANSPORT (n : Nat) : Nat := 0x2A1104 + n * 256
/-- PTP.MODE, 0x2A11:05. -/
abbrev PTP_MODE (n : Nat) : Nat := 0x2A1105 + n * 256
/-- PTP.PRIORITY1, 0x2A11:06. -/
abbrev PTP_PRIORITY1 (n : Nat) : Nat := 0x2A1106 + n * 256
/-- PTP.PRIORITY2, 0x2A11:07. -/
abbrev PTP_PRIORITY2 (n : Nat) : Nat := 0x2A1107 + n * 256
/-- PTP.LOG_SYNC, 0x2A11:08. -/
abbrev PTP_LOG_SYNC (n : Nat) : Nat := 0x2A1108 + n * 256
/-- PTP.LOG_ANNOUNCE, 0x2A11:09. -/
abbrev PTP_LOG_ANNOUNCE (n : Nat) : Nat := 0x2A1109 + n * 256
/-- PTP.LOG_DELAY, 0x2A11:0A. -/
abbrev PTP_LOG_DELAY (n : Nat) : Nat := 0x2A110A + n * 256
/-- PTP.ASYM_NS, 0x2A11:0B. -/
abbrev PTP_ASYM_NS (n : Nat) : Nat := 0x2A110B + n * 256
/-- PTP.DELAY_MAX_NS, 0x2A11:0C. -/
abbrev PTP_DELAY_MAX_NS (n : Nat) : Nat := 0x2A110C + n * 256
/-- PTP.PORT_STATE, 0x2A11:0D. -/
abbrev PTP_PORT_STATE (n : Nat) : Nat := 0x2A110D + n * 256
/-- PTP.MEAN_DELAY, 0x2A11:0E. -/
abbrev PTP_MEAN_DELAY (n : Nat) : Nat := 0x2A110E + n * 256
/-- PTP.GM_ID, 0x2A11:0F. -/
abbrev PTP_GM_ID (n : Nat) : Nat := 0x2A110F + n * 256
/-- PTP.GM_CLASS, 0x2A11:10. -/
abbrev PTP_GM_CLASS (n : Nat) : Nat := 0x2A1110 + n * 256
/-- PTP.VALID, 0x2A11:11. -/
abbrev PTP_VALID (n : Nat) : Nat := 0x2A1111 + n * 256
/-- PTP.INVALID, 0x2A11:12. -/
abbrev PTP_INVALID (n : Nat) : Nat := 0x2A1112 + n * 256
/-- PTP.TC_FORWARDED, 0x2A11:13. -/
abbrev PTP_TC_FORWARDED (n : Nat) : Nat := 0x2A1113 + n * 256
/-- PHY.RX_1000, 0x2A18:01. -/
abbrev PHY_RX_1000 : Nat := 0x2A1801
/-- PHY.TX_1000, 0x2A18:02. -/
abbrev PHY_TX_1000 : Nat := 0x2A1802
/-- PHY.RX_100, 0x2A18:03. -/
abbrev PHY_RX_100 : Nat := 0x2A1803
/-- PHY.TX_100, 0x2A18:04. -/
abbrev PHY_TX_100 : Nat := 0x2A1804
/-- LQ.DEPTH, 0x2A20:01. -/
abbrev LQ_DEPTH : Nat := 0x2A2001
/-- LQ.PEAK_A, 0x2A20:02. -/
abbrev LQ_PEAK_A : Nat := 0x2A2002
/-- LQ.PEAK_B, 0x2A20:03. -/
abbrev LQ_PEAK_B : Nat := 0x2A2003
/-- LQ.LATE, 0x2A20:04. -/
abbrev LQ_LATE : Nat := 0x2A2004
/-- LQ.DELAYED, 0x2A20:05. -/
abbrev LQ_DELAYED : Nat := 0x2A2005
/-- LQ.FULL, 0x2A20:06. -/
abbrev LQ_FULL : Nat := 0x2A2006
/-- LQ.LINKDOWN, 0x2A20:07. -/
abbrev LQ_LINKDOWN : Nat := 0x2A2007
/-- FRAME.TX_TABLE, 0x2A30:01. -/
abbrev FRAME_TX_TABLE : Nat := 0x2A3001
/-- FRAME.RX_TABLE, 0x2A30:02. -/
abbrev FRAME_RX_TABLE : Nat := 0x2A3002
/-- FRAME.TX_USED, 0x2A30:03. -/
abbrev FRAME_TX_USED : Nat := 0x2A3003
/-- FRAME.RX_USED, 0x2A30:04. -/
abbrev FRAME_RX_USED : Nat := 0x2A3004
/-- FRAME.TX_STATUS, 0x2A31:01. -/
abbrev FRAME_TX_STATUS (i : Nat) : Nat := 0x2A3101 + i
/-- FRAME.RX_STATUS, 0x2A32:01. -/
abbrev FRAME_RX_STATUS (i : Nat) : Nat := 0x2A3201 + i
/-- FRAME.RX_AGE, 0x2A33:01. -/
abbrev FRAME_RX_AGE (i : Nat) : Nat := 0x2A3301 + i
/-- CAN.CONTROLLERS, 0x2B00:01. -/
abbrev CAN_CONTROLLERS : Nat := 0x2B0001
/-- CAN.CLOCK_HZ, 0x2B00:02. -/
abbrev CAN_CLOCK_HZ : Nat := 0x2B0002
/-- CAN.LATE, 0x2B00:03. -/
abbrev CAN_LATE : Nat := 0x2B0003
/-- CAN.MODE, 0x2B01:01. -/
abbrev CAN_MODE (n : Nat) : Nat := 0x2B0101 + n * 256
/-- CAN.NBT, 0x2B01:02. -/
abbrev CAN_NBT (n : Nat) : Nat := 0x2B0102 + n * 256
/-- CAN.DBT, 0x2B01:03. -/
abbrev CAN_DBT (n : Nat) : Nat := 0x2B0103 + n * 256
/-- CAN.TERM, 0x2B01:04. -/
abbrev CAN_TERM (n : Nat) : Nat := 0x2B0104 + n * 256
/-- CAN.NODE_ID, 0x2B01:05. -/
abbrev CAN_NODE_ID (n : Nat) : Nat := 0x2B0105 + n * 256
/-- CAN.TX_ORDER, 0x2B01:06. -/
abbrev CAN_TX_ORDER (n : Nat) : Nat := 0x2B0106 + n * 256
/-- CAN.NOACK_LIMIT, 0x2B01:07. -/
abbrev CAN_NOACK_LIMIT (n : Nat) : Nat := 0x2B0107 + n * 256
/-- CAN.NOACK_SS, 0x2B01:08. -/
abbrev CAN_NOACK_SS (n : Nat) : Nat := 0x2B0108 + n * 256
/-- CAN.BUSOFF_AUTO, 0x2B01:09. -/
abbrev CAN_BUSOFF_AUTO (n : Nat) : Nat := 0x2B0109 + n * 256
/-- CAN.STATUS, 0x2B01:0A. -/
abbrev CAN_STATUS (n : Nat) : Nat := 0x2B010A + n * 256
/-- CAN.TEC, 0x2B01:0B. -/
abbrev CAN_TEC (n : Nat) : Nat := 0x2B010B + n * 256
/-- CAN.REC, 0x2B01:0C. -/
abbrev CAN_REC (n : Nat) : Nat := 0x2B010C + n * 256
/-- CAN.CMD, 0x2B01:0D. -/
abbrev CAN_CMD (n : Nat) : Nat := 0x2B010D + n * 256
/-- CAN.WAKE_MODE, 0x2B01:0E. -/
abbrev CAN_WAKE_MODE (n : Nat) : Nat := 0x2B010E + n * 256
/-- CAN.WAKE_ID, 0x2B01:0F. -/
abbrev CAN_WAKE_ID (n : Nat) : Nat := 0x2B010F + n * 256
/-- CAN.WAKE_MASK, 0x2B01:10. -/
abbrev CAN_WAKE_MASK (n : Nat) : Nat := 0x2B0110 + n * 256
/-- CAN.WAKE_DATA, 0x2B01:11. -/
abbrev CAN_WAKE_DATA (n : Nat) : Nat := 0x2B0111 + n * 256
/-- CAN.WAKE_DMASK, 0x2B01:12. -/
abbrev CAN_WAKE_DMASK (n : Nat) : Nat := 0x2B0112 + n * 256
/-- CAN.TX_FRAMES, 0x2B01:13. -/
abbrev CAN_TX_FRAMES (n : Nat) : Nat := 0x2B0113 + n * 256
/-- CAN.RX_FRAMES, 0x2B01:14. -/
abbrev CAN_RX_FRAMES (n : Nat) : Nat := 0x2B0114 + n * 256
/-- CAN.ERRORS, 0x2B01:15. -/
abbrev CAN_ERRORS (n : Nat) : Nat := 0x2B0115 + n * 256
/-- CAN.LAST_ERR, 0x2B01:16. -/
abbrev CAN_LAST_ERR (n : Nat) : Nat := 0x2B0116 + n * 256
/-- CAN.BUSOFFS, 0x2B01:17. -/
abbrev CAN_BUSOFFS (n : Nat) : Nat := 0x2B0117 + n * 256
/-- CAN.WAKES, 0x2B01:18. -/
abbrev CAN_WAKES (n : Nat) : Nat := 0x2B0118 + n * 256
/-- CAN.SLEEP_SKIPPED, 0x2B01:19. -/
abbrev CAN_SLEEP_SKIPPED (n : Nat) : Nat := 0x2B0119 + n * 256
/-- CAN.LAST_WAKE_ID, 0x2B05:01. -/
abbrev CAN_LAST_WAKE_ID (i : Nat) : Nat := 0x2B0501 + i
/-- TT.ROLE, 0x2B08:01. -/
abbrev TT_ROLE (n : Nat) : Nat := 0x2B0801 + n * 256
/-- TT.REF_ID, 0x2B08:02. -/
abbrev TT_REF_ID (n : Nat) : Nat := 0x2B0802 + n * 256
/-- TT.CYCLE_TICKS, 0x2B08:03. -/
abbrev TT_CYCLE_TICKS (n : Nat) : Nat := 0x2B0803 + n * 256
/-- TT.MATRIX_CYCLES, 0x2B08:04. -/
abbrev TT_MATRIX_CYCLES (n : Nat) : Nat := 0x2B0804 + n * 256
/-- TT.REF_OFS_NS, 0x2B08:05. -/
abbrev TT_REF_OFS_NS (n : Nat) : Nat := 0x2B0805 + n * 256
/-- TT.LOSS_LIMIT, 0x2B08:06. -/
abbrev TT_LOSS_LIMIT (n : Nat) : Nat := 0x2B0806 + n * 256
/-- TT.STATE, 0x2B08:07. -/
abbrev TT_STATE (n : Nat) : Nat := 0x2B0807 + n * 256
/-- TT.CYCLE_COUNT, 0x2B08:08. -/
abbrev TT_CYCLE_COUNT (n : Nat) : Nat := 0x2B0808 + n * 256
/-- TT.REF_SENT, 0x2B08:09. -/
abbrev TT_REF_SENT (n : Nat) : Nat := 0x2B0809 + n * 256
/-- TT.REF_MISSED, 0x2B08:0A. -/
abbrev TT_REF_MISSED (n : Nat) : Nat := 0x2B080A + n * 256
/-- TT.REF_DELAY_MAX_NS, 0x2B08:0B. -/
abbrev TT_REF_DELAY_MAX_NS (n : Nat) : Nat := 0x2B080B + n * 256
/-- TT.REF_STAMP, 0x2B08:0C. -/
abbrev TT_REF_STAMP (n : Nat) : Nat := 0x2B080C + n * 256
/-- CAN.TX_TABLE, 0x2B10:01. -/
abbrev CAN_TX_TABLE (i : Nat) : Nat := 0x2B1001 + i
/-- CAN.TXB_STATUS, 0x2B11:01. -/
abbrev CAN_TXB_STATUS (i : Nat) : Nat := 0x2B1101 + i
/-- CAN.TXB_CMD, 0x2B12:01. -/
abbrev CAN_TXB_CMD (i : Nat) : Nat := 0x2B1201 + i
/-- CAN.TXB_SENT, 0x2B13:01. -/
abbrev CAN_TXB_SENT (i : Nat) : Nat := 0x2B1301 + i
/-- CAN.TXB_REPLACED, 0x2B14:01. -/
abbrev CAN_TXB_REPLACED (i : Nat) : Nat := 0x2B1401 + i
/-- CAN.RX_FILTERS, 0x2B20:01. -/
abbrev CAN_RX_FILTERS (i : Nat) : Nat := 0x2B2001 + i
/-- CAN.RXO_STATUS, 0x2B21:01. -/
abbrev CAN_RXO_STATUS (i : Nat) : Nat := 0x2B2101 + i
/-- CAN.RXO_AGE, 0x2B22:01. -/
abbrev CAN_RXO_AGE (i : Nat) : Nat := 0x2B2201 + i
/-- CAN.Q_HEAD, 0x2B30:01. -/
abbrev CAN_Q_HEAD (i : Nat) : Nat := 0x2B3001 + i
/-- CAN.Q_ACK, 0x2B31:01. -/
abbrev CAN_Q_ACK (i : Nat) : Nat := 0x2B3101 + i
/-- CAN.Q_COUNT, 0x2B32:01. -/
abbrev CAN_Q_COUNT (i : Nat) : Nat := 0x2B3201 + i
/-- CAN.Q_DROPPED, 0x2B33:01. -/
abbrev CAN_Q_DROPPED (i : Nat) : Nat := 0x2B3301 + i
/-- CAN.Q_READER, 0x2B34:01. -/
abbrev CAN_Q_READER (i : Nat) : Nat := 0x2B3401 + i
/-- CAN.Q_PEAK, 0x2B35:01. -/
abbrev CAN_Q_PEAK (i : Nat) : Nat := 0x2B3501 + i
/-- EV.SOURCES, 0x2C00:01. -/
abbrev EV_SOURCES : Nat := 0x2C0001
/-- EV.TARGETS, 0x2C00:02. -/
abbrev EV_TARGETS : Nat := 0x2C0002
/-- EV.SKEIN_SEV, 0x2C00:03. -/
abbrev EV_SKEIN_SEV : Nat := 0x2C0003
/-- EV.OFFERS, 0x2C00:04. -/
abbrev EV_OFFERS : Nat := 0x2C0004
/-- EV.MERGED, 0x2C00:05. -/
abbrev EV_MERGED : Nat := 0x2C0005
/-- EV.FALLBACKS, 0x2C00:06. -/
abbrev EV_FALLBACKS : Nat := 0x2C0006
/-- EV.REFUSED_RAISES, 0x2C00:07. -/
abbrev EV_REFUSED_RAISES : Nat := 0x2C0007
/-- EV.S.CFG, 0x2C10:01. -/
abbrev EV_S_CFG (n : Nat) (i : Nat) : Nat := 0x2C1001 + n * 256 + i
/-- EV.S.CTRL, 0x2C14:01. -/
abbrev EV_S_CTRL (n : Nat) (i : Nat) : Nat := 0x2C1401 + n * 256 + i
/-- EV.S.STATUS, 0x2C18:01. -/
abbrev EV_S_STATUS (n : Nat) (i : Nat) : Nat := 0x2C1801 + n * 256 + i
/-- EV.S.COUNT, 0x2C1C:01. -/
abbrev EV_S_COUNT (n : Nat) (i : Nat) : Nat := 0x2C1C01 + n * 256 + i
/-- EV.T.THRESH, 0x2C40:01. -/
abbrev EV_T_THRESH (i : Nat) : Nat := 0x2C4001 + i
/-- EV.T.FALLBACK, 0x2C41:01. -/
abbrev EV_T_FALLBACK (i : Nat) : Nat := 0x2C4101 + i
/-- EV.T.STATUS, 0x2C42:01. -/
abbrev EV_T_STATUS (i : Nat) : Nat := 0x2C4201 + i
/-- EV.T.CLAIMS, 0x2C43:01. -/
abbrev EV_T_CLAIMS (i : Nat) : Nat := 0x2C4301 + i
/-- EV.T.SPURIOUS, 0x2C44:01. -/
abbrev EV_T_SPURIOUS (i : Nat) : Nat := 0x2C4401 + i
/-- EV.T.WAKES, 0x2C45:01. -/
abbrev EV_T_WAKES (i : Nat) : Nat := 0x2C4501 + i
/-- EV.T.BAD_DONE, 0x2C46:01. -/
abbrev EV_T_BAD_DONE (i : Nat) : Nat := 0x2C4601 + i
/-- SKEIN.ENTRIES, 0x2D00:01. -/
abbrev SKEIN_ENTRIES : Nat := 0x2D0001
/-- SKEIN.HEAD_SEQ, 0x2D00:02. -/
abbrev SKEIN_HEAD_SEQ : Nat := 0x2D0002
/-- SKEIN.OLDEST_SEQ, 0x2D00:03. -/
abbrev SKEIN_OLDEST_SEQ : Nat := 0x2D0003
/-- SKEIN.COUNT, 0x2D00:04. -/
abbrev SKEIN_COUNT : Nat := 0x2D0004
/-- SKEIN.OVERWRITTEN, 0x2D00:05. -/
abbrev SKEIN_OVERWRITTEN : Nat := 0x2D0005
/-- SKEIN.SUPPRESSED, 0x2D00:06. -/
abbrev SKEIN_SUPPRESSED : Nat := 0x2D0006
/-- SKEIN.SUMMARIES, 0x2D00:07. -/
abbrev SKEIN_SUMMARIES : Nat := 0x2D0007
/-- SKEIN.BOOT_SEQ, 0x2D00:08. -/
abbrev SKEIN_BOOT_SEQ : Nat := 0x2D0008
/-- SKEIN.LOST, 0x2D01:01. -/
abbrev SKEIN_LOST (i : Nat) : Nat := 0x2D0101 + i
/-- SKEIN.BUCKET_DEPTH, 0x2D02:01. -/
abbrev SKEIN_BUCKET_DEPTH (i : Nat) : Nat := 0x2D0201 + i
/-- SKEIN.REFILL_MS, 0x2D03:01. -/
abbrev SKEIN_REFILL_MS (i : Nat) : Nat := 0x2D0301 + i
/-- SKEIN.HELD, 0x2D04:01. -/
abbrev SKEIN_HELD (i : Nat) : Nat := 0x2D0401 + i
/-- SKEIN.FLASH_ENTRIES, 0x2D10:01. -/
abbrev SKEIN_FLASH_ENTRIES : Nat := 0x2D1001
/-- SKEIN.FLASH_HEAD_SEQ, 0x2D10:02. -/
abbrev SKEIN_FLASH_HEAD_SEQ : Nat := 0x2D1002
/-- SKEIN.FLASH_OLDEST_SEQ, 0x2D10:03. -/
abbrev SKEIN_FLASH_OLDEST_SEQ : Nat := 0x2D1003
/-- SKEIN.MIRROR_PENDING, 0x2D10:04. -/
abbrev SKEIN_MIRROR_PENDING : Nat := 0x2D1004
/-- SKEIN.MIRROR_LOST, 0x2D10:05. -/
abbrev SKEIN_MIRROR_LOST : Nat := 0x2D1005
/-- SKEIN.FLASH_ERASES, 0x2D10:06. -/
abbrev SKEIN_FLASH_ERASES : Nat := 0x2D1006
/-- SKEIN.FLASH_RETIRED, 0x2D10:07. -/
abbrev SKEIN_FLASH_RETIRED : Nat := 0x2D1007
/-- SKEIN.READ_FROM, 0x2D20:01. -/
abbrev SKEIN_READ_FROM : Nat := 0x2D2001
/-- SKEIN.READ_SRC, 0x2D20:02. -/
abbrev SKEIN_READ_SRC : Nat := 0x2D2002
/-- SKEIN.READ_MIN_SEV, 0x2D20:03. -/
abbrev SKEIN_READ_MIN_SEV : Nat := 0x2D2003
/-- SKEIN.READ, 0x2D20:04. -/
abbrev SKEIN_READ : Nat := 0x2D2004
/-- DEVICE_TYPE, 0x1000:00. -/
abbrev DEVICE_TYPE : Nat := 0x100000
/-- ERROR_REGISTER, 0x1001:00. -/
abbrev ERROR_REGISTER : Nat := 0x100100
/-- DEVICE_NAME, 0x1008:00. -/
abbrev DEVICE_NAME : Nat := 0x100800
/-- HW_VERSION, 0x1009:00. -/
abbrev HW_VERSION : Nat := 0x100900
/-- SW_VERSION, 0x100A:00. -/
abbrev SW_VERSION : Nat := 0x100A00
/-- VENDOR_ID, 0x1018:01. -/
abbrev VENDOR_ID : Nat := 0x101801
/-- PRODUCT_CODE, 0x1018:02. -/
abbrev PRODUCT_CODE : Nat := 0x101802
/-- REVISION, 0x1018:03. -/
abbrev REVISION : Nat := 0x101803
/-- SERIAL, 0x1018:04. -/
abbrev SERIAL : Nat := 0x101804
/-- SDO.COB_RX, 0x1200:01. -/
abbrev SDO_COB_RX (n : Nat) : Nat := 0x120001 + n * 256
/-- SDO.COB_TX, 0x1200:02. -/
abbrev SDO_COB_TX (n : Nat) : Nat := 0x120002 + n * 256
/-- SEC.STATUS, 0x2E00:01. -/
abbrev SEC_STATUS : Nat := 0x2E0001
/-- SEC.ANON_RIGHTS, 0x2E00:02. -/
abbrev SEC_ANON_RIGHTS : Nat := 0x2E0002
/-- SEC.FW_RIGHTS, 0x2E00:03. -/
abbrev SEC_FW_RIGHTS : Nat := 0x2E0003
/-- SEC.COMMISSIONING, 0x2E00:04. -/
abbrev SEC_COMMISSIONING : Nat := 0x2E0004
/-- SEC.COMMISSION_MAX_S, 0x2E00:05. -/
abbrev SEC_COMMISSION_MAX_S : Nat := 0x2E0005
/-- SEC.COMMISSION_LEFT_S, 0x2E00:06. -/
abbrev SEC_COMMISSION_LEFT_S : Nat := 0x2E0006
/-- SEC.CMD, 0x2E00:07. -/
abbrev SEC_CMD : Nat := 0x2E0007
/-- SEC.EXEC_MIN_VERSION, 0x2E00:08. -/
abbrev SEC_EXEC_MIN_VERSION : Nat := 0x2E0008
/-- SEC.TLS_SUITES, 0x2E00:09. -/
abbrev SEC_TLS_SUITES : Nat := 0x2E0009
/-- SEC.AUTH_FAILS, 0x2E00:0A. -/
abbrev SEC_AUTH_FAILS : Nat := 0x2E000A
/-- SEC.ROLE_RIGHTS, 0x2E01:01. -/
abbrev SEC_ROLE_RIGHTS (i : Nat) : Nat := 0x2E0101 + i
/-- CRED.ID, 0x2E10:01. -/
abbrev CRED_ID (n : Nat) : Nat := 0x2E1001 + n * 256
/-- CRED.ROLE, 0x2E10:02. -/
abbrev CRED_ROLE (n : Nat) : Nat := 0x2E1002 + n * 256
/-- CRED.NAME, 0x2E10:03. -/
abbrev CRED_NAME (n : Nat) : Nat := 0x2E1003 + n * 256
/-- CRED.SECRET, 0x2E10:04. -/
abbrev CRED_SECRET (n : Nat) : Nat := 0x2E1004 + n * 256
/-- CRED.ENABLE, 0x2E10:05. -/
abbrev CRED_ENABLE (n : Nat) : Nat := 0x2E1005 + n * 256
/-- CRED.STATE, 0x2E10:06. -/
abbrev CRED_STATE (n : Nat) : Nat := 0x2E1006 + n * 256
/-- CRED.USES, 0x2E10:07. -/
abbrev CRED_USES (n : Nat) : Nat := 0x2E1007 + n * 256
/-- CRED.FAILS, 0x2E10:08. -/
abbrev CRED_FAILS (n : Nat) : Nat := 0x2E1008 + n * 256
/-- KEY.PUB, 0x2E20:01. -/
abbrev KEY_PUB : Nat := 0x2E2001
/-- KEY.PUB, 0x2E20:02. -/
abbrev KEY_PUB_02 (i : Nat) : Nat := 0x2E2002 + i
/-- KEY.STATE, 0x2E21:01. -/
abbrev KEY_STATE : Nat := 0x2E2101
/-- KEY.STATE, 0x2E21:02. -/
abbrev KEY_STATE_02 (i : Nat) : Nat := 0x2E2102 + i
/-- SEC.PAIR_KEY, 0x2E22:01. -/
abbrev SEC_PAIR_KEY : Nat := 0x2E2201
/-- CS.STATE, 0x2E30:01. -/
abbrev CS_STATE : Nat := 0x2E3001
/-- CS.AUTHOR, 0x2E30:02. -/
abbrev CS_AUTHOR : Nat := 0x2E3002
/-- CS.CHANGES, 0x2E30:03. -/
abbrev CS_CHANGES : Nat := 0x2E3003
/-- CS.CONTENT, 0x2E30:04. -/
abbrev CS_CONTENT : Nat := 0x2E3004
/-- CS.DIGEST, 0x2E30:05. -/
abbrev CS_DIGEST : Nat := 0x2E3005
/-- CS.CMD, 0x2E30:06. -/
abbrev CS_CMD : Nat := 0x2E3006
/-- CS.SIGN, 0x2E30:07. -/
abbrev CS_SIGN : Nat := 0x2E3007
/-- CS.SIGNER1, 0x2E30:08. -/
abbrev CS_SIGNER1 : Nat := 0x2E3008
/-- CS.SEALED_MS, 0x2E30:09. -/
abbrev CS_SEALED_MS : Nat := 0x2E3009
/-- CS.WINDOW_S, 0x2E30:0A. -/
abbrev CS_WINDOW_S : Nat := 0x2E300A
/-- CS.RESULT, 0x2E30:0B. -/
abbrev CS_RESULT : Nat := 0x2E300B
/-- CS.REJECT, 0x2E30:0C. -/
abbrev CS_REJECT : Nat := 0x2E300C
/-- CS.COMMITS, 0x2E30:0D. -/
abbrev CS_COMMITS : Nat := 0x2E300D
/-- STATE.RUN, 0x2F00:01. -/
abbrev STATE_RUN : Nat := 0x2F0001
/-- STATE.CMD, 0x2F00:02. -/
abbrev STATE_CMD : Nat := 0x2F0002
/-- STATE.START_MODE, 0x2F00:03. -/
abbrev STATE_START_MODE : Nat := 0x2F0003
/-- STATE.STOP_FIELD, 0x2F00:04. -/
abbrev STATE_STOP_FIELD : Nat := 0x2F0004
/-- STATE.SAFE_FIELD, 0x2F00:05. -/
abbrev STATE_SAFE_FIELD : Nat := 0x2F0005
/-- STATE.SAFE_HOLD_MS, 0x2F00:06. -/
abbrev STATE_SAFE_HOLD_MS : Nat := 0x2F0006
/-- STATE.FLAGS, 0x2F00:07. -/
abbrev STATE_FLAGS : Nat := 0x2F0007
/-- STATE.LAST_CHANGE, 0x2F00:08. -/
abbrev STATE_LAST_CHANGE : Nat := 0x2F0008
/-- STATE.SAFE_COUNT, 0x2F00:09. -/
abbrev STATE_SAFE_COUNT : Nat := 0x2F0009
/-- STATE.LAST_REJECT, 0x2F00:0A. -/
abbrev STATE_LAST_REJECT : Nat := 0x2F000A
/-- STATE.REJECTS, 0x2F00:0B. -/
abbrev STATE_REJECTS : Nat := 0x2F000B
/-- REACT.IN_PROGRESS, 0x2F10:01. -/
abbrev REACT_IN_PROGRESS : Nat := 0x2F1001
/-- REACT.QUEUED, 0x2F10:02. -/
abbrev REACT_QUEUED : Nat := 0x2F1002
/-- REACT.QUEUE_PEAK, 0x2F10:03. -/
abbrev REACT_QUEUE_PEAK : Nat := 0x2F1003
/-- REACT.ESCALATIONS, 0x2F10:04. -/
abbrev REACT_ESCALATIONS : Nat := 0x2F1004
/-- REACT.LAST, 0x2F10:05. -/
abbrev REACT_LAST : Nat := 0x2F1005
/-- REACT.QUEUE_DEPTH, 0x2F10:06. -/
abbrev REACT_QUEUE_DEPTH : Nat := 0x2F1006
/-- REACT.COUNT, 0x2F11:01. -/
abbrev REACT_COUNT (i : Nat) : Nat := 0x2F1101 + i
/-- HEALTH.MODULE_H, 0x2F20:01. -/
abbrev HEALTH_MODULE_H : Nat := 0x2F2001
/-- HEALTH.LIMIT_ITEM, 0x2F20:02. -/
abbrev HEALTH_LIMIT_ITEM : Nat := 0x2F2002
/-- HEALTH.POWERED_H, 0x2F20:03. -/
abbrev HEALTH_POWERED_H : Nat := 0x2F2003
/-- HEALTH.WINDOW_H, 0x2F20:04. -/
abbrev HEALTH_WINDOW_H : Nat := 0x2F2004
/-- HEALTH.WARN_H, 0x2F20:05. -/
abbrev HEALTH_WARN_H : Nat := 0x2F2005
/-- HEALTH.STATUS, 0x2F20:06. -/
abbrev HEALTH_STATUS : Nat := 0x2F2006
/-- HEALTH.VBAT_V, 0x2F20:07. -/
abbrev HEALTH_VBAT_V : Nat := 0x2F2007
/-- HEALTH.VBAT_CAP_MAH, 0x2F20:08. -/
abbrev HEALTH_VBAT_CAP_MAH : Nat := 0x2F2008
/-- HEALTH.VBAT_USED_MAH, 0x2F20:09. -/
abbrev HEALTH_VBAT_USED_MAH : Nat := 0x2F2009
/-- HEALTH.BANK_ERASES0, 0x2F20:0A. -/
abbrev HEALTH_BANK_ERASES0 : Nat := 0x2F200A
/-- HEALTH.BANK_ERASES1, 0x2F20:0B. -/
abbrev HEALTH_BANK_ERASES1 : Nat := 0x2F200B
/-- HEALTH.AGE_DELTA, 0x2F21:01. -/
abbrev HEALTH_AGE_DELTA (i : Nat) : Nat := 0x2F2101 + i
/-- HEALTH.CONSUMED, 0x2F22:01. -/
abbrev HEALTH_CONSUMED (i : Nat) : Nat := 0x2F2201 + i
/-- HEALTH.LIFE_H, 0x2F23:01. -/
abbrev HEALTH_LIFE_H (i : Nat) : Nat := 0x2F2301 + i
/-- FUSE.WORD, 0x2001:01. -/
abbrev FUSE_WORD : Nat := 0x200101
/-- RS.STATE of station s, 0x3000:01 + 0x40 s. -/
abbrev RS_STATE (s : Nat) : Nat := 0x300001 + s * 0x4000
/-- RS.FLAGS of station s, 0x3000:02 + 0x40 s. -/
abbrev RS_FLAGS (s : Nat) : Nat := 0x300002 + s * 0x4000
/-- RS.CYCLE of station s, 0x3000:03 + 0x40 s. -/
abbrev RS_CYCLE (s : Nat) : Nat := 0x300003 + s * 0x4000
/-- RS.IDENT of station s, 0x3000:04 + 0x40 s. -/
abbrev RS_IDENT (s : Nat) : Nat := 0x300004 + s * 0x4000
/-- RS.LAST_TICK of station s, 0x3000:05 + 0x40 s. -/
abbrev RS_LAST_TICK (s : Nat) : Nat := 0x300005 + s * 0x4000
/-- RS.AGE of station s, 0x3000:06 + 0x40 s. -/
abbrev RS_AGE (s : Nat) : Nat := 0x300006 + s * 0x4000
/-- RS.MISSED of station s, 0x3000:07 + 0x40 s. -/
abbrev RS_MISSED (s : Nat) : Nat := 0x300007 + s * 0x4000
/-- RS.SUPERSEDED of station s, 0x3000:08 + 0x40 s. -/
abbrev RS_SUPERSEDED (s : Nat) : Nat := 0x300008 + s * 0x4000
/-- RS.OUT_DISCARDED of station s, 0x3000:09 + 0x40 s. -/
abbrev RS_OUT_DISCARDED (s : Nat) : Nat := 0x300009 + s * 0x4000
/-- RS.DROPOUTS of station s, 0x3000:0A + 0x40 s. -/
abbrev RS_DROPOUTS (s : Nat) : Nat := 0x30000A + s * 0x4000
/-- RS.NETWORK of station s, 0x3000:0B + 0x40 s. -/
abbrev RS_NETWORK (s : Nat) : Nat := 0x30000B + s * 0x4000
/-- RS.OUT_CG of station s, 0x3000:0C + 0x40 s. -/
abbrev RS_OUT_CG (s : Nat) : Nat := 0x30000C + s * 0x4000
/-- RS.IN_IMAGE of station s, 0x3001:01 + 0x40 s. -/
abbrev RS_IN_IMAGE (s : Nat) : Nat := 0x300101 + s * 0x4000
/-- RS.OUT_IMAGE of station s, 0x3002:01 + 0x40 s. -/
abbrev RS_OUT_IMAGE (s : Nat) : Nat := 0x300201 + s * 0x4000

end Sys2Proof.Machine.Od
end

