-- ==== Sys2Proof/Machine/Ops.lean ====
section
/-! DEFINITION. The named operations every family uses: reading and writing dictionary registers, free values, record
requests, the passing of time, the change of run state, and the fault reactions of chapter 15. -/

namespace Sys2Proof.Machine

/-! ## Dictionary registers -/

/-- The value of a register: what was last written, else its Default. -/
def Core.rd (c : Core) (k : Nat) : Nat := (c.od.get? k).getD (odDefault k)

/-- A register written. -/
def Core.wr (c : Core) (k v : Nat) : Core := { c with od := c.od.ins k v }

/-- The configuration record has a change still to be written (R463). -/
def Core.cfgChanged (c : Core) : Core :=
  { c with srv := { c.srv with changed := some (c.srv.changed.getD c.clk.cyc) } }

/-- One bit of a register. -/
def Core.bit (c : Core) (k i : Nat) : Bool := (c.rd k).testBit i

/-- One bit of a register written. -/
def Core.setBit (c : Core) (k i : Nat) (b : Bool) : Core := c.wr k (putBit (c.rd k) i b)

/-- A bit field of a register. -/
def Core.fld (c : Core) (k lo n : Nat) : Nat := field (c.rd k) lo n

/-- A bit field of a register written. -/
def Core.setFld (c : Core) (k lo n v : Nat) : Core := c.wr k (setField (c.rd k) lo n v)

/-- A counter of `w` bits counts one; at its largest value the spec states no successor, so it takes a free one
(log entry 6). -/
def Core.incW (c : Core) (w k : Nat) : Core :=
  let v := c.rd k
  c.wr k (if v + 1 < 2 ^ w then v + 1 else Config.counterFull k v % 2 ^ w)

def Core.inc16 (c : Core) (k : Nat) : Core := c.incW 16 k
def Core.inc32 (c : Core) (k : Nat) : Core := c.incW 32 k
def Core.inc64 (c : Core) (k : Nat) : Core := c.incW 64 k

/-- A counter of `w` bits counts `n` (log entry 6). -/
def Core.addW (c : Core) (w k n : Nat) : Core :=
  let v := c.rd k
  c.wr k (if v + n < 2 ^ w then v + n else Config.counterFull k (v + n) % 2 ^ w)

/-- A saturating count to `m` (where the entry's Meaning says so). -/
def Core.incSat (c : Core) (m k : Nat) : Core := c.wr k (satInc m (c.rd k))

/-- A register raised to a peak. -/
def Core.peak (c : Core) (k v : Nat) : Core := if c.rd k < v then c.wr k v else c

/-- The bytes of a DOMAIN or string entry. -/
def Core.dom (c : Core) (k : Nat) : Bytes := c.doms.get k

/-- The bytes of a DOMAIN or string entry replaced. -/
def Core.setDom (c : Core) (k : Nat) (b : Bytes) : Core := { c with doms := c.doms.put k b }

/-- An entry takes a value given as bytes: a number in network order. -/
def Core.storeEntry (c : Core) (k : Nat) (v : Bytes) : Core :=
  match odRow? k with
  | some r => if r.type = .domain ∨ r.type = .vstring then c.setDom k v else c.wr k (beNat v)
  | none => c

/-! ## Keys of arrays and records -/

/-- The number of the element `k` of an array entry whose element 0 has key `base`, if it is one of `n`. -/
def elem? (base n k : Nat) : Option Nat := if base ≤ k && decide (k < base + n) then some (k - base) else none

/-- The number of the record of `k` among `n` records of the same layout whose first one has the key `base`. -/
def record? (base n k : Nat) : Option Nat :=
  if base ≤ k && k % 256 == base % 256 && decide (k < base + 256 * n) then some ((k - base) / 256) else none

/-- The source of a key in one of the four-index arrays of sources. -/
def source? (base k : Nat) : Option Nat :=
  let i := k / 256
  if base ≤ i && decide (i < base + 4) && 1 ≤ k % 256 && k % 256 ≤ 128 then some ((i - base) * 128 + (k % 256 - 1)) else none

def Core.updArr (c : Core) (f : Weave → Weave) : Core := { c with arr := f c.arr }

/-! ## Free values -/

/-- The next free value, of `w` bits. -/
def Core.fresh (c : Core) (w : Nat) : Nat := Config.freeNat c.free % 2 ^ w

/-- `n` free values have been used. -/
def Core.used (c : Core) (n : Nat) : Core := { c with free := c.free + n }

/-! ## Record requests (R449) -/

/-- A request with its severity and arguments. -/
def Core.logSev (c : Core) (code sev a0 a1 : Nat) : Core :=
  { c with out := c.out ++ [⟨code, sev, a0 % 2 ^ 32, a1 % 2 ^ 32, none⟩] }

/-- A request at the severity of its code table. -/
def Core.logA (c : Core) (code a0 a1 : Nat) : Core := c.logSev code (codeSev code) a0 a1

/-- A request whose first argument the chapter states and whose second it does not (log entry 7). -/
def Core.log1 (c : Core) (code a0 : Nat) : Core := (c.logA code a0 (c.fresh 32)).used 1

/-- A request whose arguments the chapter does not state (log entry 7). -/
def Core.log (c : Core) (code : Nat) : Core :=
  (c.logA code (Config.freeNat c.free) (Config.freeNat (c.free + 1))).used 2

/-- A request with a 64-bit argument: ARG0 holds bits 31:0 and ARG1 bits 63:32 (Table 13.1). -/
def Core.log64 (c : Core) (code v : Nat) : Core := c.logA code (v % 2 ^ 32) (v / 2 ^ 32 % 2 ^ 32)

/-- The block sends something. -/
def Core.emit (c : Core) (e : Emission) : Core := { c with sent := c.sent ++ [e] }

/-- A change that the next step record carries (Table 09.3, TYPE 0x07). -/
def Core.carry (c : Core) (x : StepChange) : Core := { c with pair := { c.pair with changes := c.pair.changes ++ [x] } }

/-- The record of a step of station time, made when the step is applied: it carries STEP, and its STAMP is the station time
now (R448). -/
def Core.logStep (c : Core) (code : Nat) (step : Int) : Core :=
  let v := ofInt 64 step
  { c with out := c.out ++ [⟨code, codeSev code, v % 2 ^ 32, v / 2 ^ 32, some c.clk.now⟩] }

/-! ## The answer to a request -/

/-- An answer to a request. -/
def Core.answer (c : Core) (r : Reply) : Core := { c with reply := r }
def Core.abort (c : Core) (code : Nat) : Core := c.answer (.abort code)

/-! ## Time -/

/-- The logic is powered and out of reset, so that it acts at all (Table 15.1). -/
def Core.alive (c : Core) : Bool :=
  match c.run with
  | .off | .vault | .boot => false
  | _ => true

/-- Station time exists: the tick generator has started once (R37, R450). -/
def Core.timed (c : Core) : Bool :=
  match c.run with
  | .off | .vault | .boot | .selftest => false
  | _ => true

/-- `d` core cycles pass; one core cycle is 1 ns of station time (R21). -/
def Core.pass (c : Core) (d : Nat) : Core :=
  { c with clk := { c.clk with cyc := c.clk.cyc + d, now := if c.timed then c.clk.now + d else c.clk.now } }

/-- Time passes until core cycle `t`, if that is still to come. -/
def Core.atCyc (c : Core) (t : Nat) : Core := c.pass (t - c.clk.cyc)

/-- Time passes until station time `t`, if that is still to come. -/
def Core.atTime (c : Core) (t : Nat) : Core := c.pass (t - c.clk.now)

/-- PLY.MONO_MS: milliseconds since power-on (R71). -/
def Core.monoMs (c : Core) : Nat := c.clk.cyc / 1000000

/-- A duration of milliseconds in core cycles. -/
def ms (n : Nat) : Nat := n * 1000000

/-- A duration of microseconds in core cycles. -/
def us (n : Nat) : Nat := n * 1000

/-- The tick period in ns (TICK.PERIOD_NS). -/
def Core.period (c : Core) : Nat := c.rd Od.TICK_PERIOD_NS

/-- The number of the step that the current tick executes: TICK.NUMBER, but in a STANDBY module the number of the step it
makes one tick late (R342). -/
def Core.stepNumber (c : Core) : Nat := c.pair.stepNow.getD (c.rd Od.TICK_NUMBER)

/-- The core cycles from a boundary to phase k/16 (R22). -/
def phaseCycles (period k : Nat) : Nat := k * period / 16

/-- TICK.PHASE: the current phase, the last whose cycle (R22) has come: k is such when k × P < 16 × (elapsed + 1). The extra
time of a stretched tick is slack, phase 15 (R41). -/
def Core.phase (c : Core) : Nat :=
  if c.period = 0 then 0 else min 15 ((16 * (c.clk.cyc - c.clk.tickCyc + 1) - 1) / c.period)

/-- The name of a code class: bits 15:8 of the code (Table 13.4). -/
def codeClass (code : Nat) : Nat := code / 256

/-! ## Fuses (R7) -/

def Core.fuse (c : Core) : Nat := c.rd Od.FUSE_WORD
def Core.variant (c : Core) : Nat := field c.fuse 24 8
def Core.pairEn (c : Core) : Bool := c.fuse.testBit 15
def Core.safetyFuse (c : Core) : Nat := field c.fuse 13 2
def Core.canEn (c : Core) (k : Nat) : Bool := c.fuse.testBit (8 + k)
def Core.fieldFuse (c : Core) : Nat := field c.fuse 6 2
/-- The number of enabled spindles; they are the lowest-numbered ones (R2). -/
def Core.spindles (c : Core) : Nat := field c.fuse 0 6
/-- The number of bonded DIO channels (R2, R3). -/
def Core.dioCount (c : Core) : Nat := match c.fieldFuse with | 0 => 0 | 1 => 24 | _ => 48
/-- The number of bonded UIO channels. -/
def Core.uioCount (c : Core) : Nat := match c.fieldFuse with | 0 => 0 | 1 => 12 | _ => 24
/-- The number of bonded field groups. -/
def Core.fgCount (c : Core) : Nat := match c.fieldFuse with | 0 => 0 | 1 => 3 | _ => 6
/-- The test-pulse sources and safe outputs are bonded (R3: not in the N variants, the gateway and the witness). -/
def Core.safeIo (c : Core) : Bool := c.safetyFuse != 0
/-- Role 0b00: a controller; 0b01: a remote I/O station; 0b10: a gateway; 0b11: a witness (Table 00.2). -/
def Core.roleFuse (c : Core) : Nat := field c.fuse 16 2
/-- The module is a pair member: pair-capable and PAIR.ENABLE TRUE. -/
def Core.pairMember (c : Core) : Bool := c.pairEn && c.rd Od.PAIR_ENABLE == 1

/-! ## The vault's retained block (R527, R528) -/

def RunState.code : RunState → Nat
  | .off => 0 | .vault => 1 | .boot => 2 | .selftest => 3 | .init => 4
  | .stop => 5 | .run => 6 | .hold => 7 | .safe => 8 | .failed => 9

/-- TIME.STATE as a code (Table 01.5). -/
def TimeState.code : TimeState → Nat
  | .free => 0 | .acquiring => 1 | .locked => 2 | .holdover => 3

/-- Bytes 0x040 to 0x07B of the vault (Table 16.3). -/
def Vault.block (v : Vault) : Bytes :=
  leBytes 1 v.bootBank ++ leBytes 1 v.lastState ++ leBytes 1 v.resetCause ++ leBytes 1 v.slotId ++
    leBytes 4 v.debugSplits ++ zeros 52

/-- The executive sets RET_VALID and RET_CRC after each write of the retained block (Table 16.5). -/
def Vault.seal (v : Vault) : Vault :=
  { v with retCrc := crc32c 0xFFFFFFFF v.block, vstatus := putBit v.vstatus 2 true }

/-- A write of the retained block; the stores are voted, so nothing is written while the voter releases nothing
(R60, R73). -/
def Core.vaultWrite (c : Core) (f : Vault → Vault) : Core :=
  if c.ply.unvoted.isSome then c else { c with vault := (f c.vault).seal }

/-! ## Run states (R494) -/

/-- The run state changes: the 0x0F01 record, STATE.LAST_CHANGE and the vault's LAST_STATE. -/
def Core.setRun (c : Core) (r : RunState) : Core :=
  if c.run = r then c
  else
    let c' := (c.logA 0x0F01 c.run.code r.code).wr Od.STATE_LAST_CHANGE (c.rd Od.TICK_COUNT)
    ({ c' with run := r }).vaultWrite fun v => { v with lastState := r.code }

/-! ## Strands in step -/

def Core.inStep (c : Core) (s : Nat) : Bool := c.bit (Od.STRAND_STATUS s) 0

/-- The strands in step, in stagger order X, Y, Z. -/
def Core.stepping (c : Core) : List Nat := [0, 1, 2].filter c.inStep

/-- A strand is retired (R69, R71). -/
def Core.strandRetired (c : Core) (s : Nat) : Bool := c.bit (Od.STRAND_STATUS s) 4 || c.bit (Od.STRAND_STATUS s) 5

/-! ## Safe outputs off (R80, R508) -/

/-- A function is set to OFF and follows its SF.RESTART (R311); a transition from ON is counted (SF.DEMANDS). -/
def Core.sfToOff (c : Core) (f : Nat) : Core :=
  if c.rd (Od.SF_STATE f) = 0 then c
  else (if c.rd (Od.SF_STATE f) = 1 then c.inc32 (Od.SF_DEMANDS f) else c).wr (Od.SF_STATE f) 0

/-- Every safety function goes to OFF; its return follows SF.RESTART (R311). -/
def Core.sfOff (c : Core) : Core := (List.range 16).foldl Core.sfToOff c

/-- The executive does its tick work, so that socmd is written and judged (R79). -/
def Core.tickWork (c : Core) : Bool :=
  match c.run with
  | .init | .stop | .run | .hold => true
  | .safe => c.react.safeEsc
  | _ => false

/-- A forced-off condition holds: R80, and SAFE by escalation (R508); an escalated Ply reaction at L2 (Table 15.6). -/
def Core.soForced (c : Core) : Bool :=
  c.ply.unvoted.isSome || c.ply.split || decide (c.stepping.length < 2) || c.run == .safe ||
    c.react.active.any fun a => a.unit == 1 && a.level == 2 && decide (a.own < 2)

/-- A forced-off condition arises: the voted state of SO0 to SO7 goes to 0 at once (R80) and the functions to OFF. The
event is counted and recorded once, while the variant has safe outputs (R87). -/
def Core.forceSoOff (c : Core) : Core :=
  let c := c.sfOff
  if c.safetyFuse = 0 || c.ply.forced then c
  else
    let c := { c with ply := { c.ply with forced := true } }
    ((c.setFld Od.SOV_STATUS 16 8 0).inc32 Od.SOV_FORCE_OFF_COUNT).log 0x020B

/-! ## Reaction units (Table 15.5) -/

def unitSpindle (n : Nat) : Nat := 2 + n
def unitCreel : Nat := 34
def unitDio (i : Nat) : Nat := 35 + i
def unitFg (g : Nat) : Nat := 83 + g
def unitTp (i : Nat) : Nat := 89 + i
def unitSo (i : Nat) : Nat := 97 + i
def unitUio (i : Nat) : Nat := 105 + i
def unitUg (g : Nat) : Nat := 129 + g
def unitSf (i : Nat) : Nat := 132 + i
def unitScrim (i : Nat) : Nat := 148 + i
def unitNet (n : Nat) : Nat := 164 + n
def unitCan (k : Nat) : Nat := 166 + k
def unitPair : Nat := 170
def unitRemote (s : Nat) : Nat := 171 + s
def unitTask (t : Nat) : Nat := 256 + t

/-! ## Fault reactions (R503 to R508) -/

/-- The highest level in progress, 0 if none. -/
def React.highest (r : React) : Nat := r.active.foldl (fun m a => max m a.level) 0

/-- REACT.LAST (Table 15.11). -/
def reactLast (f : Reaction) (queued : Bool) : Nat :=
  f.unit % 512 * 2 ^ 32 + f.level % 8 * 2 ^ 29 + f.own % 8 * 2 ^ 26 + b2n queued * 2 ^ 25 +
    b2n (decide (f.own < f.level)) * 2 ^ 24 + f.code % 2 ^ 16

/-- SAFE is entered, from any cause: commits and releases stop, the safe outputs are forced off, ACTIVE toggling stops
(R73, R508). -/
def Core.enterSafe (c : Core) (esc : Bool) : Core :=
  let c := { c with
    react := { c.react with safeFrom := c.run, safeEsc := esc, safeQuiet := c.clk.cyc }
    ply := { c.ply with holdWork := true }
    toggling := false }
  ((c.setRun .safe).inc32 Od.STATE_SAFE_COUNT).forceSoOff

/-- The hard stop: the tick generator stops (R494, Table 15.4). -/
def Core.enterFailed (c : Core) : Core :=
  let c := { c with
    clk := { c.clk with running := false }
    ply := { c.ply with holdWork := true }
    toggling := false }
  (c.setRun .failed).sfOff

/-- A level-1 task is stopped: TASK.STATUS bit STOPPED (Table 05.10). -/
def Core.stopTask (c : Core) (t : Nat) : Core := c.setBit (Od.TASK_STATUS t) 5 true

/-- The tasks of the running image that have a pinned job at home h. -/
def Core.pinnedTasks (c : Core) (h : Nat) : List Nat :=
  match c.prog.image with
  | none => []
  | some im => (im.tasks.filter fun t => t.jobs.any fun p => p.1 == h && field p.2 46 2 == 1).map (·.num)

/-- The running image's task with number t. -/
def Core.taskDef (c : Core) (t : Nat) : Option TaskDef :=
  match c.prog.image with
  | none => none
  | some im => im.tasks.find? (·.num == t)

/-- The task has been stopped for want of a host: until the next power-on or RESET_N (R118). -/
def Core.hostless (c : Core) (t : Nat) : Bool :=
  match c.taskDef t with
  | some d => c.arr.hostless.contains d.hash
  | none => false

/-- A task with a job pinned to SPh is stopped until the next power-on or RESET_N (R118). -/
def Core.stopForGood (c : Core) (t : Nat) : Core :=
  let hash := ((c.taskDef t).map (·.hash)).getD 0
  (c.stopTask t).updArr fun a => { a with hostless := a.hostless ++ [hash] }

/-- The tasks with a job pinned to SPh are stopped as under R118, each with its record (Table 15.6). -/
def Core.stopAtSpindle (c : Core) (h : Nat) : Core :=
  (c.pinnedTasks h).foldl (fun (c : Core) t => if c.hostless t then c else (c.stopForGood t).logA 0x0307 t h) c

/-- What a module that is no longer STANDBY or ACTIVE, or that starts afresh, forgets. -/
def Pair.forget (p : Pair) : Pair :=
  { p with stepNow := none, idle := false, record := none, skipped := [], order := none, acked := false, words := [] }

/-- The module becomes SYNCING; its loop units are disarmed (Table 04.13). -/
def Core.becomeSyncing (c : Core) : Core :=
  let c := { c with role := .syncing, pair := c.pair.forget }.setBit Od.PAIR_STATUS 4 false
  c.updArr fun a => { a with sp := a.sp.map fun s => { s with arm := none, newArm := false } }

/-- The escalated action of Table 15.6 at L2, by reaction unit. -/
def Core.escalateL2 (c : Core) (u : Nat) : Core :=
  if u = 1 then c.forceSoOff
  else if 2 ≤ u ∧ u ≤ 33 then c.stopAtSpindle (u - 2)
  else if 35 ≤ u ∧ u ≤ 131 then
    { c with io := { c.io with forcedOff := c.io.forcedOff.filter (· != u) ++ [u] } }
  else if 132 ≤ u ∧ u ≤ 147 then c.sfToOff (u - 132)
  else if 148 ≤ u ∧ u ≤ 163 then c.wr (Od.SCRIM_STATE (u - 148)) 4
  else if u = 170 then
    let c := if c.pairMember && (c.role == .active || c.role == .standby) then c.becomeSyncing else c
    { c with pair := { c.pair with held := true } }
  else c

/-- A reaction starts: it counts as in progress, and the change its level implies is made (R504, R507). -/
def Core.startReaction (c : Core) (f : Reaction) (queued : Bool) : Core :=
  let c := { c with react := { c.react with active := c.react.active ++ [f] } }
  let c := (c.inc32 (Od.REACT_COUNT f.level)).wr Od.REACT_LAST (reactLast f queued)
  match f.level with
  | 4 => c.enterFailed
  | 3 => if f.code = 0x0205 then c.enterSafe false else (c.logA 0x0F05 f.code f.unit).enterSafe true
  | 2 => if f.own < 2 then c.escalateL2 f.unit else c
  | _ => c

/-- A reaction waits; one that finds the queue full is an L4 reaction (R506). -/
def Core.queueReaction (c : Core) (f : Reaction) : Core :=
  if c.react.queue.length < 64 then
    let c := { c with react := { c.react with queue := c.react.queue ++ [f] } }
    (c.wr Od.REACT_LAST (reactLast f true)).peak Od.REACT_QUEUE_PEAK c.react.queue.length
  else (c.log 0x0F07).startReaction ⟨4, 4, 0x0F07, f.unit⟩ false

/-- The nesting rule R505 for a fault of own level `l`, code and unit. -/
def Core.nest (c : Core) (code l unit : Nat) : Core :=
  let hi := c.react.highest
  if l = 0 || hi = 4 then c
  else if hi = 3 then
    (c.inc32 Od.REACT_ESCALATIONS).startReaction ⟨4, l, code, unit⟩ false
  else
    let again := decide (l ≤ hi) && c.react.active.any fun a =>
      decide (l ≤ a.level) && codeClass a.code == codeClass code && a.unit == unit
    let lvl := if again then min (l + 1) 4 else l
    let c := if again then (c.logA 0x0F04 code lvl).inc32 Od.REACT_ESCALATIONS else c
    if l ≤ hi ∧ lvl ≤ hi then c.queueReaction ⟨lvl, l, code, unit⟩
    else
      let early := c.run = .boot ∨ c.run = .selftest
      c.startReaction ⟨if lvl = 3 ∧ early then 4 else lvl, l, code, unit⟩ false

/-- A fault: its record, then its reaction (R505). -/
def Core.fault (c : Core) (code unit a0 a1 : Nat) : Core :=
  (c.logA code a0 a1).nest code (codeLevel code) unit

/-- A fault whose record arguments the chapter does not state (log entry 7). -/
def Core.fault' (c : Core) (code unit : Nat) : Core := (c.log code).nest code (codeLevel code) unit

/-- A fault that is the outcome of a reaction in progress of its class and unit is part of that reaction (R85). -/
def Core.faultPart (c : Core) (code unit : Nat) : Core :=
  if c.react.active.any fun a => codeClass a.code == codeClass code && a.unit == unit then c.log code
  else c.fault' code unit

/-- The reactions that end at a tick boundary: those of L1 and L2 (Table 15.4). -/
def Core.endReactions (c : Core) : Core :=
  { c with react := { c.react with active := c.react.active.filter fun a => 3 ≤ a.level } }

/-- SAFE is left: the station returns to the state it was entered from; a pair member that was ACTIVE or STANDBY takes
the role SYNCING (R75, R76, R508). -/
def Core.leaveSafe (c : Core) : Core :=
  let c := { c with
    react := { c.react with active := c.react.active.filter (fun a => a.level != 3), safeEsc := false } }
  let c := if c.pairMember && (c.role == Role.active || c.role == Role.standby) then c.becomeSyncing else c
  c.setRun c.react.safeFrom

end Sys2Proof.Machine
end

