-- ==== Sys2Proof/Machine/Cpu.lean ====
section
/-! DEFINITION. The RISC-V cores (R54, R57, R90): the CSRs of a strand and of a spindle, physical memory protection, and the
entry into a trap. The RISC-V privileged specification is named and not quoted by the manual: what is taken from it is
PRESUMED (log entry 160). -/

namespace Sys2Proof.Machine

/-- A core at reset: machine mode, no protection entry set. -/
def Cpu.fresh : Cpu := ⟨.machine, []⟩

def Cpu.csr (x : Cpu) (n : Nat) : Nat := (x.csrs.get? n).getD 0

def Cpu.put (x : Cpu) (n v : Nat) : Cpu := { x with csrs := x.csrs.ins n (v % 2 ^ 32) }

/-! ## Physical memory protection -/

/-- The configuration byte of entry i: R 0, W 1, X 2, A 4:3, L 7. -/
def Cpu.pmpCfg (x : Cpu) (i : Nat) : Nat := field (x.csr (0x3A0 + i / 4)) (8 * (i % 4)) 8

/-- Trailing ones of a word, up to `n`. -/
def trailingOnes : Nat → Nat → Nat
  | 0, _ => 0
  | n + 1, v => if v % 2 = 1 then 1 + trailingOnes n (v / 2) else 0

/-- The range of entry i, first address and end, at a granularity of 32 bytes (R54); none: the entry is off. -/
def Cpu.pmpRange (x : Cpu) (i : Nat) : Option (Nat × Nat) :=
  let top (k : Nat) : Nat := x.csr (0x3B0 + k) / 8 * 32
  match field (x.pmpCfg i) 3 2 with
  | 1 => some (if i = 0 then 0 else top (i - 1), top i)
  | 3 =>
    let a := x.csr (0x3B0 + i) ||| 3
    let size := 2 ^ (trailingOnes 32 a + 3)
    some (a * 4 / size * size, a * 4 / size * size + size)
  | _ => none

/-- The mode in which a load or store is judged: that of MPP while MPRV is set in machine mode. -/
def Cpu.dataMode (x : Cpu) : Privilege :=
  let s := x.csr 0x300
  if x.mode == .machine && s.testBit 17 && field s 11 2 == 0 then .user else x.mode

/-- The protection entries, `n` of them, permit an access of `size` bytes: `right` is the bit of R, W or X. The
lowest-numbered entry that covers a byte decides, and must cover all; without one only machine mode passes. -/
def Cpu.allows (x : Cpu) (n addr size right : Nat) : Bool :=
  let mode := if right = 2 then x.mode else x.dataMode
  let hit := (List.range n).find? fun i => match x.pmpRange i with
    | some (lo, hi) => decide (addr < hi) && decide (lo < addr + size)
    | none => false
  match hit with
  | none => mode == .machine
  | some i =>
    match x.pmpRange i with
    | some (lo, hi) =>
      decide (lo ≤ addr) && decide (addr + size ≤ hi) &&
        ((mode == .machine && !(x.pmpCfg i).testBit 7) || (x.pmpCfg i).testBit right)
    | none => false

/-- A CSR written: one that is read-only, or a locked protection entry, keeps its value. -/
def Cpu.write (x : Cpu) (n v : Nat) : Cpu :=
  if n / 1024 = 3 then x
  else if 0x3A0 ≤ n ∧ n ≤ 0x3A3 then
    x.put n ((List.range 4).foldl (fun w k =>
      if (x.pmpCfg (4 * (n - 0x3A0) + k)).testBit 7 then w else setField w (8 * k) 8 (field v (8 * k) 8)) (x.csr n))
  else if 0x3B0 ≤ n ∧ n ≤ 0x3BF then
    let next := x.pmpCfg (n - 0x3B0 + 1)
    if (x.pmpCfg (n - 0x3B0)).testBit 7 || (n < 0x3BF && next.testBit 7 && field next 3 2 == 1) then x else x.put n v
  else x.put n v

/-! ## Traps -/

/-- The cause of an exception in mcause. -/
def Trap.cause : Trap → Nat
  | .instructionAccess => 1
  | .illegalInstruction => 2
  | .loadAccess => 5
  | .storeAccess => 7

/-- A trap is taken in core cycle `cyc`: mcause, mepc, mtval, the stacked mode and interrupt enable in mstatus, machine
mode. -/
def Cpu.trap (x : Cpu) (cause cyc : Nat) : Cpu :=
  let s := x.csr 0x300
  let s := setField s 11 2 (if x.mode = .machine then 3 else 0)
  let s := putBit (putBit s 7 (s.testBit 3)) 3 false
  { (((x.put 0x342 cause).put 0x341 (Config.trapInfo 0x341 cyc)).put 0x343 (Config.trapInfo 0x343 cyc)).put 0x300 s with
    mode := .machine }

/-- mcause of an interrupt. -/
def interruptCause (n : Nat) : Nat := 2 ^ 31 + n

/-! ## Reading a CSR -/

/-- The CSR time: core cycles since the tick generator started, 0 before (R57, R90). -/
def Core.csrTime (c : Core) : Nat := if c.timed then (c.clk.cyc - c.clk.startCyc) % 2 ^ 64 else 0

/-- The CSRs that strands and spindles have alike: time and the identity of the core. -/
def Core.sharedCsr (c : Core) (spindle : Bool) (hart n : Nat) : Option Nat :=
  match n with
  | 0xC01 => some (c.csrTime % 2 ^ 32)
  | 0xC81 => some (c.csrTime / 2 ^ 32)
  | 0xF11 => some (Config.coreId spindle n % 2 ^ 32)
  | 0xF12 => some (Config.coreId spindle n % 2 ^ 32)
  | 0xF13 => some (Config.coreId spindle n % 2 ^ 32)
  | 0xF14 => some hart
  | _ => none

/-- The counters cycle and instret of the strands, the same on all (R57). -/
def Core.cycleCount (c : Core) : Nat := (c.clk.cyc + c.ply.cycleOfs) % 2 ^ 64
def Core.instretCount (c : Core) : Nat := (Config.retired c.clk.cyc + c.ply.instretOfs) % 2 ^ 64

/-- A CSR of strand s as it reads; none: the read stalls, since an agreement exchange is in progress (R64). socmd reads 0
where it is absent (R87). -/
def Core.strandCsr (c : Core) (s n : Nat) : Option Nat :=
  let x := c.ply.strands[s]?
  match c.sharedCsr false 0 n with
  | some v => some v
  | none =>
    if n = 0xC00 ∨ n = 0xB00 then some (c.cycleCount % 2 ^ 32)
    else if n = 0xC80 ∨ n = 0xB80 then some (c.cycleCount / 2 ^ 32)
    else if n = 0xC02 ∨ n = 0xB02 then some (c.instretCount % 2 ^ 32)
    else if n = 0xC82 ∨ n = 0xB82 then some (c.instretCount / 2 ^ 32)
    else if n = 0x7C0 then some c.ply.agreesel
    else if n = 0x7C1 ∨ n = 0x7C2 then
      if c.ply.agreesel.testBit 31 then none else some (if n = 0x7C1 then c.ply.agreelo else c.ply.agreehi)
    else if n = 0x7C3 then some (if c.safetyFuse = 0 then 0 else (x.map (·.socmd)).getD 0)
    else some ((x.map fun y => y.cpu.csr n).getD 0)

/-- An abstract command that reads register `reg` in the numbering of the debug specification: a CSR answers its value, any
other register a free value, since the block holds none; a read that stalls is not answered (log entry 179). -/
def Core.answerReg (c : Core) (csr : Nat → Option Nat) (reg : Nat) : Core :=
  if reg < 0x1000 then match csr reg with
    | some v => c.answer (.value v)
    | none => c
  else (c.answer (.value (c.fresh 32))).used 1

/-- A CSR write that the voter has released reaches the CSR of every strand in step (Table 02.1). The writes of agreesel and
socmd have commands of their own; agreelo and agreehi are read-only (Table 02.3). -/
def Core.csrWrite (c : Core) (n v : Nat) : Core :=
  let up (f : Cpu → Cpu) : Core := { c with ply := { c.ply with
    strands := c.ply.strands.zipIdx.map fun p => if c.inStep p.2 then { p.1 with cpu := f p.1.cpu } else p.1 } }
  let count (old lo : Nat) : Nat := (setField old lo 32 v + 2 ^ 64 - c.clk.cyc % 2 ^ 64) % 2 ^ 64
  let ret (old lo : Nat) : Nat := (setField old lo 32 v + 2 ^ 64 - Config.retired c.clk.cyc % 2 ^ 64) % 2 ^ 64
  if n = 0xB00 then { c with ply := { c.ply with cycleOfs := count c.cycleCount 0 } }
  else if n = 0xB80 then { c with ply := { c.ply with cycleOfs := count c.cycleCount 32 } }
  else if n = 0xB02 then { c with ply := { c.ply with instretOfs := ret c.instretCount 0 } }
  else if n = 0xB82 then { c with ply := { c.ply with instretOfs := ret c.instretCount 32 } }
  else if 0x7C0 ≤ n ∧ n ≤ 0x7C3 then c
  else up fun x => x.write n v

/-- The strands in step take a trap, all alike. -/
def Core.plyTrap (c : Core) (t : Trap) : Core :=
  { c with ply := { c.ply with
    trap := some t
    strands := c.ply.strands.zipIdx.map fun p =>
      if c.inStep p.2 then { p.1 with cpu := p.1.cpu.trap t.cause c.clk.cyc } else p.1 } }

end Sys2Proof.Machine
end

