-- ==== Sys2Proof/Machine/EventRouter.lean ====
section
/-! DEFINITION. The event router (chapter 12). Sources are 0 to 511, targets 0 (the Ply) and n + 1 (spindle n). -/

namespace Sys2Proof.Machine

/-! ## Registers of one source or target -/

/-- The key of a source's entry in an array that spans four indices (R442). -/
def srcKey (base s : Nat) : Nat := odKey (base + s / 128) (s % 128 + 1)

def Core.evCfg (c : Core) (s : Nat) : Nat := c.rd (srcKey 0x2C10 s)
def Core.evCtrl (c : Core) (s : Nat) : Nat := c.rd (srcKey 0x2C14 s)
def Core.evCount (c : Core) (s : Nat) : Nat := c.rd (srcKey 0x2C1C s)
def Core.setEvCtrl (c : Core) (s v : Nat) : Core := c.wr (srcKey 0x2C14 s) v
def Core.setEvCount (c : Core) (s v : Nat) : Core := c.wr (srcKey 0x2C1C s) v

/-- The fields of EV.S.CFG (Table 12.2). -/
def Core.evEnable (c : Core) (s : Nat) : Bool := (c.evCfg s).testBit 0
def Core.evGroup (c : Core) (s : Nat) : Nat := field (c.evCfg s) 8 4
def Core.evSub (c : Core) (s : Nat) : Nat := field (c.evCfg s) 4 4
def Core.evTrigger (c : Core) (s : Nat) : Nat := field (c.evCfg s) 12 2
def Core.evCoalN (c : Core) (s : Nat) : Nat := field (c.evCfg s) 24 8
def Core.evCoalT (c : Core) (s : Nat) : Nat := field (c.evCfg s) 16 5
/-- MASK and TARGET of EV.S.CTRL (Table 12.3). -/
def Core.evMask (c : Core) (s : Nat) : Bool := (c.evCtrl s).testBit 0
def Core.evTarget (c : Core) (s : Nat) : Nat := field (c.evCtrl s) 16 6

def Core.updRouter (c : Core) (f : Router → Router) : Core := { c with router := f c.router }

/-- Which sources are level sources (Table 12.1). -/
def evLevelKind (s : Nat) : Bool := 65 ≤ s && s ≤ 160

/-- Is a software source (R428). -/
def evSoftware (s : Nat) : Bool := 1 ≤ s && s ≤ 64

/-- The unit of a source is present under the fuse word (R427, R443). -/
def Core.evPresent (c : Core) (s : Nat) : Bool :=
  if s = 0 || 494 ≤ s then false
  else if 65 ≤ s && s ≤ 112 then decide (s - 65 < c.dioCount)
  else if 113 ≤ s && s ≤ 136 then decide (s - 113 < c.uioCount)
  else if 137 ≤ s && s ≤ 144 then decide (0 < c.dioCount)
  else if 145 ≤ s && s ≤ 160 then c.canEn ((s - 145) / 4)
  else if 161 ≤ s && s ≤ 164 then c.canEn (s - 161)
  else if 165 ≤ s && s ≤ 168 then c.canEn (s - 165)
  else if 297 ≤ s && s ≤ 424 then c.canEn ((s - 297) / 32)
  else if 425 ≤ s && s ≤ 440 then c.safetyFuse != 0
  else if 466 ≤ s && s ≤ 489 then decide (s - 466 < c.uioCount)
  else true

/-- The conditions of R427 on a configuration word of one source. -/
def Core.evCfgOk (c : Core) (s v : Nat) : Bool :=
  let trig := field v 12 2
  let n := field v 24 8
  let t := field v 16 5
  (evLevelKind s || trig == 1) && !(trig == 0 && (n != 0 || t != 0)) && n != 1 && decide (t ≤ 24) &&
    (!v.testBit 0 || c.evPresent s) && (v &&& 0xFF1F3FF1 == v)

/-! ## Routing (R438) -/

def Core.targetRetired (c : Core) (t : Nat) : Bool := t != 0 && c.bit Od.SPIN_RETIRED (t - 1)

/-- The route from a target past every retired one; the Ply if the chain comes back. `seen` holds the targets passed. -/
def Core.routeFrom (c : Core) : Nat → List Nat → Nat → Nat
  | 0, _, _ => 0
  | fuel + 1, seen, t =>
    if !c.targetRetired t then t
    else if seen.contains t then 0
    else c.routeFrom fuel (t :: seen) (c.rd (Od.EV_T_FALLBACK t))

def Core.evRoute (c : Core) (s : Nat) : Nat := c.routeFrom 34 [] (c.evTarget s)

/-! ## Pending and arbitration (R430, R432) -/

def Core.inService (c : Core) (s : Nat) : Bool := c.router.service.any (·.src == s)

/-- PENDING of a source: latched for an edge source, its level for TRIGGER 0. -/
def Core.evPending (c : Core) (s : Nat) : Bool :=
  if c.evTrigger s = 0 then c.evEnable s && c.router.levels.contains s && !c.inService s
  else c.router.pending.contains s

/-- The lowest group in service at a target, 16 if none. -/
def Core.evActive (c : Core) (t : Nat) : Nat :=
  (c.router.service.filter (·.target == t)).foldl (fun m x => min m x.group) 16

/-- The sources that can be pending at all: those latched and those at level 1. -/
def Core.evSources (c : Core) : List Nat :=
  (c.router.pending ++ c.router.levels).eraseDups

def Core.evCandidate (c : Core) (t s : Nat) : Bool :=
  c.evEnable s && !c.evMask s && c.evPending s && !c.inService s && c.evRoute s == t &&
    decide (c.evGroup s < c.rd (Od.EV_T_THRESH t)) && decide (c.evGroup s < c.evActive t)

/-- The order in which sources are offered: group, sub-priority, identifier. -/
def Core.evRank (c : Core) (s : Nat) : Nat := (c.evGroup s * 16 + c.evSub s) * 512 + s

/-- The best candidate of a target, 0 if there is none. -/
def Core.evBest (c : Core) (t : Nat) : Nat :=
  (c.evSources.filter (c.evCandidate t)).foldl
    (fun b s => if b = 0 ∨ c.evRank s < c.evRank b then s else b) 0

def Core.offerAt (c : Core) (t : Nat) : Offer :=
  (c.router.offers.find? (·.target == t)).getD ⟨t, 0, 0, 0⟩

/-- Arbitration for one target: a changed offer stands from `delay` core cycles on, a withdrawal at once (Table 12.5). -/
def Core.arbitrateAt (c : Core) (delay t : Nat) : Core :=
  let best := if c.run = .failed then 0 else c.evBest t
  let o := c.offerAt t
  if o.src = best then c
  else
    let prev := if o.cyc ≤ c.clk.cyc then o.src else o.prev
    let n : Offer := ⟨t, prev, best, if best = 0 then c.clk.cyc else c.clk.cyc + delay⟩
    c.updRouter fun r => { r with offers := r.offers.filter (·.target != t) ++ [n] }

/-- Arbitration of every target (R432). -/
def Core.arbitrate (c : Core) (delay : Nat) : Core :=
  (List.range 33).foldl (fun c t => c.arbitrateAt delay t) c

/-- The offer a claim sees in the current cycle: the one made in the previous cycle (R435). -/
def Core.offerSeen (c : Core) (t : Nat) : Nat :=
  let o := c.offerAt t
  if o.cyc < c.clk.cyc then o.src else if o.src = 0 then 0 else o.prev

/-- The offer standing at a target. -/
def Core.offerNow (c : Core) (t : Nat) : Nat :=
  let o := c.offerAt t
  if o.cyc ≤ c.clk.cyc then o.src else o.prev

/-! ## Edges and coalescing (R430, R431) -/

/-- The accumulated count of EV.S.COUNT counts one, saturating. -/
def Core.evAccumulate (c : Core) (s : Nat) : Core :=
  c.setEvCount s (setField (c.evCount s) 0 16 (satInc 65535 (field (c.evCount s) 0 16)))

def Core.latchPending (c : Core) (s : Nat) : Core :=
  c.updRouter fun r => { r with
    pending := if r.pending.contains s then r.pending else r.pending ++ [s]
    windows := r.windows.filter (·.1 != s) }

/-- A selected edge of an enabled source. -/
def Core.evEdge (c : Core) (s : Nat) : Core :=
  if c.router.pending.contains s then (c.evAccumulate s).inc32 Od.EV_MERGED
  else
    let c := c.evAccumulate s
    let n := c.evCoalN s
    let t := c.evCoalT s
    if n = 0 ∧ t = 0 then c.latchPending s
    else
      let c := if c.router.windows.any (·.1 == s) then c
        else c.updRouter fun r => { r with windows := r.windows ++ [(s, c.clk.cyc)] }
      if n ≠ 0 ∧ n ≤ field (c.evCount s) 0 16 then c.latchPending s else c

/-- A source is enabled and takes edges of this direction (rising or falling). -/
def Core.evTakes (c : Core) (s : Nat) (rising : Bool) : Bool :=
  c.evEnable s && (match c.evTrigger s with
    | 1 => rising
    | 2 => !rising
    | 3 => true
    | _ => false)

/-- The input of a level source changes. -/
def Core.evLevel (c : Core) (s : Nat) (on : Bool) : Core :=
  if c.router.levels.contains s = on || !c.clk.running || !c.evPresent s then c
  else
    let c := c.updRouter fun r => { r with
      levels := if on then r.levels ++ [s] else r.levels.filter (· != s) }
    let c := if c.evTakes s on then c.evEdge s else c
    c.arbitrate 3

/-- One occurrence at a pulse source. -/
def Core.evPulse (c : Core) (s : Nat) : Core :=
  if !c.clk.running || !c.evPresent s then c
  else (if c.evTakes s true then c.evEdge s else c).arbitrate 3

/-- EV_SOURCE_CHANGE: the input of a source. Source 0 and the reserved ones never assert. -/
def Core.evSourceChange (c : Core) (s : Nat) (on : Bool) : Core :=
  if evLevelKind s then c.evLevel s on
  else if on then c.evPulse s else c

/-- EV_COAL_WINDOW_END: the window of COAL_T ends (R431). -/
def Core.evWindowEnd (c : Core) (s : Nat) : Core :=
  match c.router.windows.find? (·.1 == s) with
  | none => c
  | some (_, t0) =>
    if c.evCoalT s = 0 then c
    else ((c.atCyc (t0 + us (2 ^ (c.evCoalT s - 1)))).latchPending s).arbitrate 3

/-! ## Control writes (R428, R435, R437) -/

/-- RAISE written with 1. -/
def Core.evRaise (c : Core) (s : Nat) : Core :=
  if evSoftware s then (if c.evTakes s true then c.evEdge s else c)
  else (c.inc32 Od.EV_REFUSED_RAISES).log1 0x0C03 s

/-- CLEAR written with 1. -/
def Core.evClear (c : Core) (s : Nat) : Core :=
  let c := c.updRouter fun r => { r with
    pending := r.pending.filter (· != s), windows := r.windows.filter (·.1 != s) }
  c.setEvCount s (setField (c.evCount s) 0 16 0)

/-- A store to EV.S.CTRL; `retarget` where the master may change TARGET (Table 12.4). A RAISE is pending one cycle after its
arrival (Table 12.5). -/
def Core.evCtrlStore (c : Core) (s v : Nat) (retarget : Bool) : Core :=
  if !c.clk.running || s = 0 then c
  else
    let t := if retarget then field v 16 6 else c.evTarget s
    let c := c.setEvCtrl s (t * 2 ^ 16 + v % 2)
    let c := if v.testBit 2 then c.evClear s else c
    let was := c.evPending s
    let c := if v.testBit 1 then c.evRaise s else c
    c.arbitrate (if c.evPending s && !was then 3 else 2)

/-- The event-triggered tasks of the running image, by source (R426). -/
def Core.evTaskSource (c : Core) (s : Nat) : Bool :=
  (List.range 64).any fun t => c.rd (Od.TASK_KIND t) == 2 && c.rd (Od.TASK_EVENT t) == s

/-- A target that may be named: the Ply or an enabled spindle (R438). -/
def Core.evTargetOk (c : Core) (t : Nat) : Bool := t == 0 || (decide (t ≤ 32) && decide (t - 1 < c.spindles))

/-- An EV.S.CFG change accepted in STOP waits for the next boundary (R427). -/
def Core.evCfgStage (c : Core) (s v : Nat) : Core :=
  c.updRouter fun r => { r with cfgDue := r.cfgDue.filter (·.1 != s) ++ [(s, v)] }

/-- The changes take effect at a boundary; the source's pending, coalescing and in-service state is cleared. -/
def Core.evCfgApply (c : Core) : Core :=
  if c.router.cfgDue.isEmpty then c
  else
    let c := c.router.cfgDue.foldl (fun c p =>
      let c := (c.wr (srcKey 0x2C10 p.1) p.2).evClear p.1
      c.updRouter fun r => { r with service := r.service.filter (·.src != p.1) }) c
    (c.updRouter fun r => { r with cfgDue := [] }).arbitrate 2

/-! ## Claims and completions (R434 to R436) -/

/-- A claim by a target; the answer is the identifier, 0 if spurious. -/
def Core.evClaim (c : Core) (t : Nat) : Core × Nat :=
  let s := c.offerSeen t
  if s != 0 && c.evEnable s && !c.evMask s && c.evPending s && c.evRoute s == t then
    let cnt := c.evCount s
    let c := c.updRouter fun r => { r with
      service := r.service ++ [⟨s, t, c.evGroup s⟩]
      pending := r.pending.filter (· != s)
      withdrawn := r.withdrawn.filter (· != s) }
    let c := c.setEvCount s (field cnt 0 16 * 2 ^ 16)
    (((c.inc64 (Od.EV_T_CLAIMS t)).inc64 Od.EV_OFFERS).arbitrate 0, s)
  else
    let c := if s = 0 then c
      else c.updRouter fun r => { r with withdrawn := if r.withdrawn.contains s then r.withdrawn else r.withdrawn ++ [s] }
    ((c.inc32 (Od.EV_T_SPURIOUS t)).arbitrate 0, 0)

/-- A completion at a target (R436). -/
def Core.evComplete (c : Core) (t id : Nat) : Core :=
  if c.router.service.any fun x => x.src == id && x.target == t then
    (c.updRouter fun r => { r with
      service := r.service.filter fun x => !(x.src == id && x.target == t) }).arbitrate 2
  else (c.inc32 (Od.EV_T_BAD_DONE t)).log1 0x0C02 id

/-- The sources routed to a target. -/
def Core.evRouted (c : Core) (t : Nat) : List Nat := (List.range 494).filter fun s => s != 0 && c.evRoute s == t

/-- Spindle n has retired: its events leave service without completion, and the sources that were routed to it are
redirected (R438). -/
def Core.evFallback (c : Core) (n : Nat) (moved : List Nat) : Core :=
  let c := c.updRouter fun r => { r with service := r.service.filter (·.target != n + 1) }
  let c := moved.foldl (fun c s => (c.inc32 Od.EV_FALLBACKS).log1 0x0C01 s) c
  c.arbitrate 2

/-- Power-on and RESET_N (R440). -/
def Router.fresh : Router := ⟨[], [], [], [], [], [], []⟩

end Sys2Proof.Machine
end

