-- ==== Sys2Proof/Machine/Bobbins.lean ====
section
/-! DEFINITION. Bobbins, staging and instances (chapter 03, R89 to R122; chapter 05, R177, R178): the fields of a bobbin
entry, the spindles' geometry, how words become final, and when an instance completes. -/

namespace Sys2Proof.Machine

/-! ## Bobbin entries (Table 03.6) -/

def Job.cost (j : Job) : Nat := field j.word 52 12
def Job.aff (j : Job) : Nat := field j.word 46 2
def Job.runsAhead (j : Job) : Bool := j.word.testBit 45
def Job.rerun (j : Job) : Bool := j.word.testBit 44
def Job.level (j : Job) : Nat := field j.word 42 2
def Job.task (j : Job) : Nat := field j.word 32 8
/-- The descriptor address: bits 31:4 of the entry. -/
def Job.desc (j : Job) : Nat := field j.word 4 28 * 16
/-- A paired entry or a copy of one. -/
def Job.paired (j : Job) : Bool := j.aff == 2 || j.aff == 3
def Job.setAff (j : Job) (a : Nat) : Job := { j with word := setField j.word 46 2 a }

/-- A 32-bit word of the job descriptor (Table 03.7). -/
def Core.descWord (c : Core) (j : Job) (ofs : Nat) : Nat := c.creel.word (j.desc + ofs) 4
/-- DEADLINE_CG of JFLAGS (Table 03.8). -/
def Core.deadlineCg (c : Core) (j : Job) : Nat := field (c.descWord j 0x08) 16 3

/-! ## The spindles -/

/-- A spindle at reset. -/
def Spindle.idle : Spindle :=
  { bobbin := [], loaded := [], overflow := [], popped := (0, 0), job := none, buf := [], waiting := false, wake := none,
    starts := 0, cause := 0, draft := none, stalled := none, loopWait := false, rd := 0, trap := none, faults := [],
    arm := none, batch := none, batchWord := 0, newArm := false, sram := [], icache := [], cpu := Cpu.fresh }

def Core.spin (c : Core) (n : Nat) : Spindle := c.arr.sp.getD n Spindle.idle
def Core.updSpin (c : Core) (n : Nat) (f : Spindle → Spindle) : Core :=
  { c with arr := { c.arr with sp := updAt f c.arr.sp n } }
def Core.setRd (c : Core) (n v : Nat) : Core := c.updSpin n fun s => { s with rd := v }
/-- An exception is raised on a spindle. -/
def Core.raise (c : Core) (n : Nat) (t : Trap) : Core :=
  c.updSpin n fun s => { s with trap := some t, cpu := s.cpu.trap t.cause c.clk.cyc }

/-- A spindle takes an interrupt. -/
def Core.interrupted (c : Core) (n cause : Nat) : Core :=
  c.updSpin n fun s => { s with cause := cause, cpu := s.cpu.trap (interruptCause cause) c.clk.cyc }

def Core.spinRetired (c : Core) (n : Nat) : Bool := c.bit Od.SPIN_RETIRED n
def Core.spinHalted (c : Core) (n : Nat) : Bool := c.bit Od.SPIN_HALTED n
/-- Enabled and not retired. -/
def Core.spinUsable (c : Core) (n : Nat) : Bool := decide (n < c.spindles) && !c.spinRetired n
/-- Usable and not halted: it executes instructions. -/
def Core.spinRuns (c : Core) (n : Nat) : Bool := c.spinUsable n && !c.spinHalted n

/-- The cluster distance of R89. -/
def clusterDist (a b : Nat) : Nat :=
  let d := if a / 8 < b / 8 then b / 8 - a / 8 else a / 8 - b / 8
  if d = 3 then 1 else d

/-- The pairing partner of SPn (R112). -/
def Core.partner (c : Core) (n : Nat) : Nat :=
  let x := n ^^^ 1
  if c.spinUsable x then x
  else
    let ok := (List.range 32).filter fun m => m != n && c.spinUsable m
    match ok.find? (fun m => m / 8 == n / 8) with
    | some m => m
    | none => ok.headD n

/-- The spare of SPn, if SP.SPARE names a usable spindle (R117). -/
def Core.spare (c : Core) (n : Nat) : Option Nat :=
  let s := c.rd (Od.SP_SPARE n)
  if c.spinUsable s then some s else none

/-- The host of the pinned jobs and the batch of a retired SPn: one that had none at its retirement stays without (R118). -/
def Core.host (c : Core) (n : Nat) : Option Nat := if c.arr.unhosted.contains n then none else c.spare n

/-- SPn has been retired since the boundary of the current tick: its batch and pinned jobs move at the next one (R117). -/
def Core.justRetired (c : Core) (n : Nat) : Bool := c.arr.retiredAt.contains (n, c.rd Od.TICK_COUNT)

/-- The commit cycle of a group in a tick that began at core cycle `start` (R28). -/
def Core.commitCycle (c : Core) (start g : Nat) : Nat := start + phaseCycles c.period (c.rd (Od.COMMIT_PHASE g))

/-! ## Entries arrive and leave -/

/-- Places whose entries have been popped in core cycle `cyc`: free from the next cycle (R104). -/
def Spindle.leaving (s : Spindle) (cyc : Nat) : Nat := if s.popped.1 = cyc then s.popped.2 else 0

/-- The places of a bobbin that are taken. -/
def Spindle.count (s : Spindle) (cyc : Nat) : Nat := s.bobbin.length + s.loaded.length + s.leaving cyc

/-- An entry has arrived outside a release: a sleeping spindle is to wake with rd 0 (R99), and SP.BOBBIN_PEAK follows. -/
def Core.arrived (c : Core) (n : Nat) : Core :=
  let c := c.updSpin n fun s =>
    if s.waiting && s.wake.isNone then { s with wake := some (0, c.clk.cyc) } else s
  c.peak (Od.SP_BOBBIN_PEAK n) (min 64 ((c.spin n).count c.clk.cyc))

/-- An entry at the head, visible from the next cycle (R113). The bobbin holds 64 entries: one that no longer has a place
goes to the front of the overflow list (R102). -/
def Core.insertHead (c : Core) (n : Nat) (j : Job) : Core :=
  (c.updSpin n fun s =>
    let b := { j with visible := c.clk.cyc + 1 } :: s.bobbin
    if b.length + s.loaded.length + s.leaving c.clk.cyc ≤ 64 then { s with bobbin := b }
    else match b.getLast? with
      | some x => { s with bobbin := b.dropLast, overflow := x :: s.overflow }
      | none => s).arrived n

/-- An entry at the tail of the bobbin, or behind the overflow list where no place is free (R102). -/
def Core.insertTail (c : Core) (n : Nat) (j : Job) : Core :=
  (c.updSpin n fun s =>
    if s.count c.clk.cyc < 64 && s.overflow.isEmpty then { s with bobbin := s.bobbin ++ [{ j with visible := c.clk.cyc + 1 }] }
    else { s with overflow := s.overflow ++ [j] }).arrived n

/-- The next number of an entry. -/
def Core.nextUid (c : Core) : Core × Nat := (c.updArr fun a => { a with uid := a.uid + 1 }, c.arr.uid + 1)

/-! ## Staging (R120 to R122) -/

/-- The commit group of a staging word's block; 0xFF unassigned. -/
def Core.wordGroup (c : Core) (w : Nat) : Nat :=
  let m := c.dom Od.STAGE_BLOCK_MAP
  match m[w / 64]? with
  | some b => b.toNat
  | none => 0xFF

/-- The final slot of a staging word. -/
def Core.stageWord (c : Core) (w : Nat) : Nat := c.arr.stage.word (4 * w) 4

/-- The bytes a masked word selects, merged over another word. -/
def mergeBytes (old be val : Nat) : Nat :=
  (List.range 4).foldl (fun v k => if be.testBit k then setField v (8 * k) 8 (field val (8 * k) 8) else v) old

/-- A store to a declared range of a tentative job that has been popped marks its record bad (R124). -/
def Core.snoop (c : Core) (addr n : Nat) : Core :=
  c.updArr fun a => { a with records := a.records.map fun r =>
    if r.popped && r.ranges.any (fun g => decide (g.addr < addr + n) && decide (addr < g.addr + g.len))
    then { r with bad := true } else r }

/-- One word becomes final in core cycle `cyc`; `sp` ranks its writer for the same-cycle rule of R122: 2n for a job of SPn,
2n + 1 for its loop unit (R175), 64 for the Ply. Words made final at or after their group's commit phase count in
STAGE.LATE; the watch on class 3 ranges sees the store (R124). -/
def Core.finalWord (c : Core) (cyc sp : Nat) (w : StageWord) : Core :=
  let prior := c.arr.finals.find? (·.word == w.word)
  let c := if prior.isSome then c.inc32 Od.STAGE_MULTI else c
  let loses := match prior with | some p => decide (cyc < p.cyc) || (p.cyc == cyc && decide (sp < p.sp)) | none => false
  if loses then c
  else
    let g := c.wordGroup w.word
    let c := if g < 8 ∧ c.commitCycle c.clk.tickCyc g ≤ cyc then c.inc32 Od.STAGE_LATE else c
    let v := mergeBytes (c.stageWord w.word) w.be w.val
    let c := c.snoop (0x14000000 + 4 * w.word) 4
    c.updArr fun a => { a with
      stage := a.stage.putWord (4 * w.word) 4 v
      marks := a.marks.filter (·.word != w.word) ++ [⟨w.word, cyc, sp⟩]
      finals := a.finals.filter (·.word != w.word) ++ [⟨w.word, cyc, sp⟩] }

/-- The words of a buffer become final in one core cycle. -/
def Core.finalise (c : Core) (cyc sp : Nat) (buf : List StageWord) : Core :=
  buf.foldl (fun c w => c.finalWord cyc sp w) c

/-- A word written into a stage buffer: a second write to the same word overwrites that word's bytes (R121). -/
def bufWrite : List StageWord → StageWord → List StageWord
  | [], w => [w]
  | x :: xs, w =>
    if x.word = w.word then ⟨x.word, x.be ||| w.be, mergeBytes x.val w.be w.val⟩ :: xs
    else x :: bufWrite xs w

/-! ## Instances (R177, R178, R185) -/

/-- Every job that is on a bobbin, open, parked or being compared. -/
def Core.jobs (c : Core) : List Job :=
  (c.arr.sp.flatMap fun s => s.bobbin ++ s.loaded ++ s.overflow ++ s.job.toList) ++
    c.arr.parked.map (·.job) ++ c.arr.compares.map (·.a.job) ++ c.arr.compares.map (·.b.job)

/-- A job of the task's instance has not been closed yet. -/
def Core.hasJobs (c : Core) (t : Nat) : Bool := c.jobs.any (·.inst == some t)

/-- An instance of the task is open. -/
def Core.taskOpen (c : Core) (t : Nat) : Bool := c.prog.instances.any (·.task == t)

def Core.updProg (c : Core) (f : Prog → Prog) : Core := { c with prog := f c.prog }

/-- INSTANCE_COMPLETE: every job of the instance is closed. The time is in whole µs (log entry 12). -/
def Core.checkComplete (c : Core) (t : Nat) : Core :=
  match c.prog.instances.find? (·.task == t) with
  | none => c
  | some i =>
    if c.hasJobs t then c
    else
      let us := (c.clk.cyc - i.start) / 1000
      let c := c.updProg fun p => { p with instances := p.instances.filter (·.task != t) }
      let c := (c.wr (Od.TASK_EXEC_LAST t) us).peak (Od.TASK_EXEC_MAX t) us
      let c := if i.missed then c.inc32 (Od.TASK_DEADLINE_MISS t) else c
      (c.setBit (Od.TASK_STATUS t) 1 false).setBit (Od.TASK_STATUS t) 2 false

/-- A job has been closed: its deadline is judged (R185) and its instance completes with its last job. -/
def Core.jobClosed (c : Core) (j : Job) : Core :=
  match j.inst with
  | none => c
  | some t =>
    let g := c.deadlineCg j
    let late (i : Instance) : Bool := i.task == t && decide (c.commitCycle i.start g ≤ c.clk.cyc)
    let c := c.updProg fun p => { p with
      instances := p.instances.map fun i => if late i then { i with missed := true } else i }
    c.checkComplete t

/-- A level-0 cycle has ended (R187); the duration is in whole µs (log entry 12). -/
def Core.level0Closed (c : Core) (j : Job) : Core :=
  let t := j.task
  match c.prog.cycles.find? (·.task == t) with
  | none => c
  | some y =>
    let n := t - 64
    let d := c.clk.cyc - y.start
    let c := c.updProg fun p => { p with cycles := p.cycles.filter (·.task != t) }
    let c := ((c.inc64 (Od.L0_CYCLES n)).wr (Od.L0_CYCLE_LAST_US n) (d / 1000)).peak (Od.L0_CYCLE_MAX_US n) (d / 1000)
    if decide (ms (c.rd Od.TASK_L0_WATCH_MS) < d) then (c.inc32 (Od.L0_WATCH_EXCEEDED n)).log1 0x0503 t else c

/-- A job of either level has been closed. -/
def Core.closed (c : Core) (j : Job) : Core :=
  if j.level = 0 then c.level0Closed j else c.jobClosed j

/-! ## Debug-held tasks (R130) -/

def Core.debugHeld (c : Core) (t : Nat) : Bool := c.bit Od.SPIN_HELD_TASKS t

/-- The job's results are dropped: its task is debug-held. -/
def Core.jobHeld (c : Core) (j : Job) : Bool :=
  match j.inst with
  | some t => c.debugHeld t
  | none => j.level == 1 && c.debugHeld j.task

end Sys2Proof.Machine
end

