-- ==== Sys2Proof/Machine/LoopSlots.lean ====
section
/-! DEFINITION. Writes of the creel with what they clear and mark, the loop descriptors as they lie in it, and the
bookkeeping of late and missed executions (chapter 04). -/

namespace Sys2Proof.Machine

/-! ## Creel writes -/

/-- A creel word that is written loses its poison (R96). -/
def Core.unpoison (c : Core) (addr n : Nat) : Core :=
  c.updArr fun a => { a with poison := a.poison.filter fun w => !(addr / 8 ≤ w && decide (w * 8 < addr + n)) }

def Core.poisoned (c : Core) (addr : Nat) : Bool := c.arr.poison.contains (addr / 8)

def Core.addPoison (c : Core) (addr : Nat) : Core :=
  if c.poisoned addr then c else c.updArr fun a => { a with poison := a.poison ++ [addr / 8] }

def inPlyRegion (a : Nat) : Bool := decide (0x107C0000 ≤ a) && decide (a < 0x10800000)

/-- The second copy of an address of the creel's Ply region: the other half of the region, in another bank (R97; log entry
180). -/
def plyMirror (a : Nat) : Nat := a ^^^ 0x20200

/-- A poisoned word among those that a read of `size` bytes meets. -/
def Core.poisonIn (c : Core) (addr size : Nat) : Option Nat := [addr, addr + size - 1].find? c.poisoned

/-- A bad word of the Ply region is rewritten from its other copy (R97). -/
def Core.mirrorFix (c : Core) (addr : Nat) : Core :=
  let a := addr / 8 * 8
  (({ c with creel := c.creel.write a (c.creel.read (plyMirror a) 8) }).unpoison a 8).inc32 Od.CREEL_PLY_MIRROR_FIX

/-- Bytes stored in the creel. -/
def Core.putCreel (c : Core) (addr : Nat) (b : Bytes) : Core :=
  (({ c with creel := c.creel.write addr b }).unpoison addr b.length).snoop addr b.length

/-- A 32-bit word stored in the creel. -/
def Core.putCreelWord (c : Core) (addr v : Nat) : Core := c.putCreel addr (leBytes 4 v)

/-! ## Descriptors (Tables 04.3 to 04.5, 04.10) -/

def slotAddr (k : Nat) : Nat := 0x10000000 + k * 0x80
def compAddr (t : Nat) : Nat := 0x10080000 + t * 0x1000

/-- A descriptor word. -/
def Core.slotWord (c : Core) (k ofs : Nat) : Nat := c.creel.word (slotAddr k + ofs) 4
def Core.setSlotWord (c : Core) (k ofs v : Nat) : Core := c.putCreelWord (slotAddr k + ofs) (v % 2 ^ 32)

def Core.slotCtrl (c : Core) (k : Nat) : Nat := c.slotWord k 0x00
def Core.slotValid (c : Core) (k : Nat) : Bool := (c.slotCtrl k).testBit 31
def Core.slotLaw (c : Core) (k : Nat) : Nat := field (c.slotCtrl k) 28 3
def Core.slotMode (c : Core) (k : Nat) : Nat := field (c.slotCtrl k) 26 2
def Core.slotBadPv (c : Core) (k : Nat) : Nat := field (c.slotCtrl k) 24 2
def Core.slotDcg (c : Core) (k : Nat) : Nat := field (c.slotCtrl k) 18 3
def Core.slotDiv (c : Core) (k : Nat) : Nat := field (c.slotWord k 0x08) 12 12 + 1
def Core.slotOfs (c : Core) (k : Nat) : Nat := field (c.slotWord k 0x08) 0 12
def Core.slotStatus (c : Core) (k : Nat) : Nat := c.slotWord k 0x50

/-- The VALID slots, read off the memory: the cells that hold bits 31:24 of a CTRL word with VALID set. -/
def Core.validSlots (c : Core) : List Nat :=
  c.creel.filterMap fun p =>
    if 0x10000000 ≤ p.1 ∧ p.1 < 0x10080000 ∧ p.1 % 128 = 3 ∧ 128 ≤ p.2.toNat then some ((p.1 - 0x10000000) / 128) else none

/-- A slot is due in the tick with number n: (n − OFS) mod DIV = 0 (R139). -/
def Core.slotDue (c : Core) (k : Nat) : Bool :=
  let n := c.stepNumber
  let d := c.slotDiv k
  (n + d * (c.slotOfs k / d + 1) - c.slotOfs k) % d == 0

/-- The deadline of a slot in the current tick (R161). -/
def Core.slotDeadline (c : Core) (k : Nat) : Nat := c.commitCycle c.clk.tickCyc (c.slotDcg k)

/-- The bits of STATUS (Table 04.10). -/
def stDescErr : Nat := 15
def stCheckErr : Nat := 14
def stNonfinite : Nat := 13
def stBadPv : Nat := 12
def stGap : Nat := 11
def stTypeSat : Nat := 10
def stWindup : Nat := 9
def stTracking : Nat := 8
def stSatHi : Nat := 7
def stSatLo : Nat := 6
def stLate : Nat := 5
def stLateLatch : Nat := 4
def stFaultLatch : Nat := 3

/-- STATUS at an execution that is due, before its own bits are set: the fields "in the last evaluation" and LOOP_LATE
cleared. BAD_PV follows the last process value read (`noteBadPv`), and the rest is kept (R150; log entry 188). -/
def stRenew (s : Nat) : Nat :=
  [stDescErr, stCheckErr, stNonfinite, stWindup, stLate].foldl (fun s b => putBit s b false) s

/-- LATE_COUNT of COUNTS counts one, saturating. -/
def countLate (v : Nat) : Nat := setField v 16 16 (satInc 65535 (field v 16 16))
/-- FAULT_COUNT of COUNTS counts one, saturating. -/
def countFault16 (v : Nat) : Nat := setField v 0 16 (satInc 65535 (field v 0 16))

/-- GAP is set: a due execution did not complete (R155). -/
def Core.gapSlot (c : Core) (k : Nat) : Core := c.setSlotWord k 0x50 (putBit (c.slotStatus k) stGap true)

/-- A late execution of slot k on the unit of SPn (R161, R162). -/
def Core.lateSlot (c : Core) (n k : Nat) : Core :=
  let s := putBit (putBit (putBit (stRenew (c.slotStatus k)) stLate true) stLateLatch true) stGap true
  let c := (c.setSlotWord k 0x50 s).setSlotWord k 0x54 (countLate (c.slotWord k 0x54))
  let c := ((c.inc32 (Od.LU_LATE n)).inc64 Od.LOOP_LATE_TOTAL).log1 0x0401 k
  c.updSpin n fun x => { x with batch := x.batch.map fun b => { b with late := true } }

/-! ## Batch lists (R138) -/

/-- The slots of an armed list as they stand in the creel; none for an entry in an unreadable word. -/
def Core.listSlots (c : Core) (arm : Option (Nat × Nat)) : List (Option Nat) :=
  match arm with
  | none => []
  | some (a, n) => (List.range (min n 4096)).map fun i =>
      if c.poisoned (a + 2 * i) then none else some (field (c.creel.word (a + 2 * i) 2) 0 12)

/-- Loop units run in this state and role (Table 04.13). -/
def Core.loopsRun (c : Core) : Bool :=
  (c.run == .run || c.run == .hold) && c.role != .syncing && !c.pair.idle

/-- The retired spindles whose batch the unit of SPn hosts, from the boundary after their retirement (R117, Table 04.13). -/
def Core.hosted (c : Core) (n : Nat) : List Nat :=
  (List.range 32).filter fun m =>
    decide (m < c.spindles) && c.spinRetired m && !c.justRetired m && c.host m == some n

/-- A slot put into a list by deadline, then by slot number. -/
def Core.slotInsert (c : Core) (x : Option Nat) : List (Option Nat) → List (Option Nat)
  | [] => [x]
  | y :: ys =>
    let rank (z : Option Nat) : Nat := match z with | some k => (c.slotDeadline k) * 4096 + k | none => 0
    if rank x < rank y then x :: y :: ys else y :: c.slotInsert x ys

/-- The unit's entries: its own list, with the lists of the retired spindles it hosts merged in deadline order. -/
def Core.unitSlots (c : Core) (n : Nat) : List (Option Nat) :=
  (c.hosted n).foldl (fun l m => (c.listSlots (c.spin m).arm).foldl (fun l x => c.slotInsert x l) l)
    (c.listSlots (c.spin n).arm)

end Sys2Proof.Machine
end

