-- ==== Sys2Proof/Machine/Spindle.lean ====
section
/-! DEFINITION. The spindles (chapter 03): the Xdraft operations, drafting, pairs, retirement, run-ahead, errors, and the
debug requests. -/

namespace Sys2Proof.Machine

/-! ## Encodings (R98, Table 03.4) -/

inductive Xop where
  | tickWait | jobPop | jobPush | jobDone | jobPair | loopGo | loopWait | evClaim | evDone | rahMark
  | stageB | stageH | stageW
deriving DecidableEq, Repr

/-- A row of Table 03.4: opcode, funct3, funct7 (none in the S-type), and whether rd, rs1, rs2 are operands. -/
def Xop.row : Xop → Nat × Nat × Option Nat × Bool × Bool × Bool
  | .tickWait => (0x0B, 0, some 0, true, false, false)
  | .jobPop => (0x0B, 0, some 1, true, false, false)
  | .jobPush => (0x0B, 0, some 2, true, true, true)
  | .jobDone => (0x0B, 0, some 3, true, true, false)
  | .jobPair => (0x0B, 0, some 4, true, true, true)
  | .loopGo => (0x0B, 1, some 0, false, true, true)
  | .loopWait => (0x0B, 1, some 1, true, false, false)
  | .evClaim => (0x0B, 2, some 0, true, false, false)
  | .evDone => (0x0B, 2, some 1, false, true, false)
  | .rahMark => (0x0B, 3, some 0, true, true, true)
  | .stageB => (0x2B, 0, none, false, true, true)
  | .stageH => (0x2B, 1, none, false, true, true)
  | .stageW => (0x2B, 2, none, false, true, true)

/-- The word names this operation. -/
def Xop.names (o : Xop) (w : Nat) : Bool :=
  let (op, f3, f7, _, _, _) := o.row
  field w 0 7 == op && field w 12 3 == f3 && (match f7 with | some f => field w 25 7 == f | none => true)

/-- The register fields that the operation does not use are 0. -/
def Xop.unusedZero (o : Xop) (w : Nat) : Bool :=
  let (_, _, f7, rd, rs1, rs2) := o.row
  (rd || f7.isNone || field w 7 5 == 0) && (rs1 || field w 15 5 == 0) && (rs2 || field w 20 5 == 0)

/-- The offset of a store in S-type format, sign-extended. -/
def sImm (w : Nat) : Int := toInt 12 (field w 25 7 * 32 + field w 7 5)

/-- The spindle waits inside an instruction: asleep, in a draft, stalled, or in loop.wait. -/
def Spindle.blocked (s : Spindle) : Bool := s.waiting || s.draft.isSome || s.stalled.isSome || s.loopWait

/-- The open job is tentative. -/
def Core.tentativeJob (c : Core) (n : Nat) : Option Nat :=
  match (c.spin n).job with
  | some j => j.ahead
  | none => none

/-- The operation of a tentative job stalls until the phase-0 check (R126). -/
def Core.stall (c : Core) (n : Nat) (op : Stalled) : Core :=
  (c.updSpin n fun s => { s with stalled := some op }).inc64 Od.RA_STALLS

/-- A trap entry: a tentative job stalls before it (R126). -/
def Core.trapEntry (c : Core) (n : Nat) (t : Trap) : Core :=
  if (c.tentativeJob n).isSome then c.stall n (.trap t) else c.raise n t

/-- An Xdraft instruction on SPn: an unused register field that is not 0 raises the illegal-instruction exception. A
spindle that is disabled, retired, halted or waiting inside an instruction executes nothing. -/
def Core.xdraft (c : Core) (n : Nat) (o : Xop) (w : Nat) (f : Core → Core) : Core :=
  if !c.spinRuns n || (c.spin n).blocked then c
  else
    let c := c.updSpin n fun s => { s with trap := none }
    if o.names w && o.unusedZero w then f c else c.trapEntry n .illegalInstruction

/-! ## Run-ahead records (R123 to R126) -/

def Core.record (c : Core) (r : Nat) : Option Ahead := c.arr.records.find? (·.id == r)
def Core.updRecord (c : Core) (r : Nat) (f : Ahead → Ahead) : Core :=
  c.updArr fun a => { a with records := a.records.map fun x => if x.id = r then f x else x }

/-- The bytes a range holds now: staging's final slots, or the creel. -/
def Core.readRange (c : Core) (addr len : Nat) : Bytes :=
  if 0x14000000 ≤ addr ∧ addr < 0x14010000 then c.arr.stage.read (addr - 0x14000000) len else c.creel.read addr len

/-- The declared ranges of a descriptor (Tables 03.7 and 03.8). -/
def Core.declared (c : Core) (j : Job) : List AheadRange :=
  (List.range (field (c.descWord j 0x08) 20 4)).map fun i =>
    let info := c.descWord j (0x14 + 8 * i)
    ⟨c.descWord j (0x10 + 8 * i), field info 0 16, field info 24 8, none⟩

def totalLen (l : List AheadRange) : Nat := l.foldl (fun n r => n + r.len) 0

/-- A tentative job is popped: its ranges are copied into its record (R124). -/
def Core.shadow (c : Core) (r : Nat) : Core :=
  match c.record r with
  | none => c
  | some x =>
    if x.popped then c
    else
      (c.updRecord r fun x => { x with
        popped := true
        ranges := x.ranges.map fun g => { g with shadow := some (c.readRange g.addr g.len) } }).inc64 Od.RA_STARTED

/-! ## job.pop and drafting (R104, R109 to R113) -/

/-- A job opens on SPn; its first instruction is `cost` cycles away. -/
def Core.openJob (c : Core) (n : Nat) (j : Job) (cost : Nat) : Core :=
  let buf := ((c.arr.saves.find? (·.1 == j.uid)).map (·.2)).getD []
  let c := c.updArr fun a => { a with saves := a.saves.filter (·.1 != j.uid) }
  let c := c.updSpin n fun s => { s with
    job := some j, buf := buf, starts := c.clk.cyc + cost, draft := none, rd := j.desc }
  match j.ahead with
  | some r => c.shadow r
  | none => c

/-- The pop leaves the entry: a paired entry runs copy A here, and copy B goes to the head of the partner's bobbin
(R113). -/
def Core.openOwn (c : Core) (n : Nat) (j : Job) : Core :=
  let c := c.openJob n j 2
  if j.aff = 2 then c.insertHead (c.partner n) { j.setAff 3 with second := true } else c

/-- The first entry of the bobbin that is visible. -/
def firstVisible (cyc : Nat) (b : List Job) : Option Job := b.find? fun j => decide (j.visible ≤ cyc)

/-- An entry is taken from the bobbin in core cycle `cyc` (R104). -/
def Spindle.without (s : Spindle) (cyc : Nat) (j : Job) : Spindle :=
  { s with bobbin := s.bobbin.erase j, popped := (cyc, s.leaving cyc + 1) }

/-- An entry that may be drafted: free and not running. -/
def Job.draftable (cyc : Nat) (j : Job) : Bool := j.aff == 0 && decide (j.visible ≤ cyc)

/-- The sum of COST over the drafting-eligible entries of a bobbin, if it has one. -/
def Core.draftSum (c : Core) (v : Nat) : Option Nat :=
  let l := (c.spin v).bobbin.filter (Job.draftable c.clk.cyc)
  if l.isEmpty then none else some (l.foldl (fun s j => s + j.cost) 0)

/-- The bobbin a draft of spindle t takes from: largest sum, then smaller cluster distance, then lower number. -/
def Core.victim (c : Core) (t : Nat) : Option Nat :=
  ((List.range 32).foldl (fun best v =>
    match c.draftSum v, best with
    | none, b => b
    | some s, none => some (v, s)
    | some s, some (b, sb) =>
      if sb < s ∨ (sb = s ∧ clusterDist t v < clusterDist t b) then some (v, s) else some (b, sb))
    (none : Option (Nat × Nat))).map (·.1)

/-- How many entries stand behind the last one that fits, with that entry. -/
def lastWhere (p : Job → Bool) (l : List Job) : Option (Job × Nat) :=
  (l.reverse.zipIdx.find? fun x => p x.1)

/-- The unpopped paired entry nearest a tail, on any bobbin; ties to the lower owner number. -/
def Core.pairEntry (c : Core) : Option (Nat × Job × Nat) :=
  (List.range 32).foldl (fun best v =>
    match lastWhere (fun j => j.aff == 2 && decide (j.visible ≤ c.clk.cyc)) (c.spin v).bobbin, best with
    | none, b => b
    | some (j, k), none => some (v, j, k)
    | some (j, k), some (b, jb, kb) => if k < kb then some (v, j, k) else some (b, jb, kb))
    (none : Option (Nat × Job × Nat))

/-- Another request that waits for a pair. -/
def Core.otherRequest (c : Core) (t : Nat) : Option Nat :=
  (List.range 32).find? fun u => u != t && (c.spin u).draft.isSome

/-- The draft finds nothing: job.pop returns 0 after 12 cycles. -/
def Core.draftEmpty (c : Core) (t : Nat) : Core :=
  (c.updSpin t fun s => { s with draft := none, rd := 0, starts := c.clk.cyc + 12 }).inc64 Od.DRAFT_EMPTY

/-- The drafting port's decision for one request (R109, costs of Table 03.9A). -/
def Core.draftDecide (c : Core) (t : Nat) : Core :=
  match (c.spin t).draft with
  | none => c
  | some since =>
    if c.rd Od.DRAFT_ENABLE = 0 then c.draftEmpty t
    else
      match c.victim t with
      | some v =>
        match lastWhere (Job.draftable c.clk.cyc) (c.spin v).bobbin with
        | none => c.draftEmpty t
        | some (j, behind) =>
          let cost := 12 + 6 * clusterDist t v + if behind = 0 then 0 else 6
          let c := c.updSpin v fun s => s.without c.clk.cyc j
          let c := (c.openJob t j cost).inc64 Od.DRAFT_COUNT
          (c.inc32 (Od.SP_DRAFTS_TAKEN t)).inc32 (Od.SP_DRAFTS_LOST v)
      | none =>
        match c.pairEntry with
        | none => c.draftEmpty t
        | some (v, j, behind) =>
          match c.otherRequest t with
          | some u =>
            let cost := 12 + 6 * clusterDist t u + if behind = 0 then 0 else 6
            let c := c.updSpin v fun s => s.without c.clk.cyc j
            let c := c.openJob (min t u) j cost
            let c := c.openJob (max t u) { j.setAff 3 with second := true } cost
            let c := ((c.inc64 Od.DRAFT_COUNT).inc64 Od.DRAFT_COUNT).inc32 Od.DRAFT_PAIRS
            ((c.inc32 (Od.SP_DRAFTS_TAKEN t)).inc32 (Od.SP_DRAFTS_TAKEN u)).inc32 (Od.SP_DRAFTS_LOST v)
          | none => if c.clk.cyc < since + c.rd Od.DRAFT_PAIR_WAIT then c else c.draftEmpty t

/-- All requests are decided in ascending spindle number. -/
def Core.draftRound (c : Core) : Core := (List.range 32).foldl Core.draftDecide c

/-- The drafting port decides the requests of the present cycle, and again those that wait (R109). -/
def Core.drafted (c : Core) : Core := if c.arr.sp.any (·.draft.isSome) then c.draftRound else c

/-- JOB_POP. A request for a draft is decided with the others of its cycle, before the next command that is no job.pop. -/
def Core.jobPop (c : Core) (n w : Nat) : Core :=
  c.xdraft n .jobPop w fun c =>
    if (c.spin n).job.isSome then c.trapEntry n .illegalInstruction
    else
      match firstVisible c.clk.cyc (c.spin n).bobbin with
      | some j => (c.updSpin n fun s => s.without c.clk.cyc j).openOwn n j
      | none => c.updSpin n fun s => { s with draft := some c.clk.cyc }

/-- DRAFT_PAIR_WAIT_EXPIRY. -/
def Core.draftWaitExpiry (c : Core) (n : Nat) : Core :=
  match (c.spin n).draft with
  | some since => (c.atCyc (since + c.rd Od.DRAFT_PAIR_WAIT)).draftRound
  | none => c

/-! ## tick.wait (R99) -/

/-- TICK_WAIT. -/
def Core.tickWait (c : Core) (n w : Nat) : Core :=
  c.xdraft n .tickWait w fun c =>
    if (c.spin n).job.isSome then c.trapEntry n .illegalInstruction
    else if !(c.spin n).bobbin.isEmpty then c.setRd n 0
    else c.updSpin n fun s => { s with waiting := true, wake := none }

/-- TICK_WAIT_WAKE: the sleeping spindle wakes for what has arrived. -/
def Core.tickWaitWake (c : Core) (n : Nat) : Core :=
  match (c.spin n).waiting, (c.spin n).wake with
  | true, some (v, _) => c.updSpin n fun s => { s with waiting := false, wake := none, rd := v }
  | _, _ => c

/-- The release wakes every sleeping spindle with 1, also one for which an entry arrived in the same cycle (R134). -/
def Core.wakeRelease (c : Core) (n : Nat) : Core :=
  c.updSpin n fun s =>
    if s.waiting then
      match s.wake with
      | some (0, t) => if t = c.clk.cyc then { s with wake := some (1, t) } else s
      | some _ => s
      | none => { s with wake := some (1, c.clk.cyc) }
    else s

/-! ## job.push, job.pair and the overflow list -/

/-- The append itself: at the tail of the own bobbin, counting against the appending job's instance (R177), visible from the
next cycle (log entry 167). RA and RERUN of a pushed word stay in it and make the entry neither tentative nor a re-run of a
record (log entry 168). -/
def Core.pushEntry (c : Core) (n lo hi : Nat) (paired : Bool) : Core :=
  let word := hi % 2 ^ 32 * 2 ^ 32 + lo % 2 ^ 32
  let word := if paired then setField word 46 2 2 else word
  if 64 ≤ (c.spin n).count c.clk.cyc then c.setRd n 0
  else
    let inst := match (c.spin n).job with | some j => j.inst | none => none
    let (c, u) := c.nextUid
    let j : Job := ⟨word, u, n, 2 ^ 40, inst, none, c.clk.cyc + 1, false⟩
    (c.updSpin n fun s => { s with bobbin := s.bobbin ++ [j], rd := 1 }).peak
      (Od.SP_BOBBIN_PEAK n) (min 64 ((c.spin n).count c.clk.cyc + 1))

/-- JOB_PUSH and JOB_PAIR: AFF of a pushed entry must be 0 or 1. -/
def Core.jobPush (c : Core) (n w lo hi : Nat) (paired : Bool) : Core :=
  c.xdraft n (if paired then .jobPair else .jobPush) w fun c =>
    if !paired ∧ 1 < field hi 14 2 then c.trapEntry n .illegalInstruction
    else if (c.tentativeJob n).isSome then c.stall n (.push lo hi paired)
    else c.pushEntry n lo hi paired

/-- OVERFLOW_APPEND: a kept entry is appended once a place is free (R102). -/
def Core.overflowAppend (c : Core) (n : Nat) : Core :=
  match (c.spin n).overflow with
  | j :: rest =>
    if (c.spin n).count c.clk.cyc < 64 then
      let j := { j with visible := c.clk.cyc + 1 }
      let c := c.updSpin n fun s =>
        if c.arr.released then { s with bobbin := s.bobbin ++ [j], overflow := rest }
        else { s with loaded := s.loaded ++ [j], overflow := rest }
      if c.arr.released then c.arrived n else c
    else c
  | [] => c

/-! ## Abandoned jobs and dropped pairs (R108, R115) -/

/-- A pair is dropped: its parked copy and its copies on bobbins go; a copy still running is dropped at its job.done. -/
def Core.dropPair (c : Core) (uid : Nat) : Core :=
  let running := c.arr.sp.any fun s => s.job.any (·.uid == uid)
  c.updArr fun a => { a with
    parked := a.parked.filter (·.job.uid != uid)
    compares := a.compares.filter (·.a.job.uid != uid)
    sp := a.sp.map fun s => { s with
      bobbin := s.bobbin.filter fun j => !(j.uid == uid && j.paired)
      loaded := s.loaded.filter fun j => !(j.uid == uid && j.paired)
      overflow := s.overflow.filter fun j => !(j.uid == uid && j.paired) }
    dropped := if running then a.dropped ++ [uid] else a.dropped }

/-- The open job of SPn closes without a word becoming final. -/
def Core.abandon (c : Core) (n : Nat) : Core :=
  match (c.spin n).job with
  | none => c
  | some j =>
    let c := c.updSpin n fun s => { s with job := none, buf := [], stalled := none }
    let c := c.inc64 (Od.SP_JOBS n)
    let c := match j.ahead with | some r => c.updRecord r fun x => { x with closed := true } | none => c
    let c := if j.paired then c.dropPair j.uid else c
    c.closed j

/-! ## Counted faults and retirement (R116 to R118) -/

def spinWindowMs : Nat := 3600000

/-- The counted faults of the last 60 minutes. -/
def Core.spinWindow (c : Core) (n : Nat) : List Nat :=
  (c.spin n).faults.filter fun t => decide (c.monoMs ≤ t + spinWindowMs)

/-- Where a pinned job of home h runs: at home, at its spare, or nowhere. -/
def Core.pinnedHost (c : Core) (h : Nat) : Option Nat :=
  if c.spinUsable h then some h else c.host h

/-- PINNED_JOBS_NO_HOST: each level-1 task with a pinned job of home h is stopped for good, as an L2 reaction of its own. -/
def Core.stopPinned (c : Core) (h : Nat) : Core :=
  (c.pinnedTasks h).foldl (fun c t =>
    if c.hostless t then c else (c.stopForGood t).fault 0x0307 (unitTask t) t h) c

/-- Entries of the bobbin that move to the spare: pinned entries and pair copies. -/
def Job.moves (j : Job) : Bool := j.aff == 1 || j.aff == 3

/-- The loaded entries stand in the order of R102; what exceeds the free places goes to the overflow list. -/
def Core.settleLoads (c : Core) : Core :=
  c.updArr fun a => { a with sp := a.sp.map fun s =>
    let l := s.loaded.mergeSort fun x y => decide (x.key ≤ y.key)
    let room := 64 - s.bobbin.length - s.leaving c.clk.cyc
    { s with loaded := l.take room, overflow := s.overflow ++ l.drop room } }

/-- The entries of a retired spindle without a host are closed without running (log entry 13). -/
def Core.closeAll (c : Core) (l : List Job) : Core :=
  l.foldl (fun c j => (if j.paired then c.dropPair j.uid else c).closed j) c

/-- The entries of a batch list that are due and not OFF: they miss their commit phase (R117, R162). -/
def Core.lateSlots (c : Core) (n : Nat) (l : List (Option Nat)) : Core :=
  (l.filterMap id).foldl (fun (c : Core) k =>
    if c.slotValid k && c.slotDue k && c.slotMode k != 3 then c.lateSlot n k else c) c

/-- SPINDLE_RETIRE. What R117 lets happen in the core cycle after the third fault is done with the fault (log entry 181). -/
def Core.retireSpindle (c : Core) (n : Nat) : Core :=
  if c.spinRetired n then c
  else
    let routed := c.evRouted (n + 1)
    let hosts := (List.range 32).filter fun h => h == n || (c.spinRetired h && c.host h == some n)
    let tick := c.rd Od.TICK_COUNT
    let rest := match (c.spin n).batch with
      | some b => b.todo
      | none => if c.loopsRun && !c.arr.released && c.clk.running then c.unitSlots n else []
    let c := ((c.setBit Od.SPIN_RETIRED n true).setBit Od.SPIN_HALTED n false).updArr fun a => { a with
      holds := a.holds.filter (·.2 != n), retiredAt := a.retiredAt ++ [(n, tick)] }
    let c := c.fault' 0x0303 (unitSpindle n)
    let c := c.abandon n
    let parked := (c.arr.parked.filter (·.sp == n)).map (·.job) ++
      ((c.arr.compares.filter fun x => x.a.sp == n || x.b.sp == n).map (·.a.job))
    let c := parked.foldl (fun c j => (c.dropPair j.uid).closed j) c
    let s := c.spin n
    let mb := s.bobbin.filter Job.moves
    let ml := s.loaded.filter Job.moves
    let mo := s.overflow.filter Job.moves
    let c := c.updSpin n fun s => { s with
      bobbin := s.bobbin.filter fun j => !j.moves
      loaded := s.loaded.filter fun j => !j.moves
      overflow := s.overflow.filter fun j => !j.moves
      waiting := false, wake := none, draft := none, stalled := none, loopWait := false, newArm := s.arm.isSome }
    let c := match c.spare n with
      | some m =>
        let c := mb.foldl (fun (c : Core) j => c.insertTail m j) c
        (c.updSpin m fun s => { s with loaded := s.loaded ++ ml, overflow := s.overflow ++ mo }).settleLoads
      | none => c.closeAll (mb ++ ml ++ mo)
    let c := (c.lateSlots n rest).updSpin n fun s => { s with batch := none }
    let c := c.evFallback n routed
    let lost := hosts.filter fun h => (c.pinnedHost h).isNone
    let c := c.updArr fun a => { a with unhosted := a.unhosted ++ lost }
    lost.foldl (fun c h =>
      let c := c.stopPinned h
      if (c.spin h).arm.isSome then (c.log1 0x0407 h).nest 0x0407 (codeLevel 0x0407) (unitSpindle h) else c) c

/-- A counted fault of a spindle, of kind SP.LAST_FAULT; the third in 60 minutes retires it. -/
def Core.spinFault (c : Core) (n kind : Nat) : Core :=
  if c.spinRetired n then c
  else
    let w := c.spinWindow n ++ [c.monoMs]
    let c := (c.inc32 (Od.SP_FAULTS n)).wr (Od.SP_LAST_FAULT n) kind
    let c := c.updSpin n fun s => { s with faults := w.drop (w.length - 3) }
    if 3 ≤ w.length then c.retireSpindle n else c

/-! ## job.done (R114, R122, R125) -/

/-- The words of a finished tentative job go into their tentative slots (R125). A word has one tentative slot: what another
record wrote there is replaced (log entry 170). -/
def Core.tentativeWords (c : Core) (r : Nat) (buf : List StageWord) : Core :=
  (buf.foldl (fun c w => c.updArr fun a => { a with
    tentative := a.tentative.filter (fun t => !(t.word == w.word)) ++ [⟨w.word, r, w.be, w.val⟩] }) c).updRecord r
    fun x => { x with closed := true }

/-- The eight comparison slots are full. -/
def Core.slotsFull (c : Core) : Bool := 8 ≤ c.arr.parked.length + 2 * c.arr.compares.length

/-- A copy is parked; the second job.done of a pair starts the comparison, which ends 4 cycles later. -/
def Core.park (c : Core) (n : Nat) (j : Job) (buf : List StageWord) : Core :=
  let p : Parked := ⟨n, j, buf⟩
  match c.arr.parked.find? (·.job.uid == j.uid) with
  | none => c.updArr fun a => { a with parked := a.parked ++ [p] }
  | some q =>
    let (a, b) := if j.second then (q, p) else (p, q)
    c.updArr fun x => { x with
      parked := x.parked.filter (·.job.uid != j.uid)
      compares := x.compares ++ [⟨a, b, c.clk.cyc + 4⟩] }

/-- The open job closes with its buffer. -/
def Core.finishJob (c : Core) (n : Nat) (j : Job) : Core :=
  let buf := (c.spin n).buf
  let shut (c : Core) (rd : Nat) : Core :=
    (c.updSpin n fun s => { s with job := none, buf := [], stalled := none, rd := rd }).inc64 (Od.SP_JOBS n)
  if j.paired then
    if c.arr.dropped.contains j.uid then
      ((shut c 3).updArr fun a => { a with dropped := a.dropped.erase j.uid }).closed j
    else if c.jobHeld j then (((shut c 3).dropPair j.uid).closed j)
    else if c.slotsFull then c.updSpin n fun s => { s with stalled := some .park }
    else (shut c 2).park n j buf
  else if c.jobHeld j then (shut c 3).closed j
  else
    match j.ahead with
    | some r => (shut c 1).tentativeWords r buf
    | none => ((shut c 0).finalise c.clk.cyc (2 * n) buf).closed j

/-- JOB_DONE_FINISH. -/
def Core.jobFinish (c : Core) (n w : Nat) : Core :=
  c.xdraft n .jobDone w fun c =>
    match (c.spin n).job with
    | none => c.trapEntry n .illegalInstruction
    | some j => c.finishJob n j

/-- JOB_DONE_ABANDON. -/
def Core.jobAbandon (c : Core) (n w : Nat) : Core :=
  c.xdraft n .jobDone w fun c =>
    if (c.spin n).job.isNone then c.trapEntry n .illegalInstruction else (c.abandon n).setRd n 3

/-- JOB_DONE_SUSPEND, permitted only for LEVEL 0 (R99, R106); of another job it is an illegal instruction (log entry 166). The
spec states no rd for it (log entry 14). -/
def Core.jobSuspend (c : Core) (n w : Nat) : Core :=
  c.xdraft n .jobDone w fun c =>
    match (c.spin n).job with
    | none => c.trapEntry n .illegalInstruction
    | some j =>
      if j.level ≠ 0 then c.trapEntry n .illegalInstruction
      else
        let buf := (c.spin n).buf
        let c := c.updArr fun a => { a with suspended := a.suspended ++ [j.setAff 0], saves := a.saves ++ [(j.uid, buf)] }
        (c.updSpin n fun s => { s with job := none, buf := [], stalled := none, rd := c.fresh 32 }).used 1

/-! ## stage.b, stage.h, stage.w (R121) -/

/-- A store through the stage buffer, of `size` bytes. -/
def Core.stageStore (c : Core) (n size rs1 rs2 w : Nat) : Core :=
  let op := if size = 1 then Xop.stageB else if size = 2 then Xop.stageH else Xop.stageW
  c.xdraft n op w fun c =>
    if (c.spin n).job.isNone then c.trapEntry n .illegalInstruction
    else
      let a := ofInt 32 ((rs1 : Int) + sImm w)
      if a % size ≠ 0 ∨ a < 0x14000000 ∨ 0x1400FFFF < a then c.trapEntry n .storeAccess
      else
        let ofs := a - 0x14000000
        let be := (2 ^ size - 1) * 2 ^ (ofs % 4)
        let val := mergeBytes 0 be (rs2 * 2 ^ (8 * (ofs % 4)) % 2 ^ 32)
        let buf := bufWrite (c.spin n).buf ⟨ofs / 4, be, val⟩
        if 256 < buf.length then ((c.inc32 Od.STAGE_OVERFLOW).log 0x0306).abandon n
        else c.updSpin n fun s => { s with buf := buf }

/-! ## Pair comparison (R114, R115) -/

/-- The two buffers hold the same set of words with the same byte enables and values. -/
def sameWords (a b : List StageWord) : Bool := a.length == b.length && a.all b.contains

/-- The first difference, in ascending word order: kind and word (Table 03.13). -/
def firstDiff (a b : List StageWord) : Nat × Nat :=
  let words := (a.map (·.word) ++ b.map (·.word)).mergeSort (· ≤ ·)
  let differs (w : Nat) : Bool := a.find? (·.word == w) != b.find? (·.word == w)
  match words.find? differs with
  | none => (0, 0)
  | some w =>
    match a.find? (·.word == w), b.find? (·.word == w) with
    | some x, some y => (if x.be ≠ y.be then 2 else 0, w)
    | _, _ => (if a.length ≠ b.length then 3 else 1, w)

/-- PAIR.LAST_INFO. -/
def pairInfo (outcome a b : Nat) (d : Nat × Nat) : Nat :=
  outcome * 2 ^ 30 + a % 32 * 2 ^ 25 + b % 32 * 2 ^ 20 + d.1 % 4 * 2 ^ 18 + d.2 % 2 ^ 14

/-- Where the two entries of a re-run go (R115): the owner or its stand-in, and the owner's partner. -/
def Core.rerunHosts (c : Core) (owner : Nat) : Option (Nat × Nat) :=
  if !(List.range 32).any c.spinUsable then none
  else
    let p := c.partner owner
    if c.spinUsable owner then some (owner, p)
    else match c.spare owner with
      | some s => if s ≠ p then some (s, p) else some (c.partner p, p)
      | none => some (c.partner p, p)

/-- The re-run is admitted or skipped. Its entries are pair copies, AFF 3 (log entry 169). -/
def Core.rerunPair (c : Core) (x : Comparison) (d : Nat × Nat) : Core :=
  let j := x.a.job
  let dead := c.commitCycle c.clk.tickCyc (c.deadlineCg j)
  let inTime := decide (x.ends + j.cost * 64 ≤ dead)
  match (if inTime && j.ahead.isNone then c.rerunHosts j.owner else none) with
  | some (s, p) =>
    let r : Job := { j.setAff 3 with word := putBit (j.setAff 3).word 44 true, second := false }
    let c := (c.insertHead p { r with second := true }).insertHead s r
    c.wr Od.PAIR_LAST_INFO (pairInfo 1 x.a.sp x.b.sp d)
  | none =>
    let c := (c.inc32 Od.PAIR_RERUN_SKIPPED).wr Od.PAIR_LAST_INFO (pairInfo 3 x.a.sp x.b.sp d)
    match j.ahead with
    | some r => c.updRecord r fun a => { a with bad := true, closed := true }
    | none => c.closed j

/-- The copies differ: neither is staged, and each spindle counts a fault. -/
def Core.pairDiffer (c : Core) (x : Comparison) : Core :=
  let d := firstDiff x.a.buf x.b.buf
  let j := x.a.job
  let faults (c : Core) : Core :=
    let c := c.spinFault x.a.sp 1
    if x.b.sp = x.a.sp then c else c.spinFault x.b.sp 1
  if j.rerun then
    let c := faults ((c.inc32 Od.PAIR_RERUN_FAIL).log 0x0302)
    (c.wr Od.PAIR_LAST_INFO (pairInfo 3 x.a.sp x.b.sp d)).closed j
  else
    (faults ((c.inc32 Od.PAIR_MISMATCH).log 0x0301)).rerunPair x d

/-- A spindle whose job.done waits for a slot parks its copy. -/
def Core.parkStalled (c : Core) (n : Nat) : Core :=
  match (c.spin n).stalled, (c.spin n).job with
  | some .park, some j => if c.slotsFull then c else c.finishJob n j
  | _, _ => c

/-- As many of the waiting copies are parked as slots are free, in ascending spindle number (R114; log entry 182). -/
def Core.parkWaiting (c : Core) : Core := (List.range 32).foldl Core.parkStalled c

/-- PAIR_COMPARISON_END: the earliest comparison ends. The finalisation counts as that of the higher-numbered spindle. -/
def Core.comparisonEnd (c : Core) : Core :=
  match c.arr.compares with
  | [] => c
  | x :: rest =>
    let c := (c.atCyc x.ends).updArr fun a => { a with compares := rest }
    let c := c.inc64 Od.PAIR_COMPARED
    let j := x.a.job
    let c :=
      if c.jobHeld j then c.closed j
      else if sameWords x.a.buf x.b.buf then
        let c := if j.rerun then
          (c.inc32 Od.PAIR_RERUN_PASS).wr Od.PAIR_LAST_INFO (pairInfo 2 x.a.sp x.b.sp (0, 0)) else c
        match j.ahead with
        | some r => c.tentativeWords r x.a.buf
        | none => (c.finalise x.ends (2 * max x.a.sp x.b.sp) x.a.buf).closed j
      else c.pairDiffer x
    c

/-! ## rah.mark (R124) -/

/-- RAH_MARK: rs1 the address, rs2 the class and length. -/
def Core.rahMark (c : Core) (n w rs1 rs2 : Nat) : Core :=
  c.xdraft n .rahMark w fun c =>
    match c.tentativeJob n with
    | none => c.setRd n 0
    | some r =>
      match c.record r with
      | none => c.setRd n 0
      | some x =>
        let len := field rs2 0 16
        let cls := field rs2 24 8
        let all := c.arr.records.foldl (fun t y => t + totalLen y.ranges) 0
        if x.ranges.length < 6 ∧ 1 ≤ len ∧ totalLen x.ranges + len ≤ 256 ∧ cls ≤ 3 ∧ all + len ≤ 8192 then
          let g : AheadRange := ⟨rs1, len, cls, some (c.readRange rs1 len)⟩
          (c.updRecord r fun x => { x with ranges := x.ranges ++ [g] }).setRd n 1
        else c.setRd n 2

/-- FENCE_I: the spindles have no Zifencei (R90). -/
def Core.fenceI (c : Core) (n : Nat) : Core := if c.spinRuns n then c.trapEntry n .illegalInstruction else c

/-! ## Placing run-ahead and level-0 entries (R105, R123, R186) -/

/-- The last commit of the tick has passed. -/
def Core.slack (c : Core) : Bool := (List.range 8).all c.arr.committed.contains

/-- The variable transfer uses the slack of this tick (R205). -/
def Core.transferSlack (c : Core) : Bool :=
  c.rd Od.PROG_STATE == 5 && c.stepNumber + 1 == c.prog.changeAt

/-- The position of a level-1 job in the order of R102: priority, task number, job list. -/
def jobKey (prio t i : Nat) : Nat := 2 ^ 32 + (prio * 64 + t) * 4096 + i

/-- The home of a job's entry: its own spindle, or where R117 sends it. -/
def Core.homeOf (c : Core) (h word : Nat) : Option Nat :=
  if c.spinUsable h then some h
  else if field word 46 2 = 1 then c.host h
  else match c.spare h with
    | some s => some s
    | none => if (List.range 32).any c.spinUsable then some (c.partner h) else none

/-- Two ranges of addresses share a byte. -/
def overlaps (a n b m : Nat) : Bool := decide (a < b + m) && decide (b < a + n)

/-- Class 0: every task that writes the variable has completed its instance; releases are made at boundaries only, so none
is released again before the next tick. A level-0 writer may start a cycle at any time in slack, so its variables are not
final. -/
def Core.variableFinal (c : Core) (addr len : Nat) : Bool :=
  match c.prog.image with
  | none => false
  | some im =>
    let hit (l : List (Nat × Nat)) : Bool := l.any fun w => overlaps w.1 w.2 addr len
    im.tasks.all (fun d => !hit d.writes || !c.taskOpen d.num) && im.level0.all fun d => !hit d.writes

/-- A staged change of a loop writes into the range. -/
def LoopChange.touches (x : LoopChange) (addr len : Nat) : Bool :=
  match x with
  | .word k ofs _ => overlaps (slotAddr k + ofs) 4 addr len
  | .out k _ => overlaps (slotAddr k + 0x40) 16 addr len
  | .table t _ => overlaps (compAddr t) 4096 addr len
  | .attr .. => false
  | .whole a d => overlaps a d.length addr len

/-- Class 1: no dictionary write to the parameter is pending, and no program exchange is armed. -/
def Core.parameterFinal (c : Core) (addr len : Nat) : Bool :=
  !(c.loops.staged.any fun x => x.touches addr len) && c.rd Od.PROG_STATE != 5

/-- Where a remote station's image stands in the creel (Table 03.3; log entry 187). -/
def remoteAddr (s : Nat) : Nat := 0x10180000 + Config.remotePlace s % 0x10000 * 8

/-- Class 2: the station's image for the next snapshot has been received; never while it is OFFLINE (R214). -/
def Core.remoteFinal (c : Core) (addr len : Nat) : Bool :=
  c.prog.remotes.any fun r => decide (remoteAddr r.num ≤ addr) && decide (addr + len ≤ remoteAddr r.num + 516) &&
    c.rd (Od.RS_STATE r.num) == 2 && !r.waiting.isEmpty

/-- Class 3: every word lies in an unassigned block and has been made final in this tick. -/
def Core.exchangeFinal (c : Core) (addr len : Nat) : Bool :=
  decide (0x14000000 ≤ addr) && decide (addr + len ≤ 0x14010000) &&
    (List.range ((addr % 4 + len + 3) / 4)).all fun k =>
      let w := (addr - 0x14000000) / 4 + k
      c.wordGroup w == 0xFF && c.arr.finals.any (·.word == w)

/-- Every declared range is final under its class (Table 03.9). -/
def Core.inputsFinal (c : Core) (l : List AheadRange) : Bool :=
  l.all fun g =>
    match g.cls with
    | 0 => c.variableFinal g.addr g.len
    | 1 => c.parameterFinal g.addr g.len
    | 2 => c.remoteFinal g.addr g.len
    | 3 => c.exchangeFinal g.addr g.len
    | _ => false

/-- Level-0 entries have been placed in this tick. -/
def Core.l0Placed (c : Core) : Bool := c.prog.l0Mark.2 != 0 && c.prog.l0Mark.1 == c.rd Od.TICK_COUNT

/-- The conditions of R123 on task t and entry i of its job list; level-0 entries come after run-ahead entries (R186). -/
def Core.mayRunAhead (c : Core) (t : Nat) (j : Job) : Bool :=
  let l := c.declared j
  c.rd Od.RA_ENABLE == 1 && c.run == .run && c.role != .syncing && c.slack && !c.transferSlack &&
    (c.descWord j 0x08).testBit 19 && c.rd (Od.TASK_KIND t) == 1 && c.rd (Od.TASK_NEXT t) == 0 && !c.taskOpen t &&
    !c.debugHeld t && !c.bit (Od.TASK_STATUS t) 5 && c.inputsFinal l && decide (c.arr.records.length < 64) &&
    decide (c.arr.records.foldl (fun n r => n + totalLen r.ranges) 0 + totalLen l ≤ 8192) &&
    !(c.arr.records.any fun r => r.job.key == j.key) && decide (c.roleFuse = 0 ∨ c.roleFuse = 2) &&
    !c.l0Placed

/-- RUN_AHEAD_PLACE: entry i of the job list of task t, with the record r. Which free record the executive takes is open: the
command names it. -/
def Core.placeAhead (c : Core) (t i r : Nat) : Core :=
  match c.taskDef t with
  | none => c
  | some d =>
    match d.jobs[i]? with
    | none => c
    | some (h, word) =>
      let (c1, u) := c.nextUid
      let word := putBit word 45 true
      let j : Job := ⟨word, u, h, jobKey (c.rd (Od.TASK_PRIO t)) t i, none, some r, c.clk.cyc + 1, false⟩
      match c.homeOf h word with
      | none => c
      | some home =>
        if c.mayRunAhead t j && (c.record r).isNone then
          let c := c1.updArr fun a => { a with records := a.records ++ [⟨r, j, c1.declared j, false, [], false, false⟩] }
          let c := c.peak Od.RA_RECORDS_PEAK c.arr.records.length
          c.insertTail home { j with owner := home }
        else c

/-- A suspended entry of a level-0 task. -/
def Core.suspendedJob (c : Core) (t : Nat) : Option Job := c.arr.suspended.find? (·.task == t)

def Core.l0Def (c : Core) (t : Nat) : Option L0Def :=
  match c.prog.image with
  | none => none
  | some im => im.level0.find? (·.num == t)

/-- Level-0 entries may be placed: in slack, in RUN and HOLD, and not in the slack of a variable transfer (R186). -/
def Core.l0Slack (c : Core) : Bool := c.slack && (c.run == .run || c.run == .hold) && !c.transferSlack

/-- The suspended entry of a level-0 task, or the entry of a new cycle, is placed as a free entry; nothing while a cycle's
entry is on its way. -/
def Core.placeOne (c : Core) (t : Nat) : Core :=
    match c.l0Def t with
    | none => c
    | some d =>
      match c.homeOf d.home d.word with
      | none => c
      | some home =>
        match c.suspendedJob t with
        | some j =>
          (c.updArr fun a => { a with suspended := a.suspended.erase j }).insertTail home { j with owner := home }
        | none =>
          if c.prog.cycles.any (·.task == t) then c
          else
            let (c, u) := c.nextUid
            let j : Job := ⟨setField d.word 46 2 0, u, home, 2 ^ 41 + t, none, none, c.clk.cyc + 1, false⟩
            let c := c.updProg fun p => { p with cycles := p.cycles ++ [⟨t, c.clk.cyc⟩] }
            c.insertTail home j

/-- LEVEL0_PLACE: entries are placed in ascending task number, so those of lower tasks that wait go first (R186). -/
def Core.placeLevel0 (c : Core) (t : Nat) : Core :=
  if !c.l0Slack then c
  else
    let c := ((List.range (t - 63)).map (64 + ·)).foldl Core.placeOne c
    let mark := c.prog.l0Mark
    let tick := c.rd Od.TICK_COUNT
    c.updProg fun p => { p with l0Mark := (tick, max (t + 1) (if mark.1 = tick then mark.2 else 0)) }

/-- In the slack in which level-0 entries have been placed, a new cycle is placed as soon as the previous one completes
(R186). -/
def Core.refillLevel0 (c : Core) : Core :=
  let mark := c.prog.l0Mark
  if mark.2 = 0 || mark.1 != c.rd Od.TICK_COUNT || !c.l0Slack then c
  else ((List.range (mark.2 - 64)).map (64 + ·)).foldl (fun (c : Core) t =>
    if (c.suspendedJob t).isSome then c else c.placeOne t) c

/-! ## Errors (R91, R92, R96, R97) -/

/-- SRAM_UNCORRECTABLE: a counted fault, and the open job is abandoned. -/
def Core.sramUncorrectable (c : Core) (n : Nat) : Core :=
  if c.spinUsable n then ((c.log1 0x0304 n).abandon n).spinFault n 2 else c

/-- SPINDLE_SCRUB and ICACHE_PARITY_ERROR: a corrected error of SPn; `count` of them. -/
def Core.spinCorrected (c : Core) (n count : Nat) : Core :=
  if decide (n < c.spindles) && decide (0 < count) then (c.addW 32 (Od.SP_ECC_CORR n) count).log 0x0309 else c

/-- CREEL_SCRUB: `count` corrected words. -/
def Core.creelScrub (c : Core) (count : Nat) : Core :=
  if 0 < count then (c.addW 32 Od.CREEL_ECC_CORR count).log 0x0309 else c

/-- The registers and the record of an uncorrectable creel error. -/
def Core.creelCount (c : Core) (addr : Nat) : Core :=
  ((c.inc32 Od.CREEL_ECC_UNCORR).wr Od.CREEL_LAST_UNCORR_ADDR addr).log1 0x0305 addr

/-- An uncorrectable creel error: the word is poisoned. -/
def Core.creelError (c : Core) (addr : Nat) : Core := (c.addPoison addr).creelCount addr

/-- A read of an unreadable creel word by a spindle (its open job is abandoned) or by the Ply raises the load access fault;
one of the Ply region is served from the other copy, and two bad copies are an L4 reaction (R96, R97). True in the second
place: the read is served. -/
def Core.badRead (c : Core) (spindle : Option Nat) (addr : Nat) (both : Bool) : Core × Bool :=
  if inPlyRegion addr && !both then (c.mirrorFix addr, true)
  else
    let c := match spindle with
      | some n => (c.raise n .loadAccess).abandon n
      | none => c.plyTrap .loadAccess
    (if inPlyRegion addr then c.nest 0x0305 4 unitCreel else c, false)

/-- CREEL_UNCORRECTABLE on a read by a spindle or by the Ply; `both`: the other copy of a word of the Ply region is bad too.
-/
def Core.creelUncorrectable (c : Core) (spindle : Option Nat) (addr : Nat) (both : Bool) : Core :=
  ((c.creelError addr).badRead spindle addr (both || c.poisoned (plyMirror addr))).1

/-- A load of `size` bytes from the creel. A word that an earlier error has poisoned fails again, with no further record (R96;
log entry 183). -/
def Core.creelLoad (c : Core) (spindle : Option Nat) (addr size : Nat) (f : Core → Nat → Core) : Core :=
  match c.poisonIn addr size with
  | none => f c (c.creel.word addr size)
  | some a =>
    let (c, served) := c.badRead spindle a (c.poisoned (plyMirror a))
    if served then f c (c.creel.word addr size) else c

/-! ## Debugging (R129, R130) -/

/-- The request is accepted. -/
def Core.spinDebugOk (c : Core) : Bool :=
  c.rd Od.SPIN_DEBUG_EN == 1 && (!(c.role == .active || c.role == .standby) || c.rd Od.SEC_COMMISSIONING == 1)

/-- The spindle can be reached by the debug module. -/
def Core.spinReachable (c : Core) (n : Nat) : Bool := c.spinUsable n

/-- The tasks with a job open on, or a copy parked from, the spindle. -/
def Core.tasksOn (c : Core) (n : Nat) : List Nat :=
  ((c.spin n).job.toList ++ (c.arr.parked.filter (·.sp == n)).map (·.job) ++
    ((c.arr.compares.filter fun x => x.a.sp == n || x.b.sp == n).map (·.a.job))).filterMap fun j =>
    if j.level = 1 then (match j.inst with | some t => some t | none => some j.task) else none

/-- SPINDLE_DEBUG_HALT. -/
def Core.spinHalt (c : Core) (n : Nat) : Core :=
  if !c.spinReachable n then c
  else if !c.spinDebugOk then c.log1 0x0308 n
  else
    let ts := c.tasksOn n
    let c := (c.setBit Od.SPIN_HALTED n true).log1 0x0308 n
    ts.foldl (fun c t =>
      let c := c.updArr fun a => { a with holds := if a.holds.contains (t, n) then a.holds else a.holds ++ [(t, n)] }
      (c.setBit Od.SPIN_HELD_TASKS t true).setBit (Od.TASK_STATUS t) 4 true) c

/-- spstate (Table 03.1). -/
def Core.spstate (c : Core) (n : Nat) : Nat :=
  match (c.spin n).job with
  | none => 0
  | some j => maskOf ([(0, true), (1, j.ahead.isSome), (2, j.paired), (3, j.rerun), (4, c.jobHeld j)].filterMap fun p =>
      if p.2 then some p.1 else none)

/-- A CSR of SPn as it reads (R90, R93): mhartid 3 + n, spjob and spjobhi of the open job, spstate. The spindle's own cycle
and instruction counters are not among what R57 makes alike, and are open. -/
def Core.spindleCsr (c : Core) (n csr : Nat) : Option Nat :=
  match c.sharedCsr true (3 + n) csr with
  | some v => some v
  | none =>
    let word := ((c.spin n).job.map (·.word)).getD 0
    if csr = 0x7D0 then some (word % 2 ^ 32)
    else if csr = 0x7D1 then some (word / 2 ^ 32)
    else if csr = 0x7D2 then some (c.spstate n)
    else if [0xC00, 0xC02, 0xC80, 0xC82, 0xB00, 0xB02, 0xB80, 0xB82].contains csr then
      some (Config.spinCount n csr c.clk.cyc % 2 ^ 32)
    else some ((c.spin n).cpu.csr csr)

/-- SPINDLE_DEBUG_STEP and SPINDLE_DEBUG_ABSTRACT: served, or refused and recorded. -/
def Core.spinDebug (c : Core) (n : Nat) : Core :=
  if c.spinReachable n && !c.spinDebugOk then c.log1 0x0308 n else c

/-- SPINDLE_DEBUG_ABSTRACT of a register: refused and recorded, or answered (R129). -/
def Core.spinAbstract (c : Core) (n reg : Nat) : Core :=
  if c.spinReachable n && c.spinDebugOk then c.answerReg (c.spindleCsr n) reg else c.spinDebug n

/-- SPINDLE_DEBUG_RESUME. -/
def Core.spinResume (c : Core) (n : Nat) : Core :=
  if c.spinReachable n && c.spinHalted n then
    ((c.setBit Od.SPIN_HALTED n false).log1 0x0308 n).updArr fun a => { a with holds := a.holds.filter (·.2 != n) }
  else c

end Sys2Proof.Machine
end

