-- ==== Sys2Proof/Machine/Loop.lean ====
section
/-! DEFINITION. The loop units (chapter 04): batches, handles, one evaluation, late and faulted executions, staged
changes, re-stamping, and the tag match of a changeover. -/

namespace Sys2Proof.Machine

/-! ## Handles (R146, R147, R148) -/

def hKind (h : Nat) : Nat := field h 28 4
def hType (h : Nat) : Nat := field h 26 2

/-- The key a PI_IN or PI_OUT handle names. -/
def hKey (h base : Nat) : Nat := odKey (base + field h 8 12) (field h 0 8)

/-- The key of an input's quality word (R188). -/
def qualityKey (key : Nat) : Nat :=
  if key / 256 = 0x6030 then odKey 0x6810 (key % 256) else key + 0x0800 * 256

/-- The class of a quality word: BAD or NONE is bad (R190). -/
def badQuality (q : Nat) : Bool := field q 14 2 < 2

/-- The staging word of a process image output (R192, R232, R275). -/
def Core.outStage (c : Core) (key : Nat) : Option Nat :=
  let sub := key % 256
  if key / 256 = 0x7000 then
    (if 1 ≤ sub ∧ sub ≤ 48 then some (0x3C00 + 0x40 * ((sub - 1) / 8) + (sub - 1) % 8) else none)
  else if key / 256 = 0x7010 then
    (if 1 ≤ sub ∧ sub ≤ 24 then some (0x3D80 + 0x40 * ((sub - 1) / 8) + (sub - 1) % 8) else none)
  else match c.prog.image with
    | some im => (im.outMap.find? fun e => e.index == key / 256 && e.sub == sub).map (·.stage)
    | none => none

/-- The age of a stamp in the current tick (R148). -/
def Core.stampAge (c : Core) (word : Nat) : Nat := (c.stepNumber + 2 ^ 30 - field word 0 30) % 2 ^ 30

/-- View word A (0) or B (1) of a slot: its upper half OUT and its lower half with the flags and stamp (Table 04.9). -/
def Core.viewInfo (c : Core) (k w : Nat) : Nat := c.slotWord k (0x40 + 8 * w)
def Core.viewOut (c : Core) (k w : Nat) : Nat := c.slotWord k (0x44 + 8 * w)

/-- The newer view word; one that cannot be read counts as the older. -/
def Core.newerView (c : Core) (k : Nat) : Nat :=
  if c.poisoned (slotAddr k + 0x40) then 1
  else if c.poisoned (slotAddr k + 0x48) then 0
  else if c.stampAge (c.viewInfo k 0) ≤ c.stampAge (c.viewInfo k 1) then 0 else 1

/-- The view word a SLOT read returns: the smallest age of 1 to 2^29 − 1, else the smaller non-zero age. -/
def Core.boundaryView (c : Core) (k : Nat) : Nat :=
  let a := c.stampAge (c.viewInfo k 0)
  let b := c.stampAge (c.viewInfo k 1)
  let ok (x : Nat) : Bool := decide (1 ≤ x) && decide (x < 2 ^ 29)
  if ok a && ok b then (if a ≤ b then 0 else 1)
  else if ok a then 0
  else if ok b then 1
  else if a = 0 then 1 else if b = 0 then 0 else if a ≤ b then 0 else 1

/-- What a handle read yields: the raw value, and whether its quality is bad. -/
def Core.readHandle (c : Core) (h : Nat) : Nat × Bool :=
  match hKind h with
  | 1 => let k := hKey h 0x6000; (c.rd k, badQuality (c.rd (qualityKey k)))
  | 2 => ((c.loops.view.get? (hKey h 0x7000)).getD 0, false)
  | 4 => let k := field h 0 12; (c.viewOut k (c.boundaryView k), false)
  | _ => (0, false)

/-- A handle read as REAL32. -/
def Core.readReal (c : Core) (h : Nat) : Nat :=
  let t := if hKind h = 0 ∨ hKind h = 4 then 0 else hType h
  Law.readReal t (c.readHandle h).1

/-! ## Compensation (R157, R158) -/

def Core.compAttr (c : Core) (t : Nat) : CompAttr :=
  (c.loops.attrs.find? (·.table == t)).getD ⟨t, Law.one, 0, 0⟩

/-- The position of H_POS as a dyadic number; none if it is not finite. -/
def posValue (type raw : Nat) : Option Law.Dy :=
  if type = 0 then (if F32.isFinite raw then some (Law.ofF32 raw) else none) else some ⟨Law.rawInt type raw, 0⟩

/-- The table entries a lookup reads, and r; none if SCALE or OFFSET is not finite (R156). -/
def Core.compIndex (c : Core) (t : Nat) (p : Law.Dy) : Option (Nat × Nat × Nat) :=
  let a := c.compAttr t
  if F32.isFinite a.scale && F32.isFinite a.offset then some (Law.index p a.scale a.offset (a.mode == 1)) else none

/-- lookup(t, pos). -/
def Core.lookup (c : Core) (t : Nat) (p : Law.Dy) : Option Nat := do
  let (i, j, r) ← c.compIndex t p
  Law.interpolate (c.creel.word (compAddr t + 4 * i) 4) (c.creel.word (compAddr t + 4 * j) 4) r

/-- The poisoned words among the table entries a lookup reads. -/
def Core.lookupPoison (c : Core) (t : Nat) (p : Law.Dy) : Option Nat := do
  let (i, j, _) ← c.compIndex t p
  [compAddr t + 4 * i, compAddr t + 4 * j].find? c.poisoned

/-! ## One evaluation (R151 to R156, R165, R166) -/

/-- The slot's parameters and state. -/
def Core.lawSlot (c : Core) (k : Nat) : Law.Slot :=
  { k1 := c.slotWord k 0x2C, k2 := c.slotWord k 0x30, k3 := c.slotWord k 0x34, k4 := c.slotWord k 0x38,
    k5 := c.slotWord k 0x3C, s1 := F32.flush (c.slotWord k 0x58), s2 := F32.flush (c.slotWord k 0x5C),
    s3 := F32.flush (c.slotWord k 0x60), s4 := F32.flush (c.slotWord k 0x64), s5 := F32.flush (c.slotWord k 0x68),
    lo := F32.flush (c.slotWord k 0x28), hi := F32.flush (c.slotWord k 0x24),
    cweight := (c.slotCtrl k).testBit 23, gap := (c.slotStatus k).testBit stGap,
    ts := Law.sampleTime c.period (c.slotDiv k) }

/-- STATUS, COUNTS and the unit's flags of a discarded evaluation; BAD_PV stays as the evaluation has left it (R150). -/
def Core.faultSlot (c : Core) (n k bit : Nat) : Core :=
  let s := putBit (putBit (putBit (stRenew (c.slotStatus k)) bit true) stFaultLatch true) stGap true
  let c := (c.setSlotWord k 0x50 s).setSlotWord k 0x54 (countFault16 (c.slotWord k 0x54))
  let c := c.inc32 Od.LOOP_FAULT_TOTAL
  c.updSpin n fun x => { x with batch := x.batch.map fun b => { b with fault := true } }

/-- An evaluation discarded for an unreadable word (R165). -/
def Core.creelSlot (c : Core) (n k addr : Nat) : Core :=
  ((c.faultSlot n k stDescErr).logA 0x0402 k addr).wr Od.CREEL_LAST_UNCORR_ADDR addr

/-- The state words are written to 0 (R165, R170). -/
def Core.zeroState (c : Core) (k : Nat) : Core := c.putCreel (slotAddr k + 0x58) (zeros 32)

/-- BAD_PV of STATUS follows the process value of the evaluation; a change is recorded (0x0405). -/
def Core.noteBadPv (c : Core) (k : Nat) (bad : Bool) : Core :=
  if (c.slotStatus k).testBit stBadPv = bad then c
  else (c.setSlotWord k 0x50 (putBit (c.slotStatus k) stBadPv bad)).log1 0x0405 k

/-- The output cycle: the staging write of H_OUT (R146); true if the conversion saturated. -/
def Core.writeOut (c : Core) (n h u cyc : Nat) : Core × Bool :=
  let (v, sat) := Law.convert (hType h) u
  match hKind h with
  | 2 =>
    match c.outStage (hKey h 0x7000) with
    | some w => (c.finalWord cyc (2 * n + 1) ⟨w, if hType h < 2 then 0xF else 0x3, v⟩, sat)
    | none => (c, false)
  | 3 =>
    let w := field h 0 14
    if hType h < 2 then (c.finalWord cyc (2 * n + 1) ⟨w, 0xF, v⟩, sat)
    else if h.testBit 14 then (c.finalWord cyc (2 * n + 1) ⟨w, 0xC, v * 2 ^ 16⟩, sat)
    else (c.finalWord cyc (2 * n + 1) ⟨w, 0x3, v⟩, sat)
  | _ => (c, false)

/-- What a completed evaluation writes after its output: view word, state, STATUS. -/
def Core.writeState (c : Core) (k : Nat) (r : Law.Result) (st : Nat) (taken : Option Nat)
    (sp comp pos : Nat) : Core :=
  let w := 1 - c.newerView k
  let info := b2n r.satHi * 2 ^ 31 + b2n r.satLo * 2 ^ 30 + c.stepNumber % 2 ^ 30
  let c := c.putCreel (slotAddr k + 0x40 + 8 * w) (leBytes 4 info ++ leBytes 4 r.u)
  let c := c.putCreel (slotAddr k + 0x58)
    (leBytes 4 r.slot.s1 ++ leBytes 4 r.slot.s2 ++ leBytes 4 r.slot.s3 ++ leBytes 4 r.slot.s4 ++ leBytes 4 r.slot.s5)
  let c := c.setSlotWord k 0x6C sp
  let c := match taken with | some s => c.setSlotWord k 0x70 s | none => c
  let c := ((c.setSlotWord k 0x74 pos).setSlotWord k 0x78 comp).setSlotWord k 0x7C (c.slotWord k 0x7C + 1)
  c.setSlotWord k 0x50 st

/-- The set-point: of a SLOT handle only when its stamp differs from TAKE_STAMP (R159). Answers the value and the stamp
taken. -/
def Core.takeSp (c : Core) (k h : Nat) : Nat × Option Nat :=
  if hKind h = 4 then
    let src := field h 0 12
    let v := c.boundaryView src
    let stamp := field (c.viewInfo src v) 0 30
    if stamp = c.slotWord k 0x70 then (F32.flush (c.slotWord k 0x6C), none) else (F32.flush (c.viewOut src v), some stamp)
  else (c.readReal h, none)

/-- The first poisoned word among the configuration line, the source view words and the inner view words. -/
def Core.readPoison (c : Core) (k : Nat) : Option Nat :=
  let cfg := (List.range 16).map fun i => slotAddr k + 4 * i
  let views (h : Nat) : List Nat :=
    if hKind h = 4 then let s := slotAddr (field h 0 12); [s + 0x40, s + 0x48] else []
  match cfg.find? c.poisoned with
  | some a => some a
  | none => (views (c.slotWord k 0x10) ++ views (c.slotWord k 0x14) ++ views (c.slotWord k 0x18) ++
      views (c.slotWord k 0x20)).find? c.poisoned

/-- The velocity sign of R158. -/
def Core.velocity (c : Core) (k pv pos type : Nat) : Int :=
  if (c.slotWord k 0x0C).testBit 5 then
    (if (c.slotStatus k).testBit stGap then 0 else Law.moveSign type pos (c.slotWord k 0x74))
  else if Law.pos pv then 1 else if Law.negative pv then -1 else 0

/-- The tables the evaluation looks up, friction and cogging. -/
def Core.compTables (c : Core) (k pv pos type : Nat) : Option Nat × Option Nat :=
  let w := c.slotWord k 0x0C
  let v := c.velocity k pv pos type
  (if w.testBit 7 then (if 0 < v then some (field w 24 8) else if v < 0 then some (field w 16 8) else none) else none,
   if w.testBit 6 then some (field w 8 8) else none)

/-- comp of R158; none if a value is not finite. -/
def Core.compValue (c : Core) (tabs : Option Nat × Option Nat) (p : Law.Dy) : Option Nat := do
  let f ← match tabs.1 with | some t => c.lookup t p | none => some 0
  let g ← match tabs.2 with | some t => c.lookup t p | none => some 0
  Law.add f g

/-- The arithmetic of an execution: by MODE and BADPV (R151, R152, R154). Answers the result, and whether MANUAL, TRACK or
a drive set the output. -/
def lawRun (mode law badpv : Nat) (bad : Bool) (held : Nat) (s : Law.Slot) (i : Law.Inputs) :
    Option (Law.Result × Bool) :=
  let drive := mode == 0 && bad && decide (2 ≤ badpv)
  if mode = 1 ∨ mode = 2 ∨ drive = true then
    let r : Law.Result :=
      if mode = 1 then ⟨F32.flush held, false, false, false, s⟩
      else if mode = 2 then Law.result s i.ff false
      else ⟨if badpv = 2 then s.lo else s.hi, false, false, false, s⟩
    let i := if mode = 2 then { i with ff := 0 } else i
    if bad && mode != 0 then some (r, true)
    else (Law.setUp law s i r.u).map fun s' => ({ r with slot := s' }, true)
  else (Law.evaluate law s i).map fun r => (r, false)

/-- The evaluation of slot k on SPn started at core cycle s, its reads good so far (R151 to R158). -/
def Core.runSlot (c : Core) (n k s : Nat) : Core :=
  let ctrl := c.slotCtrl k
  let mode := field ctrl 26 2
  let bp := field ctrl 24 2
  let (raw, bq) := c.readHandle (c.slotWord k 0x10)
  let hp := c.slotWord k 0x10
  let pv := Law.readReal (if hKind hp = 4 ∨ hKind hp = 0 then 0 else hType hp) raw
  let bad := (hKind hp == 1 && bq) || !F32.isFinite pv
  let c := c.noteBadPv k bad
  let st := stRenew (c.slotStatus k)
  if mode = 0 ∧ bad = true ∧ bp = 0 then
    c.setSlotWord k 0x50 (putBit st stGap true)
  else
    let (sp, taken) := c.takeSp k (c.slotWord k 0x14)
    let ff := c.readReal (c.slotWord k 0x18)
    let hpos := c.slotWord k 0x20
    let comped := c.slotWord k 0x0C &&& 0xC0 != 0
    let pos := (c.readHandle hpos).1
    let dy := posValue (if hKind hpos = 4 ∨ hKind hpos = 0 then 0 else hType hpos) pos
    let tabs := if comped then c.compTables k pv pos (hType hpos) else (none, none)
    let bust (c : Core) : Core := (c.faultSlot n k stNonfinite).log1 0x0403 k
    match dy with
    | none => bust c
    | some p =>
      match (tabs.1.bind fun t => c.lookupPoison t p), (tabs.2.bind fun t => c.lookupPoison t p) with
      | some a, _ => c.creelSlot n k a
      | none, some a => c.creelSlot n k a
      | none, none =>
        let slot := c.lawSlot k
        let pvUse := pv
        let inner := if ctrl.testBit 22 then
            let x := field hpos 0 12; c.viewInfo x (c.boundaryView x) else 0
        let out : Option (Law.Result × Bool × Nat) := do
          let comp ← c.compValue tabs p
          let sp ← Law.fin sp
          let ff ← Law.fin ff
          let i : Law.Inputs := ⟨pvUse, sp, ff, comp, inner.testBit 31, inner.testBit 30⟩
          let (r, tr) ← lawRun mode (field ctrl 28 3) bp bad (c.viewOut k (c.newerView k)) slot i
          let _ ← Law.fin r.u
          pure (r, tr, comp)
        match out with
        | none => bust c
        | some (r, tr, comp) =>
          let (c, sat) := c.writeOut n (c.slotWord k 0x1C) r.u (s + 56)
          let keep := bad && (mode == 1 || mode == 2)
          let st := putBit (putBit (putBit st stGap keep) stTypeSat sat) stTracking tr
          let st := putBit (putBit (putBit st stSatHi r.satHi) stSatLo r.satLo) stWindup r.windup
          c.writeState k r st taken sp comp pos

/-- One due evaluation: the fault cases first. `errs`: words whose reads meet an uncorrectable creel error in this
evaluation; `piErr`: the address of such a word of the process image or of the loop view, which the next latch, commit or
view update rewrites; `check`: the datapath check fails. -/
def Core.evalSlot (c : Core) (n k s : Nat) (errs : List Nat) (piErr : Option Nat) (check : Bool) : Core :=
  let c := errs.foldl Core.creelError c
  let stateBad := ((List.range 8).map fun i => slotAddr k + 0x58 + 4 * i).find? c.poisoned
  if check then
    (((c.faultSlot n k stCheckErr).log1 0x0404 k).spinFault n 3)
  else match c.readPoison k with
    | some a => c.creelSlot n k a
    | none =>
      match stateBad with
      | some a => (c.creelSlot n k a).zeroState k
      | none =>
        match piErr with
        | some a => (c.creelCount a).creelSlot n k a
        | none => c.runSlot n k s

/-! ## Batches (R140, R141, R161) -/

/-- SPn's unit is armed: with its own list, or with one of a retired spindle that it hosts (Table 04.13). -/
def Core.unitArmed (c : Core) (n : Nat) : Bool :=
  c.spinUsable n && ((c.spin n).arm.isSome || (c.hosted n).any fun m => (c.spin m).arm.isSome)

/-- LOOP_RESTAMP of one slot: the newer view word takes stamp n − 1, the other n − 2. -/
def Core.restamp (c : Core) (k : Nat) : Core :=
  let n := c.stepNumber + 2 ^ 30
  let w := c.newerView k
  let put (c : Core) (v st : Nat) : Core := c.setSlotWord k (0x40 + 8 * v) (setField (c.viewInfo k v) 0 30 (st % 2 ^ 30))
  put (put c w (n - 1)) (1 - w) (n - 2)

/-- The slots of lists armed since the last re-stamping are re-stamped before the release of their first tick (R149). -/
def Core.restampNew (c : Core) : Core :=
  let fresh := ((List.range 32).flatMap fun n =>
    if (c.spin n).newArm then (c.listSlots (c.spin n).arm).filterMap id else []).eraseDups
  (fresh.foldl Core.restamp c).updArr fun a => { a with sp := a.sp.map fun s => { s with newArm := false } }

/-- The batch ends: its status word, the unit's registers, and the spindle that waits for it. -/
def Core.batchEnd (c : Core) (n : Nat) (b : Batch) : Core :=
  let fin := b.cyc - c.clk.tickCyc
  let word := 2 ^ 31 + b2n b.late * 2 ^ 30 + b2n b.fault * 2 ^ 29 + b.done % 2 ^ 13 * 2 ^ 16 + fin / 16 % 2 ^ 16
  let c := c.updSpin n fun s => { s with
    batch := none, batchWord := word
    rd := if s.loopWait then word else s.rd, loopWait := false }
  let c := ((c.wr (Od.LU_LAST_END n) fin).peak (Od.LU_PEAK_END n) fin).wr (Od.LU_WAIT_CYCLES n) b.waits
  (c.setBit (Od.LU_STATUS n) 3 b.late).setBit (Od.LU_STATUS n) 5 b.fault

/-- The unit passes entries that are not evaluated, 4 cycles each: unreadable, not due, OFF, or too late to start. -/
def Core.skipEntries (c : Core) (n : Nat) : List (Option Nat) → Core
  | [] =>
    match (c.spin n).batch with
    | some b => c.batchEnd n { b with todo := [] }
    | none => c
  | x :: rest =>
    match (c.spin n).batch with
    | none => c
    | some b =>
      let pass (c : Core) : Core := c.updSpin n fun s => { s with
        batch := s.batch.map fun b => { b with todo := rest, cyc := b.cyc + 4 } }
      match x with
      | none =>
        let c := c.updSpin n fun s => { s with batch := s.batch.map fun b => { b with fault := true } }
        (pass c).skipEntries n rest
      | some k =>
        if !(c.slotValid k && c.slotDue k) || c.slotMode k == 3 then (pass c).skipEntries n rest
        else if c.slotDeadline k ≤ b.cyc + 56 then (pass (c.lateSlot n k)).skipEntries n rest
        else c

/-- The record of an unreadable word in the list of SPn: 0xFFFF and the list's address (R165). -/
def Core.noteBadList (c : Core) (n : Nat) : Core :=
  match (c.spin n).arm with
  | some (a, k) => if (c.listSlots (some (a, k))).any (·.isNone) then c.logA 0x0402 0xFFFF a else c
  | none => c

/-- The batch of SPn starts at the release in core cycle `t` (R140). -/
def Core.startBatch (c : Core) (t n : Nat) : Core :=
  if !c.unitArmed n then c
  else
    let l := c.unitSlots n
    let c := c.updSpin n fun s => { s with batch := some ⟨l, t + 16, 0, false, false, 0⟩, batchWord := 0 }
    let c := (n :: c.hosted n).foldl Core.noteBadList c
    c.skipEntries n l

/-- A due slot of a batch that the executive does not start gets GAP and is not late (R155, R118, Table 04.13). -/
def Core.missBatch (c : Core) (n : Nat) : Core :=
  (c.listSlots (c.spin n).arm).foldl (fun c x =>
    match x with
    | some k => if c.slotValid k && c.slotDue k && c.slotMode k != 3 then c.gapSlot k else c
    | none => c) c

/-- LOOP_BATCH_START of every unit at the release; batches that cannot run miss their due slots. -/
def Core.startBatches (c : Core) (t : Nat) : Core :=
  let ids := (List.range 32).filter fun n => decide (n < c.spindles)
  if c.loopsRun then
    ids.foldl (init := c.restampNew) (fun c n =>
      if c.spinUsable n then c.startBatch t n
      else if (c.host n).isNone && !c.justRetired n then c.missBatch n else c)
  else if c.run = .safe then ids.foldl Core.missBatch c
  else c

/-- A spindle that has been in loop.wait since before the release, and whose unit starts no batch in this tick, goes on with
ARMED = 1 and all other fields 0, or 0 if the unit is not armed (R141). -/
def Core.endLoopWaits (c : Core) : Core :=
  (List.range 32).foldl (fun (c : Core) n => c.updSpin n fun s =>
    if s.loopWait && s.batch.isNone && s.batchWord == 0 then
      { s with loopWait := false, rd := if c.unitArmed n then 2 ^ 31 else 0 }
    else s) c

/-- The evaluation of slot k in progress is discarded `at_` cycles after its start, when its accumulated creel waits reach the
deadline; STATUS and COUNTS are written in the 7 cycles that follow (R161). The waits are `d` cycles, and so many have passed
with at most the 55 other cycles before the output cycle: `at_` lies between `d` and `d` + 55. -/
def Core.discardLate (c : Core) (n k at_ : Nat) (b : Batch) (rest : List (Option Nat)) : Core :=
  let d := c.slotDeadline k - (b.cyc + 56)
  let t := b.cyc + max d (min (d + 55) at_)
  let c := ((c.atCyc t).updSpin n fun x => { x with batch := x.batch.map fun b =>
    { b with todo := rest, cyc := t + 7, waits := b.waits + d } }).lateSlot n k
  c.skipEntries n rest

/-- LOOP_EVALUATION: the unit of SPn evaluates the next due entry; `waits` cycles of creel waits come on top. With waits
that reach the deadline it is discarded, in a cycle that is a free value (log entry 189). -/
def Core.loopEvaluation (c : Core) (n waits : Nat) (errs : List Nat) (piErr : Option Nat) (check : Bool) : Core :=
  match (c.spin n).batch with
  | some b =>
    match b.todo with
    | some k :: rest =>
      let s := b.cyc
      if c.slotDeadline k ≤ s + 56 + waits then
        (c.used 1).discardLate n k (c.slotDeadline k - (s + 56) + c.fresh 32 % 56) b rest
      else
        let exec := c.slotWord k 0x7C
        let c := (c.atCyc (s + 64 + waits)).updSpin n fun x => { x with batch := x.batch.map fun b =>
          { b with todo := rest, cyc := s + 64 + waits, waits := b.waits + waits } }
        let c := c.evalSlot n k (s + waits) errs piErr check
        let done := b2n (c.slotWord k 0x7C != exec)
        let c := c.updSpin n fun x => { x with batch := x.batch.map fun b => { b with done := b.done + done } }
        c.skipEntries n rest
    | _ => c
  | none => c

/-- LOOP_LATE_DISCARD: `at_` cycles after the evaluation's start its accumulated creel waits reach the deadline. -/
def Core.loopLateDiscard (c : Core) (n at_ : Nat) : Core :=
  match (c.spin n).batch with
  | some b =>
    match b.todo with
    | some k :: rest => c.discardLate n k at_ b rest
    | _ => c
  | none => c

/-- LOOP_WAIT (R141). -/
def Core.loopWait (c : Core) (n w : Nat) : Core :=
  c.xdraft n .loopWait w fun c =>
    let s := c.spin n
    if !c.unitArmed n then c.setRd n 0
    else if s.batch.isSome || !c.arr.released then c.updSpin n fun s => { s with loopWait := true }
    else if s.batchWord ≠ 0 then c.setRd n s.batchWord
    else c.setRd n (2 ^ 31)

/-! ## Arming and admission (R99, R138, R163) -/

/-- The slots due in tick n among a list. -/
def Core.dueCount (c : Core) (l : List Nat) (n : Nat) : Nat :=
  (l.filter fun k => (n + c.slotDiv k - c.slotOfs k % c.slotDiv k) % c.slotDiv k == 0).length

/-- The largest D(n): over the least common period if it is at most 65,536 ticks, else every slot. -/
def Core.dueMax (c : Core) (l : List Nat) : Nat :=
  let p := l.foldl (fun m k => Nat.lcm m (c.slotDiv k)) 1
  if p ≤ 65536 then (List.range p).foldl (fun m n => max m (c.dueCount l n)) 0 else l.length

/-- W: the earliest deadline of the list less 1,000 cycles. -/
def Core.batchWindow (c : Core) (l : List Nat) : Nat :=
  (l.foldl (fun m k => min m (phaseCycles c.period (c.rd (Od.COMMIT_PHASE (c.slotDcg k))))) c.period) - 1000

/-- L of R163. -/
def Core.batchLoad (c : Core) (l : List Nat) : Nat :=
  let d := c.dueMax l
  16 + 64 * d + 4 * (l.length - d)

/-- R163: L ≤ floor(0.9 × W). -/
def Core.batchAdmitted (c : Core) (l : List Nat) : Bool :=
  l.isEmpty || decide (c.batchLoad l ≤ 9 * c.batchWindow l / 10)

/-- The unit is armed with a list, or disarmed with no entries. The remote I/O stations and the witness arm none (R174). -/
def Core.armUnit (c : Core) (n addr count : Nat) : Core :=
  if c.roleFuse = 1 ∨ c.roleFuse = 3 then c
  else
    let arm := if count = 0 then none else some (addr, count)
    c.updSpin n fun s => { s with arm := arm, newArm := arm.isSome }

/-- The slots that an image assigns to SPn, as its batch list names them. -/
def ImageSet.assigned (im : ImageSet) (n : Nat) : List Nat :=
  (im.batches.filter (·.1 == n)).flatMap fun b =>
    (List.range b.2.2).map fun i => leAt im.area (b.2.1 - im.base + 2 * i) 2 % 4096

/-- The batch list of one spindle as the executive builds it: ascending by the commit cycle of the deadline group, then by
slot (R138). -/
def Core.builtList (c : Core) (im : ImageSet) (n : Nat) : List Nat :=
  ((im.assigned n).foldl (fun l k => c.slotInsert (some k) l) []).filterMap id

/-- The executive builds the lists of an image in its program area and arms the units with them, each spindle's at the place
the image gives it. -/
def Core.armImage (c : Core) (im : ImageSet) : Core :=
  im.batches.foldl (fun (c : Core) b =>
    let l := c.builtList im b.1
    (c.putCreel b.2.1 (l.flatMap (leBytes 2))).armUnit b.1 b.2.1 l.length) c

/-- The executive arms the units with the lists of the running image. -/
def Core.armRunning (c : Core) : Core := match c.prog.image with | some im => c.armImage im | none => c

/-- The slots of SPn's batch list: those of the armed list, or while the unit is disarmed those that its image assigns. -/
def Core.batchOf (c : Core) (n : Nat) : List Nat :=
  match (c.spin n).arm, c.prog.image with
  | some a, _ => (c.listSlots (some a)).filterMap id
  | none, some im => c.builtList im n
  | none, none => []

/-- LU.ENTRIES, LU.WINDOW, LU.DUE_MAX and LU.LOAD_PCT of the unit as it is armed, the lists it hosts merged in. -/
def Core.luEntries (c : Core) (n : Nat) : Nat := if c.unitArmed n then (c.unitSlots n).length else 0
def Core.luSlots (c : Core) (n : Nat) : List Nat := if c.unitArmed n then (c.unitSlots n).filterMap id else []
def Core.luWindow (c : Core) (n : Nat) : Nat :=
  let l := c.luSlots n
  if l.isEmpty then 0 else c.batchWindow l
def Core.luDueMax (c : Core) (n : Nat) : Nat :=
  let l := c.luSlots n
  if l.isEmpty then 0 else c.dueMax l
def Core.luLoad (c : Core) (n : Nat) : Nat :=
  let l := c.luSlots n
  let w := c.batchWindow l
  if l.isEmpty ∨ w = 0 then 0 else min 255 ((100 * c.batchLoad l + w - 1) / w)

/-- LOOP_GO, in machine mode only (Table 03.5). -/
def Core.loopGo (c : Core) (n w : Nat) (machine : Bool) (addr count : Nat) : Core :=
  c.xdraft n .loopGo w fun c =>
    if !machine then c.trapEntry n .illegalInstruction
    else if (c.tentativeJob n).isSome then c.stall n (.loopGo addr count)
    else c.armUnit n addr count

/-! ## Between the boundary and the release (R147, R149, R150, R165, R168) -/

/-- The slots of the armed lists. -/
def Core.armedSlots (c : Core) : List Nat :=
  ((List.range 32).flatMap fun n => c.luSlots n).eraseDups

/-- Re-stamping at a boundary: newly armed lists, every slot after a step, and slots whose newer view has aged to 2^28. -/
def Core.restampAll (c : Core) : Core :=
  let all := if c.loops.restampAll then c.validSlots else []
  let old := c.validSlots.filter fun k => decide (2 ^ 28 ≤ c.stampAge (c.viewInfo k (c.newerView k)))
  let c := (all ++ old).eraseDups.foldl Core.restamp c.restampNew
  { c with loops := { c.loops with restampAll := false } }

/-- LOOP_VIEW_UPDATE: the view takes the process image outputs as they stand at the boundary. -/
def Core.viewUpdate (c : Core) : Core :=
  { c with loops := { c.loops with view := c.od.filter fun p => 0x700000 ≤ p.1 && p.1 < 0x780000 } }

/-- What a dictionary read shows of the descriptors' state: the state lines as they stand in this interval (R137). -/
def Core.showSlots (c : Core) : Core :=
  { c with loops := { c.loops with
    shown := c.creel.filter fun x => decide (0x10000000 ≤ x.1) && decide (x.1 < 0x10080000) && decide (64 ≤ x.1 % 128) } }

/-- Unreadable words of the armed lists are rewritten by the executive from its own tables (R165). -/
def Core.mendLists (c : Core) : Core :=
  (List.range 32).foldl (fun c n =>
    match (c.spin n).arm with
    | some (a, cnt) => c.unpoison a (2 * cnt)
    | none => c) c

/-- A clear of latches and counts (R150). -/
def Core.clearSlot (c : Core) (k : Nat) : Core :=
  let s := putBit (putBit (c.slotStatus k) stLateLatch false) stFaultLatch false
  (c.setSlotWord k 0x50 s).setSlotWord k 0x54 0

def Core.setAttr (c : Core) (t which v : Nat) : Core :=
  let a := c.compAttr t
  let a := match which with | 0 => { a with scale := v } | 1 => { a with offset := v } | _ => { a with mode := v }
  { c with loops := { c.loops with attrs := c.loops.attrs.filter (·.table != t) ++ [a] } }

/-- A change is made. -/
def Core.makeChange (c : Core) : LoopChange → Core
  | .word k ofs v => c.setSlotWord k ofs v
  | .out k v => c.setSlotWord k (0x44 + 8 * c.newerView k) v
  | .table t d => c.putCreel (compAddr t) d
  | .attr t w v => c.setAttr t w v
  | .whole a d => c.putCreel a d

/-- One staged change is applied and recorded (0x0406). -/
def Core.applyChange (c : Core) (x : LoopChange) : Core :=
  let c := c.makeChange x
  match x with
  | .word k _ _ => c.log1 0x0406 k
  | .out k _ => c.log1 0x0406 k
  | .table t _ => c.log1 0x0406 t
  | .attr t _ _ => c.log1 0x0406 t
  | .whole _ _ => c.log 0x0406

/-- The change is of a descriptor word. -/
def LoopChange.isWord : LoopChange → Bool
  | .word .. => true
  | .out .. => true
  | _ => false

/-- The table a change is of. -/
def LoopChange.table? : LoopChange → Option Nat
  | .table t _ => some t
  | .attr t _ _ => some t
  | _ => none

/-- Which of the staged changes this boundary applies: in the order received, at most 16 descriptor words and one table
with its attributes (R168). -/
def takeChanges : List LoopChange → Nat → Option Nat → List LoopChange × List LoopChange
  | [], _, _ => ([], [])
  | x :: xs, words, tab =>
    if x.isWord then
      if words = 0 then ([], x :: xs)
      else let (a, b) := takeChanges xs (words - 1) tab; (x :: a, b)
    else
      let ok := match tab, x.table? with | some t, some u => t == u | _, _ => true
      if ok then let (a, b) := takeChanges xs words (x.table?.or tab); (x :: a, b)
      else ([], x :: xs)

/-- A step record carries the change: a descriptor word of access rw, a table or an attribute, and in RUN a MODE (R168,
R343). -/
def LoopChange.carried (running : Bool) : LoopChange → Bool
  | .word _ ofs _ => decide (0x24 ≤ ofs) || (running && ofs == 0)
  | .whole a _ => a == compAddr 0
  | _ => true

/-- LOOP_CHANGE_APPLY. The configuration record keeps the applied changes (R169). -/
def Core.applyChanges (c : Core) : Core :=
  let (now, later) := takeChanges c.loops.staged 16 none
  let c := now.foldl (fun (c : Core) x =>
    if x.carried (c.run == .run) then (c.applyChange x).carry (.loop x) else c.applyChange x) c
  let c := c.loops.clears.foldl Core.clearSlot c
  let c := { c with loops := { c.loops with
    staged := later, clears := [], kept := c.loops.kept ++ now } }
  let c := if now.isEmpty then c else c.cfgChanged
  c.wr Od.LOOP_APPLY_PENDING later.length

/-- The executive's loop work between a boundary and the release, while every unit is idle (R137). -/
def Core.loopBoundary (c : Core) : Core := c.mendLists.viewUpdate.applyChanges.restampAll.showSlots

/-- LOOP_W_CLEAR and LOOP_CLEAR_ALL: the clear takes effect between the next boundary and release. -/
def Core.stageClears (c : Core) (ks : List Nat) : Core :=
  { c with loops := { c.loops with clears := (c.loops.clears ++ ks).eraseDups } }

/-- An accepted write of a descriptor word, table or attribute is staged (R168). -/
def Core.stageChange (c : Core) (x : LoopChange) : Core :=
  let c := { c with loops := { c.loops with staged := c.loops.staged ++ [x] } }
  c.wr Od.LOOP_APPLY_PENDING c.loops.staged.length

/-! ## Tag match at a changeover (R170) -/

/-- The slot of a valid descriptor with this tag in a table given by its bytes. -/
def tagSlot (tag : Nat) (l : List (Nat × Nat × Nat)) : Option (Nat × Nat × Nat) := l.find? (·.2.1 == tag)

/-- LOOP_TAG_MATCH: the new descriptors (slot, 128 bytes) take the place of the running ones. -/
def Core.tagMatch (c : Core) (new : List (Nat × Bytes)) : Core :=
  let old := c.validSlots.map fun k => (k, c.slotWord k 0x04, c.slotLaw k)
  let lines := old.map fun o => (o.1, c.creel.read (slotAddr o.1 + 0x40) 64)
  let c := old.foldl (fun c o => c.putCreel (slotAddr o.1) (zeros 128)) c
  new.foldl (fun c p =>
    let k := p.1
    let c := c.putCreel (slotAddr k) (padTo 64 (slice p.2 0 64))
    let tag := c.slotWord k 0x04
    match (if tag = 0 then none else tagSlot tag old) with
    | some (ok, _, law) =>
      let line := ((lines.find? (·.1 == ok)).map (·.2)).getD (zeros 64)
      let c := c.putCreel (slotAddr k + 0x40) line
      if (c.slotCtrl k).testBit 21 || law != c.slotLaw k then (c.zeroState k).gapSlot k else c
    | none => ((c.putCreel (slotAddr k + 0x40) (zeros 64)).gapSlot k).restamp k) c

end Sys2Proof.Machine
end

