-- ==== Sys2Proof/Machine/RunAhead.lean ====
section
/-! DEFINITION. The phase-0 check of the run-ahead records (R127), the operations that stalled jobs perform after it, and
the loading of bobbins at a boundary (R102). -/

namespace Sys2Proof.Machine

/-! ## Stalled operations -/

/-- A load or store of a spindle on the memories the model holds: its SRAM, the creel, staging, the flash banks. Other
ranges have commands of their own. -/
def Core.spinLoad (c : Core) (n addr size : Nat) : Core :=
  if 0x08000000 ≤ addr ∧ addr < 0x08010000 then c.setRd n ((c.spin n).sram.word (addr - 0x08000000) size)
  else if 0x10000000 ≤ addr ∧ addr < 0x10800000 then c.creelLoad (some n) addr size fun c v => c.setRd n v
  else if 0x20000000 ≤ addr ∧ addr < 0x30000000 then
    let b := ((c.prog.banks[if addr < 0x28000000 then 0 else 1]?).map (·.bytes)).getD []
    c.setRd n (leAt b ((addr - 0x20000000) % 0x08000000) size)
  else c

/-- The staging word a job of SPn sees: its own buffered writes over a valid tentative slot, if it is tentative, over the
final slot (R121, R125). -/
def Core.stageSeen (c : Core) (n w : Nat) : Nat :=
  let base := c.stageWord w
  let base := match c.tentativeJob n with
    | some _ => match c.arr.tentative.find? (·.word == w) with
      | some t => mergeBytes base t.be t.val
      | none => base
    | none => base
  match (c.spin n).buf.find? (·.word == w) with
  | some x => mergeBytes base x.be x.val
  | none => base

/-- A load from staging; a tentative job that meets another record's slot depends on that record (R125). -/
def Core.stageLoad (c : Core) (n addr size : Nat) : Core :=
  let w := (addr - 0x14000000) / 4
  let v := field (c.stageSeen n w) (8 * (addr % 4)) (8 * size)
  let c := match c.tentativeJob n, c.arr.tentative.find? (·.word == w) with
    | some r, some t => if t.record = r then c else c.updRecord r fun x => { x with
        depends := if x.depends.contains t.record then x.depends else x.depends ++ [t.record] }
    | _, _ => c
  c.setRd n v

def Core.spinStore (c : Core) (n addr size val : Nat) : Core :=
  if 0x08000000 ≤ addr ∧ addr < 0x08010000 then
    c.updSpin n fun s => { s with sram := s.sram.write (addr - 0x08000000) (leBytes size val) }
  else if 0x10180000 ≤ addr ∧ addr < 0x10800000 then c.putCreel addr (leBytes size val)
  else c

/-- An access of the memories above. -/
def sramOrCreel (a : Nat) : Bool :=
  (decide (0x08000000 ≤ a) && decide (a < 0x08010000)) || (decide (0x10000000 ≤ a) && decide (a < 0x10800000)) ||
    (decide (0x20000000 ≤ a) && decide (a < 0x30000000))

/-- An access that the dictionary server or the router serves next. -/
def Core.later (c : Core) (w : Waiting) : Core := { c with srv := { c.srv with waiting := c.srv.waiting ++ [w] } }

/-- A stalled operation is performed once its record is confirmed. -/
def Core.perform (c : Core) (n : Nat) : Core :=
  match (c.spin n).stalled with
  | none => c
  | some op =>
    if op = .park then c
    else
      let c := c.updSpin n fun s => { s with stalled := none }
      match op with
      | .push lo hi p => c.pushEntry n lo hi p
      | .loopGo a k => c.armUnit n a k
      | .evClaim => let (c, id) := c.evClaim (n + 1); c.setRd n id
      | .evDone id => c.evComplete (n + 1) id
      | .store a z v => if sramOrCreel a then c.spinStore n a z v else c.later (.access (n + 1) a z (some v))
      | .load a z => if sramOrCreel a then c.spinLoad n a z else c.later (.access (n + 1) a z none)
      | .write k d => c.later (.write (.spindle n) k d)
      | .segment k ofs d last => c.later (.segment (.spindle n) k ofs d last)
      | .interrupt => c.interrupted n 11
      | .trap t => c.raise n t
      | .park => c

/-! ## The check (R127) -/

/-- A record whose watched stores or whose inputs have changed. -/
def Core.recordBad (c : Core) (r : Ahead) : Bool :=
  r.bad || r.ranges.any fun g =>
    match g.shadow with
    | some b => c.readRange g.addr g.len != b
    | none => false

/-- Bad records closed over dependents: as often as there are records. -/
def closeBad (l : List Ahead) : Nat → List Nat → List Nat
  | 0, bad => bad
  | k + 1, bad =>
    closeBad l k (bad ++ (l.filter fun r => !bad.contains r.id && r.depends.any bad.contains).map (·.id))

/-- Every job with the record, wherever it is, passed through f; `none` removes it. -/
def Core.mapRecordJobs (c : Core) (r : Nat) (f : Job → Option Job) : Core :=
  let g (j : Job) : Option Job := if j.ahead = some r then f j else some j
  let parked (p : Parked) : Option Parked := (g p.job).map fun j => { p with job := j }
  c.updArr fun a => { a with
    sp := a.sp.map fun s => { s with
      bobbin := s.bobbin.filterMap g, loaded := s.loaded.filterMap g, overflow := s.overflow.filterMap g
      job := s.job.bind g
      buf := if (s.job.isSome && (s.job.bind g).isNone) then [] else s.buf
      rd := if (s.job.isSome && (s.job.bind g).isNone) then 0 else s.rd
      stalled := if (s.job.isSome && (s.job.bind g).isNone) then none else s.stalled }
    parked := a.parked.filterMap parked
    compares := a.compares.filterMap fun x => do
      let p ← parked x.a
      let q ← parked x.b
      pure { x with a := p, b := q } }

def Core.dropTentative (c : Core) (r : Nat) : Core :=
  c.updArr fun a => { a with tentative := a.tentative.filter (·.record != r) }

def Core.freeRecordId (c : Core) (r : Nat) : Core :=
  c.updArr fun a => { a with records := a.records.filter (·.id != r) }

/-- An entry of a release on its home's list of loaded entries. -/
def Core.loadEntry (c : Core) (j : Job) : Core :=
  match c.homeOf j.owner j.word with
  | none => c.closed j
  | some h => c.updSpin h fun s => { s with loaded := s.loaded ++ [{ j with owner := h }] }

/-- A record is discarded: its slots go, its job is aborted, and its entry is queued anew with RA = 0 if its task is
released (`requeue`). -/
def Core.discardRecord (c : Core) (r : Ahead) (requeue : Bool) (ctr : Nat) : Core :=
  let c := (((c.dropTentative r.id).mapRecordJobs r.id fun _ => none).freeRecordId r.id).inc64 ctr
  let c := c.log1 0x030A r.job.task
  if requeue then
    let c := c.loadEntry { r.job with word := putBit r.job.word 45 false, ahead := none, inst := some r.job.task }
    c
  else c

/-- A record is confirmed: its words become final now, its entry loses RA, and a stalled job proceeds. -/
def Core.confirmRecord (c : Core) (r : Ahead) : Core :=
  let words := c.arr.tentative.filter (·.record == r.id)
  let c := c.dropTentative r.id
  let c := words.foldl (fun c w => c.finalWord c.clk.cyc (2 * r.job.owner) ⟨w.word, w.be, w.val⟩) c
  let held := (List.range 32).filter fun n => (c.spin n).job.any (·.ahead == some r.id)
  let c := (c.mapRecordJobs r.id fun j =>
    some { j with word := putBit j.word 45 false, ahead := none, inst := some r.job.task }).freeRecordId r.id
  (held.foldl Core.perform c).inc64 Od.RA_CONFIRMED

/-- RUN_AHEAD_CHECK, with the tasks released at this boundary. `all`: every record is discarded without re-queue (R134). A
record discarded because its task is not released counts in RA.DISCARDED too (log entry 171). Answers the keys of the
entries that need no loading any more. The duration is a measured quantity of at most 600 cycles. -/
def Core.aheadCheck (c : Core) (released : List Nat) (all : Bool) : Core × List Nat :=
  let l := c.arr.records
  let own := (l.filter c.recordBad).map (·.id)
  let bad := closeBad l l.length own
  let c := (c.wr Od.RA_CHECK_CYCLES (c.fresh 32 % 601)).used 1
  l.foldl (fun (p : Core × List Nat) r =>
    let c := p.1
    if all then (c.discardRecord r false Od.RA_DISCARDED, p.2)
    else if !released.contains r.job.task then (c.discardRecord r false Od.RA_DISCARDED, p.2)
    else if own.contains r.id then (c.discardRecord r true Od.RA_DISCARDED, r.job.key :: p.2)
    else if bad.contains r.id then (c.discardRecord r true Od.RA_DISCARDED_DEP, r.job.key :: p.2)
    else (c.confirmRecord r, r.job.key :: p.2)) (c, [])

/-! ## Loading (R102) -/

/-- The entries of a task's job list, but those already handled by the check. -/
def Core.loadTask (c : Core) (t : Nat) (handled : List Nat) : Core :=
  match c.taskDef t with
  | none => c
  | some d =>
    let prio := c.rd (Od.TASK_PRIO t)
    d.jobs.zipIdx.foldl (fun c p =>
      let key := jobKey prio t p.2
      if handled.contains key then c
      else
        let (c, u) := c.nextUid
        c.loadEntry ⟨putBit p.1.2 45 false, u, p.1.1, key, some t, none, c.clk.cyc, false⟩) c

/-- A service job with its home spindle and entry. -/
def Core.loadService (c : Core) (i : Nat) (p : Nat × Nat) : Core :=
  let (c, u) := c.nextUid
  c.loadEntry ⟨p.2, u, p.1, i, none, none, c.clk.cyc, false⟩

/-- The loaded entries are released in core cycle `t`. -/
def Core.releaseLoads (c : Core) (t : Nat) : Core :=
  (List.range 32).foldl (fun c n =>
    let s := c.spin n
    let c := c.updSpin n fun s => { s with
      bobbin := s.bobbin ++ s.loaded.map fun j => { j with visible := t }, loaded := [] }
    c.peak (Od.SP_BOBBIN_PEAK n) (min 64 (s.count t))) c

/-- LEVEL0_BOUNDARY_INTERRUPT: every spindle running a LEVEL 0 job takes cause 16 (R106). -/
def Core.boundaryInterrupts (c : Core) : Core :=
  ((List.range 32).filter fun n => (c.spin n).job.any (·.level == 0)).foldl (fun (c : Core) n => c.interrupted n 16) c

end Sys2Proof.Machine
end

