-- ==== Sys2Proof/Machine/Ecdsa.lean ====
section
/-! DEFINITION. The check of an ECDSA signature over the curve P-256 (FIPS 186-4), which the spec names for images (R487). -/

namespace Sys2Proof.Machine.P256

/-- The field prime, the order of the base point, the constant of the curve y² = x³ − 3x + b, and the base point. -/
def prime : Nat := 2 ^ 256 - 2 ^ 224 + 2 ^ 192 + 2 ^ 96 - 1
def order : Nat := 0xffffffff00000000ffffffffffffffffbce6faada7179e84f3b9cac2fc632551
def curveB : Nat := 0x5ac635d8aa3a93e7b3ebbd55769886bc651d06b0cc53b0f63bce3c3e27d2604b
def baseX : Nat := 0x6b17d1f2e12c4247f8bce6e563a440f277037d812deb33a0f4a13945d898c296
def baseY : Nat := 0x4fe342e2fe1a7f9b8ee7eb4a7c0f9e162bce33576b315ececbb6406837bf51f5

/-- A difference in the field. -/
def minus (a b : Nat) : Nat := (a + (prime - b % prime)) % prime

/-- A point as (X, Y, Z), standing for (X / Z², Y / Z³); Z is 0 at infinity. -/
structure Point where
  x : Nat
  y : Nat
  z : Nat

def infinity : Point := ⟨1, 1, 0⟩

/-- Twice a point. -/
def Point.twice (a : Point) : Point :=
  let yy := a.y * a.y % prime
  let s := 4 * a.x * yy % prime
  let zz := a.z * a.z % prime
  let m := 3 * minus a.x zz * (a.x + zz) % prime
  let x := minus (m * m) (2 * s)
  ⟨x, minus (m * minus s x) (8 * yy * yy), 2 * a.y * a.z % prime⟩

/-- The sum of two points. -/
def Point.plus (a b : Point) : Point :=
  if a.z = 0 then b
  else if b.z = 0 then a
  else
    let za := a.z * a.z % prime
    let zb := b.z * b.z % prime
    let u := a.x * zb % prime
    let s := a.y * zb * b.z % prime
    let h := minus (b.x * za) u
    let r := minus (b.y * za * a.z) s
    if h = 0 then (if r = 0 then a.twice else infinity)
    else
      let hh := h * h % prime
      let v := u * hh % prime
      let x := minus (r * r) (hh * h + 2 * v)
      ⟨x, minus (r * minus v x) (s * hh * h), h * a.z * b.z % prime⟩

/-- The bits of a number of 256 bits, the highest first. -/
def bitsDown (n : Nat) : List Bool := ((List.range 256).map n.testBit).reverse

/-- k a + l b, bit by bit. -/
def combine (k : Nat) (a : Point) (l : Nat) (b : Point) : Point :=
  let both := a.plus b
  ((bitsDown k).zip (bitsDown l)).foldl (fun p i =>
    match i with
    | (false, false) => p.twice
    | (true, false) => p.twice.plus a
    | (false, true) => p.twice.plus b
    | (true, true) => p.twice.plus both) infinity

/-- The inverse modulo the order: the power to the order less two. -/
def inverse (s : Nat) : Nat :=
  (bitsDown (order - 2)).foldl (fun acc i => (if i then acc * acc % order * s else acc * acc) % order) 1

/-- A public key, X then Y, is a point of the curve. -/
def keyOk (x y : Nat) : Bool :=
  decide (x < prime) && decide (y < prime) && y * y % prime == minus (x * x * x + curveB) (3 * x)

/-- The signature (r, s) of a digest verifies under a key. -/
def verify (key hash : Bytes) (r s : Nat) : Bool :=
  let x := beAt key 0 32
  let y := beAt key 32 32
  if !keyOk x y || r == 0 || decide (order ≤ r) || s == 0 || decide (order ≤ s) then false
  else
    let w := inverse s
    let p := combine (beNat hash * w % order) ⟨baseX, baseY, 1⟩ (r * w % order) ⟨x, y, 1⟩
    let zz := p.z * p.z % prime
    p.z != 0 && (r * zz % prime == p.x || (decide (r + order < prime) && (r + order) * zz % prime == p.x))

end Sys2Proof.Machine.P256
end

