-- ==== Sys2Proof/Machine/Presence.lean ====
section
/-! DEFINITION. Which dictionary entries a variant has (R8, R9 and the "Variants" rule of each chapter). -/

namespace Sys2Proof.Machine

/-- What the fuse word removes. -/
structure Fuses where
  spindles : Nat
  fieldSet : Nat
  canAll : Bool
  safety : Nat
  pairEn : Bool
  role : Nat
deriving DecidableEq, Repr

def Core.fuses (c : Core) : Fuses where
  spindles := c.spindles
  fieldSet := c.fieldFuse
  canAll := c.canEn 2
  safety := c.safetyFuse
  pairEn := c.pairEn
  role := c.roleFuse

/-- A remote I/O station, and the witness module. -/
def Fuses.io (f : Fuses) : Bool := f.role == 1
def Fuses.wit (f : Fuses) : Bool := f.role == 3

def between (lo x hi : Nat) : Bool := lo ≤ x && x ≤ hi

/-- Arrays over the 48 DIO channels, the 24 UIO channels and the six field groups (R213, R256, R297). -/
def dioArray (idx : Nat) : Bool :=
  between 0x2601 idx 0x260F || idx == 0x2581 || idx == 0x6000 || idx == 0x6800 || idx == 0x7000
def uioArray (idx : Nat) : Bool :=
  between 0x2701 idx 0x2718 || idx == 0x2582 || idx == 0x2583 || idx == 0x6010 || idx == 0x6810 || idx == 0x6030 ||
    idx == 0x6830 || idx == 0x7010
def fgArray (idx : Nat) : Bool := between 0x2640 idx 0x2648

/-- The fixed entries of Table 05.1 with their quality words. -/
def fixedPi (idx : Nat) : Bool :=
  [0x6000, 0x6001, 0x6010, 0x6020, 0x6030, 0x6800, 0x6801, 0x6810, 0x6820, 0x6830, 0x7000, 0x7010].contains idx

/-- Channels past the bond plan of a 24/12 variant. -/
def unbonded (idx sub : Nat) : Bool :=
  (dioArray idx && 24 < sub) || (uioArray idx && 12 < sub) || (fgArray idx && 3 < sub) ||
    between 0x276C idx 0x2777 || (between 0x2740 idx 0x2742 && sub == 3) || (between 0x2810 idx 0x2814 && 12 < sub)

/-- CAN sub-entries of CAN2 and CAN3 (R423, R492). -/
def canHigh (idx sub : Nat) : Bool :=
  idx == 0x2B03 || idx == 0x2B04 || idx == 0x2B0A || idx == 0x2B0B || idx == 0x1202 || idx == 0x1203 ||
    ((idx == 0x2B05 || idx == 0x2B10 || idx == 0x2B20) && 2 < sub) ||
    (between 0x2B11 idx 0x2B14 && 6 < sub) || (between 0x2B21 idx 0x2B22 && 64 < sub) ||
    (between 0x2B30 idx 0x2B35 && 8 < sub)

/-- Health items of units that the bond plan or the fuse word removes (R516, R510): CONSUMED and LIFE_H by item. -/
def healthGone (f : Fuses) (idx sub : Nat) : Bool :=
  (idx == 0x2F22 || idx == 0x2F23) &&
    let dio := match f.fieldSet with | 0 => 0 | 1 => 24 | _ => 48
    let uio := match f.fieldSet with | 0 => 0 | 1 => 12 | _ => 24
    (between 2 sub 49 && dio ≤ sub - 2) || (between 50 sub 57 && f.safety == 0) || (between 58 sub 81 && uio ≤ sub - 58)

/-- The entry is absent under the fuse word. -/
def Fuses.absent (f : Fuses) (idx sub : Nat) : Bool :=
  (idx == 0x2130 && f.safety == 0) ||
  (between 0x2201 idx 0x2220 && f.spindles ≤ idx - 0x2201) ||
  (between 0x2300 idx 0x23FF && (f.io || f.wit)) ||
  (between 0x2330 idx 0x234F && f.spindles ≤ idx - 0x2330) ||
  (f.io && (between 0x2500 idx 0x254F || idx == 0x2560 || idx == 0x2570 || between 0x3000 idx 0x3FFF)) ||
  (!f.io && between 0x2580 idx 0x2583) ||
  (f.wit && ((between 0x2500 idx 0x25FF && !(between 0x2550 idx 0x2551)) || between 0x3000 idx 0x3FFF ||
    between 0x6000 idx 0x7FFF)) ||
  (f.role == 2 && fixedPi idx) ||
  (f.fieldSet == 0 && (between 0x2600 idx 0x27FF)) ||
  (f.fieldSet == 1 && unbonded idx sub) ||
  (f.safety == 0 && (between 0x2660 idx 0x2675 || between 0x2800 idx 0x28FF)) ||
  (f.safety == 1 && between 0x2820 idx 0x283E) ||
  (f.safety == 2 && between 0x2860 idx 0x2861) ||
  (!f.pairEn && between 0x2900 idx 0x2930) ||
  (f.io && between 0x2900 idx 0x29FF) ||
  ((f.io || f.wit) && between 0x2A30 idx 0x2A33) ||
  (!f.canAll && canHigh idx sub) ||
  (between 0x2C40 idx 0x2C46 && 1 < sub && f.spindles < sub - 1) ||
  healthGone f idx sub

/-- The row of an entry the variant has. -/
def Core.row? (c : Core) (k : Nat) : Option OdRow :=
  if c.fuses.absent (k / 256) (k % 256) then none else odRow? k

/-- The keys of a list of rows. -/
def rowKeys (l : List OdRow) : List Nat :=
  l.flatMap fun r => (List.range (r.idxHi + 1 - r.idxLo)).flatMap fun i =>
    (List.range (r.subHi + 1 - r.subLo)).map fun s => odKey (r.idxLo + i) (r.subLo + s)

/-- A key put into a rising list. -/
def insertKey (k : Nat) : List Nat → List Nat
  | [] => [k]
  | x :: xs => if k < x then k :: x :: xs else if k = x then x :: xs else x :: insertKey k xs

/-- The configuration values of some keys that the variant has, in ascending index and sub-index. -/
def Core.cfgValues (c : Core) (keys : List Nat) : List (Nat × Nat) :=
  ((keys.filter fun k => (c.row? k).isSome).foldl (fun l k => insertKey k l) []).map fun k => (k, c.rd k)

end Sys2Proof.Machine
end

