-- ==== Sys2Proof/Machine/Sha256.lean ====
section
/-! DEFINITION. SHA-256 (FIPS 180-4) and HMAC-SHA-256 (RFC 2104), which the spec names for pair messages, change sets and
images (R356, R479, R481, R487). A hash value, a block and a table of words are each one number, read by word from the low end. -/

namespace Sys2Proof.Machine.Sha

/-- Word `i` of a number, from its low end. -/
def word (x i : Nat) : Nat := field x (32 * i) 32

/-- A number of `n` words from its words, `f i` the one at place `i`. -/
def ofWords (n : Nat) (f : Nat → Nat) : Nat := (List.range n).foldl (fun x i => x + f i % 2 ^ 32 * 2 ^ (32 * i)) 0

/-- The round constants, the first one in the highest of 64 words. -/
def constants : Nat :=
  0x428a2f9871374491b5c0fbcfe9b5dba53956c25b59f111f1923f82a4ab1c5ed5d807aa9812835b01243185be550c7dc372be5d7480deb1fe9bdc06a7c19bf174 * 2 ^ 1536 +
  0xe49b69c1efbe47860fc19dc6240ca1cc2de92c6f4a7484aa5cb0a9dc76f988da983e5152a831c66db00327c8bf597fc7c6e00bf3d5a7914706ca635114292967 * 2 ^ 1024 +
  0x27b70a852e1b21384d2c6dfc53380d13650a7354766a0abb81c2c92e92722c85a2bfe8a1a81a664bc24b8b70c76c51a3d192e819d6990624f40e3585106aa070 * 2 ^ 512 +
  0x19a4c1161e376c082748774c34b0bcb5391c0cb34ed8aa4a5b9cca4f682e6ff3748f82ee78a5636f84c878148cc7020890befffaa4506cebbef9a3f7c67178f2

/-- The hash value before the first block. -/
def start : Nat := 0x6a09e667bb67ae853c6ef372a54ff53a510e527f9b05688c1f83d9ab5be0cd19

/-- A word turned right by each amount of a list, the results exclusive-ored. -/
def turned (x : Nat) (by' : List Nat) : Nat :=
  by'.foldl (fun acc r => acc ^^^ (x >>> r + x % 2 ^ r * 2 ^ (32 - r))) 0

/-- One round on the working words (a in place 7, h in place 0) beside the sixteen words of the schedule still to come (the
next one in place 15). -/
def step (v w t : Nat) : Nat × Nat :=
  let mixed := turned (word v 3) [6, 11, 25] + (word v 1 ^^^ (word v 3 &&& (word v 2 ^^^ word v 1))) + word v 0 +
    word constants (63 - t) + word w 15
  let summed := turned (word v 7) [2, 13, 22] + (word v 7 &&& word v 6 ||| word v 5 &&& (word v 7 ||| word v 6))
  let later := (turned (word w 14) [7, 18] ^^^ word w 14 >>> 3) + (turned (word w 1) [17, 19] ^^^ word w 1 >>> 10) +
    word w 15 + word w 6
  (ofWords 8 fun i => if i = 7 then mixed + summed else if i = 3 then word v 4 + mixed else word v (i + 1),
    ofWords 16 fun i => if i = 0 then later else word w (i - 1))

/-- The hash value after a block of sixteen words. -/
def compress (h block : Nat) : Nat :=
  let v := ((List.range 64).foldl (fun (s : Nat × Nat) t => step s.1 s.2 t) (h, block)).1
  ofWords 8 fun i => word h i + word v i

/-- The message with its padding: a one bit, zeros up to a whole number of blocks, the length in bits in eight bytes. -/
def padded (b : Bytes) : Bytes := b ++ 0x80#8 :: zeros ((119 - b.length % 64) % 64) ++ beBytes 8 (8 * b.length)

/-- SHA-256 of a byte string, 32 bytes. -/
def digest (b : Bytes) : Bytes :=
  let m := padded b
  beBytes 32 ((List.range (m.length / 64)).foldl (fun h i => compress h (beAt m (64 * i) 64)) start)

/-- HMAC-SHA-256: the key, at most a block of it, is exclusive-ored with a byte repeated over the block. -/
def hmac (key msg : Bytes) : Bytes :=
  let block := padTo 64 (if key.length ≤ 64 then key else digest key)
  let with' (x : Byte) (m : Bytes) : Bytes := digest (block.map (fun y => y ^^^ x) ++ m)
  with' 0x5C (with' 0x36 msg)

end Sys2Proof.Machine.Sha
end

