-- ==== Sys2Proof/Machine/Verify.lean ====
section
/-! DEFINITION. The header of executive and program images and their verification (R487, R488). -/

namespace Sys2Proof.Machine

/-- The header of an image (Table 14.8). -/
structure ImageHeader where
  magic : Nat
  kind : Nat
  keySlot : Nat
  version : Nat
  id : Nat
  length : Nat
  variants : Nat
  hash : Bytes
  sigR : Nat
  sigS : Nat
  /-- The fields that are 0: at 0x06, 0x16 and 0x78. -/
  reserved : List Nat
deriving DecidableEq, Repr

/-- Its 128 bytes, in network order. -/
def imageHeader (img : Bytes) : ImageHeader where
  magic := beAt img 0x00 4
  kind := beAt img 0x04 1
  keySlot := beAt img 0x05 1
  version := beAt img 0x08 4
  id := beAt img 0x0C 4
  length := beAt img 0x10 4
  variants := beAt img 0x14 2
  hash := slice img 0x18 32
  sigR := beAt img 0x38 32
  sigS := beAt img 0x58 32
  reserved := [beAt img 0x06 2, beAt img 0x16 2, beAt img 0x78 8]

/-- Every field is in range, and the LENGTH bytes are there. -/
def imageHeaderOk (img : Bytes) : Bool :=
  let h := imageHeader img
  decide (128 + h.length ≤ img.length) && h.magic == 0x4C445837 && h.reserved.all (· == 0) && decide (h.variants < 2 ^ 12) &&
    (match h.kind with | 1 => h.keySlot == 0 | 2 => between 1 h.keySlot 3 | _ => false)

/-- HASH is the SHA-256 of the LENGTH bytes that follow the header. -/
def hashOk (img : Bytes) : Bool :=
  (imageHeader img).hash == Sha.digest (slice img 128 (imageHeader img).length)

/-- The signature over bytes 0x00 to 0x37 verifies under a public key. -/
def signatureOk (img key : Bytes) : Bool :=
  P256.verify key (Sha.digest (img.take 0x38)) (imageHeader img).sigR (imageHeader img).sigS

/-- An image of a kind verifies (R488); `least` is the lowest executive VERSION accepted. -/
def Core.verifies (c : Core) (kind least : Nat) (img : Bytes) : Bool :=
  let h := imageHeader img
  imageHeaderOk img && h.kind == kind && c.rd (Od.KEY_STATE + h.keySlot) == 1 && h.variants.testBit (c.variant - 1) && hashOk img &&
    signatureOk img (padTo 64 (c.dom (Od.KEY_PUB + h.keySlot))) && (kind != 1 || decide (least ≤ h.version))

/-- The two images of a bank; none of a bank whose image set is not complete. -/
def Bank.execImage (b : Bank) : Bytes := match b.content with | some im => b.bytes.drop im.execAt | none => []
def Bank.progImage (b : Bank) : Bytes := match b.content with | some im => b.bytes.drop im.progAt | none => []

/-- IMAGE_ID of a bank's program image, 0 where the bank holds none. -/
def Bank.imageId (b : Bank) : Nat := (imageHeader b.progImage).id

/-- The bank that the station runs. -/
def Core.activeBank (c : Core) : Bank := c.prog.banks.getD (c.rd Od.PROG_ACTIVE_BANK) ⟨[], none, []⟩

/-- The executive images of two banks are identical (Table 05.7). -/
def Bank.sameExec (a b : Bank) : Bool :=
  let whole (x : Bytes) : Bytes := x.take (128 + (imageHeader x).length)
  whole a.execImage == whole b.execImage

end Sys2Proof.Machine
end

