-- ==== Sys2Proof/Machine/Program.lean ====
section
/-! DEFINITION. Tasks, the staging map, program images and their exchange, retained variables (chapter 05). -/

namespace Sys2Proof.Machine

/-! ## TASK.STATUS (Table 05.10) -/

def tsDefined : Nat := 0
def tsOpen : Nat := 1
def tsLate : Nat := 2
def tsOverrun : Nat := 3
def tsHeld : Nat := 4
def tsStopped : Nat := 5
def tsPending : Nat := 6

def Core.taskBit (c : Core) (t i : Nat) : Bool := c.bit (Od.TASK_STATUS t) i
def Core.setTaskBit (c : Core) (t i : Nat) (b : Bool) : Core := c.setBit (Od.TASK_STATUS t) i b

/-! ## Release (R179 to R184) -/

/-- A release is made: the instance opens at the boundary; its entries are loaded afterwards. -/
def Core.releaseTask (c : Core) (t : Nat) : Core :=
  let c := c.updProg fun p => { p with instances := p.instances ++ [⟨t, c.clk.tickCyc, false⟩] }
  (((c.setTaskBit t tsOpen true).setTaskBit t tsOverrun false).setTaskBit t tsLate false).inc64 (Od.TASK_RELEASES t)

/-- A release is not made and counts as dropped (R182). -/
def Core.dropRelease (c : Core) (t : Nat) : Core := (c.inc32 (Od.TASK_DROPPED t)).inc32 Od.TASK_DROPPED_TOTAL

/-- TASK_OVERRUN: the release is skipped (R183). -/
def Core.skipRelease (c : Core) (t : Nat) : Core :=
  let c := ((c.inc32 (Od.TASK_SKIPS t)).inc32 Od.TASK_SKIPS_TOTAL).incSat 255 (Od.TASK_CONSEC t)
  (c.setTaskBit t tsOverrun true).log1 0x0501 t

/-- TASK_STOP at the skip limit (R184). -/
def Core.limitStop (c : Core) (t : Nat) : Core :=
  let lim := c.rd (Od.TASK_SKIP_LIMIT t)
  if lim ≠ 0 ∧ lim ≤ c.rd (Od.TASK_CONSEC t) then (c.stopTask t).fault 0x0502 (unitTask t) t (c.fresh 32) |>.used 1 else c

/-- A job of the task is open: popped and not yet closed (R99). -/
def Core.jobOpen (c : Core) (t : Nat) : Bool :=
  c.arr.sp.any fun s => s.job.any fun j => j.inst == some t || (j.inst.isNone && j.level == 1 && j.task == t)

/-- A task leaves debug-held at its next release after its open jobs have closed, once no halted spindle holds it (R130). -/
def Core.leaveHeld (c : Core) (t : Nat) : Core :=
  if c.debugHeld t && !(c.arr.holds.any (·.1 == t)) && !c.jobOpen t then
    (c.setBit Od.SPIN_HELD_TASKS t false).setTaskBit t tsHeld false
  else c

/-- A task's release at a boundary, with what R179 says of SAFE, stops, debugging and an open instance. Answers whether it
is released. -/
def Core.tryRelease (c : Core) (t : Nat) : Core × Bool :=
  let c := c.leaveHeld t
  if c.run == .safe || c.taskBit t tsStopped || c.debugHeld t then (c.dropRelease t, false)
  else if c.taskOpen t then ((c.skipRelease t).limitStop t, false)
  else ((c.wr (Od.TASK_CONSEC t) 0).releaseTask t, true)

/-- TASK_COUNTDOWN of one periodic task. -/
def Core.countdown (c : Core) (t : Nat) : Core × Bool :=
  let n := c.rd (Od.TASK_NEXT t)
  if n ≠ 0 then (c.wr (Od.TASK_NEXT t) (n - 1), false)
  else (c.wr (Od.TASK_NEXT t) (c.rd (Od.TASK_PERIOD t) - 1)).tryRelease t

/-- An event waits for this boundary: its claim completed before the boundary's core cycle (R180), or a release is held. -/
def Core.eventDue (c : Core) (t : Nat) : Bool :=
  c.taskBit t tsPending || c.prog.events.any fun e => e.1 == t && decide (e.2 < c.clk.tickCyc)

/-- EVENT_TASK_RELEASE of one event-triggered task (R180 to R182). -/
def Core.eventRelease (c : Core) (t : Nat) : Core × Bool :=
  if !c.eventDue t then (c, false)
  else
    let c := c.updProg fun p => { p with events := p.events.filter fun e => !(e.1 == t && decide (e.2 < c.clk.tickCyc)) }
    let c := c.leaveHeld t
    if c.run = .safe then (c.setTaskBit t tsPending true, false)
    else if c.taskBit t tsStopped || c.debugHeld t then ((c.setTaskBit t tsPending false).dropRelease t, false)
    else if c.taskOpen t then (c.setTaskBit t tsPending true, false)
    else ((c.setTaskBit t tsPending false).releaseTask t, true)

/-- One task at a boundary in RUN, HOLD or SAFE. -/
def Core.taskStep (c : Core) (t : Nat) : Core × Bool :=
  match c.rd (Od.TASK_KIND t) with
  | 1 => c.countdown t
  | 2 => c.eventRelease t
  | _ => (c, false)

/-- The numbers of the level-1 tasks of the running image, ascending. -/
def Core.taskNumbers (c : Core) : List Nat :=
  match c.prog.image with
  | some im => (List.range 64).filter fun t => im.tasks.any (·.num == t)
  | none => []

/-- What became of a task's release between two states of a boundary, if one was due (Table 09.3, TYPE 0x06). -/
def Core.releaseOutcome (c after : Core) (t : Nat) (released : Bool) : List (Nat × ReleaseOutcome) :=
  if released then [(t, .released)]
  else if after.rd (Od.TASK_SKIPS t) != c.rd (Od.TASK_SKIPS t) then [(t, .skipped)]
  else if after.rd (Od.TASK_DROPPED t) != c.rd (Od.TASK_DROPPED t) then [(t, .dropped)]
  else if c.rd (Od.TASK_KIND t) == 2 && after.taskBit t tsPending then [(t, .held)]
  else []

/-- The tasks at a boundary, in ascending task number; answers those released. -/
def Core.tasksStep (c : Core) : Core × List Nat :=
  if c.run == .run || c.run == .hold || c.run == .safe then
    let c : Core := { c with pair := { c.pair with outcomes := [] } }
    c.taskNumbers.foldl (fun p t =>
      let (c, r) := p.1.taskStep t
      let c : Core := { c with pair := { c.pair with outcomes := c.pair.outcomes ++ p.1.releaseOutcome c t r } }
      (c, if r then p.2 ++ [t] else p.2)) (c, [])
  else ({ c with pair := { c.pair with outcomes := [] } }, [])

/-- The releases, skips and drops that the release list of a step record requires of a STANDBY module (R344): 0 release,
1 skip, 2 drop. A release of a task that is debug-held here, or has no host, is not made (R118, R130; log entry 185). Answers
the tasks released and whether a release was required while an instance is open. -/
def Core.listStep (c : Core) (l : List (Nat × Nat)) : Core × List Nat × Bool :=
  let c := c.taskNumbers.foldl (fun c t =>
    if c.rd (Od.TASK_KIND t) = 1 then
      let n := c.rd (Od.TASK_NEXT t)
      c.wr (Od.TASK_NEXT t) (if n ≠ 0 then n - 1 else c.rd (Od.TASK_PERIOD t) - 1)
    else c) c
  l.foldl (fun p e =>
    let (c, rel, dv) := p
    let c := c.leaveHeld e.1
    match e.2 with
    | 0 =>
      if c.debugHeld e.1 || c.hostless e.1 then (c.dropRelease e.1, rel, dv)
      else if c.taskOpen e.1 then (c, rel, true)
        else (((c.wr (Od.TASK_CONSEC e.1) 0).setTaskBit e.1 tsPending false).releaseTask e.1, rel ++ [e.1], dv)
    | 1 => (c.skipRelease e.1, rel, dv)
    | _ => (c.dropRelease e.1, rel, dv)) (c, [], false)

/-- An event claimed by the Ply releases the task that names its source, at the boundary after the claim's completion in
core cycle `cyc`; one that arrives while a release is pending is merged (R181). -/
def Core.eventClaimed (c : Core) (src cyc : Nat) : Core :=
  match c.taskNumbers.find? fun t => c.rd (Od.TASK_KIND t) == 2 && c.rd (Od.TASK_EVENT t) == src with
  | none => c
  | some t =>
    if c.taskBit t tsPending || c.prog.events.any (·.1 == t) then (c.inc32 (Od.TASK_EV_MERGED t)).log1 0x0504 t
    else c.updProg fun p => { p with events := p.events ++ [(t, cyc)] }

/-- On entry to RUN from STOP or INIT: TASK.NEXT is set to TASK.OFFSET, and tasks stopped at their skip limit restart
(R179, R184); those stopped for want of a host stay (R118). -/
def Core.tasksEnterRun (c : Core) (fromStop : Bool) : Core :=
  c.taskNumbers.foldl (fun c t =>
    let c := if c.rd (Od.TASK_KIND t) = 1 then c.wr (Od.TASK_NEXT t) (c.rd (Od.TASK_OFFSET t)) else c
    if fromStop && !c.hostless t then (c.setTaskBit t tsStopped false).wr (Od.TASK_CONSEC t) 0 else c) c

/-- At a group's commit phase an open instance passes the deadline of its jobs with that group (Table 05.10, LATE). -/
def Core.markLate (c : Core) (g : Nat) : Core :=
  c.prog.instances.foldl (fun c i =>
    if c.jobs.any fun j => j.inst == some i.task && c.deadlineCg j == g then c.setTaskBit i.task tsLate true else c) c

/-! ## The staging map (R120) -/

/-- The group a field or safety chapter gives a block, if it names the block. -/
def Core.fieldBlock (c : Core) (b : Nat) : Option Nat :=
  if 0xF0 ≤ b ∧ b ≤ 0xF5 ∧ b - 0xF0 < c.fgCount then some (c.rd (Od.FG_OUT_CG (b - 0xF0)))
  else if 0xF6 ≤ b ∧ b ≤ 0xF8 ∧ 8 * (b - 0xF6) < c.uioCount then some (c.rd (Od.UG_OUT_CG (b - 0xF6)))
  else if b = 0xF9 ∧ c.safetyFuse ≠ 0 then some (c.rd Od.SO_CG)
  else none

/-- The map of the 256 blocks. -/
def Core.blockMap (c : Core) (out : List OutEntry) : Bytes :=
  (List.range 256).map fun b =>
    match c.fieldBlock b with
    | some g => BitVec.ofNat 8 g
    | none =>
      match out.find? (fun e => e.stage / 64 == b) with
      | some e => BitVec.ofNat 8 e.cg
      | none => 0xFF

/-- The entries that give the field and safety blocks their groups: FG.OUT_CG, UG.OUT_CG and SO.CG. -/
def blockGroupKey (k : Nat) : Bool :=
  (elem? (Od.FG_OUT_CG 0) 6 k).isSome || (elem? (Od.UG_OUT_CG 0) 3 k).isSome || k == Od.SO_CG

/-- The executive sets STAGE.BLOCK_MAP for the running configuration and image. -/
def Core.setBlockMap (c : Core) : Core :=
  let out := match c.prog.image with | some im => im.outMap | none => []
  c.setDom Od.STAGE_BLOCK_MAP (c.blockMap out)

/-- What the executive does when a value of the configuration takes effect: the staging map follows the groups (R120), and the
source of an event-triggered task is routed to the Ply (R180). -/
def Core.valueTaken (c : Core) (k v : Nat) : Core :=
  if blockGroupKey k then c.setBlockMap
  else if (record? (Od.TASK_EVENT 0) 64 k).isSome then (c.setEvCtrl v (c.evCtrl v % 2)).arbitrate 2
  else c

/-! ## Map entries as the entries PI.IN_MAP and PI.OUT_MAP (Tables 05.4, 05.5) -/

def InEntry.bytes (e : InEntry) : Bytes :=
  leBytes 2 e.index ++ leBytes 1 e.sub ++ leBytes 1 e.type ++ leBytes 1 e.kind ++ leBytes 1 e.flags ++ leBytes 2 e.src ++
    leBytes 2 e.ofs ++ zeros 2 ++ leBytes 4 e.subst

def OutEntry.bytes (e : OutEntry) : Bytes :=
  leBytes 2 e.index ++ leBytes 1 e.sub ++ leBytes 1 e.type ++ leBytes 1 e.kind ++ leBytes 1 e.cg ++ leBytes 2 e.stage ++
    leBytes 2 e.dest ++ leBytes 2 e.ofs ++ zeros 4

/-! ## Taking an image into use (R203, R206) -/

/-- What a task record keeps for a matched task. -/
def taskKept (t : Nat) : List Nat :=
  [Od.TASK_RELEASES t, Od.TASK_SKIPS t, Od.TASK_DROPPED t, Od.TASK_DEADLINE_MISS t, Od.TASK_EXEC_LAST t, Od.TASK_EXEC_MAX t,
    Od.TASK_CONSEC t, Od.TASK_EV_MERGED t]

/-- What a level-0 record keeps for a matched task. -/
def l0Kept (i : Nat) : List Nat := [Od.L0_CYCLES i, Od.L0_CYCLE_LAST_US i, Od.L0_CYCLE_MAX_US i, Od.L0_WATCH_EXCEEDED i]

/-- The records of the new image's level-0 tasks; counters follow a task matched by name hash (R203). -/
def Core.installLevel0 (c : Core) (im : ImageSet) (old : List L0Def) : Core :=
  let was := c
  (List.range 8).foldl (fun (c : Core) i =>
    match im.level0.find? (·.num == 64 + i) with
    | some d =>
      let kept := match old.find? (·.hash == d.hash) with
        | some o => (l0Kept (o.num - 64)).map was.rd
        | none => [0, 0, 0, 0]
      let c := ((l0Kept i).zip kept).foldl (fun (c : Core) p => c.wr p.1 p.2) c
      (c.wr (Od.L0_NAME_HASH i) d.hash).wr (Od.L0_STATUS i) (if c.rd (Od.L0_STATUS i) = 0 then 2 else c.rd (Od.L0_STATUS i))
    | none =>
      if c.rd (Od.L0_STATUS i) = 0 then c
      else (l0Kept i).foldl (fun (c : Core) k => c.wr k 0) ((c.wr (Od.L0_NAME_HASH i) 0).wr (Od.L0_STATUS i) 0)) c

/-- The task records of the new image; `old`: the running image's tasks, matched by name hash. A task stopped for want of a
host stays stopped, and one with a pinned job that has no host is stopped (R118). -/
def Core.installTasks (c : Core) (im : ImageSet) (old : List TaskDef) : Core :=
  let was := c
  let c := (List.range 64).foldl (fun c t =>
    match im.tasks.find? (·.num == t) with
    | none => if c.rd (Od.TASK_KIND t) = 0 then c
        else (taskKept t).foldl (fun c k => c.wr k 0)
          (((c.wr (Od.TASK_KIND t) 0).wr (Od.TASK_STATUS t) 0).wr (Od.TASK_NAME_HASH t) 0)
    | some d =>
      let c := ((c.wr (Od.TASK_NAME_HASH t) d.hash).wr (Od.TASK_KIND t) d.kind).wr (Od.TASK_PERIOD t) d.period
      let c := ((c.wr (Od.TASK_OFFSET t) d.offset).wr (Od.TASK_PRIO t) d.prio).wr (Od.TASK_EVENT t) d.event
      let c := c.wr (Od.TASK_SKIP_LIMIT t) d.skipLimit
      let c := if d.kind = 2 then c.setEvCtrl d.event (c.evCtrl d.event % 2) else c
      let stopped := b2n (c.arr.hostless.contains d.hash) * 2 ^ tsStopped
      match old.find? (·.hash == d.hash) with
      | none =>
        ((taskKept t).foldl (fun c k => c.wr k 0) (c.wr (Od.TASK_STATUS t) (1 + stopped))).wr (Od.TASK_NEXT t) d.offset
      | some o =>
        let c := ((taskKept t).zip (taskKept o.num)).foldl (fun c p => c.wr p.1 (was.rd p.2)) c
        let same := was.rd (Od.TASK_PERIOD o.num) == d.period
        let c := c.wr (Od.TASK_NEXT t) (if same then was.rd (Od.TASK_NEXT o.num) else d.offset)
        c.wr (Od.TASK_STATUS t) (1 + b2n (same && was.eventDue o.num) * 2 ^ tsPending +
          b2n (was.taskBit o.num tsHeld) * 2 ^ tsHeld + stopped)) c
  let moved (e : Nat × Nat) : Option (Nat × Nat) := do
    let o ← old.find? fun o => o.num == e.1 && !was.eventDue e.1
    let d ← im.tasks.find? fun d => d.hash == o.hash && was.rd (Od.TASK_PERIOD o.num) == d.period
    pure (d.num, e.2)
  let c := c.updProg fun p => { p with events := p.events.filterMap moved }
  let c := c.arr.unhosted.foldl Core.stopPinned c
  (c.wr Od.TASK_L1_DEFINED im.tasks.length).wr Od.TASK_L0_DEFINED im.level0.length

/-- The remote stations of the new image: one whose number and identity are unchanged keeps its state. -/
def Core.installStations (c : Core) (im : ImageSet) : Core :=
  let keep (d : StationDef) : Bool := c.rd (Od.RS_STATE d.num) != 0 && c.rd (Od.RS_IDENT d.num) == d.ident
  let remotes := im.stations.map fun d =>
    if keep d then (c.prog.remotes.find? (·.num == d.num)).getD ⟨d.num, [], 0, false, 0, none, none⟩
    else ⟨d.num, [], c.rd Od.TICK_COUNT, false, 0, none, none⟩
  let gone := (List.range 64).filter fun s => c.rd (Od.RS_STATE s) != 0 && !im.stations.any (·.num == s)
  let zero (c : Core) (s : Nat) : Core :=
    [Od.RS_FLAGS s, Od.RS_LAST_TICK s, Od.RS_AGE s, Od.RS_MISSED s, Od.RS_SUPERSEDED s, Od.RS_OUT_DISCARDED s,
      Od.RS_DROPOUTS s].foldl (fun c k => c.wr k 0)
      ((c.setBit Od.RIO_ONLINE s false).setBit Od.RIO_STALE s false)
  let c := gone.foldl (fun c s => (zero c s).wr (Od.RS_STATE s) 0) c
  let c := im.stations.foldl (fun c d =>
    let s := d.num
    let c := if keep d then c else (zero c s).wr (Od.RS_STATE s) 1
    let c := ((c.wr (Od.RS_CYCLE s) d.cycle).wr (Od.RS_IDENT s) d.ident).wr (Od.RS_NETWORK s) d.network
    c.wr (Od.RS_OUT_CG s) d.outCg) c
  (c.updProg fun p => { p with remotes := remotes }).wr Od.RIO_STATIONS im.stations.length

/-- The value of a matched variable: the running one; a timer instance keeps its start, state and output and takes the new
preset (R203, R207). -/
def VarDef.matched (v : VarDef) (running : Bytes) : Bytes :=
  match v.preset with
  | some (ofs, len) => splice running ofs (slice v.init ofs len)
  | none => running

/-- The variables of the new image: matched by name hash and type, they take the running value (R203). An unmatched timer
takes the image's initial bytes, which are its idle state (R207). -/
def Core.installVars (c : Core) (im : ImageSet) (old : List VarDef) : Core :=
  let find (v : VarDef) : Option VarDef := old.find? (·.hash == v.hash)
  let vals := im.vars.map fun v =>
    match find v with
    | some o => if o.type = v.type then v.matched (c.creel.read o.addr v.init.length) else v.init
    | none => v.init
  let c := c.putCreel im.base im.area
  let c := (im.vars.zip vals).foldl (fun c p => c.putCreel p.1.addr p.2) c
  let matched := (im.vars.filter fun v => (find v).any (·.type == v.type)).length
  let changed := (im.vars.filter fun v => (find v).any (·.type != v.type)).length
  let dropped := (old.filter fun o => !im.vars.any (·.hash == o.hash)).length
  let c := (c.wr Od.PROG_VAR_MATCHED matched).wr Od.PROG_VAR_NEW (im.vars.length - matched - changed)
  (c.wr Od.PROG_VAR_TYPE_CHANGED changed).wr Od.PROG_VAR_DROPPED dropped

/-- The loop tables of an image (R169): tables and attributes, and an image that leaves one empty gives its Default. -/
def Core.installTables (c : Core) (im : ImageSet) : Core :=
  let c := ({ c with creel := c.creel.filter fun x => !(decide (0x10080000 ≤ x.1) && decide (x.1 < 0x10180000)) }).unpoison
    0x10080000 0x100000
  let c := im.tables.foldl (fun c p => c.putCreel (compAddr p.1) (padTo 4096 p.2)) c
  { c.cfgChanged with loops := { c.loops with
    attrs := im.attrs.map fun a => ⟨a.1, a.2.1, a.2.2.1, a.2.2.2⟩, staged := [], kept := [], clears := [] } }

/-- The words of the process image outputs that loop descriptors name (LOOP.VIEW_WORDS). -/
def Core.viewWords (c : Core) : Nat :=
  ((c.validSlots.flatMap fun k => [0x10, 0x14, 0x18, 0x20].filterMap fun o =>
    let h := c.slotWord k o
    if hKind h = 2 then some (hKey h 0x7000) else none).eraseDups).length

/-- A buffer under a new map: only what an entry of it writes keeps its content (R383, R402, Table 11.14). -/
def keepMapped (es : List OutEntry) (kind dest : Nat) (p : Bytes) : Bytes :=
  (es.filter fun e => e.kind == kind && e.dest == dest).foldl
    (fun q e => putPayload q e.ofs e.type (payloadValue p e.ofs e.type)) (zeros p.length)

/-- The buffers of the output map's destinations under the map of a new image: bytes that no entry of it writes become 0
(R383, R402, Table 11.14). -/
def Core.clearUnmapped (c : Core) (im : ImageSet) : Core :=
  let c : Core := { c with
    net := { c.net with bufs := c.net.bufs.mapIdx fun f p => keepMapped im.outMap 3 f p }
    can := c.can.mapIdx fun k x => { x with bufs := x.bufs.mapIdx fun b y =>
      if b < 3 then { y with shadow := keepMapped im.outMap 4 (3 * k + b) y.shadow } else y } }
  im.stations.foldl (fun (c : Core) d =>
    let img := padTo 0x84 (c.dom (Od.RS_OUT_IMAGE d.num))
    c.setDom (Od.RS_OUT_IMAGE d.num) (img.take 0x18 ++ keepMapped im.outMap 2 d.num (img.drop 0x18))) c

/-- An image becomes the running one. -/
def Core.useImage (c : Core) (im : ImageSet) : Core :=
  let old := c.prog.image
  let c := c.installVars im (match old with | some o => o.vars | none => [])
  let c := (c.installTables im).tagMatch (im.slots.map fun p => (p.1, padTo 128 p.2))
  let c := c.updProg fun p => { p with image := some im }
  let c := c.installTasks im (match old with | some o => o.tasks | none => [])
  let c := c.installLevel0 im (match old with | some o => o.level0 | none => [])
  let c := (c.installStations im).setBlockMap
  let c := im.entries.foldl (fun c e =>
    if 0x2C1000 ≤ e.1 ∧ e.1 < 0x2C1400 then c.evCfgStage ((e.1 / 256 - 0x2C10) * 128 + e.1 % 256 - 1) e.2 else c.wr e.1 e.2) c
  let c := (c.setDom Od.PI_IN_MAP (im.inMap.flatMap InEntry.bytes)).setDom Od.PI_OUT_MAP (im.outMap.flatMap OutEntry.bytes)
  let c := (c.wr Od.PI_IN_ENTRIES im.inMap.length).wr Od.PI_OUT_ENTRIES im.outMap.length
  let c := (c.wr Od.RA_RO_BASE im.roBase).wr Od.RA_RO_LIMIT im.roLimit
  let c := c.wr Od.CREEL_PROG_USED im.area.length
  let retained := im.vars.foldl (fun n v => if v.retained then n + v.init.length else n) 0
  ((c.clearUnmapped im).wr Od.PROG_RETAIN_BYTES retained).wr Od.PROG_ACTIVE_ID
    c.activeBank.imageId

/-! ## The online exchange (Table 05.7, R202 to R206) -/

def Core.inactiveBank (c : Core) : Nat := 1 - c.rd Od.PROG_ACTIVE_BANK

def Core.bank (c : Core) (b : Nat) : Bank := c.prog.banks.getD b ⟨[], none, []⟩
def Core.setBank (c : Core) (b : Nat) (x : Bank) : Core := c.updProg fun p => { p with banks := setAt p.banks b x }

/-- A refusal of an image: the lowest reject code, PROG.STATE ABORTED and the records (R500, Table 05.7). -/
def Core.abortExchange (c : Core) (code : Nat) : Core :=
  let c := ((c.wr Od.PROG_STATE 7).wr Od.PROG_RESULT code).inc32 Od.STATE_REJECTS
  (c.logA 0x0F02 code (c.fresh 32)).used 1 |>.log1 0x050A code

/-- A segment of PROG.IMAGE in the inactive bank; `last` ends it. The states in which an exchange is under way past LOADED
refuse it. -/
def Core.writeImage (c : Core) (ofs : Nat) (data : Bytes) (last : Bool) : Core :=
  let b := c.inactiveBank
  let old := if ofs = 0 then [] else (c.bank b).bytes
  let bytes := splice old ofs data
  let content := if last then some (Config.imageOf bytes) else none
  let x : Bank := ⟨bytes, content, (c.bank b).retained⟩
  ((c.setBank b x).wr Od.PROG_STATE (if last then 2 else 1)).wr Od.PROG_INACTIVE_ID x.imageId

/-- PROG.IMAGE may be written: no exchange is past LOADED. -/
def Core.imageWritable (c : Core) : Bool := !(3 ≤ c.rd Od.PROG_STATE && c.rd Od.PROG_STATE ≤ 5)

/-- PROG_CMD_VERIFY with the reject codes the checks of VERIFIED find. -/
def Core.progVerify (c : Core) (codes : List Nat) : Core :=
  if c.rd Od.PROG_STATE ≠ 2 then c.abort 0x08000022
  else
    match codes with
    | [] => ((c.wr Od.PROG_STATE 3).wr Od.PROG_RESULT 0).answer .done
    | x :: xs => (c.abortExchange (xs.foldl min x)).answer .done

/-- Exchange is accepted: RUN or STOP, a controller variant or DX7-G00N (R202). -/
def Core.exchangeOk (c : Core) : Bool :=
  (c.run == .run || c.run == .stop) && (c.roleFuse == 0 || c.roleFuse == 2)

/-- The bytes of the variable transfer: those of the matched variables. -/
def Core.transferBytes (c : Core) (im : ImageSet) : Nat :=
  match c.prog.image with
  | none => 0
  | some o => im.vars.foldl (fun n v =>
      if o.vars.any fun x => x.hash == v.hash && x.type == v.type then n + v.init.length else n) 0

/-- The cycles between the latest commit phase and the next boundary. -/
def Core.slackCycles (c : Core) : Nat :=
  let last := (List.range 8).foldl (fun m g => max m (c.rd (Od.COMMIT_PHASE g))) 0
  c.period - phaseCycles c.period last

/-- The duration of the transfer (R205). -/
def transferCycles (bytes : Nat) : Nat := (bytes + 31) / 32 + 2000

/-- PROG_CMD_PREPARE; `codes`: what admission under R163 and R164 refuses. -/
def Core.progPrepare (c : Core) (codes : List Nat) : Core :=
  if c.rd Od.PROG_STATE ≠ 3 ∨ c.exchangeOk = false then c.abort 0x08000022
  else
    match (c.bank c.inactiveBank).content with
    | none => (c.abortExchange 0x0E01).answer .done
    | some im =>
      let x := c.transferBytes im
      let used := match c.prog.image with | some o => o.area.length | none => 0
      let all := codes ++ (if 0x5C0000 < used + im.area.length then [0x0507] else []) ++
        (if c.slackCycles < transferCycles x then [0x0508] else [])
      match all with
      | [] => (((c.wr Od.PROG_STATE 4).wr Od.PROG_XFER_BYTES x).wr Od.PROG_POSTPONED 0).answer .done
      | y :: ys => (c.abortExchange (ys.foldl min y)).answer .done

/-- PROG_CMD_ARM: the changeover tick is fixed (R204). -/
def Core.progArm (c : Core) : Core :=
  if c.rd Od.PROG_STATE ≠ 4 ∨ c.exchangeOk = false then c.abort 0x08000022
  else
    let n := c.stepNumber
    let v := c.rd Od.PROG_CHANGEOVER
    if v ≠ 0 ∧ v < n + 16 then c.abort 0x06090030
    else
      let c := c.updProg fun p => { p with changeAt := if v = 0 then n + 64 else v, transferred := false }
      ((c.carry (.armed c.prog.changeAt)).wr Od.PROG_STATE 5).answer .done

/-- PROG_CMD_CANCEL, from any state up to ARMED. -/
def Core.progCancel (c : Core) : Core :=
  if 5 < c.rd Od.PROG_STATE then c.abort 0x08000022
  else ((c.updProg fun p => { p with transferred := false }).wr Od.PROG_STATE 0).answer .done

/-- PROG_CMD_ERASE of the inactive bank, in IDLE or ABORTED. -/
def Core.progErase (c : Core) : Core :=
  if c.rd Od.PROG_STATE = 0 ∨ c.rd Od.PROG_STATE = 7 then
    ((c.setBank c.inactiveBank ⟨[], none, []⟩).wr Od.PROG_INACTIVE_ID 0).answer .done
  else c.abort 0x08000022

/-- The changeover is postponed by one tick, or aborted at the limit (R205). -/
def Core.postpone (c : Core) : Core :=
  let n := c.rd Od.PROG_POSTPONED + 1
  let c := (c.wr Od.PROG_POSTPONED n).log 0x050B
  let c := c.updProg fun p => { p with transferred := false, changeAt := max (p.changeAt + 1) (c.stepNumber + 1) }
  let c := c.carry (.postponed c.prog.changeAt)
  if c.rd Od.PROG_POSTPONE_MAX ≤ n then c.abortExchange 0x0509 else c

/-- A level-1 instance of the running image is open. -/
def Core.anyOpen (c : Core) : Bool := !c.prog.instances.isEmpty

/-- VARIABLE_TRANSFER, in the slack of tick c − 1 after its last commit. -/
def Core.variableTransfer (c : Core) : Core :=
  if c.rd Od.PROG_STATE = 5 ∧ c.stepNumber + 1 = c.prog.changeAt ∧ c.slack = true then
    if c.anyOpen then c.postpone
    else
      let t := c.clk.cyc + transferCycles (c.rd Od.PROG_XFER_BYTES)
      c.updProg fun p => { p with transferred := true, transferEnd := t }
  else c

/-- The current boundary is that of the changeover, and its transfer is complete. -/
def Core.changeoverDue (c : Core) : Bool :=
  c.rd Od.PROG_STATE == 5 && c.prog.transferred && decide (c.prog.changeAt ≤ c.stepNumber) && c.run != .safe

/-- At the changeover boundary without a complete transfer the changeover is postponed; one that passes in SAFE waits for
the first boundary after resumption. -/
def Core.changeoverCheck (c : Core) : Core :=
  if c.rd Od.PROG_STATE = 5 ∧ c.prog.changeAt ≤ c.stepNumber then
    if c.run = .safe then
      c.updProg fun p => { p with transferred := false, changeAt := c.stepNumber + 1 }
    else if c.prog.transferred && decide (c.prog.transferEnd ≤ c.clk.cyc) then c
    else c.postpone
  else c

/-- The switch to the new program at the changeover boundary, between the latch and the release (R206). Answers whether it
is made. -/
def Core.changeover (c : Core) : Core × Bool :=
  if !c.changeoverDue || c.arr.released then (c, false)
  else
    match (c.bank c.inactiveBank).content with
    | none => (c, false)
    | some im =>
      let c := (c.aheadCheck [] true).1.updArr fun a => { a with sp := a.sp.map fun s => { s with icache := [] } }
      let running := c.arr.sp.any fun s => s.arm.isSome
      let c := (c.wr Od.PROG_ACTIVE_BANK c.inactiveBank).useImage im
      let c := c.updArr fun a => { a with sp := a.sp.map fun s => { s with arm := none, newArm := false } }
      let c := if running then c.armImage im else c
      let c := ((c.wr Od.PROG_STATE 6).inc32 Od.PROG_EXCH_COUNT).wr Od.PROG_LAST_CHANGEOVER (c.stepNumber)
      let c := c.wr Od.PROG_INACTIVE_ID (c.bank c.inactiveBank).imageId
      let c := ((c.updProg fun p => { p with transferred := false }).carry .changeover).evCfgApply
      ((c.log 0x0509).vaultWrite fun v => { v with bootBank := c.rd Od.PROG_ACTIVE_BANK }, true)

/-- The exchange is complete at the boundary after its changeover: PROG.STATE returns to IDLE (Table 05.7; log entry 58). -/
def Core.exchangeEnd (c : Core) : Core := if c.rd Od.PROG_STATE = 6 then c.wr Od.PROG_STATE 0 else c

/-! ## Retained variables (R209) -/

/-- RETAIN_COPY: in a slack with no open level-1 instance; a failed log write leaves the previous record valid. -/
def Core.retainCopy (c : Core) (fails : Bool) : Core :=
  let due := c.prog.retainWant || decide (c.prog.retainDue ≤ c.clk.cyc)
  if due && c.slack && !c.anyOpen && !c.transferSlack then
    match c.prog.image with
    | none => c
    | some im =>
      let rec' := (im.vars.filter (·.retained)).map fun v => (v.hash, c.creel.read v.addr v.init.length)
      let c := c.updProg fun p => { p with
        retainWant := false
        retainDue := c.clk.cyc + ms (c.rd Od.PROG_RETAIN_PERIOD) }
      let b := c.rd Od.PROG_ACTIVE_BANK
      if fails then c.log 0x050C else c.setBank b { c.bank b with retained := rec' }
  else c

/-- At start-up the newest complete record of the active bank's log is loaded. -/
def Core.loadRetained (c : Core) : Core :=
  match c.prog.image with
  | none => c
  | some im => im.vars.foldl (fun c v =>
      match (if v.retained then (c.bank (c.rd Od.PROG_ACTIVE_BANK)).retained.find? (·.1 == v.hash) else none) with
      | some r => c.putCreel v.addr (padTo v.init.length r.2)
      | none => c) c

end Sys2Proof.Machine
end

