-- ==== Sys2Proof/Machine/Image.lean ====
section
/-! DEFINITION. The process image (chapter 05, R188 to R194): values with their quality words, and the values that the maps
take from and put into the payloads of frames, messages and telegrams. -/

namespace Sys2Proof.Machine

/-! ## Quality words (Tables 05.2, 05.3) -/

def qStale : Nat := 13
def qSubstitute : Nat := 12
def qChatter : Nat := 11
def qStuck : Nat := 10
def qSupplyLow : Nat := 9
def qOver : Nat := 8
def qUnder : Nat := 7
def qOpenWire : Nat := 6
def qShort : Nat := 5
def qCompliance : Nat := 4
def qAlarm : Nat := 3
def qDevice : Nat := 2
def qDegraded : Nat := 1

/-- The flags of Table 05.3 that imply BAD, and those that imply UNCERTAIN. -/
def qBadMask : Nat := 0x23E8
def qUncertainMask : Nat := 0x1C16

/-- The class that flags imply (R189): 3 GOOD, 2 UNCERTAIN, 1 BAD; a substituted value is UNCERTAIN, whatever flags it keeps
(R191). -/
def qClass (flags : Nat) : Nat :=
  if flags.testBit qSubstitute then 2
  else if flags &&& qBadMask != 0 then 1 else if flags &&& qUncertainMask != 0 then 2 else 3

/-- The key of an input's quality word: Index + 0x0800 (R188). -/
def qKey (key : Nat) : Nat := key + 0x80000

/-- A value and its flags are delivered. -/
def Core.setInput (c : Core) (key v flags : Nat) : Core :=
  (c.wr key v).wr (qKey key) (qClass flags * 2 ^ 14 + (flags &&& 0x3FFE))

/-- The flags of an input change, its value stays; CLASS stays NONE until the first delivery. -/
def Core.setFlags (c : Core) (key flags : Nat) : Core :=
  let cls := if c.rd (qKey key) / 2 ^ 14 = 0 then 0 else qClass flags
  c.wr (qKey key) (cls * 2 ^ 14 + (flags &&& 0x3FFE))

/-- The flags of an input. -/
def Core.inFlags (c : Core) (key : Nat) : Nat := c.rd (qKey key) &&& 0x3FFE

/-! ## Values in payloads (R192, R383) -/

def InEntry.key (e : InEntry) : Nat := odKey e.index e.sub
def OutEntry.key (e : OutEntry) : Nat := odKey e.index e.sub

/-- The substitute value: left-aligned in its 32 bits (Table 05.4). -/
def InEntry.substValue (e : InEntry) : Nat := e.subst / 2 ^ (32 - typeBits e.type)

/-- A mapped input is delivered with the flags of its source and the controller's own (R191). -/
def Core.deliverMapped (c : Core) (e : InEntry) (v flags : Nat) : Core :=
  let f := putBit flags qSubstitute false
  if e.flags.testBit 0 && qClass f == 1 then c.setInput e.key e.substValue (putBit f qSubstitute true) else c.setInput e.key v f

/-- A mapped input keeps its value and takes a flag (R191, R197). -/
def Core.flagMapped (c : Core) (e : InEntry) (bit : Nat) : Core :=
  let f := putBit (putBit (c.inFlags e.key) bit true) qSubstitute false
  if e.flags.testBit 0 && qClass f == 1 && c.rd (qKey e.key) / 2 ^ 14 != 0
  then c.setInput e.key e.substValue (putBit f qSubstitute true)
  else c.setFlags e.key f

def Core.inEntries (c : Core) : List InEntry := match c.prog.image with | some im => im.inMap | none => []
def Core.outEntries (c : Core) : List OutEntry := match c.prog.image with | some im => im.outMap | none => []

/-- Every mapped input of one source is delivered from its payload; `q` gives the source's own flags for an entry. -/
def Core.deliverSource (c : Core) (kind src : Nat) (p : Bytes) (q : InEntry → Nat) : Core :=
  (c.inEntries.filter fun e => e.kind == kind && e.src == src).foldl
    (fun c e => c.deliverMapped e (payloadValue p e.ofs e.type) (q e)) c

/-- Every mapped input of one source keeps its value and takes a flag. -/
def Core.flagSource (c : Core) (kind src bit : Nat) : Core :=
  (c.inEntries.filter fun e => e.kind == kind && e.src == src).foldl (fun c e => c.flagMapped e bit) c

/-! ## The output area (R192) -/

/-- The value of an output entry in staging: one word, or two for a 64-bit type. -/
def Core.outValue (c : Core) (e : OutEntry) : Nat :=
  if typeBits e.type = 64 then c.stageWord e.stage + c.stageWord (e.stage + 1) * 2 ^ 32
  else c.stageWord e.stage % 2 ^ typeBits e.type

/-- The process image area of the creel takes an output (R192): at Config.imagePlace (log entry 187). -/
def Core.imageOut (c : Core) (key bytes v : Nat) : Core :=
  c.putCreel (0x10180000 + Config.imagePlace key % 0x10000 * 8) (leBytes bytes v)

/-- The entry owns a staging word. -/
def OutEntry.owns (e : OutEntry) (w : Nat) : Bool := e.stage == w || (typeBits e.type == 64 && e.stage + 1 == w)

end Sys2Proof.Machine
end

