-- ==== Sys2Proof/Machine/Gating.lean ====
section
/-! DEFINITION. Output gating and the hardware interlock (R338, R497, R498). -/

namespace Sys2Proof.Machine

/-- The role register of the pair sequencer: ALONE in a module with PAIR.ENABLE FALSE (R497). -/
def Core.pairRole (c : Core) : Role := if c.pairMember then c.role else .alone

/-- The partner-toggling detector of R337. -/
def Core.partnerToggling (c : Core) : Bool := c.bit Od.PAIR_STATUS 2

/-- The hardware interlock (R338). -/
def Core.interlock (c : Core) : Bool := !c.pairEn || (c.toggling && !c.partnerToggling)

/-- Roles whose outputs a row of Table 15.2 lets through: ALONE, ACTIVE, WITNESS. -/
def Core.drivingRole (c : Core) : Bool :=
  match c.role with
  | .alone | .active | .witness => true
  | _ => false

/-- gating(state, role) for field outputs (Table 15.2); in SAFE with STATE.SAFE_FIELD 1 they hold the last register. -/
def Core.fieldGate (c : Core) : Bool :=
  match c.run with
  | .stop => c.drivingRole && c.rd Od.STATE_STOP_FIELD == 1
  | .run => c.drivingRole
  | .hold => c.role == .alone || c.role == .witness
  | .safe => c.rd Od.STATE_SAFE_FIELD == 1
  | _ => false

/-- gating for the safe outputs: off in HOLD and SAFE (Table 15.2). -/
def Core.safeGate (c : Core) : Bool :=
  match c.run with
  | .stop => c.drivingRole && c.rd Od.STATE_STOP_FIELD == 1
  | .run => c.drivingRole
  | _ => false

/-- The alarm contact between ALARM_A and ALARM_B is closed (R536). -/
def Core.alarmClosed (c : Core) : Bool :=
  match c.run with
  | .init | .stop | .run => true
  | _ => false

/-- gating for frames of classes 2, 3 and 5, CAN application buffers and REF (Table 15.2). -/
def Core.netGate (c : Core) : Bool :=
  match c.run with
  | .stop => c.drivingRole && c.rd Od.STATE_STOP_FIELD == 1
  | .run => c.drivingRole
  | .hold => c.role == .alone || c.role == .witness
  | _ => false

/-- Pair messages and remote input images are sent from INIT to HOLD, and not in SAFE (R497). -/
def Core.pairSends (c : Core) : Bool :=
  match c.run with
  | .init | .stop | .run | .hold => true
  | _ => false

/-- Whether a frame of a class may be queued (R384, R497). -/
def Core.classSends (c : Core) (cls : Nat) : Bool :=
  if cls = 4 ∨ cls = 6 then c.pairSends else if cls = 2 ∨ cls = 3 ∨ cls = 5 then c.netGate else true

/-- field_enable of R233, R248 and R276 for DIO stages and active analogue outputs. -/
def Core.fieldEnable (c : Core) : Bool := c.fieldGate && c.interlock && !c.pwr.holdOff

/-- field_enable for the safe outputs. -/
def Core.safeEnable (c : Core) : Bool := c.safeGate && c.interlock && !c.pwr.holdOff

/-- What the output stages depend on beside their own registers; the glue of a command drives the stages anew when it
changes. -/
structure GateKey where
  field : Bool
  safe : Bool
  partner : Bool
  inter : Bool
  off : List Nat
  net : Bool
deriving DecidableEq, Repr

def Core.gateKey (c : Core) : GateKey where
  field := c.fieldEnable
  safe := c.safeEnable
  partner := c.partnerToggling
  inter := c.interlock
  off := c.io.forcedOff
  net := c.netGate

end Sys2Proof.Machine
end

