-- ==== Sys2Proof/Machine/Digital.lean ====
section
/-! DEFINITION. Digital channels, counters, field supplies, test-pulse sources and safe outputs (chapter 06). -/

namespace Sys2Proof.Machine

/-! ## Access to the parts -/

def DioChan.fresh : DioChan := ⟨0x30, none, 0, false, 0, 0, 0, 0⟩
def TpSource.fresh : TpSource := ⟨none, [], 0, false⟩

def Core.updField (c : Core) (f : Field → Field) : Core := { c with io := f c.io }
def Core.chan (c : Core) (i : Nat) : DioChan := c.io.dio.getD i DioChan.fresh
def Core.updChan (c : Core) (i : Nat) (f : DioChan → DioChan) : Core :=
  c.updField fun x => { x with dio := updAt f x.dio i }
def Core.tpSource (c : Core) (k : Nat) : TpSource := c.io.tp.getD k TpSource.fresh
def Core.updTp (c : Core) (k : Nat) (f : TpSource → TpSource) : Core :=
  c.updField fun x => { x with tp := updAt f x.tp k }

/-- MODE in effect (Table 06.1). -/
def Core.dioMode (c : Core) (i : Nat) : Nat := field (c.chan i).cfg 0 4
def Core.dioIsInput (c : Core) (i : Nat) : Bool := 1 ≤ c.dioMode i && c.dioMode i ≤ 4
def Core.dioIsOutput (c : Core) (i : Nat) : Bool := c.dioMode i == 8 || c.dioMode i == 9
def Core.dioBit (c : Core) (i b : Nat) : Bool := c.bit (Od.DIO_STATUS i) b
def Core.setDioBit (c : Core) (i b : Nat) (v : Bool) : Core := c.setBit (Od.DIO_STATUS i) b v
def Core.fgBit (c : Core) (g b : Nat) : Bool := c.bit (Od.FG_STATUS g) b
def Core.setFgBit (c : Core) (g b : Nat) (v : Bool) : Core := c.setBit (Od.FG_STATUS g) b v
def Core.tpBit (c : Core) (k b : Nat) : Bool := c.bit (Od.TP_STATUS k) b
def Core.setTpBit (c : Core) (k b : Nat) (v : Bool) : Core := c.setBit (Od.TP_STATUS k) b v
def Core.soBit (c : Core) (k b : Nat) : Bool := c.bit (Od.SO_STATUS k) b
def Core.setSoBit (c : Core) (k b : Nat) (v : Bool) : Core := c.setBit (Od.SO_STATUS k) b v

/-- Bits of DIO.STATUS (Table 06.10). -/
def dsLevel : Nat := 0
def dsCmd : Nat := 1
def dsChatter : Nat := 5
def dsStuck : Nat := 6
def dsOpenWire : Nat := 8
def dsShort : Nat := 9
def dsLatched : Nat := 10
def dsThermal : Nat := 11
def dsOpenLoad : Nat := 12
def dsExternal : Nat := 13
def dsPartner : Nat := 14
def dsPulseLow : Nat := 15

/-- Sampling, filtering, counting and every detection run whenever the tick generator runs (R253). -/
def Core.sampling (c : Core) : Bool := c.clk.running

/-- The channel is bonded and its detections run. -/
def Core.dioLive (c : Core) (i : Nat) : Bool := c.sampling && decide (i < c.dioCount)

/-- A reaction unit's outputs are in their off state (Table 15.6). -/
def Core.unitOff (c : Core) (u : Nat) : Bool := c.io.forcedOff.contains u

def Core.releaseUnit (c : Core) (u : Nat) : Core :=
  c.updField fun x => { x with forcedOff := x.forcedOff.filter (· != u) }

/-! ## Output stages (R233) -/

/-- The group's protective states that hold its stages off. -/
def Core.fgOff (c : Core) (g : Nat) : Bool :=
  c.fgBit g 1 || c.fgBit g 4 || c.fgBit g 5 || c.fgBit g 6 || c.io.reversed.contains g || c.unitOff (unitFg g)

/-- The output stage of a channel is on. -/
def Core.dioOn (c : Core) (i : Nat) : Bool :=
  decide (i < c.dioCount) && c.dioIsOutput i && c.dioBit i dsCmd && c.fieldEnable && !c.fgOff (i / 8) &&
    !c.dioBit i dsLatched && !c.dioBit i dsThermal && !c.unitOff (unitDio i)

/-- STAGE_ON of a channel as last driven. -/
def Core.stageOn (c : Core) (i : Nat) : Bool := c.bit Od.DIO_STAGE_MASK i

/-- The junction's temperature cycles that have ended since the stage was last switched, a free number, are counted (R235; log
entry 191). -/
def Core.dioCycles (c : Core) (i : Nat) : Core := (c.addW 32 (Od.DIO_THERM_CYCLES i) (c.fresh 8)).used 1

/-- One channel's stage follows its conditions: turn-ons are counted, a turn-off adds the measured clamp energy to
DIO.DEMAG_MJ (R235, a free value), and a stage that is on ends the flags of R237. In OUT_PAR a flag of R237 names the
partner while the partner's ACTIVE toggles (R257). -/
def Core.driveDio (c : Core) (i : Nat) : Core :=
  let on := c.dioOn i
  if on && !c.stageOn i then
    ((((c.setBit Od.DIO_STAGE_MASK i true).inc64 (Od.DIO_OUT_SWITCHES i)).setDioBit i dsExternal false).setDioBit i
      dsPartner false).dioCycles i
  else
    let c := if !on && c.stageOn i then
        (((c.setBit Od.DIO_STAGE_MASK i false).addW 64 (Od.DIO_DEMAG_MJ i) (c.fresh 16)).used 1).dioCycles i
      else c
    if c.dioMode i == 9 && c.dioBit i dsExternal && c.partnerToggling then
      (c.setDioBit i dsExternal false).setDioBit i dsPartner true
    else if c.dioMode i == 9 && c.dioBit i dsPartner && !c.partnerToggling then
      ((c.setDioBit i dsPartner false).setDioBit i dsExternal true).log 0x0603
    else c

def Core.driveDios (c : Core) : Core := (List.range 48).foldl Core.driveDio c

/-! ## Safe outputs (R248 to R251) -/

/-- The field group that feeds SOk. -/
def soGroup (k : Nat) : Nat := k / 4

/-- The LP that feeds a group is below the cut threshold: CUT is set and LP has not come back above that threshold (R248,
R257; log entry 192). -/
def Core.lpCut (c : Core) (g : Nat) : Bool := c.fgBit g 1 && !c.io.lpUp.contains g

/-- Both switches of SOk are commanded on. -/
def Core.soOn (c : Core) (k : Nat) : Bool :=
  c.safetyFuse != 0 && c.bit Od.SOV_STATUS (16 + k) && c.safeEnable && !c.soBit k 3 && !c.lpCut (soGroup k) &&
    !c.unitOff (unitSo k)

/-- P_ON and M_ON follow (bits 1 and 2); turn-ons are counted. -/
def Core.driveSo (c : Core) (k : Nat) : Core :=
  let on := c.soOn k
  if on == c.soBit k 1 then c
  else
    let c := (c.setSoBit k 1 on).setSoBit k 2 on
    if on then c.inc64 (Od.SO_SWITCHES k) else c

def Core.driveSos (c : Core) : Core := (List.range 8).foldl Core.driveSo c

/-- SOk is latched off with a flag of R250. -/
def Core.latchSo (c : Core) (k flag : Nat) : Core :=
  let c := c.setSoBit k flag true
  if c.soBit k 3 then c
  else (((c.setSoBit k 3 true).inc32 (Od.SO_FAULTS k)).driveSo k).fault' 0x060D (unitSo k)

/-- The flags of SO.STATUS in the order of the bits of SO_ACK's operand: P_STUCK, M_STUCK, EXT_VOLTAGE, OVERLOAD. -/
def soFlags : List Nat := [4, 5, 6, 7]

/-- An accepted SO.ACK takes effect on SOk: flags whose condition has ended clear, and FAULT_LATCHED with the last
(R251). Answers whether the latch was cleared. -/
def Core.ackSo (c : Core) (persist k : Nat) : Core × Bool :=
  let c := soFlags.foldl (fun c f => if persist.testBit (8 * k + f - 4) then c else c.setSoBit k f false) c
  let c := if c.lpCut (soGroup k) then c else c.setSoBit k 8 false
  let clear := soFlags.all (fun f => !c.soBit k f) && !c.soBit k 8
  let c := if clear then c.releaseUnit (unitSo k) else c
  if clear && c.soBit k 3 then (c.setSoBit k 3 false, true) else (c, false)

/-! ### Test-pulse sources (R245 to R247) -/

/-- The run states in which the generators run as configured (R253). -/
def Core.tpStates (c : Core) : Bool :=
  match c.run with
  | .init | .stop | .run | .hold | .safe => true
  | _ => false

/-- The source is on, apart from its pulses: no overload or thermal shutdown, no cut, no off state of Table 15.6. -/
def Core.tpActive (c : Core) (k : Nat) : Bool :=
  c.safetyFuse != 0 && c.tpStates && c.rd (Od.TP_MODE k) != 0 && !c.tpBit k 4 && !c.tpBit k 5 && !c.unitOff (unitTp k)

/-- The source is pulsing. -/
def Core.tpPulsing (c : Core) (k : Nat) : Bool := c.tpActive k && c.rd (Od.TP_MODE k) == 2

/-- The low time of a pulse, and the time into it at which PULSE_LOW is sampled (R222, R245). -/
def tpLow : Nat := us 300
def tpSample : Nat := us 280

/-- The source is in the low time of a pulse. -/
def Core.tpIsLow (c : Core) (k : Nat) : Bool :=
  match (c.tpSource k).pulse with | some t => decide (c.clk.cyc < t + tpLow) | none => false

/-- A new level of channel i that began at core cycle `u` falls into the masking window of a pulse of the channel's source:
from the start of the pulse until 100 µs after its end (R222). -/
def Core.pulseMasked (c : Core) (i u : Nat) : Bool :=
  let cfg := (c.chan i).cfg
  let s := c.tpSource (field cfg 8 3)
  cfg.testBit 11 && c.tpPulsing (field cfg 8 3) &&
    (s.pulse.toList ++ s.before).any fun t => decide (t ≤ u) && decide (u < t + tpLow + us 100)

/-! ## Inputs (R221 to R226) -/

/-- The value the latch takes: the frozen level in chatter, else the accepted level (R224). -/
def Core.dioValue (c : Core) (i : Nat) : Bool :=
  if c.dioBit i dsChatter then (c.chan i).frozen else c.dioBit i dsLevel

/-- The chatter window in core cycles. -/
def Core.chatterWin (c : Core) (i : Nat) : Nat := ms (c.rd (Od.DIO_CHATTER_WIN i))

/-- The edge count of R224, for an accepted edge at the present core cycle. -/
def Core.countChatter (c : Core) (i : Nat) (before : Bool) : Core :=
  let lim := c.rd (Od.DIO_CHATTER_N i)
  if lim = 0 then c
  else
    let t := c.clk.cyc
    let c := if c.dioBit i dsChatter then c
      else
        let x := c.chan i
        let new := match x.winStart with | none => true | some w => decide (w + c.chatterWin i ≤ t)
        let n := if new then 1 else x.edges + 1
        let c := c.updChan i fun x => if new then { x with winStart := some t, edges := 1, frozen := before }
          else { x with edges := n }
        if lim < n then (c.setDioBit i dsChatter true).log 0x0604 else c
    c.updChan i fun x => { x with lastEdge := t }

/-- The filter time of a FILTER code (R221), and the least pulse of a COUNT.FILTER code (R228), in core cycles. -/
def filterTime (code : Nat) : Nat := [0, us 50, us 500, ms 3, ms 10, ms 20].getD code 0
def countFilterTime (code : Nat) : Nat := [100, us 1, us 5, us 25].getD code 0

/-- An accepted level of a channel (R221). -/
def Core.dioAccept (c : Core) (i : Nat) (lvl : Bool) : Core :=
  if !c.dioLive i || c.dioMode i = 0 || c.dioBit i dsLevel = lvl then c
  else
    let before := c.dioBit i dsLevel
    let c := (c.setDioBit i dsLevel lvl).inc32 (Od.DIO_EDGES i)
    let c := if c.dioIsInput i then c.countChatter i before else c
    let c := if lvl then c.updChan i fun x => { x with since := c.clk.cyc } else c.setDioBit i dsStuck false
    c.evLevel (65 + i) (c.dioValue i)

/-- CHATTER_CLEAR: a window without an edge (R224). -/
def Core.chatterClear (c : Core) (i : Nat) : Core :=
  if !c.dioLive i || !c.dioBit i dsChatter then c
  else
    let c := c.atCyc ((c.chan i).lastEdge + c.chatterWin i)
    let c := (c.setDioBit i dsChatter false).log 0x0604
    c.evLevel (65 + i) (c.dioValue i)

/-- DIO_OPEN_WIRE (R223). -/
def Core.openWire (c : Core) (i : Nat) (on : Bool) : Core :=
  if !c.dioLive i || !c.dioIsInput i || !(c.chan i).cfg.testBit 7 || c.dioBit i dsOpenWire = on then c
  else
    let c := c.setDioBit i dsOpenWire on
    if on then c.log 0x060A else c

/-- STUCK_ACTIVE: the accepted level 1 for longer than DIO.MAX_ON seconds (R225). -/
def Core.stuckActive (c : Core) (i : Nat) : Core :=
  let m := c.rd (Od.DIO_MAX_ON i)
  if !c.dioLive i || m = 0 || !c.dioIsInput i || !c.dioBit i dsLevel || c.dioBit i dsStuck then c
  else ((c.atCyc ((c.chan i).since + m * 1000000000 + 1)).setDioBit i dsStuck true).log 0x0605

/-- The quality flags of a channel at the latch (R217, R226). -/
def Core.dioFlags (c : Core) (i : Nat) : Nat :=
  let low := b2n (c.fgBit (i / 8) 0) * 2 ^ qSupplyLow
  if c.dioIsInput i then
    low + b2n (c.dioBit i dsChatter) * 2 ^ qChatter + b2n (c.dioBit i dsStuck) * 2 ^ qStuck +
      b2n (c.dioBit i dsOpenWire) * 2 ^ qOpenWire
  else low

/-- The phase-0 latch of the DIO channels (R25, R216, R226). -/
def Core.latchDio (c : Core) : Core :=
  let used := (List.range c.dioCount).filter fun i => c.dioMode i != 0
  let c := (List.range c.dioCount).foldl (fun c i =>
    if c.dioMode i = 0 then (c.wr (Od.PI_DIO_IN i) 0).wr (qKey (Od.PI_DIO_IN i)) 0
    else c.setInput (Od.PI_DIO_IN i) (b2n (c.dioValue i)) (c.dioFlags i)) c
  let word := maskOf (used.filter c.dioValue)
  let flags := used.foldl (fun f i => f ||| c.dioFlags i) 0
  if used.isEmpty then (c.wr Od.PI_DIO_IN_WORD 0).wr (qKey Od.PI_DIO_IN_WORD) 0
  else c.setInput Od.PI_DIO_IN_WORD word flags

/-- The new configuration of one channel; the flags of a detection that it switches off clear. -/
def Core.applyDioChan (c : Core) (i : Nat) : Core :=
  let c := c.updChan i fun x => { x with cfg := c.rd (Od.DIO_CFG i) }
  let c := if c.dioIsInput i && (c.chan i).cfg.testBit 7 then c else c.setDioBit i dsOpenWire false
  if c.dioIsOutput i then
    if (c.chan i).cfg.testBit 12 then c else c.setDioBit i dsOpenLoad false
  else ((c.setDioBit i dsOpenLoad false).setDioBit i dsExternal false).setDioBit i dsPartner false

/-- Configurations written take effect at a boundary; an output that leaves its mode turns off (R218). -/
def Core.applyDioCfg (c : Core) : Core := ((List.range 48).foldl Core.applyDioChan c).driveDios

/-! ## Counters (R227 to R231) -/

/-- One count up or down (R229). -/
def Core.countStep (c : Core) (k : Nat) (up : Bool) : Core :=
  let v := c.io.counts.getD k 0
  let m := c.rd (Od.COUNT_MODULO k)
  let d : Int := if up then 1 else -1
  if m = 0 then
    if c.bit (Od.COUNT_STATUS k) 0 then c
    else if v + d < -2147483648 ∨ 2147483647 < v + d then
      ((c.setBit (Od.COUNT_STATUS k) 0 true).log 0x060B).evLevel (137 + k) true
    else (c.updField fun x => { x with counts := setAt x.counts k (v + d) }).setBit (Od.COUNT_STATUS k) 2 (!up)
  else (c.updField fun x => { x with counts := setAt x.counts k ((v + d) % m) }).setBit (Od.COUNT_STATUS k) 2 (!up)

/-- What new levels of A and B do to the count in a mode: none, or up (true) or down (false) (Table 06.3). A leading B
counts up. -/
def countDir (mode : Nat) (a b a' b' : Bool) : Option Bool :=
  let riseA := !a && a'
  let edgeA := a != a'
  let edgeB := b != b'
  match mode with
  | 1 => if riseA then some true else none
  | 2 | 3 => if riseA then some (!b') else none
  | 4 => if edgeA then some (a' != b') else none
  | 5 => if edgeA then some (a' != b') else if edgeB then some (a' == b') else none
  | _ => none

/-- COUNTER_EDGE: the accepted levels of A and B of counter k; no level that began within a masking window counts (R228). -/
def Core.counterEdge (c : Core) (k : Nat) (a' b' : Bool) : Core :=
  if !c.sampling || c.dioCount = 0 then c
  else
    let (a, b) := c.io.inputs.getD k (false, false)
    let from_ := c.clk.cyc - countFilterTime (c.rd (Od.COUNT_FILTER k))
    let a' := if c.pulseMasked (2 * k) from_ then a else a'
    let b' := if c.pulseMasked (2 * k + 1) from_ then b else b'
    let c := c.updField fun x => { x with inputs := setAt x.inputs k (a', b') }
    let mode := c.rd (Od.COUNT_MODE k)
    if 3 ≤ mode && a != a' && b != b' then
      ((c.inc32 (Od.COUNT_ENC_ERRORS k)).setBit (Od.COUNT_STATUS k) 1 true).log 0x060B
    else match countDir mode a b a' b' with
      | some up => c.countStep k up
      | none => c

/-- A pending preset is loaded in the latch cycle (R230). -/
def Core.presetLoad (c : Core) (k : Nat) : Core :=
  if !c.bit (Od.COUNT_STATUS k) 3 then c
  else
    let p := toInt 32 (c.rd (Od.COUNT_PRESET k))
    let m := c.rd (Od.COUNT_MODULO k)
    let v := if m = 0 then p else p % (m : Int)
    let c := c.updField fun x => { x with counts := setAt x.counts k v }
    ((c.setBit (Od.COUNT_STATUS k) 0 false).setBit (Od.COUNT_STATUS k) 3 false).evLevel (137 + k) false

/-- The latch of the counters; ENC_ERR ends at the boundary (R229 to R231). In mode 0 nothing but a preset changes the
count, so PI.COUNT holds its last value. -/
def Core.latchCounters (c : Core) : Core :=
  if c.dioCount = 0 then c
  else (List.range 8).foldl (fun c k =>
    let c := (c.presetLoad k).setBit (Od.COUNT_STATUS k) 1 false
    let f := b2n (c.bit (Od.COUNT_STATUS k) 0) * 2 ^ qOver + b2n (c.fgBit (k / 4) 0) * 2 ^ qSupplyLow
    c.setInput (Od.PI_COUNT k) (ofInt 32 (c.io.counts.getD k 0)) f) c

/-! ## Protection of the outputs (R234 to R237) -/

/-- SHORT is set on an output. -/
def Core.setShort (c : Core) (i : Nat) : Core :=
  if c.dioBit i dsShort then c
  else ((c.setDioBit i dsShort true).inc32 (Od.DIO_SHORTS i)).log 0x0601

/-- OUTPUT_SHORT: the current limit active for 2 ms. -/
def Core.outputShort (c : Core) (i : Nat) : Core :=
  if c.dioLive i && c.stageOn i then c.setShort i else c

/-- One flag of R247 is set. -/
def Core.setTpFault (c : Core) (k b : Nat) : Core :=
  if c.tpBit k b then c
  else ((c.setTpBit k b true).inc32 (Od.TP_FAULTS k)).log 0x060C

/-- The first instant of R245 at or after station time t. -/
def tpInstant (k t : Nat) : Nat :=
  let p := 10000000
  let o := k * 1250000
  o + ceilMul (t - o) p

/-- TEST_PULSE_START: the next pulse of TPk, at least 5 ms after the end of the previous one (R246). EXT_VOLTAGE ends with
the first pulse after one that passed. -/
def Core.pulseStart (c : Core) (k : Nat) : Core :=
  if !c.clk.running || !c.tpPulsing k then c
  else
    let x := c.tpSource k
    let gap := match x.pulse with | some s => s + tpLow + us 5000 - c.clk.cyc | none => 0
    let c := c.atTime (tpInstant k (c.clk.now + gap))
    let c := if x.ext then c else c.setTpBit k 3 false
    c.updTp k fun x => { x with pulse := some c.clk.cyc, before := (x.pulse.toList ++ x.before).take 3, ext := false }

/-- PULSE_LOW of a channel fed from a pulsing source (R222). -/
def Core.pulseLow (c : Core) (i : Nat) (low : Bool) : Core :=
  let cfg := (c.chan i).cfg
  let k := field cfg 8 3
  if !c.dioLive i || !cfg.testBit 11 || !c.tpPulsing k then c
  else match (c.tpSource k).pulse with
    | none => c
    | some s => (c.atCyc (s + tpSample)).setDioBit i dsPulseLow low

/-- TP_OVERLOAD: 2 ms in current limit; the source turns off and retries under R234. -/
def Core.tpOverload (c : Core) (k : Nat) : Core :=
  if !c.clk.running || !c.tpActive k then c
  else ((c.setTpFault k 2).setTpBit k 5 true).updTp k fun x => { x with shutAt := c.clk.cyc }

/-- TP_EXT_VOLTAGE: the pin is not below 5 V within 60 µs of the pulse start. -/
def Core.tpExtVoltage (c : Core) (k : Nat) : Core :=
  if !c.clk.running || !c.tpPulsing k then c
  else match (c.tpSource k).pulse with
    | none => c
    | some s => ((c.atCyc (s + us 60)).setTpFault k 3).updTp k fun x => { x with ext := true }

/-! ### Thermal shutdown and retries (R234) -/

/-- THERMAL_SHUTDOWN: the stage turns off. The shutdown that follows DIO.RETRY_MAX consecutive retries latches. -/
def Core.thermalShutdown (c : Core) : Stage → Core
  | .tp k =>
    if !c.clk.running || !c.tpActive k then c
    else (c.setTpBit k 5 true).updTp k fun x => { x with shutAt := c.clk.cyc }
  | .dio i =>
    if !c.dioLive i || !c.stageOn i then c
    else
      let c := ((c.setShort i).setDioBit i dsThermal true).log 0x060E
      let c := c.updChan i fun x => { x with shutAt := c.clk.cyc }
      if c.rd Od.DIO_RETRY_MAX ≤ (c.chan i).retries then
        ((c.setDioBit i dsLatched true).driveDio i).fault' 0x0602 (unitDio i)
      else c.driveDio i

/-- THERMAL_RETRY: a cooled stage turns on again, at the earliest 10 ms after its shutdown; with the command still on it
counts as a retry. -/
def Core.thermalRetry (c : Core) : Stage → Core
  | .tp k =>
    if !c.clk.running || !c.tpBit k 5 then c
    else (c.atCyc ((c.tpSource k).shutAt + ms 10)).setTpBit k 5 false
  | .dio i =>
    if !c.dioLive i || !c.dioBit i dsThermal then c
    else
      let c := (c.atCyc ((c.chan i).shutAt + ms 10)).setDioBit i dsThermal false
      let c := if c.dioBit i dsCmd && !c.dioBit i dsLatched then c.updChan i fun x => { x with retries := x.retries + 1 }
        else c
      c.driveDio i

/-- SHORT_CLEAR: 100 ms on without the limit. A test-pulse source's OVERLOAD ends in the same way (R247). -/
def Core.shortClear (c : Core) : Stage → Core
  | .tp k => if c.clk.running && c.tpActive k && c.tpBit k 2 then c.setTpBit k 2 false else c
  | .dio i =>
    if c.dioLive i && c.stageOn i && c.dioBit i dsShort then
      (c.setDioBit i dsShort false).updChan i fun x => { x with retries := 0 }
    else c

/-- OPEN_LOAD (R236). -/
def Core.openLoad (c : Core) (i : Nat) (on : Bool) : Core :=
  if !c.dioLive i || !c.dioIsOutput i || !(c.chan i).cfg.testBit 12 || !c.stageOn i || c.dioBit i dsOpenLoad = on then c
  else
    let c := c.setDioBit i dsOpenLoad on
    if on then c.log 0x060A else c

/-- EXTERNAL_DRIVE: the pin of a stage that is off has stayed high, or low, for 4 ms (R237). -/
def Core.externalDrive (c : Core) (i : Nat) (high : Bool) : Core :=
  if !c.dioLive i || !c.dioIsOutput i || c.stageOn i then c
  else if !high then (c.setDioBit i dsExternal false).setDioBit i dsPartner false
  else if c.dioMode i == 9 && c.partnerToggling then c.setDioBit i dsPartner true
  else if c.dioBit i dsExternal then c
  else (c.setDioBit i dsExternal true).log 0x0603

/-! ## Field supplies (R239 to R244) -/

def Core.fgLive (c : Core) (g : Nat) : Bool := c.sampling && decide (g < c.fgCount)

/-- The stages of a group follow its conditions. -/
def Core.driveGroup (c : Core) (g : Nat) : Core :=
  (List.range 8).foldl (fun c i => c.driveDio (8 * g + i)) c

/-- FG_LOW: LPg falls below FG.LOW_V, or rises above it plus the hysteresis. -/
def Core.fgLow (c : Core) (g : Nat) (on : Bool) : Core :=
  if !c.fgLive g || c.fgBit g 0 = on then c
  else
    let c := c.setFgBit g 0 on
    if on then c.log 0x0606 else c

/-- FG_MISSING: MISSING and OVER have no reaction; reverse polarity turns the group off and is reported as MISSING. -/
def Core.fgMissing (c : Core) (g : Nat) : SupplyChange → Core
  | .missing on => if c.fgLive g then c.setFgBit g 2 (on || c.io.reversed.contains g) else c
  | .overload on => if c.fgLive g then c.setFgBit g 3 on else c
  | .reversed on =>
    if !c.fgLive g then c
    else
      let c := c.updField fun x => { x with
        reversed := if on then (if x.reversed.contains g then x.reversed else x.reversed ++ [g]) else x.reversed.filter (· != g) }
      (if on then c.setFgBit g 2 true else c).driveGroup g

/-- The sources and safe outputs fed from LPg see its cut (R247, R250). -/
def Core.cutFed (c : Core) (g : Nat) : Core :=
  if 2 ≤ g || c.safetyFuse = 0 then c
  else
    let c := [0, 1, 2, 3].foldl (fun c i => c.setTpFault (2 * i + g) 4) c
    [0, 1, 2, 3].foldl (fun c i =>
      let k := 4 * g + i
      if c.bit Od.SOV_STATUS (16 + k) then c.latchSo k 8 else c) c

/-- FG_CUT: LPg below the cut threshold (R241); the hold in progress ends (R242), and an accepted acknowledgement still acts
at its commit (R243). -/
def Core.fgCut (c : Core) (g : Nat) : Core :=
  let c := c.updField fun x => { x with lpUp := x.lpUp.filter (· != g) }
  if !c.fgLive g then c
  else if c.fgBit g 1 then (c.cutFed g).driveSos
  else
    let c := (c.setFgBit g 1 true).setFgBit g 4 false
    let c := c.updField fun x => { x with
      holds := x.holds.filter (·.1 != g), holdOver := x.holdOver.filter (· != g) }
    let c := (((c.inc32 (Od.FG_CUTS g)).driveGroup g).fault' 0x0607 (unitFg g)).cutFed g
    c.driveSos

/-- FG_RECOVERY: LPg above the recovery threshold (R242); SUPPLY_CUT of the sources fed from it ends (R247). -/
def Core.fgRecovery (c : Core) (g : Nat) : Core :=
  if !c.fgLive g || !c.fgBit g 1 then c
  else
    let c := c.setFgBit g 1 false
    let c := if c.rd (Od.FG_RECOVERY g) = 0 then
        (c.setFgBit g 4 true).updField fun x => { x with holds := x.holds.filter (·.1 != g) ++ [(g, c.clk.cyc)] }
      else c.setFgBit g 5 true
    let c := if 2 ≤ g then c else [0, 1, 2, 3].foldl (fun c i => c.setTpBit (2 * i + g) 4 false) c
    c.driveSos

/-- FG_HOLD_END: the hold time has passed; HOLDING ends at the next commit of FG.OUT_CG. -/
def Core.fgHoldEnd (c : Core) (g : Nat) : Core :=
  match c.io.holds.find? (·.1 == g) with
  | none => c
  | some (_, t) =>
    if !c.fgLive g then c
    else (c.atCyc (t + ms 100)).updField fun x => { x with
      holds := x.holds.filter (·.1 != g), holdOver := x.holdOver ++ [g] }

/-- FG_TRIP: the group current above the trip level for 5 ms (R244). -/
def Core.fgTrip (c : Core) (g : Nat) : Core :=
  if !c.fgLive g || c.fgBit g 6 then c
  else (((c.setFgBit g 6 true).inc32 (Od.FG_TRIPS g)).driveGroup g).fault' 0x0609 (unitFg g)

/-- An accepted FG.ACK (R243). -/
def Core.fgAckAccept (c : Core) (g : Nat) : Core :=
  c.updField fun x => { x with acks := x.acks.filter (· != g) ++ [g] }

/-! ## Commits (R232, R242, R243) -/

/-- The staging word of a DIO channel's command. -/
def dioStage (i : Nat) : Nat := 0x3C00 + 0x40 * (i / 8) + i % 8

/-- A command is committed: the register and PI.DIO_OUT. A commit of 0 ends SHORT_LATCHED and the off state of
Table 15.6. -/
def Core.commitDio (c : Core) (i : Nat) (v : Bool) : Core :=
  let c := (c.setDioBit i dsCmd v).wr (Od.PI_DIO_OUT i) (b2n v)
  if v then c
  else
    let c := (c.setDioBit i dsLatched false).releaseUnit (unitDio i)
    c.updChan i fun x => { x with retries := 0 }

/-- What a group's commit does to the states that end at a commit: an ended hold and an acknowledgement (R242, R243). -/
def Core.commitFg (c : Core) (g : Nat) : Core :=
  let ack := c.io.acks.contains g
  if !ack && !c.io.holdOver.contains g then c
  else
    let back := c.fgBit g 4 || c.fgBit g 5
    let c := c.setFgBit g 4 false
    let c := if ack then
        let c := ((c.setFgBit g 5 false).setFgBit g 6 false).releaseUnit (unitFg g)
        (List.range 8).foldl (fun c i => c.releaseUnit (unitDio (8 * g + i))) c
      else c
    let c := c.updField fun x => { x with
      holds := x.holds.filter (·.1 != g), holdOver := x.holdOver.filter (· != g), acks := x.acks.filter (· != g) }
    let c := (List.range 8).foldl (fun c i => c.updChan (8 * g + i) fun x => { x with retries := 0 }) c
    if back && !c.fgOff g then c.log 0x0608 else c

/-! ## Safe-output detections (R249, R250) -/

/-- A dark test of the switch is in progress. -/
def Core.darkNow (c : Core) (k : Nat) : Bool :=
  c.io.dark.any fun d => d.so == k && decide (d.start ≤ c.clk.cyc) && decide (c.clk.cyc < d.stop)

/-- The first instant of R249 at or after station time t. -/
def darkInstant (p k t : Nat) (m : Bool) : Nat :=
  let o := (k + 8 * b2n m) * p / 16
  o + ceilMul (t - o) p

/-- SO_DARK_TEST: the test of one switch at its next instant; `reached` whether its pin reaches the off level within
250 µs, `openNs` the open time. A failed test latches the output off. -/
def Core.darkTest (c : Core) (k : Nat) (m reached : Bool) (openNs : Nat) : Core :=
  if !c.clk.running || c.rd (Od.SO_DARK_EN k) = 0 || !c.soBit k 1 then c
  else
    let p := ms (c.rd Od.SO_DARK_PERIOD)
    let again := c.io.dark.any fun d => d.so == k && d.m == m && decide (c.clk.cyc < d.stop)
    let c := c.atTime (darkInstant p k (c.clk.now + b2n again) m)
    let c := c.updField fun x => { x with
      dark := x.dark.filter (fun d => decide (c.clk.cyc < d.stop)) ++ [⟨k, m, c.clk.cyc, c.clk.cyc + openNs⟩] }
    if reached then c else (c.atCyc (c.clk.cyc + us 250)).latchSo k (if m then 5 else 4)

/-- SO_READBACK_MISMATCH outside a dark test for 1 ms. -/
def Core.soReadback (c : Core) (k : Nat) (m : Bool) : Core :=
  if !c.clk.running || c.safetyFuse = 0 || c.darkNow k then c else c.latchSo k (if m then 5 else 4)

/-- SO_EXT_VOLTAGE: a pin of an SO that is off stays above 8 V for 4 ms. -/
def Core.soExtVoltage (c : Core) (k : Nat) : Core :=
  if !c.clk.running || c.safetyFuse = 0 || c.soBit k 1 then c else c.latchSo k 6

/-- SO_OVERLOAD: the current limit active for the overload time. -/
def Core.soOverload (c : Core) (k : Nat) : Core :=
  if !c.clk.running || c.safetyFuse = 0 || !c.soBit k 1 then c else c.latchSo k 7

/-- An SO.ACK of TP and SO units also ends their off state of Table 15.6. -/
def Core.soAckTps (c : Core) : Core := (List.range 8).foldl (fun c k => c.releaseUnit (unitTp k)) c

end Sys2Proof.Machine
end

