-- ==== Sys2Proof/Machine/Universal.lean ====
section
/-! DEFINITION. Universal analogue channels (chapter 07): ranges, characteristics, conversion and latching, outputs with
their fail values and limits, and the group supplies. Formulas are computed in binary32, one rounding per operation
(log entry 30). -/

namespace Sys2Proof.Machine

/-! ## Access to the parts -/

def UioChan.fresh : UioChan :=
  { cfg := 0, sd := [], flags := 0, y := none, band := 3, passes := 0, on := false, headLow := false, limit := none, cell := false,
    looped := false, contact := false, off := false, drive := none }

def Core.updUio (c : Core) (f : Analog → Analog) : Core := { c with uio := f c.uio }
def Core.ach (c : Core) (i : Nat) : UioChan := c.uio.ch.getD i UioChan.fresh
def Core.updAch (c : Core) (i : Nat) (f : UioChan → UioChan) : Core :=
  c.updUio fun x => { x with ch := updAt f x.ch i }

/-- Bits of UIO.STATUS (Table 07.13). -/
def usNew : Nat := 0
def usOver : Nat := 1
def usUnder : Nat := 2
def usOpenWire : Nat := 3
def usShort : Nat := 4
def usCompliance : Nat := 5
def usAlarm : Nat := 6
def usDevice : Nat := 7
def usDriveOn : Nat := 8
def usLimited : Nat := 9
def usPass : Nat := 10
def usFail : Nat := 11
def usThermLimit : Nat := 12
def usThermOff : Nat := 13
def usCjFallback : Nat := 15

def Core.uioBit (c : Core) (i b : Nat) : Bool := c.bit (Od.UIO_STATUS i) b

/-- The bit of UIO.FAULT_MASK: OPEN_WIRE, SHORT, COMPLIANCE, ALARM_CURRENT, FAIL_ACTIVE or THERMAL_OFF. -/
def Core.uioFault (c : Core) (i : Nat) : Bool := c.rd (Od.UIO_STATUS i) &&& 0x2878 != 0

/-- A bit of UIO.STATUS; the router's source follows the fault mask (Table 12.1). -/
def Core.setUioBit (c : Core) (i b : Nat) (v : Bool) : Core :=
  let c := c.setBit (Od.UIO_STATUS i) b v
  c.evLevel (113 + i) (c.uioFault i)

/-- A bit with the record written when it is set; each record carries the channel number (R295). -/
def Core.flagUio (c : Core) (i b : Nat) (v : Bool) (code : Nat) : Core :=
  if c.uioBit i b = v then c
  else
    let c := c.setUioBit i b v
    if v then c.log1 code i else c

/-- A fault of a UIO channel, with its number. -/
def Core.uioFaulted (c : Core) (code i : Nat) : Core := (c.fault code (unitUio i) i (c.fresh 32)).used 1

def Core.uioMode (c : Core) (i : Nat) : Nat := field (c.ach i).cfg 0 4
def Core.uioRange (c : Core) (i : Nat) : Nat := field (c.ach i).cfg 8 4
def Core.uioIsOut (c : Core) (i : Nat) : Bool := 4 ≤ c.uioMode i && c.uioMode i ≤ 6
def Core.uioIsCurrentOut (c : Core) (i : Nat) : Bool := c.uioMode i == 5 || c.uioMode i == 6
def Core.uioIsCurrentIn (c : Core) (i : Nat) : Bool := c.uioMode i == 2 || c.uioMode i == 3
def Core.uioOpenEn (c : Core) (i : Nat) : Bool := (c.ach i).cfg.testBit 19
/-- The channel is on the sigma-delta path (R265). -/
def Core.uioSd (c : Core) (i : Nat) : Bool :=
  (c.uioMode i == 7 || c.uioMode i == 8 || c.uioMode i == 9) || ((c.ach i).cfg.testBit 14 && 1 ≤ c.uioMode i && c.uioMode i ≤ 3)

/-- Bonded, and its conversions and detections run (R294). -/
def Core.uioLive (c : Core) (i : Nat) : Bool := c.clk.running && decide (i < c.uioCount)

def Core.ugLow (c : Core) (u : Nat) : Bool := c.bit (Od.UG_STATUS u) 0

/-! ## Ranges (Tables 07.2, 07.6) -/

/-- A decimal constant in thousandths as a binary32 pattern. -/
def milli (i : Int) : Nat := F32.div (F32.ofInt i) (F32.ofNat 1000)

/-- An input range in thousandths of its unit: nominal ends, thresholds, limits of delivery. -/
structure InRange where
  lo : Int
  hi : Int
  below : Option Int
  above : Option Int
  clipLo : Int
  clipHi : Int
deriving DecidableEq, Repr

/-- Table 07.2, but for the 4 mA to 20 mA range. -/
def inRange (mode range : Nat) : Option InRange :=
  match mode, range with
  | 1, 0 => some ⟨-10000, 10000, some (-10200), some 10200, -10800, 10800⟩
  | 1, 1 => some ⟨0, 10000, some (-100), some 10200, -500, 10800⟩
  | 1, 2 => some ⟨-1000, 1000, some (-1020), some 1020, -1080, 1080⟩
  | 1, 3 => some ⟨-100, 100, some (-102), some 102, -108, 108⟩
  | 2, 1 | 3, 1 => some ⟨0, 20000, some (-200), some 20400, -1000, 25000⟩
  | 7, 0 | 7, 1 => some ⟨-200000, 850000, some (-200000), some 850000, -200000, 850000⟩
  | 7, 2 => some ⟨-80000, 260000, some (-80000), some 260000, -80000, 260000⟩
  | 8, 0 => some ⟨0, 500000, none, some 510000, 0, 540000⟩
  | 8, 1 => some ⟨0, 5000000, none, some 5100000, 0, 5400000⟩
  | 9, t => some ⟨Config.tcLow t, Config.tcHigh t, some (Config.tcLow t), some (Config.tcHigh t), Config.tcLow t, Config.tcHigh t⟩
  | _, _ => none

/-- The limits of a command in thousandths (Table 07.6). -/
def outLimits (mode range : Nat) : Int × Int :=
  match mode, range with
  | 4, 0 => (0, 10500)
  | 4, _ => (-10500, 10500)
  | 5, 1 => (0, 20500)
  | 5, 2 => (0, 24000)
  | _, _ => (3800, 20500)

/-- A value is outside a threshold, with hysteresis: it comes back once inside by `h`. -/
def overThr (was : Bool) (x thr h : Nat) : Bool := if was then F32.lt (F32.sub thr h) x else F32.lt thr x
def underThr (was : Bool) (x thr h : Nat) : Bool := if was then F32.lt x (F32.add thr h) else F32.lt x thr

/-- The flags of R261. -/
def Core.rangeFlags (c : Core) (i x : Nat) (r : InRange) : Core :=
  let h := milli ((r.hi - r.lo) / 200)
  let u := match r.below with | some t => underThr (c.uioBit i usUnder) x (milli t) h | none => false
  let o := match r.above with | some t => overThr (c.uioBit i usOver) x (milli t) h | none => false
  (c.setUioBit i usUnder u).setUioBit i usOver o

/-- The band of Table 07.3 for a loop current, with the hysteresis of 0.05 mA. -/
def Core.loopBand (c : Core) (i x : Nat) : Nat :=
  let b := (c.ach i).band
  let h := milli 50
  let lo := c.rd (Od.UIO_ALARM_LO i)
  let hi := c.rd (Od.UIO_ALARM_HI i)
  if underThr (b = 0) x (milli 500) h then 0
  else if underThr (b ≤ 1) x lo h then 1
  else if underThr (b ≤ 2) x (milli 3800) h then 2
  else if overThr (b = 5) x hi h then 5
  else if overThr (4 ≤ b) x (milli 20500) h then 4
  else 3

/-- The NAMUR NE 43 classification of a current input (Table 07.3). -/
def Core.classify (c : Core) (i x : Nat) : Core :=
  let b := c.loopBand i x
  let c := c.updAch i fun a => { a with band := b }
  let c := (c.setUioBit i usUnder (b == 2)).setUioBit i usOver (b == 4)
  let c := c.flagUio i usAlarm (b ≤ 1 || b == 5) 0x0705
  c.flagUio i usOpenWire (b == 0 && c.uioOpenEn i) 0x0701

/-! ## Characteristics (R267) -/

/-- Point k of UIO.CHAR_TABLE: x and y. -/
def tableX (t : Bytes) (k : Nat) : Nat := leAt t (4 + 8 * k) 4
def tableY (t : Bytes) (k : Nat) : Nat := leAt t (8 + 8 * k) 4
def tablePoints (t : Bytes) : Nat := leAt t 0 1

/-- The segment of a value on the x axis, or on the y axis for the inverse: the last whose start is not above it, the
first below the table, at most the last one. -/
def segment (below : Nat → Nat → Bool) (at' : Nat → Nat) (v : Nat) : Nat → Nat
  | 0 => 0
  | k + 1 => if below v (at' (k + 1)) then segment below at' v k else k + 1

/-- Linear interpolation from (a, b) to (a', b') at v. -/
def interpolate (v a b a' b' : Nat) : Nat :=
  F32.add b (F32.div (F32.mul (F32.sub v a) (F32.sub b' b)) (F32.sub a' a))

/-- The engineering value of a physical value. -/
def Core.toEu (c : Core) (i x : Nat) : Nat :=
  let lo := c.rd (Od.UIO_PHYS_LO i)
  let f := F32.div (F32.sub x lo) (F32.sub (c.rd (Od.UIO_PHYS_HI i)) lo)
  let el := c.rd (Od.UIO_EU_LO i)
  let span := F32.sub (c.rd (Od.UIO_EU_HI i)) el
  match field (c.ach i).cfg 16 2 with
  | 0 => F32.add el (F32.mul f span)
  | 1 =>
    let g := if F32.lt f (F32.div (c.rd (Od.UIO_SQRT_CUT i)) (F32.ofNat 100)) then F32.zero false else F32.sqrt f
    F32.add el (F32.mul g span)
  | _ =>
    let t := c.dom (Od.UIO_CHAR_TABLE i)
    let k := segment F32.lt (tableX t) x (tablePoints t - 2)
    interpolate x (tableX t k) (tableY t k) (tableX t (k + 1)) (tableY t (k + 1))

/-- The physical value of a command: the inverse mapping. -/
def Core.toPhysical (c : Core) (i e : Nat) : Nat :=
  let lo := c.rd (Od.UIO_PHYS_LO i)
  let el := c.rd (Od.UIO_EU_LO i)
  if field (c.ach i).cfg 16 2 = 2 then
    let t := c.dom (Od.UIO_CHAR_TABLE i)
    let rising := F32.lt (tableY t 0) (tableY t 1)
    let k := segment (fun a b => if rising then F32.lt a b else F32.lt b a) (tableY t) e (tablePoints t - 2)
    interpolate e (tableY t k) (tableX t k) (tableY t (k + 1)) (tableX t (k + 1))
  else
    let f := F32.div (F32.sub e el) (F32.sub (c.rd (Od.UIO_EU_HI i)) el)
    F32.add lo (F32.mul f (F32.sub (c.rd (Od.UIO_PHYS_HI i)) lo))

/-- The mode's value goes through a characteristic (R268). -/
def charMode (m : Nat) : Bool := (1 ≤ m && m ≤ 6) || m == 8

/-- The delivered value of a clipped physical value. -/
def Core.engineering (c : Core) (i x : Nat) : Nat := if charMode (c.uioMode i) then c.toEu i x else x

/-- A clip at the limits of Table 07.2. -/
def clip (r : Option InRange) (x : Nat) : Nat :=
  match r with | some r => F32.max (milli r.clipLo) (F32.min (milli r.clipHi) x) | none => x

/-! ## The quality of a channel (R285) -/

def Core.uioFlags (c : Core) (i : Nat) : Nat :=
  b2n (c.uioBit i usOver) * 2 ^ qOver + b2n (c.uioBit i usUnder) * 2 ^ qUnder + b2n (c.uioBit i usOpenWire) * 2 ^ qOpenWire +
    b2n (c.uioBit i usShort) * 2 ^ qShort + b2n (c.uioBit i usCompliance) * 2 ^ qCompliance +
    b2n (c.uioBit i usAlarm) * 2 ^ qAlarm + b2n (c.uioBit i usDevice) * 2 ^ qDevice + b2n (c.ugLow (i / 8)) * 2 ^ qSupplyLow

/-- 1 + x + x²/2! + … in units of 2^-512, by Horner's rule over the terms `k` to 1. -/
def expSeries (x : Nat) : Nat → Nat → Nat
  | 0, acc => acc
  | k + 1, acc => expSeries x k (2 ^ 512 + x * acc / (2 ^ 512 * (k + 1)))

/-- The square in units of 2^-512, `n` times. -/
def squares : Nat → Nat → Nat
  | 0, x => x
  | n + 1, x => squares n (x * x / 2 ^ 512)

/-- exp(−n/d) in units of 2^-512, for n/d below 256: the reciprocal of exp(n/256d)^256. -/
def expNegFixed (n d : Nat) : Nat := 2 ^ 1024 / squares 8 (expSeries (n * 2 ^ 512 / (256 * d)) 110 (2 ^ 512))

/-- exp(−Δt / τ) of R266 for Δt in ns and τ in ms: the binary32 number below it or the one above (log entry 193); a result
below the normal numbers is 0. -/
def expNeg (dt tau : Nat) : Nat :=
  let d := 1000000 * tau
  if dt = 0 then F32.ofNat 1
  else if 256 * d ≤ dt then 0
  else
    let v := expNegFixed dt d
    let lsb := F32.leadExp v (2 ^ 512) - 23
    let (a, b) := F32.scale v (2 ^ 512) (-lsb)
    if lsb < -149 then 0 else (lsb + 150).toNat * 2 ^ 23 + (a / b - 2 ^ 23) + b2n (Config.expUp dt tau)

/-- The filter of R266; `dt` in ns. While CLASS is BAD it holds its state, and restarts with the next value that is not. -/
def Core.filterUio (c : Core) (i x dt : Nat) : Core × Nat :=
  let tau := c.rd (Od.UIO_FILTER_MS i)
  if tau = 0 then (c, x)
  else if qClass (c.uioFlags i) = 1 then
    let y := (c.ach i).y.getD x
    (c.updAch i fun a => { a with y := none },
      if (c.ach i).y.isSome then y else ((c.ach i).sd.getLast?.map (·.eu)).getD (c.rd (Od.PI_UIO_IN i)))
  else match (c.ach i).y with
    | none => (c.updAch i fun a => { a with y := some x }, x)
    | some y =>
      let k := F32.sub (F32.ofNat 1) (expNeg dt tau)
      let y := F32.add y (F32.mul (F32.sub x y) k)
      (c.updAch i fun a => { a with y := some y }, y)

/-- The value holds while an open wire, or a NAMUR fault, is shown (R271, R273). -/
def Core.uioHolds (c : Core) (i : Nat) : Bool :=
  match c.uioMode i with
  | 7 | 8 | 9 => c.uioBit i usOpenWire
  | 10 => c.uioBit i usOpenWire || c.uioBit i usShort
  | _ => false

/-! ## Conversion (R264 to R266, R269, R270) -/

/-- The flags of an input's physical value. -/
def Core.uioConvertFlags (c : Core) (i x : Nat) : Core :=
  if c.uioIsCurrentIn i && c.uioRange i == 0 then c.classify i x
  else match inRange (c.uioMode i) (c.uioRange i) with
    | some r => c.rangeFlags i x r
    | none => c

/-- An input sample: the flags, the clipped physical value and the delivered value. -/
def Core.uioConvert (c : Core) (i x dt : Nat) : Core × Nat × Nat :=
  let c := c.uioConvertFlags i x
  let p := clip (inRange (c.uioMode i) (c.uioRange i)) x
  let (c, y) := c.filterUio i (c.engineering i p) dt
  (c, p, y)

/-- A NAMUR sample: on at 1.75 mA, off below 1.55 mA (Table 07.5). -/
def Core.namurSample (c : Core) (i x : Nat) : Core × Nat :=
  let on := if (c.ach i).on then !F32.lt x (milli 1550) else !F32.lt x (milli 1750)
  (c.updAch i fun a => { a with on := on }, if on then F32.ofNat 1 else F32.zero false)

/-- The stored Ni120 curve: the resistance at k − 80 °C, with the two points that R269 gives. -/
def niPoint (k : Nat) : Nat :=
  if k = 80 then F32.ofNat 120 else if k = 180 then F32.ofFrac 20064 100 else Config.ni120 ((k : Int) - 80)

/-- The temperature of a Ni120 element: linear interpolation between the points, 1 K apart; the end segments are extended (log
entry 194). -/
def niTemp (r : Nat) : Nat :=
  let k := segment F32.lt niPoint r 339
  interpolate r (niPoint k) (F32.ofInt ((k : Int) - 80)) (niPoint (k + 1)) (F32.ofInt ((k : Int) - 79))

/-- The temperature of a resistance thermometer (R269). -/
def rtdTemp (range r : Nat) : Nat := if range = 2 then niTemp r else Config.rtdTemp range r

/-- The temperature of a thermocouple: the cold junction's voltage is added before the inversion (R270). -/
def tcTemp (type mv cj : Nat) : Nat := Config.tcTemp type (F32.add mv (Config.tcVoltage type cj))

/-- The cold-junction temperature and whether the source was replaced by the internal sensor (R270). A channel that is not
in mode RTD is unusable as well (log entry 195). -/
def Core.coldJunction (c : Core) (i int ext : Nat) (extOk : Bool) : Nat × Bool :=
  match c.rd (Od.UIO_CJ_SRC i) with
  | 1 => if extOk then (ext, false) else (int, true)
  | 2 => (c.rd (Od.UIO_CJ_FIXED i), false)
  | 3 =>
    let k := c.rd (Od.UIO_CJ_CHAN i)
    let q := c.rd (qKey (Od.PI_UIO_IN k)) / 2 ^ 14
    if decide (k < c.uioCount) && c.uioMode k == 7 && decide (2 ≤ q) then (c.rd (Od.PI_UIO_IN k), false) else (int, true)
  | _ => (int, false)

/-- A measured resistance without the leads of a 2-wire connection (R269). -/
def Core.leadFree (c : Core) (i x : Nat) : Nat :=
  if field (c.ach i).cfg 12 2 = 0 then F32.sub x (c.rd (Od.UIO_LEAD_OHM i)) else x

/-- The result spacing in ns: half the rate with a 3-wire connection (R265). -/
def Core.sdSpacing (c : Core) (i : Nat) : Nat :=
  let r := c.rd (Od.UIO_SD_RATE i)
  let w := c.uioMode i != 9 && 7 ≤ c.uioMode i && field (c.ach i).cfg 12 2 == 1
  1000000000 * (if w then 2 else 1) / r

/-- The quality flags that a conversion of the channel gives (R261, R262); the others are those of the moment of the latch. -/
def Core.sdOwn (c : Core) (i : Nat) : Nat :=
  2 ^ qOver + 2 ^ qUnder + 2 ^ qAlarm + (if c.uioIsCurrentIn i then 2 ^ qOpenWire else 0)

/-- SD_RESULT: a conversion ends. `raw`: the measured voltage, current, resistance in Ω or thermocouple voltage in mV;
`int`, `ext`, `extStat`: the cold-junction sensors (UIO.CJ_EXT_STATUS). -/
def Core.sdResult (c : Core) (i raw int ext extStat : Nat) : Core :=
  if !c.uioLive i || !c.uioSd i then c
  else
    let tc := c.uioMode i == 9
    let (cj, fb) := c.coldJunction i int ext (extStat == 1)
    let c := if tc && c.rd (Od.UIO_CJ_SRC i) == 1 then (c.wr Od.UIO_CJ_EXT_TEMP ext).wr Od.UIO_CJ_EXT_STATUS extStat else c
    let c := if tc then c.flagUio i usCjFallback fb 0x0709 else c
    let x := match c.uioMode i with
      | 7 => rtdTemp (c.uioRange i) (c.leadFree i raw)
      | 8 => c.leadFree i raw
      | 9 => tcTemp (c.uioRange i) raw cj
      | _ => raw
    let (c, p, y) := c.uioConvert i x (c.sdSpacing i)
    let y := if c.uioHolds i then c.rd (Od.PI_UIO_IN i) else y
    c.updAch i fun a => { a with sd := a.sd ++ [⟨c.clk.cyc, c.clk.now, p, y, c.uioFlags i &&& c.sdOwn i⟩] }

/-- The latch of an SD channel at the boundary in core cycle `b`: a result that ends in it, its flags included, belongs to
the next tick (R265). -/
def Core.latchSd (c : Core) (i b : Nat) : Core :=
  let ready := (c.ach i).sd.filter fun r => decide (r.cyc < b)
  let c := c.updAch i fun a => { a with
    sd := a.sd.filter fun r => !decide (r.cyc < b), flags := (ready.getLast?.map (·.flags)).getD a.flags }
  let q := (c.uioFlags i - (c.uioFlags i &&& c.sdOwn i)) ||| (c.ach i).flags
  match ready.getLast? with
  | some r =>
    let c := ((c.setInput (Od.PI_UIO_IN i) r.eu q).setInput (Od.PI_UIO_STAMP i) r.stamp q).wr (Od.UIO_RAW i) r.phys
    c.setUioBit i usNew true
  | none => ((c.setFlags (Od.PI_UIO_IN i) q).setFlags (Od.PI_UIO_STAMP i) q).setUioBit i usNew false

/-- The measured output of a current output: its alarm bands and the open wire of R285; `weak`: the headroom is below 1.0 V.
-/
def Core.readbackFlags (c : Core) (i x : Nat) (weak : Bool) : Core :=
  let b := c.loopBand i x
  let c := c.updAch i fun a => { a with band := b }
  let c := c.flagUio i usAlarm (b ≤ 1 || b == 5) 0x0705
  let cmd := F32.le (milli 1000) (c.toPhysical i (c.rd (Od.PI_UIO_OUT i)))
  if c.uioMode i = 5 then c.flagUio i usOpenWire (weak && cmd && F32.lt x (milli 500)) 0x0701
  else c.flagUio i usOpenWire (!(c.ach i).looped) 0x0701

/-- The SAR hold of a channel at the latch, converted before the release (R264, R285). -/
def Core.latchSar (c : Core) (i x : Nat) (weak : Bool) : Core :=
  let (c, p, y) : Core × Nat × Nat :=
    if c.uioIsOut i then
      let c := if c.uioIsCurrentOut i then c.readbackFlags i x weak else c
      (c, x, c.toEu i x)
    else if c.uioMode i = 10 then
      let (c, y) := c.namurSample i x
      (c, x, y)
    else c.uioConvert i x c.period
  let y := if c.uioHolds i then c.rd (Od.PI_UIO_IN i) else y
  let q := c.uioFlags i
  ((c.setInput (Od.PI_UIO_IN i) y q).setInput (Od.PI_UIO_STAMP i) 0 q).wr (Od.UIO_RAW i) p

/-- An unused channel delivers no value; its quality still shows the group's supply (R284). -/
def Core.latchUnused (c : Core) (i : Nat) : Core :=
  let k := Od.PI_UIO_IN i
  c.setFlags k (putBit (c.inFlags k) qSupplyLow (c.ugLow (i / 8)))

/-- What a driver went through in a tick, free amounts: the cycles of its junction temperature and the energy dissipated in
it (R235, R282; log entry 191). -/
def Core.uioWear (c : Core) (i : Nat) : Core :=
  ((c.addW 32 (Od.UIO_THERM_CYCLES i) (c.fresh 1)).addW 64 (Od.UIO_DISSIP_J i) (Config.freeNat (c.free + 1) % 2 ^ 8)).used 2

/-- The phase-0 latch of the universal channels in core cycle `b`; `sar` holds the samples of the SAR holds, `weak` the
channels whose headroom is below 1.0 V. -/
def Core.latchUio (c : Core) (b : Nat) (sar : List Nat) (weak : Nat) : Core :=
  (List.range c.uioCount).foldl (fun c i =>
    if c.uioMode i = 0 then c.latchUnused i
    else
      let c := c.uioWear i
      if c.uioSd i then c.latchSd i b else c.latchSar i (sar.getD i 0) (weak.testBit i)) c

/-! ## Output stages (R276, R277, R281, R282) -/

/-- What keeps a channel in its off state. -/
def Core.uioOff (c : Core) (i : Nat) : Bool :=
  let u := i / 8
  !c.fieldEnable || c.ugLow u || c.uio.ugWait.contains u || c.uioBit i usThermOff || c.unitOff (unitUio i) ||
    c.unitOff (unitUg u) || (c.ach i).off || (c.uioMode i == 6 && !((c.ach i).looped && (c.ach i).contact))

/-- The fail value (Table 07.6). -/
def Core.failValue (c : Core) (i : Nat) : Nat :=
  if c.uioMode i = 4 then F32.zero false
  else if (c.ach i).cfg.testBit 20 then c.rd (Od.UIO_ALARM_HI i) else c.rd (Od.UIO_ALARM_LO i)

/-- The committed command's physical value, clamped, and whether it is (R277). -/
def Core.clampedCommand (c : Core) (i : Nat) : Nat × Bool :=
  let p := c.toPhysical i (c.rd (Od.PI_UIO_OUT i))
  let (lo, hi) := outLimits (c.uioMode i) (c.uioRange i)
  if F32.lt p (milli lo) then (milli lo, true) else if F32.lt (milli hi) p then (milli hi, true) else (p, false)

/-- The value driven before the thermal limit, with LIMITED. -/
def Core.uioCommand (c : Core) (i : Nat) : Nat × Bool :=
  if c.uioBit i usFail || !F32.isFinite (c.rd (Od.PI_UIO_OUT i)) then (c.failValue i, false) else c.clampedCommand i

/-- The COMPLIANCE flag: headroom, or the thermal limit below the command (R279, R282). -/
def Core.setCompliance (c : Core) (i : Nat) : Core :=
  c.setUioBit i usCompliance ((c.ach i).headLow || c.uioBit i usThermLimit)

/-- One channel's stage follows its conditions. -/
def Core.driveUio (c : Core) (i : Nat) : Core :=
  if c.uioCount ≤ i || !c.uioIsOut i then
    let c := c.updAch i fun a => { a with drive := none }
    ((c.setUioBit i usDriveOn false).setUioBit i usLimited false).setUioBit i usPass false
  else if c.uioOff i then
    let c := c.updAch i fun a => { a with drive := none }
    let c := (c.setUioBit i usDriveOn false).setUioBit i usLimited false
    ((c.setUioBit i usThermLimit false).setCompliance i).setUioBit i usPass (c.uioMode i == 6 && (c.ach i).cell)
  else
    let (v, lim) := c.uioCommand i
    let (d, hot) : Nat × Bool := match (c.ach i).limit with
      | some t => if c.uioIsCurrentOut i && F32.lt t v then (t, true) else (v, false)
      | none => (v, false)
    let c := c.updAch i fun a => { a with drive := some d }
    let c := ((c.setUioBit i usDriveOn true).setUioBit i usLimited lim).setUioBit i usPass false
    (c.flagUio i usThermLimit hot 0x0706).setCompliance i

def Core.driveUios (c : Core) : Core := (List.range 24).foldl Core.driveUio c

/-- The staging word of a channel's command (R275). -/
def uioStage (i : Nat) : Nat := 0x3D80 + 0x40 * (i / 8) + i % 8

/-- A command is committed; that of a channel not in an output mode is ignored (R275). -/
def Core.commitUio (c : Core) (i v : Nat) : Core :=
  if !c.uioIsOut i then c
  else (c.wr (Od.PI_UIO_OUT i) v).updAch i fun a => { a with off := false }

/-- What the commit of UG.OUT_CG does beside the commands: acknowledgements, the return of a group, and contact with the
front ends of IOUT_PASSIVE (R280, R281, R284). -/
def Core.commitUg (c : Core) (u : Nat) : Core :=
  let c := if c.ugLow u then c else c.updUio fun x => { x with ugWait := x.ugWait.filter (· != u) }
  (List.range 8).foldl (fun c j =>
    let i := 8 * u + j
    let c := if c.uio.acks.contains i then ((c.setUioBit i usFail false).releaseUnit (unitUio i)).releaseUnit (unitUg u) else c
    let c := c.updUio fun x => { x with acks := x.acks.filter (· != i) }
    let c := c.updAch i fun a => { a with contact := a.contact || (a.looped && !c.ugLow u) }
    c.driveUio i) c

/-! ## Detections -/

/-- UIO_OPEN_WIRE_CHECK (R271). -/
def Core.uioOpenCheck (c : Core) (i : Nat) (failed : Bool) : Core :=
  let m := c.uioMode i
  if !c.uioLive i || !c.uioOpenEn i || m < 7 || 9 < m then c
  else if failed then (c.updAch i fun a => { a with passes := 0 }).flagUio i usOpenWire true 0x0701
  else
    let c := c.updAch i fun a => { a with passes := a.passes + 1 }
    if 2 ≤ (c.ach i).passes then c.flagUio i usOpenWire false 0x0701 else c

/-- TRANSMITTER_SHORT (R272). -/
def Core.transmitterShort (c : Core) (i : Nat) (on : Bool) : Core :=
  if c.uioLive i && c.uioMode i == 2 then c.flagUio i usShort on 0x0702 else c

/-- NAMUR_FAULT: open wire or short, set after 10 ms in the condition and cleared after 10 ms out of it (R273). -/
def Core.namurFault (c : Core) (i : Nat) (short on : Bool) : Core :=
  if !c.uioLive i || c.uioMode i != 10 || !c.uioOpenEn i then c
  else if short then c.flagUio i usShort on 0x0702
  else c.flagUio i usOpenWire on 0x0701

/-- The headroom is measured while a current stage drives (R279). -/
def Core.uioDriving (c : Core) (i : Nat) : Bool := c.uioLive i && c.uioIsCurrentOut i && c.uioBit i usDriveOn

/-- COMPLIANCE: 1 ms below 1.0 V, or 10 ms at 1.2 V or more. -/
def Core.complianceChange (c : Core) (i : Nat) (low : Bool) : Core :=
  if low && !c.uioDriving i || !c.uioLive i || !c.uioIsCurrentOut i then c
  else
    let c := if low && !(c.ach i).headLow then c.log1 0x0703 i else c
    (c.updAch i fun a => { a with headLow := low }).setCompliance i

/-- FAIL_ACTIVE: 100 ms without headroom. -/
def Core.failActive (c : Core) (i : Nat) : Core :=
  if !c.uioDriving i || c.uioBit i usFail then c
  else
    let c := ((c.updAch i fun a => { a with headLow := true }).setCompliance i).setUioBit i usFail true
    ((c.inc32 (Od.UIO_FAILS i)).driveUio i).uioFaulted 0x0704 i

/-- PASSIVE_CONTACT_LOSS: no update for 10 ms, or the loop voltage is lost (R281). -/
def Core.contactLoss (c : Core) (i : Nat) (loopLost : Bool) : Core :=
  if !(decide (i < c.uioCount) && c.uioMode i == 6) then c
  else
    let c := c.updAch i fun a => { a with contact := false, looped := a.looped && !loopLost }
    (if loopLost then c.flagUio i usOpenWire true 0x0701 else c).driveUio i

/-- PASSIVE_START_UP: the front end starts in its stored off state until a command arrives. -/
def Core.passiveStart (c : Core) (i : Nat) : Core :=
  if !(decide (i < c.uioCount) && c.uioMode i == 6) then c
  else
    let c := c.updAch i fun a => { a with looped := true, contact := false }
    (c.flagUio i usOpenWire false 0x0701).driveUio i

/-- The thermal limit at a junction temperature: 24 mA × (155 °C − Tj) / 15 K (R282). -/
def thermalLimit (tj : Nat) : Nat := F32.div (F32.mul (F32.ofNat 24) (F32.sub (F32.ofNat 155) tj)) (F32.ofNat 15)

/-- The modes whose current the limit acts on. -/
def Core.uioThermal (c : Core) (i : Nat) : Bool := c.uioLive i && (c.uioMode i == 2 || c.uioIsCurrentOut i)

/-- THERMAL_LIMIT at junction temperature `tj`, above 140 °C. -/
def Core.thermalLimited (c : Core) (i tj : Nat) : Core :=
  if !c.uioThermal i || !F32.lt (F32.ofNat 140) tj then c
  else (c.updAch i fun a => { a with limit := some (thermalLimit tj) }).driveUio i

/-- THERMAL_OFF at 155 °C. -/
def Core.thermalOff (c : Core) (i : Nat) : Core :=
  if !c.uioLive i || c.uioMode i = 0 || c.uioBit i usThermOff then c
  else ((c.setUioBit i usThermOff true).driveUio i).uioFaulted 0x0707 i

/-- UIO_THERMAL_RESTART: below 135 °C the channel returns; at or below 140 °C the limit ends. -/
def Core.thermalRestart (c : Core) (i tj : Nat) : Core :=
  if !c.uioLive i then c
  else
    let c := if F32.lt tj (F32.ofNat 135) then c.setUioBit i usThermOff false else c
    let l : Option Nat := if F32.lt (F32.ofNat 140) tj then some (thermalLimit tj) else none
    (c.updAch i fun a => { a with limit := if a.limit.isSome then l else none }).driveUio i

/-- VOUT_SHORT (R283). -/
def Core.voutShort (c : Core) (i : Nat) (on : Bool) : Core :=
  if c.uioLive i && c.uioMode i == 4 then c.flagUio i usShort on 0x0702 else c

/-- The channels of a group. -/
def ugChans (u : Nat) : List Nat := (List.range 8).map fun j => 8 * u + j

/-- UG_SUPPLY_LOW (R284): the recovery in progress ends, and the first dip turns the group's outputs off. -/
def Core.ugSupplyLow (c : Core) (u : Nat) : Core :=
  if !c.clk.running || c.uioCount ≤ 8 * u then c
  else
    let low := c.ugLow u
    let c := (c.setBit (Od.UG_STATUS u) 0 true).setBit (Od.UG_STATUS u) 1 false
    let c := c.updUio fun x => { x with
      ugWait := x.ugWait.filter (· != u) ++ [u], ugStart := x.ugStart.filter (·.1 != u) }
    if low then c else (((ugChans u).foldl Core.driveUio c).fault 0x0708 (unitUg u) u (c.fresh 32)).used 1

/-- UG_SUPPLY_RECOVERED: regulation is back (`done` false: STARTING), and has lasted 100 ms (`done` true). -/
def Core.ugRecovered (c : Core) (u : Nat) (done : Bool) : Core :=
  if !c.clk.running || !c.ugLow u then c
  else
    let start : Nat := ((c.uio.ugStart.find? (·.1 == u)).map (·.2)).getD c.clk.cyc
    let c := (c.setBit (Od.UG_STATUS u) 1 true).updUio fun x => { x with
      ugStart := x.ugStart.filter (·.1 != u) ++ [(u, start)] }
    if !done then c
    else
      let c := c.atCyc (start + ms 100)
      let c := c.updUio fun x => { x with ugStart := x.ugStart.filter (·.1 != u) }
      ((c.setBit (Od.UG_STATUS u) 0 false).setBit (Od.UG_STATUS u) 1 false).log1 0x070C u

end Sys2Proof.Machine
end

