-- ==== Sys2Proof/Machine/Hart.lean ====
section
/-! DEFINITION. HART (R288 to R293): requests, responses, time-outs, identification, burst frames, and the configuration
of the universal channels taking effect. -/

namespace Sys2Proof.Machine

def HartChan.fresh : HartChan :=
  { req := none, ident := false, attempts := 0, fails := 0, lost := false, polled := none, frame := [],
    preambles := 0, retries := 0 }
def Core.hart (c : Core) (i : Nat) : HartChan := c.uio.hart.getD i HartChan.fresh
def Core.updHart (c : Core) (i : Nat) (f : HartChan → HartChan) : Core :=
  c.updUio fun x => { x with hart := updAt f x.hart i }

/-- HART.STATE; the router hears of BUSY being left (Table 12.1). -/
def Core.setHart (c : Core) (i st : Nat) : Core :=
  let was := c.rd (Od.HART_STATE i)
  let c := c.wr (Od.HART_STATE i) st
  if was = 3 ∧ st ≠ 3 then c.evPulse (466 + i) else c

/-- HART is on: a mode of Table 07.1 with HART, HART_EN, the tick generator running (R288). -/
def Core.hartOn (c : Core) (i : Nat) : Bool :=
  c.uioLive i && (c.ach i).cfg.testBit 18 && (c.uioIsCurrentIn i || c.uioIsCurrentOut i)

/-- It transacts on an output channel only while DRIVE_ON is 1. -/
def Core.hartCan (c : Core) (i : Nat) : Bool := c.hartOn i && (!c.uioIsOut i || c.uioBit i usDriveOn)

/-! ## Frames -/

/-- The fields of a frame on the wire: short or long address, command, byte count and the bytes after it. -/
structure HartFrame where
  long : Bool
  addr : Nat
  cmd : Nat
  count : Nat
  data : Bytes
  checkOk : Bool
deriving DecidableEq, Repr

/-- The check byte: the exclusive-or of all bytes before it (R289). -/
def xorAll (b : Bytes) : Byte := b.foldl (· ^^^ ·) 0

/-- A frame from its delimiter to its check byte. -/
def hartParse (f : Bytes) : HartFrame :=
  let long := (leAt f 0 1).testBit 7
  let a := if long then 5 else 1
  let n := leAt f (2 + a) 1
  ⟨long, beAt f 1 a, leAt f (1 + a) 1, n, slice f (3 + a) n,
    f.length == 4 + a + n && xorAll (f.take (f.length - 1)) == f.getLastD 0⟩

/-- The frame carries the address of the configured device: the address bits below the master and burst bits. -/
def Core.hartFrom (c : Core) (i : Nat) (f : HartFrame) : Bool :=
  if f.long then f.addr % 2 ^ 38 == c.rd (Od.HART_UNIQUE_ID i) % 2 ^ 38
  else f.addr % 2 ^ 6 == c.rd (Od.HART_POLL_ADDR i) % 2 ^ 6

/-- The frame answers a request: it has its form and carries its address. -/
def hartAnswers (request f : HartFrame) : Bool :=
  f.long == request.long && f.addr % 2 ^ (if f.long then 38 else 6) == request.addr % 2 ^ (if f.long then 38 else 6)

/-- The address bytes of a request: the polling or the long-frame address below the master bit, which is 1 from a primary
master (R288; log entry 196). -/
def Core.hartAddr (c : Core) (i : Nat) (short : Bool) : Bytes :=
  let primary := 1 - c.rd (Od.HART_MASTER i)
  if short then beBytes 1 (primary * 2 ^ 7 + c.rd (Od.HART_POLL_ADDR i) % 2 ^ 6)
  else beBytes 5 (primary * 2 ^ 39 + c.rd (Od.HART_UNIQUE_ID i) % 2 ^ 38)

/-- The frame of a request of Table 07.8, from its delimiter to its check byte (R289). -/
def Core.hartBuild (c : Core) (i : Nat) (req : Bytes) : Bytes :=
  let short := (leAt req 0 1).testBit 0
  let body := leBytes 1 (if short then 0x02 else 0x82) ++ c.hartAddr i short ++ req.drop 1
  body ++ [xorAll body]

/-- The request in progress goes out behind its preambles, once the loop is silent (R289). -/
def Core.hartSend (c : Core) (i : Nat) : Core :=
  c.emit (.hart i (List.replicate (c.hart i).preambles 0xFF ++ (c.hart i).frame))

/-- A transaction begins with its first attempt, as configured now (R289, R296). -/
def Core.hartBegin (c : Core) (i : Nat) (req : Bytes) (ident : Bool) : Core :=
  (c.updHart i fun h => { h with
    req := some req, ident := ident, attempts := 1, frame := c.hartBuild i req
    preambles := c.rd (Od.HART_PREAMBLES i), retries := c.rd (Od.HART_RETRY_MAX i) }).hartSend i

/-- The layout of Table 07.9. -/
def hartRsp (result cmd count code dev attempts stamp : Nat) (data : Bytes) : Bytes :=
  leBytes 1 result ++ leBytes 1 cmd ++ leBytes 1 count ++ leBytes 1 code ++ leBytes 1 dev ++ leBytes 1 attempts ++
    zeros 2 ++ leBytes 8 stamp ++ data

/-- A valid frame in that layout, received at the present station time. -/
def Core.hartValid (c : Core) (f : HartFrame) (attempts : Nat) : Bytes :=
  hartRsp 1 f.cmd f.count (leAt f.data 0 1) (leAt f.data 1 1) attempts c.clk.now (f.data.drop 2)

/-- The device status byte of a valid frame: HART.DEV_STATUS and the DEVICE flag (R292). -/
def Core.deviceStatus (c : Core) (i : Nat) (f : HartFrame) : Core :=
  let d := leAt f.data 1 1
  (c.wr (Od.HART_DEV_STATUS i) d).flagUio i usDevice (d.testBit 7) 0x070B

/-! ## Transactions -/

/-- A transaction of the user ends without a response: RESULT 2 to 5. What the other fields then hold is open. -/
def Core.hartEnd (c : Core) (i result : Nat) : Core :=
  let rsp := hartRsp result (c.fresh 8) 0 (Config.freeNat (c.free + 1) % 256) (Config.freeNat (c.free + 2) % 256)
    (min 8 (c.hart i).attempts) (Config.freeNat (c.free + 3) % 2 ^ 64) []
  let c := ((c.used 4).setDom (Od.HART_RSP i) rsp).inc32 (Od.HART_TRANSACTIONS i)
  (c.updHart i fun h => { h with req := none, ident := false, attempts := 0 }).setHart i 2

/-- IDENTIFYING is entered. -/
def Core.hartIdentify (c : Core) (i : Nat) : Core :=
  (c.updHart i fun h => { h with req := none, ident := false, attempts := 0, polled := none }).setHart i 1

/-- A transaction in progress ends with RESULT 4 (R291, R298). -/
def Core.hartCancel (c : Core) (i : Nat) : Core :=
  if c.rd (Od.HART_STATE i) = 3 then c.hartEnd i 4 else c

/-- HART becomes effective on a channel, or ends on it (R290). -/
def Core.hartStart (c : Core) (i : Nat) : Core :=
  let c := c.updHart i fun _ => HartChan.fresh
  if !c.hartOn i then
    let c := c.setHart i 0
    if (c.ach i).cfg.testBit 18 then c else c.setUioBit i usDevice false
  else if c.rd (Od.HART_AUTO_ID i) = 1 then c.hartIdentify i
  else c.setHart i 2

/-- A configuration takes effect at a boundary: the stored off state of IOUT_PASSIVE, the flags of the old mode, and HART
(R260, R281, R298). -/
def Core.applyUioCfg (c : Core) (i : Nat) : Core :=
  let new := c.rd (Od.UIO_CFG i)
  if (c.ach i).cfg = new then c
  else
    let c := c.hartCancel i
    let passive := field new 0 4 == 6
    let c := c.updAch i fun a => { a with
      cfg := new, sd := [], flags := 0, y := none, band := 3, passes := 0, on := false, headLow := false
      cell := if passive then new.testBit 21 else a.cell }
    let keep := c.rd (Od.UIO_STATUS i) &&& 0x2880
    let c := c.wr (Od.UIO_STATUS i) keep
    let c := c.evLevel (113 + i) (c.uioFault i)
    (c.hartStart i).driveUio i

/-- The universal channels at a boundary: new configurations, and the stages under the parameters now in effect (R260,
R276). -/
def Core.applyUioCfgs (c : Core) : Core := ((List.range c.uioCount).foldl Core.applyUioCfg c).driveUios

/-- HART on output channels whose DRIVE_ON has become 0 ends its transaction (R298). -/
def Core.hartDrives (c : Core) : Core :=
  (List.range c.uioCount).foldl (fun c i =>
    if c.rd (Od.HART_STATE i) = 3 && c.uioIsOut i && !c.uioBit i usDriveOn then c.hartCancel i else c) c

/-- An accepted HART.REQ: the transaction starts, or ends with RESULT 5 where a long frame has no device address. -/
def Core.hartRequest (c : Core) (i : Nat) (req : Bytes) : Core :=
  if !(leAt req 0 1).testBit 0 && c.rd (Od.HART_UNIQUE_ID i) == 0 then
    ((c.updHart i fun h => { h with req := some req, ident := false, attempts := 1 }).setHart i 3).hartEnd i 5
  else (c.hartBegin i req false).setHart i 3

/-- HART.AUTO_ID is written FALSE: a channel that identifies takes HART.UNIQUE_ID as written and is READY at once (R290). -/
def Core.hartManual (c : Core) (i : Nat) : Core :=
  if c.rd (Od.HART_STATE i) = 1 then
    (c.updHart i fun h => { h with req := none, ident := false, attempts := 0 }).setHart i 2
  else c

/-- A failed attempt (R289, R290): `result` 2 for a time-out, 3 for a parity or check error. The request is repeated up to
HART.RETRY_MAX times, one of identification too. -/
def Core.hartFailed (c : Core) (i result : Nat) : Core :=
  let h := c.hart i
  let max := h.retries
  let c := (c.inc32 (Od.HART_ERRORS i)).updHart i fun h => { h with fails := h.fails + 1 }
  let c := if max + 1 ≤ (c.hart i).fails && !h.lost then
      (c.updHart i fun h => { h with lost := true }).log1 0x070A i else c
  if h.attempts ≤ max then (c.updHart i fun h => { h with attempts := h.attempts + 1 }).hartSend i
  else if h.ident then c.updHart i fun h => { h with req := none, ident := false, attempts := 0 }
  else
    let c := c.hartEnd i result
    if max + 1 ≤ (c.hart i).fails && c.rd (Od.HART_AUTO_ID i) == 1 && (c.hart i).req.isNone then c.hartIdentify i else c

/-- Communication works: its recovery is recorded once (R290). -/
def Core.hartHeard (c : Core) (i : Nat) : Core :=
  let lost := (c.hart i).lost
  let c := c.updHart i fun h => { h with fails := 0, lost := false }
  if lost then c.log1 0x070A i else c

/-- A valid frame of the configured device (R292). -/
def Core.hartHears (c : Core) (i : Nat) (f : HartFrame) : Bool := f.checkOk && decide (2 ≤ f.count) && c.hartFrom i f

/-- HART_RESPONSE_RX: a response heard, with its parity checked. One that answers no request in progress still updates the
device status (R292). -/
def Core.hartResponse (c : Core) (i : Nat) (bytes : Bytes) (parityOk : Bool) : Core :=
  let h := c.hart i
  let f := hartParse bytes
  if !c.hartOn i then c
  else if !c.hartCan i || h.req.isNone then
    if parityOk && c.hartHears i f then c.deviceStatus i f else c
  else if !parityOk || !f.checkOk || f.count < 2 then c.hartFailed i 3
  else if !hartAnswers (hartParse h.frame) f then
    if c.hartHears i f then c.deviceStatus i f else c
  else if h.ident then
    let c := (c.wr (Od.HART_UNIQUE_ID i) (Config.hartAddress (f.data.drop 2) % 2 ^ 40)).deviceStatus i f
    ((c.updHart i fun h => { h with req := none, ident := false, attempts := 0 }).hartHeard i).setHart i 2
  else
    let c := (c.setDom (Od.HART_RSP i) (c.hartValid f h.attempts)).inc32 (Od.HART_TRANSACTIONS i)
    let c := (c.deviceStatus i f).hartHeard i
    (c.updHart i fun h => { h with req := none, attempts := 0 }).setHart i 2

/-- HART_TIMEOUT: no response begun 256 ms after the end of a request. -/
def Core.hartTimeout (c : Core) (i : Nat) : Core :=
  if c.hartOn i && (c.hart i).req.isSome then c.hartFailed i 2 else c

/-- HART_BURST_RX (R292); ATTEMPTS of a burst frame is open. -/
def Core.hartBurst (c : Core) (i : Nat) (bytes : Bytes) : Core :=
  let f := hartParse bytes
  if !c.hartOn i || !c.hartHears i f then c
  else (((c.setDom (Od.HART_BURST i) (c.hartValid f (c.fresh 8))).used 1).inc32 (Od.HART_BURST_COUNT i)).deviceStatus i f

/-- HART_OTHER_MASTER_FRAME_RX (R292). -/
def Core.hartOther (c : Core) (i : Nat) (bytes : Bytes) : Core :=
  let f := hartParse bytes
  if !c.hartOn i || !c.hartHears i f then c else c.deviceStatus i f

/-- The request of identification: command 0 as a short frame. -/
def hartIdentReq : Bytes := [1, 0, 0]

/-- HART_IDENTIFY_POLL: every 5 s while IDENTIFYING (R290). -/
def Core.hartPoll (c : Core) (i : Nat) : Core :=
  if !c.hartCan i || c.rd (Od.HART_STATE i) != 1 then c
  else
    let c := match (c.hart i).polled with | some t => c.atCyc (t + ms 5000) | none => c
    (c.hartBegin i hartIdentReq true).updHart i fun h => { h with polled := some c.clk.cyc }

end Sys2Proof.Machine
end

