-- ==== Sys2Proof/Machine/Remote.lean ====
section
/-! DEFINITION. Remote I/O stations (R195 to R200, R386 to R389): input images at their controller, their state, and the
output image at the remote station. -/

namespace Sys2Proof.Machine

/-- The CRC of the images of Tables 10.8 and 10.9 (R387): the last four bytes, over all before them. -/
def imageCrcOk (img : Bytes) : Bool :=
  beAt img (img.length - 4) 4 == crc32c 0xFFFFFFFF (img.take (img.length - 4))

/-- The header of R386: KIND, VERSION and LEN, which agrees with the frame. -/
def headerOk (kind : Nat) (img : Bytes) (len : Nat) : Bool :=
  beAt img 0 1 == kind && beAt img 1 1 == 1 && beAt img 2 2 == len && img.length == len + 4

def Core.setRsFlag (c : Core) (s i : Nat) (b : Bool) : Core := c.setBit (Od.RS_FLAGS s) i b

def Core.remote? (c : Core) (s : Nat) : Option Remote := c.prog.remotes.find? (·.num == s)

def Core.updRemote (c : Core) (s : Nat) (f : Remote → Remote) : Core :=
  c.updProg fun p => { p with remotes := p.remotes.map fun r => if r.num == s then f r else r }

def Core.rsOnline (c : Core) (s : Nat) : Bool := c.rd (Od.RS_STATE s) == 2

/-- The station becomes OFFLINE (R196, R197). -/
def Core.remoteOffline (c : Core) (s : Nat) : Core :=
  if !c.rsOnline s then c
  else
    let c := ((c.wr (Od.RS_STATE s) 3).setRsFlag s 0 false).setBit Od.RIO_ONLINE s false
    let c := c.updRemote s fun r => { r with left := some (c.rd Od.TICK_COUNT), misses := 0 }
    (c.inc32 (Od.RS_DROPOUTS s)).log 0x0505

/-- The station becomes ONLINE; the record is written when it returns (R197). -/
def Core.remoteOnline (c : Core) (s : Nat) : Core :=
  let back := c.rd (Od.RS_STATE s) == 3
  let c := ((c.wr (Od.RS_STATE s) 2).setRsFlag s 0 true).setBit Od.RIO_ONLINE s true
  let c := c.updRemote s fun r => { r with cycleFrom := c.rd Od.TICK_COUNT, got := true, misses := 0 }
  if back then c.log 0x0506 else c

/-- The image enters the next snapshot (R26). -/
def Core.remoteTake (c : Core) (s net : Nat) (img : Bytes) : Core :=
  c.updRemote s fun r => { r with waiting := r.waiting ++ [(c.clk.now, net, img)], got := true, misses := 0 }

/-- A discarded image: IDENT_MISMATCH says whether it carried another identity (Table 05.12). -/
def Core.remoteDiscard (c : Core) (s : Nat) (img : Bytes) : Core :=
  c.setRsFlag s 4 (beAt img 4 4 != c.rd (Od.RS_IDENT s))

/-- A valid image with the station's identity. -/
def Core.remoteValid (c : Core) (s net : Nat) (img : Bytes) : Core :=
  let flags := beAt img 9 1
  let run := beAt img 0xA 1 == 2
  let c := c.updRemote s fun r => { r with seen := some (beAt img 0xC 8) }
  let c := (((c.setRsFlag s 2 (flags.testBit 1)).setRsFlag s 7 (flags.testBit 2)).setRsFlag s 5 (net == 1)).setRsFlag s 6 (net == 2)
  let c := c.setRsFlag s 3 (!run)
  if flags.testBit 0 then c.remoteOffline s
  else if c.rsOnline s then c.remoteTake s net img
  else if run then (c.remoteOnline s).remoteTake s net img
  else c

/-- REMOTE_INPUT_IMAGE_RX on network `net` (1 A, 2 B). -/
def Core.remoteInputRx (c : Core) (net : Nat) (img : Bytes) : Core :=
  if !c.clk.running || c.roleFuse == 1 || c.roleFuse == 3 then c
  else if !headerOk 1 img 0x200 then c.inc32 (Od.NET_RX_ERRORS (net - 1))
  else
    let s := beAt img 8 1
    match c.remote? s with
    | none => c
    | some r =>
      if !(c.rd (Od.RS_NETWORK s)).testBit (net - 1) then c
      else if !imageCrcOk img || beAt img 4 4 != c.rd (Od.RS_IDENT s) then c.remoteDiscard s img
      else if r.seen == some (beAt img 0xC 8) then c
      else c.remoteValid s net img

/-- The test of one station's cycles at the boundary that begins tick `n` (R196). -/
def Core.missTest (c : Core) (n : Nat) (r : Remote) : Core :=
  let s := r.num
  if n < r.cycleFrom + c.rd (Od.RS_CYCLE s) then c
  else
    let c := c.updRemote s fun r => { r with cycleFrom := n, got := false, misses := if r.got then 0 else r.misses + 1 }
    if r.got || !c.rsOnline s then c
    else
      let c := c.inc32 (Od.RS_MISSED s)
      if c.rd Od.RIO_MISS_LIMIT ≤ r.misses + 1 then c.remoteOffline s else c

/-- The miss-limit test of every station, at the boundary before the latch. -/
def Core.missTests (c : Core) (n : Nat) : Core := c.prog.remotes.foldl (fun c r => c.missTest n r) c

/-- REMOTE_MISS_LIMIT: the test of one station at the coming boundary, made before the latch of that boundary. -/
def Core.remoteMissLimit (c : Core) (s : Nat) : Core :=
  match c.remote? s with
  | none => c
  | some r => if !c.clk.running || !c.rsOnline s then c else (c.atTime c.clk.nextB).missTest (c.rd Od.TICK_COUNT + 1) r

/-- The flags that the remote station's quality words give a mapped input (R191): those of the channel or counter whose
value holds the bit. -/
def remoteFlags (img : Bytes) (e : InEntry) : Nat :=
  let b := e.ofs / 8
  if b < 8 then
    let ch := 8 * (7 - b) + e.ofs % 8
    if ch < 48 then beAt img (0x20 + 2 * ch) 2 &&& 0x3FFE else 0
  else if 0x68 ≤ b ∧ b < 0xC8 then beAt img (0xE0 + 2 * ((b - 0x68) / 4)) 2 &&& 0x3FFE
  else if 0xF8 ≤ b ∧ b < 0x118 then beAt img (0x130 + 2 * ((b - 0xF8) / 4)) 2 &&& 0x3FFE
  else 0

/-- One station's part of the snapshot latched at station time `b` (R26, R197). -/
def Core.remoteLatch (c : Core) (b : Nat) (r : Remote) : Core :=
  let s := r.num
  let ready := r.waiting.filter fun w => decide (w.1 < b)
  let online := c.rsOnline s
  let c := c.updRemote s fun r => { r with waiting := r.waiting.filter fun w => !decide (w.1 < b) }
  let c : Core := match ready.getLast? with
    | none => if (c.dom (Od.RS_IN_IMAGE s)).isEmpty then c else c.incSat 65535 (Od.RS_AGE s)
    | some (_, _, img) =>
      let n := ready.length - 1
      let c := (c.addW 32 (Od.RS_SUPERSEDED s) n).addW 32 Od.RIO_SUPERSEDED n
      let c := ({ c with creel := c.creel.write (remoteAddr s) img }).unpoison (remoteAddr s) img.length
      let c := ((c.setDom (Od.RS_IN_IMAGE s) img).wr (Od.RS_LAST_TICK s) (beAt img 0xC 8)).wr (Od.RS_AGE s) 0
      let c := if online then (c.setRsFlag s 1 false).setBit Od.RIO_STALE s false else c
      c.deliverSource 1 s (img.drop 0x18) fun e => putBit (remoteFlags img e) qStale false
  if c.rd (Od.RS_STATE s) = 3 then
    ((c.setRsFlag s 1 true).setBit Od.RIO_STALE s true).flagSource 1 s qStale
  else c

/-- The remote images of a snapshot. -/
def Core.remoteLatches (c : Core) (b : Nat) : Core := c.prog.remotes.foldl (fun c r => c.remoteLatch b r) c

/-- Every link on which a station is reached directly is lost: it becomes OFFLINE in the next core cycle (R196). -/
def Core.remoteLinksLost (c : Core) : Core :=
  let lost := c.rd Od.NET_LINK_LOST_MASK
  c.prog.remotes.foldl (fun c r =>
    let n := c.rd (Od.RS_NETWORK r.num)
    if n &&& lost = n then c.remoteOffline r.num else c) c

/-! ## The remote station's side (R199, R388) -/

/-- The image is one this station applies. -/
def Core.outputImageOk (c : Core) (img : Bytes) : Bool :=
  let src := beAt img 4 4
  src != 0 && (src == c.rd Od.RSTA_CTRL_ID1 || src == c.rd Od.RSTA_CTRL_ID2) &&
    beAt img 8 1 == c.rd Od.RSTA_NUMBER && (beAt img 9 1).testBit 0 && imageCrcOk img

/-- REMOTE_OUTPUT_IMAGE_RX: a valid image waits for the output commits; a second copy is discarded (R389). -/
def Core.remoteOutputRx (c : Core) (net : Nat) (img : Bytes) : Core :=
  if !c.clk.running || c.roleFuse != 1 || c.rd Od.RSTA_NUMBER == 0xFF then c
  else if !headerOk 2 img 0x80 then c.inc32 (Od.NET_RX_ERRORS (net - 1))
  else if !c.outputImageOk img then c
  else
    let id := (beAt img 4 4, beAt img 0xC 8)
    if c.prog.outputs.seen == some id then c
    else c.updProg fun p => { p with
      outputs := { image := some (c.clk.now, img), seen := some id, quiet := 0, todo := List.range 8, reactDue := false } }

/-- One own tick passes without a valid image (R199). -/
def Core.watchTick (c : Core) : Core :=
  if c.roleFuse != 1 then c
  else c.updProg fun p => { p with outputs := { p.outputs with quiet := p.outputs.quiet + 1 } }

/-- RSTA_WATCHDOG_EXPIRY: the reactions of Table 05.6 are due at the next output commit. -/
def Core.watchdogExpiry (c : Core) : Core :=
  if c.clk.running && c.roleFuse == 1 && c.rd Od.RSTA_STATE == 1 && !c.prog.outputs.reactDue &&
      decide (c.rd Od.RSTA_WATCHDOG ≤ c.prog.outputs.quiet) then
    (c.updProg fun p => { p with
      outputs := { p.outputs with image := none, todo := List.range 8, reactDue := true } }).inc32 Od.RSTA_WD_EXPIRIES
  else c

/-- The output side starts, or starts anew: state WAITING, and the reactions at its next commits (R200). -/
def Core.outputsRestart (c : Core) : Core :=
  if c.roleFuse != 1 then c
  else
    (c.updProg fun p => { p with
      outputs := { image := none, seen := none, quiet := 0, todo := List.range 8, reactDue := true } }).wr Od.RSTA_STATE 0

end Sys2Proof.Machine
end

