-- ==== Sys2Proof/Machine/NetPorts.lean ====
section
/-! DEFINITION. The ports and the switch of each station network (R366 to R371, R376, R377): speeds, forwarding, the egress
queues, the transparent clock's corrections, media redundancy and link loss. Networks A and B are 0 and 1, the two ports
of each 0 and 1. -/

namespace Sys2Proof.Machine

def Ptp.fresh : Ptp := ⟨[], none, 0, none, [none, none], none, none, 0, 0, 0, 0, 0, 0⟩
def Port.fresh : Port := ⟨0, 0, [], 0⟩
def NetSide.fresh : NetSide := ⟨[Port.fresh, Port.fresh], [], [], none, [], Ptp.fresh⟩

def Core.updNet (c : Core) (f : Net → Net) : Core := { c with net := f c.net }
def Core.side (c : Core) (n : Nat) : NetSide := c.net.sides.getD n NetSide.fresh
def Core.updSide (c : Core) (n : Nat) (f : NetSide → NetSide) : Core :=
  c.updNet fun x => { x with sides := updAt f x.sides n }
def Core.port (c : Core) (n p : Nat) : Port := (c.side n).ports.getD p Port.fresh
def Core.updPort (c : Core) (n p : Nat) (f : Port → Port) : Core :=
  c.updSide n fun x => { x with ports := updAt f x.ports p }

/-! ## Ports -/

/-- PORT1_SPEED, PORT2_SPEED: 0 down, 1 100BASE-TX, 2 1000BASE-T (Table 10.14). -/
def Core.portSpeed (c : Core) (n p : Nat) : Nat := c.fld (Od.NET_STATUS n) (2 * p) 2
def Core.portUp (c : Core) (n p : Nat) : Bool := c.portSpeed n p != 0

/-- LOST: both ports down. -/
def Core.netLost (c : Core) (n : Nat) : Bool := c.bit (Od.NET_STATUS n) 4

/-- The time of one byte on the wire in ns. -/
def byteNs (speed : Nat) : Nat := if speed = 2 then 8 else 80

/-- The length of a frame with its check sequence, from its length without: at least 64 bytes. -/
def frameLen (n : Nat) : Nat := max n 60 + 4

/-- From the start of the preamble to the end of the interframe gap, in ns; and from the delimiter. -/
def wireNs (speed len : Nat) : Nat := (8 + len + 12) * byteNs speed
def sfdNs (speed len : Nat) : Nat := (1 + len + 12) * byteNs speed
def preambleNs (speed : Nat) : Nat := 7 * byteNs speed

/-! ## Forwarding database (R367) -/

/-- A group address has the lowest bit of its first byte set. -/
def isGroup (mac : Nat) : Bool := mac.testBit 40

def fdbSize : Nat := 1024

/-- A source address is learnt or refreshed; a full database learns no new one. -/
def Core.learn (c : Core) (n mac p : Nat) : Core :=
  if isGroup mac then c
  else c.updSide n fun x =>
    let rest := x.fdb.filter (·.mac != mac)
    if rest.length < fdbSize then { x with fdb := rest ++ [⟨mac, p, c.clk.cyc⟩] } else x

/-- The ports on which a frame to an address goes out. -/
def Core.outPorts (c : Core) (n mac : Nat) : List Nat :=
  let ports := match (c.side n).fdb.find? (·.mac == mac) with
    | some e => if isGroup mac then [0, 1] else [e.port]
    | none => [0, 1]
  ports.filter (c.portUp n)

/-- FDB_ENTRY_AGEING: 300 s without a refresh. -/
def Core.fdbAge (c : Core) (n mac : Nat) : Core :=
  match (c.side n).fdb.find? (·.mac == mac) with
  | none => c
  | some e =>
    if !c.clk.running then c
    else (c.atCyc (e.cyc + ms 300000)).updSide n fun x => { x with fdb := x.fdb.filter (·.mac != mac) }

/-! ## Egress (R367, R379) -/

/-- The length on the wire of a payload with its addresses, EtherType and tag. -/
def Core.wireLen (c : Core) (payload : Nat) : Nat := frameLen (14 + payload + if c.rd Od.NET_VLAN = 0 then 0 else 4)

/-- The launch instants ahead on a port, with the frames' lengths: queued entries, and frames due in this tick that the
gating lets through (R379, R384). -/
def Core.launchesAt (c : Core) (n p : Nat) : List (Nat × Nat) :=
  let queued := (c.side n).launch.filter fun e => (c.outPorts n (beAt e.bytes 0 6)).contains p
  let due := c.net.ready.filter fun r =>
    r.nets.testBit n && c.classSends r.cls && (c.outPorts n r.dst).contains p
  queued.map (fun e => (e.time, frameLen e.bytes.length)) ++ due.map fun r => (r.time, c.wireLen r.len)

/-- A frame whose preamble begins at `s` keeps clear of every launch instant of the port (R379). -/
def Core.fits (c : Core) (n p s len : Nat) : Bool :=
  let sp := c.portSpeed n p
  (c.launchesAt n p).all fun e =>
    decide (s + wireNs sp len + preambleNs sp ≤ e.1) || decide (e.1 + sfdNs sp e.2 ≤ s)

/-- The better of two waiting frames: earlier start, then higher priority, then the one that came first. -/
def betterHeld (free : Nat) (a b : Held) : Bool :=
  let sa := max free a.since
  let sb := max free b.since
  decide (sb < sa) || (sa == sb && decide (a.prio < b.prio))

/-- The waiting frame of a port that goes next. -/
def Core.nextHeld (c : Core) (n p : Nat) : Option Held :=
  let x := c.port n p
  (x.queue.filter fun h => c.fits n p (max x.free h.since) h.len).foldl
    (fun best h => match best with | some b => if betterHeld x.free b h then some h else best | none => some h) none

/-- Waiting frames leave a port as long as it is free. -/
def Core.egress (c : Core) (n p : Nat) : Nat → Core
  | 0 => c
  | fuel + 1 =>
    let x := c.port n p
    if c.clk.now < x.free then c
    else match c.nextHeld n p with
      | none => c
      | some h =>
        let sp := c.portSpeed n p
        let s := max x.free h.since
        let c := c.updPort n p fun x => { x with free := s + wireNs sp h.len, queue := x.queue.erase h }
        (c.emit (.sent n p (s + preambleNs sp) h.what)).egress n p fuel

/-- Every port sends what it can. -/
def Core.egressAll (c : Core) : Core :=
  if !c.clk.running then c
  else [0, 1].foldl (fun c n => [0, 1].foldl (fun c p => c.egress n p (c.port n p).queue.length) c) c

/-- A frame waits at a port. -/
def Core.hold (c : Core) (n p : Nat) (h : Held) : Core := c.updPort n p fun x => { x with queue := x.queue ++ [h] }

/-- PCP to queue (R367). -/
def pcpQueue (pcp : Nat) : Nat := pcp / 2

/-- A frame of the host without a launch instant: its PCP, its destination, its length without check sequence. -/
def Core.hostSend (c : Core) (n pcp mac len : Nat) (what : Untimed) : Core :=
  if !c.clk.running then c
  else
    let tag := if c.rd Od.NET_VLAN = 0 then 0 else 4
    let q := if c.rd Od.NET_VLAN = 0 then 0 else pcpQueue pcp
    let c := (c.outPorts n mac).foldl (fun c p => c.hold n p ⟨q, c.clk.now, frameLen (len + tag), what⟩) c
    (c.inc64 (Od.NET_TX_FRAMES n)).egressAll

/-! ## Forwarding and the transparent clock (R367, R371) -/

/-- A frame's destination, source and EtherType, and the offset of its payload; a tag is passed over. -/
def frameDst (f : Bytes) : Nat := beAt f 0 6
def frameSrc (f : Bytes) : Nat := beAt f 6 6
def frameTagged (f : Bytes) : Bool := beAt f 12 2 == 0x8100
def frameType (f : Bytes) : Nat := if frameTagged f then beAt f 16 2 else beAt f 12 2
def frameBody (f : Bytes) : Nat := if frameTagged f then 18 else 14
def framePcp (f : Bytes) : Nat := if frameTagged f then field (beAt f 14 2) 13 3 else 0

/-- Where the PTP message of a frame lies, over IEEE 802.3 or UDP/IPv4 (Table 10.2). -/
def ptpOffset (f : Bytes) : Option Nat :=
  let o := frameBody f
  if frameType f = 0x88F7 then some o
  else if frameType f = 0x0800 ∧ beAt f (o + 9) 1 = 17 then
    let u := o + beAt f o 1 % 16 * 4
    if beAt f (u + 2) 2 = 319 ∨ beAt f (u + 2) 2 = 320 then some (u + 8) else none
  else none

/-- A correctionField with ns added (units of 2^-16 ns). -/
def addCorrection (f : Bytes) (o : Nat) (ns : Int) : Bytes :=
  splice f (o + 8) (beBytes 8 (ofInt 64 (toInt 64 (beAt f (o + 8) 8) + ns * 65536)))

/-- The peer delay of an ingress port in P2P mode. -/
def Core.peerDelay (c : Core) (n p : Nat) : Int :=
  if c.rd (Od.PTP_DELAY_MECH n) = 1 then
    match (c.side n).ptp.peer.getD p none with | some d => d.1 | none => 0
  else 0

/-- The transparent clock passes a PTP message from a port on: the message as it leaves, and its corrections noted. -/
def Core.transparent (c : Core) (n p : Nat) (f : Bytes) (residence : Nat) : Core × Bytes :=
  match ptpOffset f with
  | none => (c, f)
  | some o =>
    let type := beAt f o 1 % 16
    let twoStep := (beAt f (o + 6) 1).testBit 1
    let src := beAt f (o + 20) 10
    let seq := beAt f (o + 30) 2
    if type = 0 then
      let c := c.inc64 (Od.PTP_TC_FORWARDED n)
      if twoStep then
        (c.updSide n fun x => { x with
          residence := (x.residence.filter (·.1 != src)) ++ [(src, seq, residence)] }, f)
      else (c, addCorrection f o (residence + c.peerDelay n p))
    else if type = 8 then
      match (c.side n).residence.find? (fun r => r.1 == src && r.2.1 == seq) with
      | some r =>
        (c.updSide n fun x => { x with residence := x.residence.filter (· != r) },
          addCorrection f o (r.2.2 + c.peerDelay n p))
      | none => (c, f)
    else if type = 1 then
      (c.inc64 (Od.PTP_TC_FORWARDED n), addCorrection f o residence)
    else (c, f)

/-- A peer-delay message of P2P mode ends at its port. -/
def Core.peerMessage (c : Core) (n : Nat) (f : Bytes) : Bool :=
  c.rd (Od.PTP_DELAY_MECH n) == 1 && match ptpOffset f with
    | some o => [2, 3, 10].contains (beAt f o 1 % 16)
    | none => false

/-- FRAME_FORWARD: a frame received on a port, with or without a correct check sequence; `residence` is the measured time
between the ports. A frame with a wrong one passes only in cut-through mode. -/
def Core.frameForward (c : Core) (n p : Nat) (f : Bytes) (fcsOk : Bool) (residence : Nat) : Core :=
  if !c.clk.running || !c.portUp n p then c
  else
    let c := if fcsOk then c.learn n (frameSrc f) p else c.inc32 (Od.NET_RX_ERRORS n)
    let dst := frameDst f
    let own := dst == c.rd (Od.NET_MAC n)
    let c := if fcsOk && (own || isGroup dst) then c.inc64 (Od.NET_RX_FRAMES n) else c
    let cut := c.portSpeed n 0 == c.portSpeed n 1
    if own || c.peerMessage n f || (!fcsOk && !cut) || !(c.outPorts n dst).contains (1 - p) then c
    else
      let (c, f) := c.transparent n p f residence
      (c.hold n (1 - p) ⟨pcpQueue (framePcp f), c.clk.now, frameLen f.length, .forwarded f⟩).egressAll

/-! ## Link changes (R376, R377) -/

/-- LOST follows the ports; its change is recorded, is an event, and ends direct links (R196). -/
def Core.judgeLost (c : Core) (n : Nat) : Core :=
  let lost := !c.portUp n 0 && !c.portUp n 1
  if lost = c.netLost n then c
  else
    let c := ((c.setBit (Od.NET_STATUS n) 4 lost).setBit Od.NET_LINK_LOST_MASK n lost).logA 0x0A02 n (b2n lost)
    let c := c.evPulse (491 + n)
    if lost then c.remoteLinksLost else c

/-- PORT_LINK_CHANGE. Path delays measured before it count no more (R372). -/
def Core.portLink (c : Core) (n p speed : Nat) : Core :=
  if !c.alive || c.portSpeed n p = speed || 2 < speed then c
  else
    let was := c.portSpeed n p
    let c := (c.setFld (Od.NET_STATUS n) (2 * p) 2 speed).logA 0x0A01 (2 * n + p) speed
    let c := if speed = 0 then (c.inc32 (Od.NET_LINK_LOSSES n)).updPort n p fun x => { x with queue := [] }
      else c.updPort n p fun x => { x with free := c.clk.now, launchEnd := c.clk.now }
    let c := c.updPort n p fun x => { x with linkAt := c.clk.cyc }
    let c := c.judgeLost n
    if c.rd (Od.NET_MRP_EN n) = 1 && (was = 0 || speed = 0) then
      c.hostSend n 7 0x01154E000002 46 (.mrpLinkChange p (speed != 0))
    else c

/-- MRP_TOPOLOGY_CHANGE_RX: a flush after the stated interval. -/
def Core.mrpTopology (c : Core) (n intervalMs : Nat) : Core :=
  if !c.clk.running || c.rd (Od.NET_MRP_EN n) = 0 then c
  else (c.updSide n fun x => { x with flush := some (c.clk.cyc + ms intervalMs) }).log1 0x0A05 n

/-- MRP_FLUSH. -/
def Core.mrpFlush (c : Core) (n : Nat) : Core :=
  match (c.side n).flush with
  | none => c
  | some t => (c.atCyc t).updSide n fun x => { x with fdb := [], flush := none }

/-! ## ARP and ICMP echo (R368) -/

/-- ARP_REQUEST_RX: a request for the station's own address is answered. -/
def Core.arpRequest (c : Core) (n mac ip target : Nat) : Core :=
  let own := c.rd (Od.NET_IP_ADDR n)
  if !c.clk.running || own = 0 || target != own || c.netLost n then c
  else c.hostSend n 4 mac 42 (.arpReply mac ip)

/-- ICMP_ECHO_RX: an echo request, with its identifier, sequence number and data; a fragment is discarded. -/
def Core.icmpEcho (c : Core) (n mac ip target : Nat) (body : Bytes) (fragment : Bool) : Core :=
  let own := c.rd (Od.NET_IP_ADDR n)
  if !c.clk.running || own = 0 || target != own || c.netLost n || fragment then c
  else c.hostSend n 4 mac (14 + 20 + 4 + body.length) (.icmpReply mac ip body)

end Sys2Proof.Machine
end

