-- ==== Sys2Proof/Machine/Tick.lean ====
section
/-! DEFINITION. The tick and station time (chapter 01): the boundary's clock work, acquisition, the first lock, rate
correction, holdover, a change of source or period, and the re-step. -/

namespace Sys2Proof.Machine

/-- Table 01.1: the period in ns of a TICK.PERIOD code. -/
def tickNs : Nat → Nat
  | 0 => 62500 | 1 => 125000 | 2 => 250000 | 3 => 500000 | _ => 1000000

/-- The flags of TIME.FLAGS (Table 01.6). -/
def Core.setTimeFlag (c : Core) (i : Nat) (b : Bool) : Core := c.setBit Od.TIME_FLAGS i b

/-- TIME.HOLDOVER_S while TIME.STATE is HOLDOVER. -/
def Core.holdoverSeconds (c : Core) : Nat := (c.clk.cyc - c.clk.holdSince) / 1000000000

/-- TIME.STATE changes; the HOLDOVER flag follows it (Table 01.6), and TIME.HOLDOVER_S keeps the seconds of a HOLDOVER that
ends. -/
def Core.setTimeState (c : Core) (t : TimeState) : Core :=
  let c := if c.clk.state = .holdover ∧ t ≠ .holdover then c.wr Od.TIME_HOLDOVER_S c.holdoverSeconds else c
  ({ c with clk := { c.clk with state := t } }).setTimeFlag 3 (t == TimeState.holdover)

/-- Four consecutive valid offsets within 10 µs of each other complete an acquisition (R38). -/
def acqComplete (l : List Int) : Bool :=
  match l with
  | [a, b, c, d] => decide (max (max a b) (max c d) - min (min a b) (min c d) ≤ 10000)
  | _ => false

/-- The median of the four offsets (R40); where the two middle ones have an odd sum the rounding is open (log entry 8). -/
def acqMedian (l : List Int) : Int :=
  match l with
  | [a, b, c, d] =>
    let hi := max (max a b) (max c d)
    let lo := min (min a b) (min c d)
    let s := a + b + c + d - hi - lo
    if s % 2 = 0 then s / 2 else
      let x := Config.medianOdd (min s 0) s
      if x = (s - 1) / 2 then (s - 1) / 2 else (s + 1) / 2
  | _ => 0

/-- The tick generator starts on entry to INIT (R24): station time is seeded in whole seconds from the vault's counter,
or at 0 (R37), and the first boundary is the first multiple of the period from there (R20). -/
def Core.startTicks (c : Core) (seed : Option Nat) : Core :=
  let t := (seed.getD 0) * 1000000000
  let p := tickNs (c.rd Od.TICK_PERIOD)
  let src := c.rd Od.TIME_SOURCE
  let c := { c with clk := { c.clk with
    now := t, running := true, startCyc := c.clk.cyc, nextB := ceilMul t p, schedEnd := ceilMul t p, tickStart := t,
    tickCyc := c.clk.cyc, acq := [], acqNet := 0, locked := false, stepDue := false, source := src, okRun := 0,
    rates := [(c.clk.cyc, 0)], lastValid := c.clk.cyc, state := if src = 0 then .free else .acquiring } }
  let c := (c.wr Od.TICK_PERIOD_NS p).wr Od.TICK_COUNT 0
  (c.setTimeFlag 4 seed.isSome).setTimeFlag 0 true

/-- The tick that begins at a step's boundary is stretched: its end is the smallest multiple of the period that is at
least the stepped time plus the period (R41). A change of period that waits for that end moves it to its own grid (R53). -/
def Core.stepTime (c : Core) (step : Int) : Core :=
  let now := ((c.clk.now : Int) + step).toNat
  let e := ceilMul (now + c.period) c.period
  let c := { c with
    clk := { c.clk with
      now := now, nextB := ceilMul e (tickNs (c.rd Od.TICK_PERIOD)), schedEnd := e, acq := [], stepDue := false, okRun := 0 }
    loops := { c.loops with stepped := true } }
  ((c.inc32 Od.TICK_STRETCHED).inc32 Od.TIME_STEP_COUNT).wr Od.TIME_LAST_STEP (ofInt 64 step)

/-- The vault's counter is written from station time (R528). -/
def Core.writeRtc (c : Core) : Core :=
  if c.ply.unvoted.isSome then c
  else { c with vault := { c.vault with
    rtc := c.clk.now * 32768 / 1000000000, vstatus := putBit c.vault.vstatus 0 true } }

/-- The first lock, at a boundary (R40, and the merge with a re-step request of R53). -/
def Core.firstLock (c : Core) : Core :=
  let step := acqMedian c.clk.acq
  let c := (c.stepTime step).logStep 0x0101 step
  let c := (({ c with clk := { c.clk with locked := true, lastValid := c.clk.cyc } }).setTimeState .locked).setTimeFlag 0 false
  let c := if c.run = .run ∨ c.run = .hold ∨ c.run = .safe then c.setTimeFlag 5 true else c
  let c := if c.bit Od.TIME_FLAGS 6 then (c.setTimeFlag 6 false).setTimeFlag 1 false else c
  let c := if c.run = .init then { c with pwr := { c.pwr with acqOver := true } } else c
  c.writeRtc

/-- A re-step, at a boundary (R48): to TIME.RESTEP_VALUE with TIME.SOURCE 0, else by the median of the acquisition. -/
def Core.reStep (c : Core) : Core :=
  let step : Int := if c.clk.source = 0 then (c.rd Od.TIME_RESTEP_VALUE : Int) - c.clk.now else acqMedian c.clk.acq
  let c := (c.stepTime step).logStep 0x0105 step
  let c := ((c.setTimeFlag 1 false).setTimeFlag 6 false).setTimeFlag 5 false
  c.writeRtc

/-- The first lock can be made (R40). -/
def Core.lockReady (c : Core) : Bool := !c.clk.locked && c.clk.source != 0 && acqComplete c.clk.acq

/-- A pending re-step can be made (R48). Before the first lock the request merges with it (R53). -/
def Core.reStepReady (c : Core) : Bool :=
  c.bit Od.TIME_FLAGS 6 && c.run == .stop &&
    (c.clk.source == 0 || (c.clk.locked && acqComplete c.clk.acq))

/-- The clock stands at the boundary of the current tick. -/
def Core.atBoundary (c : Core) : Bool := c.clk.cyc == c.clk.tickCyc && c.rd Od.TICK_COUNT != 0

/-- FIRST_LOCK: at once at a boundary, else at the next one. -/
def Core.cmdFirstLock (c : Core) : Core :=
  if !(c.clk.running && c.lockReady) then c
  else if c.atBoundary then c.firstLock
  else { c with clk := { c.clk with stepDue := true } }

/-- RESTEP_PERFORM: at once at a boundary, else at the next one. -/
def Core.cmdReStep (c : Core) : Core :=
  if !(c.clk.running && c.reStepReady) then c
  else if c.atBoundary then c.reStep
  else { c with clk := { c.clk with stepDue := true } }

/-- A step that waits is made at the boundary; a re-step with TIME.SOURCE 0 is made at the next boundary (R48). -/
def Core.boundaryStep (c : Core) : Core :=
  if c.clk.stepDue && c.lockReady then c.firstLock
  else if c.reStepReady && (c.clk.stepDue || c.clk.source == 0) then c.reStep
  else { c with clk := { c.clk with stepDue := false } }

/-- A pending re-step is cancelled when the station leaves STOP (R48). -/
def Core.cancelReStep (c : Core) : Core :=
  if c.bit Od.TIME_FLAGS 6 then (c.setTimeFlag 6 false).logA 0x0106 0 0 else c

/-- The corrections that have been in force at some instant of the last 8 s before `t`, oldest first: those that began within
it, and the one that was in force when it began (R46). -/
def ratesSince (t : Nat) (l : List (Nat × Int)) : List (Nat × Int) :=
  let old := l.filter fun p => decide (p.1 + 8000000000 < t)
  old.drop (old.length - 1) ++ l.filter fun p => decide (t ≤ p.1 + 8000000000)

/-- The correction comes into force, and is one of those that R46 averages. -/
def Core.setRate (c : Core) (r : Int) : Core :=
  ({ c with clk := { c.clk with rates := ratesSince c.clk.cyc c.clk.rates ++ [(c.clk.cyc, r)] } }).wr Od.TIME_RATE (ofInt 32 r)

/-- An average of corrections: it lies between the smallest and the largest of them; which one within is open (R46, log
entry 9). -/
def averageRate (l : List (Nat × Int)) : Int :=
  match l with
  | [] => 0
  | x :: xs =>
    let lo := xs.foldl (fun m p => min m p.2) x.2
    let hi := xs.foldl (fun m p => max m p.2) x.2
    max lo (min hi (Config.holdoverAverage l))

/-- HOLDOVER is entered with a held correction (R46, R547). The servo demands nothing there, so nothing is held at the limit
(Table 01.6). -/
def Core.enterHoldover (c : Core) (rate : Int) : Core :=
  let r := max (-200000) (min 200000 rate)
  let c := (({ c with clk := { c.clk with holdSince := c.clk.cyc } }).setRate r).setTimeFlag 2 false
  (c.setTimeState .holdover).logA 0x0104 (ofInt 32 r) 0

/-- A new TIME.SOURCE takes effect at a boundary (R547). -/
def Core.applySource (c : Core) : Core :=
  let new := c.rd Od.TIME_SOURCE
  let old := c.clk.source
  if new = old then c
  else
    let c := { c with clk := { c.clk with source := new, acq := [], acqNet := 0, stepDue := false } }
    if !c.clk.locked then c.setTimeState (if new = 0 then .free else .acquiring)
    else if new = 0 then ((c.setRate 0).setTimeFlag 2 false).setTimeState .free
    else if old = 0 then c.enterHoldover 0
    else { c with clk := { c.clk with lastValid := c.clk.cyc } }

/-- The clock's part of a tick boundary (R20, R23, R33, R53): the count, the number, the period and source in effect, and
where the next boundary lies. -/
def Core.clockBoundary (c : Core) : Core :=
  let c := c.atTime c.clk.nextB
  let p := tickNs (c.rd Od.TICK_PERIOD)
  let b := c.clk.nextB
  let e := (b / p + 1) * p
  let c := { c with clk := { c.clk with tickStart := b, tickCyc := c.clk.cyc, nextB := e, schedEnd := e } }
  let c := ((c.inc64 Od.TICK_COUNT).wr Od.TICK_PERIOD_NS p).wr Od.TICK_NUMBER (b / p)
  let c := { c with loops := { c.loops with restampAll := c.loops.restampAll || c.loops.stepped, stepped := false } }
  c.applySource.boundaryStep

/-- The servo updates the rate correction after a valid offset; its gains are open (R43, log entry 9). -/
def Core.servo (c : Core) (off : Int) : Core :=
  let d := Config.servoDemand c.free off
  let r := max (-200000) (min 200000 d)
  ((c.used 1).setRate r).setTimeFlag 2 (d != r)

/-- TIME_DIVERGED is set above 1 ms and cleared by eight consecutive offsets within TIME.LOCK_LIMIT (R44). -/
def Core.diverge (c : Core) (off : Int) : Core :=
  let div := c.bit Od.TIME_FLAGS 1
  if 1000000 < off.natAbs then
    let c := { c with clk := { c.clk with okRun := 0 } }
    if div then c else (c.setTimeFlag 1 true).log64 0x0102 (ofInt 64 off)
  else if !div then c
  else if off.natAbs ≤ c.rd Od.TIME_LOCK_LIMIT then
    if 8 ≤ c.clk.okRun + 1 then
      (({ c with clk := { c.clk with okRun := 0 } }).setTimeFlag 1 false).log64 0x0103 (ofInt 64 off)
    else { c with clk := { c.clk with okRun := c.clk.okRun + 1 } }
  else { c with clk := { c.clk with okRun := 0 } }

/-- An acquisition is complete and its step is still to come: its four offsets stand until the boundary (R40, R48). -/
def Core.acqHeld (c : Core) : Bool := acqComplete c.clk.acq && (!c.clk.locked || c.bit Od.TIME_FLAGS 6)

/-- A valid offset joins the count of R38: the last four of one master, while no completed acquisition waits. -/
def Core.countOffset (c : Core) (net : Nat) (off : Int) : Core :=
  if c.acqHeld then c
  else
    let prev := if c.clk.acqNet = net then c.clk.acq else []
    let acq := (prev ++ [off]).drop ((prev ++ [off]).length - 4)
    { c with clk := { c.clk with acq := acq, acqNet := net } }

/-- A valid offset measurement on a network (R38, R43 to R46). Before the first lock there is no rate correction (R43), and
TIME_DIVERGED follows the offset as after it (R44). -/
def Core.validOffset (c : Core) (net : Nat) (off : Int) : Core :=
  if c.clk.source = 0 then c
  else
    let c := (c.wr Od.TIME_OFFSET (ofInt 64 off)).countOffset net off
    let c := { c with clk := { c.clk with lastValid := c.clk.cyc } }
    if !c.clk.locked then c.diverge off
    else
      let c := if c.clk.state = .holdover then c.setTimeState .locked else c
      (c.servo off).diverge off

/-- The master is lost or changed: the count of R38 restarts, unless it is complete. -/
def Core.restartAcq (c : Core) : Core :=
  if c.acqHeld then c else { c with clk := { c.clk with acq := [], acqNet := 0 } }

/-- TIME_ACQ_WAIT_EXPIRY: start-up goes on without a step, UNSYNC_TIME set (R39). -/
def Core.acqWaitExpiry (c : Core) : Core :=
  if c.run = .init ∧ c.react.startDone ∧ !c.pwr.acqOver ∧ !c.clk.locked then
    let c := c.atCyc (c.pwr.acqStart + ms (c.rd Od.TIME_ACQ_WAIT))
    { c with pwr := { c.pwr with acqOver := true } }
  else c

/-- HOLDOVER_ENTRY: 1 s without a valid offset (R46). -/
def Core.holdoverEntry (c : Core) : Core :=
  if c.clk.state = .locked then
    let c := c.atCyc (c.clk.lastValid + 1000000000)
    c.enterHoldover (averageRate (ratesSince c.clk.lastValid c.clk.rates))
  else c

/-- An accepted request for a re-step (R48); before the first lock it merges with the running acquisition (R53). -/
def Core.requestReStep (c : Core) : Core :=
  let c := c.setTimeFlag 6 true
  if c.clk.locked then { c with clk := { c.clk with acq := [], acqNet := 0 } } else c

/-- An accepted write of TICK.PERIOD: the tick in progress ends at the first boundary of the new grid at or after its own
scheduled end (R53). -/
def Core.writePeriod (c : Core) (v : Nat) : Core :=
  let c := c.wr Od.TICK_PERIOD v
  { c with clk := { c.clk with nextB := ceilMul c.clk.schedEnd (tickNs v) } }

end Sys2Proof.Machine
end

