-- ==== Sys2Proof/Machine/Ptp.lean ====
section
/-! DEFINITION. PTP on the station networks (R370 to R375): best-master selection, path delays, offset measurements, the
followed network, and a master-capable station's own messages. -/

namespace Sys2Proof.Machine

def Core.ptp (c : Core) (n : Nat) : Ptp := (c.side n).ptp
def Core.updPtp (c : Core) (n : Nat) (f : Ptp → Ptp) : Core := c.updSide n fun x => { x with ptp := f x.ptp }

/-- The ordinary-clock function of a network runs (R384: whenever the tick generator runs). -/
def Core.ptpOn (c : Core) (n : Nat) : Bool := c.clk.running && c.rd (Od.PTP_ENABLE n) == 1 && !c.netLost n

/-- An interval 2^k s of a signed 8-bit logarithm, in ns. -/
def logInterval (v : Nat) : Nat :=
  let k := toInt 8 v
  if 0 ≤ k then 1000000000 * 2 ^ k.toNat else 1000000000 / 2 ^ (-k).toNat

/-! ## Best-master selection (R373, R374) -/

/-- Lexicographic comparison. -/
def lexLt : List Nat → List Nat → Bool
  | a :: as, b :: bs => decide (a < b) || (a == b && lexLt as bs)
  | _, _ => false

/-- The data-set comparison of IEEE 1588-2019: `a` is strictly better than `b`. -/
def Announce.better (a b : Announce) : Bool :=
  if a.gmId = b.gmId then lexLt [a.steps, a.source] [b.steps, b.source]
  else lexLt [a.priority1, a.clockClass, a.accuracy, a.variance, a.priority2, a.gmId]
    [b.priority1, b.clockClass, b.accuracy, b.variance, b.priority2, b.gmId]

/-- The best of a list. -/
def bestOf (l : List Announce) : Option Announce :=
  l.foldl (fun best a => match best with | some b => if a.better b then some a else some b | none => some a) none

/-- The station's own data set as a master-capable clock (R374). -/
def Core.ownClock (c : Core) (n : Nat) : Announce where
  priority1 := c.rd (Od.PTP_PRIORITY1 n)
  clockClass := 248
  accuracy := 0xFE
  variance := Config.clockVariance
  priority2 := c.rd (Od.PTP_PRIORITY2 n)
  gmId := Config.clockIdentity (c.rd (Od.NET_MAC n))
  steps := 0
  source := Config.clockIdentity (c.rd (Od.NET_MAC n)) * 65536 + 1
  utcOffset := toInt 16 (c.rd Od.TIME_UTC_OFFSET)

/-- The station may be a master on a network: PTP.MODE 1, which TIME.SOURCE 0 allows (R374). -/
def Core.masterCapable (c : Core) (n : Nat) : Bool := c.rd (Od.PTP_MODE n) == 1 && c.clk.source == 0

/-- The station wins the selection. -/
def Core.ptpMaster (c : Core) (n : Nat) : Bool := c.rd (Od.PTP_PORT_STATE n) == 6

/-- portState, GM_ID and GM_CLASS after a selection: 9 SLAVE, 6 MASTER, 4 LISTENING, 3 DISABLED. -/
def Core.showBest (c : Core) (n : Nat) (best : Option Announce) : Core :=
  match best with
  | some a => ((c.wr (Od.PTP_PORT_STATE n) 9).wr (Od.PTP_GM_ID n) a.gmId).wr (Od.PTP_GM_CLASS n) a.clockClass
  | none =>
    if c.rd (Od.PTP_ENABLE n) = 1 ∧ c.masterCapable n = true then
      let a := c.ownClock n
      ((c.wr (Od.PTP_PORT_STATE n) 6).wr (Od.PTP_GM_ID n) a.gmId).wr (Od.PTP_GM_CLASS n) a.clockClass
    else ((c.wr (Od.PTP_PORT_STATE n) (if c.rd (Od.PTP_ENABLE n) = 1 then 4 else 3)).wr (Od.PTP_GM_ID n) 0).wr
      (Od.PTP_GM_CLASS n) 0

/-- TIME.UTC_OFFSET follows the selected master (R35). -/
def Core.takeUtc (c : Core) (n : Nat) (best : Option Announce) : Core :=
  match best with
  | some a => if c.rd Od.PTP_FOLLOWED = n + 1 then c.wr Od.TIME_UTC_OFFSET (ofInt 16 a.utcOffset) else c
  | none => c

/-- The followed network becomes `f` (0 none, 1 A, 2 B). A change from one network to the other is a move (R373). -/
def Core.follow (c : Core) (f : Nat) : Core :=
  let was := c.rd Od.PTP_FOLLOWED
  if was = f then c
  else
    let c := (c.wr Od.PTP_FOLLOWED f).restartAcq
    let c := c.updNet fun x => { x with sides := x.sides.map fun y => { y with ptp := { y.ptp with better := 0 } } }
    let c := if was = 0 || f = 0 then c else (c.inc32 Od.PTP_MOVES).log 0x0A04
    if f = 0 then c else c.takeUtc (f - 1) (c.ptp (f - 1)).best

/-- The network that is followed without a move: with one source its own, with two the better one at first. -/
def Core.followNow (c : Core) : Core :=
  let a := (c.ptp 0).best
  let b := (c.ptp 1).best
  match c.clk.source with
  | 1 => c.follow (if a.isSome then 1 else 0)
  | 2 => c.follow (if b.isSome then 2 else 0)
  | 3 =>
    match a, b with
    | none, none => c.follow 0
    | some x, some y => if c.rd Od.PTP_FOLLOWED = 0 then c.follow (if y.better x then 2 else 1) else c
    | some _, none => if c.rd Od.PTP_FOLLOWED = 0 then c.follow 1 else c
    | none, some _ => if c.rd Od.PTP_FOLLOWED = 0 then c.follow 2 else c
  | _ => c.follow 0

/-- The selection on one network is made anew. -/
def Core.selectMaster (c : Core) (n : Nat) : Core :=
  let p := c.ptp n
  let heard := bestOf p.masters
  let best := match heard with
    | some a => if c.masterCapable n && (c.ownClock n).better a then none else some a
    | none => none
  let changed := best.map (·.source) != p.best.map (·.source) || best.map (·.gmId) != p.best.map (·.gmId)
  let c := (c.updPtp n fun p => { p with best := best }).showBest n best
  let c := if changed then c.log 0x0A04 else c
  let c := if changed && c.rd Od.PTP_FOLLOWED = n + 1 then c.restartAcq else c
  let c := if changed then c.updPtp n fun p => { p with sync := none, delay := none } else c
  c.followNow.takeUtc n best

/-- The ordinary clock of a network starts anew after a write of PTP.ENABLE, PTP.DOMAIN or PTP.MODE: it knows no master. -/
def Core.ptpAnew (c : Core) (n : Nat) : Core :=
  (c.updPtp n fun p => { p with masters := [], sync := none, delay := none }).selectMaster n

/-- The network whose ordinary clock an entry concerns. -/
def ptpSetting? (k : Nat) : Option Nat :=
  [0, 1].find? fun n => [Od.PTP_ENABLE n, Od.PTP_DOMAIN n, Od.PTP_MODE n].contains k

/-- One Announce interval of the network that is not followed: four in which its best master was strictly better move the
station (R373). -/
def Core.judgeMove (c : Core) (n : Nat) : Core :=
  let f := c.rd Od.PTP_FOLLOWED
  if c.clk.source != 3 || f = 0 || f = n + 1 then c
  else
    let better := match (c.ptp n).best, (c.ptp (f - 1)).best with
      | some a, some b => a.better b
      | some _, none => true
      | none, _ => false
    let k := if better then (c.ptp n).better + 1 else 0
    let c := c.updPtp n fun p => { p with better := k }
    if 4 ≤ k then c.follow (n + 1) else c

/-- PTP_ANNOUNCE_RX. -/
def Core.announceRx (c : Core) (n domain : Nat) (a : Announce) : Core :=
  if !c.ptpOn n || domain != c.rd (Od.PTP_DOMAIN n) then c
  else
    let c := c.updPtp n fun p => { p with masters := p.masters.filter (·.source != a.source) ++ [a] }
    let c := c.selectMaster n
    if (c.ptp n).best.map (·.source) = some a.source then c.judgeMove n else c

/-- PTP_ANNOUNCE_RECEIPT_TIMEOUT: the best master is lost; where there was none, a master-capable station wins (R374). -/
def Core.announceTimeout (c : Core) (n : Nat) : Core :=
  match (c.ptp n).best with
  | none => if c.ptpOn n && c.masterCapable n then c.showBest n none else c
  | some a =>
    if !c.clk.running then c
    else (c.updPtp n fun p => { p with masters := p.masters.filter (·.source != a.source) }).selectMaster n

/-- PTP_FOLLOW_TIMEOUT: no valid measurement on the followed network for 500 ms, and one on the other in that time. -/
def Core.followTimeout (c : Core) : Core :=
  let f := c.rd Od.PTP_FOLLOWED
  if c.clk.source != 3 || f = 0 || !c.clk.running then c
  else
    let last := (c.ptp (f - 1)).lastValid.getD 0
    match (c.ptp (2 - f)).lastValid with
    | none => c
    | some o => if o ≤ last then c else (c.atCyc (last + ms 500)).follow (3 - f)

/-! ## Path delay (R372) -/

/-- Half of a sum of times. -/
def halfTime (s : Int) : Int := if s % 2 = 0 then s / 2 else Config.halfOdd s

/-- A measured delay is kept with its instant, and shown. -/
def Core.showDelay (c : Core) (n : Nat) (d : Int) : Core := c.wr (Od.PTP_MEAN_DELAY n) (ofInt 32 d)

/-- PTP_DELAY_RESP_RX: a Delay_Resp of the parent port, or the answer to a port's own Pdelay_Req. -/
def Core.delayRespRx (c : Core) (n : Nat) (m : DelayMsg) : Core :=
  if !c.clk.running || c.netLost n || m.domain != c.rd (Od.PTP_DOMAIN n) || m.seq != (c.ptp n).reqSeq then c
  else if c.rd (Od.PTP_DELAY_MECH n) = 1 then
    let d := halfTime (m.t4 - m.t1 - (m.t3 - m.t2) - m.correction)
    (c.updPtp n fun p => { p with peer := setAt p.peer m.port (some (d, c.clk.cyc)) }).showDelay n d
  else
    match (c.ptp n).best, (c.ptp n).sync with
    | some b, some (t1, t2) =>
      if !c.ptpOn n || b.source != m.source then c
      else
        let d := halfTime (t2 - t1 + (m.t4 - m.t3) - m.correction)
        (c.updPtp n fun p => { p with delay := some (d, c.clk.cyc) }).showDelay n d
    | _, _ => c

/-- The path delay an offset measurement on port `p` may use: at most 1 s old, within its limits, and no older than the
port's last change of link. -/
def Core.pathDelay (c : Core) (n p : Nat) : Option Int :=
  let d := if c.rd (Od.PTP_DELAY_MECH n) = 1 then (c.ptp n).peer.getD p none else (c.ptp n).delay
  match d with
  | none => none
  | some (d, t) =>
    if c.clk.cyc ≤ t + 1000000000 && decide ((c.port n p).linkAt ≤ t) && decide (0 ≤ d) &&
        decide (d ≤ (c.rd (Od.PTP_DELAY_MAX_NS n) : Int)) then some d
    else none

/-- PTP_SYNC_RX on port `p`. An invalid measurement is ignored: the runs of R38 and R44 go on over it (log entry 161). -/
def Core.syncRx (c : Core) (n p : Nat) (m : SyncMsg) : Core :=
  if !c.ptpOn n || m.domain != c.rd (Od.PTP_DOMAIN n) then c
  else
    let parent := match (c.ptp n).best with | some b => b.source == m.source | none => false
    let c := if parent && m.inTime then c.updPtp n fun x => { x with sync := some (m.t1 + m.correction, m.t2) } else c
    match parent && m.inTime, c.pathDelay n p with
    | true, some d =>
      let off := m.t1 + m.correction + d + toInt 32 (c.rd (Od.PTP_ASYM_NS n)) - m.t2
      let c := (c.inc32 (Od.PTP_VALID n)).updPtp n fun x => { x with lastValid := some c.clk.cyc }
      if c.rd Od.PTP_FOLLOWED = n + 1 then c.validOffset (n + 1) off else c
    | _, _ => c.inc32 (Od.PTP_INVALID n)

/-! ## Own messages -/

def ptpEventMac : Nat := 0x011B19000000
def ptpPeerMac : Nat := 0x0180C200000E

/-- Length of a PTP message with its addresses and EtherType, over IEEE 802.3 or UDP/IPv4. -/
def Core.ptpLen (c : Core) (n body : Nat) : Nat := 14 + body + if c.rd (Od.PTP_TRANSPORT n) = 1 then 28 else 0

/-- PTP_DELAY_REQ_SEND: at its interval, a Delay_Req to a parent (E2E) or a Pdelay_Req on each port (P2P). -/
def Core.delayReqSend (c : Core) (n : Nat) : Core :=
  let peer := c.rd (Od.PTP_DELAY_MECH n) == 1
  if !c.clk.running || c.netLost n || (!peer && (!c.ptpOn n || (c.ptp n).best.isNone)) then c
  else
    let c := c.atCyc ((c.ptp n).reqAt + logInterval (c.rd (Od.PTP_LOG_DELAY n)))
    let seq := ((c.ptp n).reqSeq + 1) % 65536
    let c := c.updPtp n fun p => { p with reqAt := c.clk.cyc, reqSeq := seq }
    if peer then c.hostSend n 7 ptpPeerMac (c.ptpLen n 54) (.ptp 2 seq 0)
    else c.hostSend n 7 ptpEventMac (c.ptpLen n 44) (.ptp 1 seq 0)

/-- PTP_DELAY_REQ_RX: answered as the master of the network (E2E), or on its port as a peer (P2P), with the request's
receive stamp; the peer's answer is two-step. -/
def Core.delayReqRx (c : Core) (n p domain seq : Nat) (stamp : Int) (peer : Bool) : Core :=
  if !c.clk.running || !c.portUp n p || domain != c.rd (Od.PTP_DOMAIN n) then c
  else if peer then
    if c.rd (Od.PTP_DELAY_MECH n) = 1 then
      let len := frameLen (c.ptpLen n 54)
      let c := (c.hold n p ⟨pcpQueue 7, c.clk.now, len, .ptp 3 seq stamp⟩).hold n p
        ⟨pcpQueue 4, c.clk.now, len, .ptp 10 seq c.clk.now⟩
      ((c.inc64 (Od.NET_TX_FRAMES n)).inc64 (Od.NET_TX_FRAMES n)).egressAll
    else c
  else if c.rd (Od.PTP_DELAY_MECH n) = 0 && c.ptpOn n && c.ptpMaster n then
    c.hostSend n 4 ptpEventMac (c.ptpLen n 54) (.ptp 9 seq stamp)
  else c

/-- PTP_MASTER_ANNOUNCE: at its interval, of the station that wins the selection. -/
def Core.masterAnnounce (c : Core) (n : Nat) : Core :=
  if !c.ptpOn n || !c.ptpMaster n then c
  else
    let c := c.atCyc ((c.ptp n).annAt + logInterval (c.rd (Od.PTP_LOG_ANNOUNCE n)))
    let seq := ((c.ptp n).annSeq + 1) % 65536
    let c := c.updPtp n fun p => { p with annAt := c.clk.cyc, annSeq := seq }
    c.hostSend n 4 ptpEventMac (c.ptpLen n 64) (.announce seq (c.ownClock n) 0xA0)

/-- A two-step Sync of the station, from destination address to its last byte (IEEE 1588-2019); over UDP/IPv4 the bytes of
the IP and UDP headers are free. -/
def Core.syncFrame (c : Core) (n seq : Nat) : Bytes :=
  let msg := leBytes 1 0 ++ leBytes 1 0x12 ++ beBytes 2 44 ++ leBytes 1 (c.rd (Od.PTP_DOMAIN n)) ++ leBytes 1 0 ++
    beBytes 2 0x0200 ++ zeros 12 ++ beBytes 10 (c.ownClock n).source ++ beBytes 2 seq ++ leBytes 1 0 ++
    leBytes 1 (c.rd (Od.PTP_LOG_SYNC n)) ++ zeros 10
  let udp := c.rd (Od.PTP_TRANSPORT n) == 1
  beBytes 6 ptpEventMac ++ beBytes 6 (c.rd (Od.NET_MAC n)) ++ beBytes 2 (if udp then 0x0800 else 0x88F7) ++
    (if udp then leBytes 28 (c.fresh 224) else []) ++ msg

end Sys2Proof.Machine
end

