-- ==== Sys2Proof/Machine/Ply.lean ====
section
/-! DEFINITION. The Ply (chapter 02): the voter, the agreement exchange, fencing, retirement and re-admission of strands,
un-votable events, the safe-output voter, and debugging. Strands X, Y, Z are 0, 1, 2. -/

namespace Sys2Proof.Machine

/-- One strand's part replaced. -/
def Core.updStrand (c : Core) (s : Nat) (f : Strand → Strand) : Core :=
  { c with ply := { c.ply with strands := updAt f c.ply.strands s } }

/-- A strand that no part lists. -/
def Strand.idle : Strand := ⟨[], [0, 0, 0, 0, 0, 0], 0, false, none, 0, false, false, false, false, true, [], Cpu.fresh⟩

def Core.strand (c : Core) (s : Nat) : Strand := c.ply.strands.getD s Strand.idle

/-- STRAND.STATUS bits (Table 02.9). -/
def Core.setStrandBit (c : Core) (s i : Nat) (b : Bool) : Core := c.setBit (Od.STRAND_STATUS s) i b
def Core.strandBit (c : Core) (s i : Nat) : Bool := c.bit (Od.STRAND_STATUS s) i

/-- PLY.FAULT_WINDOW_MS. -/
def faultWindowMs : Nat := 86400000

/-- The counted faults of a strand in the last 24 h (R71). -/
def Core.windowFaults (c : Core) (s : Nat) : List Nat :=
  (c.strand s).faults.filter fun t => decide (c.monoMs ≤ t + faultWindowMs)

/-- An event is recorded in the voter's registers and counted (R62, Table 02.10). -/
def Core.voterInfo (c : Core) (kind agree minority addr : Nat) : Core :=
  let info := c.phase % 16 * 2 ^ 16 + kind % 16 * 2 ^ 8 + agree % 8 * 2 ^ 3 + minority % 8
  let c := ((c.inc32 Od.VOTER_MISMATCHES).wr Od.VOTER_LAST_INFO info).wr Od.VOTER_LAST_ADDR addr
  (c.wr Od.VOTER_LAST_TIME c.clk.now).wr Od.VOTER_LAST_TICK (c.rd Od.TICK_COUNT)

/-- A counted fault of a strand (R62); true in the second place if it is the third in the window (R71). -/
def Core.countFault (c : Core) (s : Nat) : Core × Bool :=
  let w := c.windowFaults s ++ [c.monoMs]
  ((c.inc32 (Od.STRAND_FAULTS s)).updStrand s fun x => { x with faults := w.drop (w.length - 3) }, decide (3 ≤ w.length))

/-- The counts of consecutive minority samples are cleared: they count only while three strands are in step (R67). -/
def Core.clearMinority (c : Core) : Core :=
  [0, 1, 2].foldl (fun (c : Core) s => c.updStrand s fun x => { x with minority := [0, 0, 0, 0, 0, 0] }) c

/-- A strand leaves the set in step for good: `bit` 4 RETIRED_COUNT or 5 RETIRED_BIST. -/
def Core.retireStrand (c : Core) (s bit : Nat) : Core :=
  let st := c.rd (Od.STRAND_STATUS s)
  let c := c.clearMinority
  (c.wr (Od.STRAND_STATUS s) (putBit (st &&& 0x0300) bit true)).updStrand s fun x => { x with rejoinWait := false, xfer := none }

/-- After a retirement: with two strands in step the Ply is DUPLEX_DEGRADED and a 0x020C record is written (R72); with
fewer the station enters FAILED (R74, R88). -/
def Core.afterRetire (c : Core) : Core :=
  match c.stepping.length with
  | 3 => c
  | 2 => c.log 0x020C
  | _ => c.fault' 0x0207 1

/-- A strand is fenced and starts BIST (R68, R69). -/
def Core.fenceStrand (c : Core) (s : Nat) : Core :=
  let c := ((c.clearMinority.setStrandBit s 0 false).setStrandBit s 1 true).setStrandBit s 2 true
  (c.setStrandBit s 3 false).updStrand s fun x => { x with fenceCyc := c.clk.cyc, rejoinWait := false, xfer := none }

/-- The re-admission of a fenced strand is abandoned (R74). -/
def Core.abandonRejoin (c : Core) (s : Nat) : Core :=
  (c.setStrandBit s 3 false).updStrand s fun x => { x with rejoinWait := false, xfer := none }

/-- An un-votable event (R73, R74): a counted fault of every strand in step, SAFE, and BIST of every strand of U, which is
fenced for it (R75). -/
def Core.unvotable (c : Core) (kind agree addr : Nat) : Core :=
  let ins := c.stepping
  let u := maskOf ([0, 1, 2].filter fun s => c.inStep s || c.strandBit s 1)
  let c := c.voterInfo kind agree (maskOf ins) addr
  let c := c.inc32 Od.PLY_UNVOTED_COUNT
  let c := ([0, 1, 2].filter fun s => c.strandBit s 1).foldl Core.abandonRejoin c
  let c := ins.foldl (fun c s =>
    let (c, third) := c.countFault s
    if third then (c.retireStrand s 4).logA 0x0204 s (c.fresh 32) |>.used 1 else c.fenceStrand s) c
  let c := { c with ply := { c.ply with unvoted := some u, sovSkip := true } }
  c.fault' 0x0205 1

/-- One strand of three is judged wrong: it is fenced (0x0201), or retired at its third fault (R68, R71). -/
def Core.minorityFence (c : Core) (s kind agree addr : Nat) : Core :=
  let c := c.voterInfo kind agree (2 ^ s) addr
  let (c, third) := c.countFault s
  if third then ((c.retireStrand s 4).fault' 0x0204 1).afterRetire
  else (c.fenceStrand s).fault' 0x0201 1

/-- A strand is judged wrong in whatever set is in step: the minority of three, or an un-votable event of two (R56,
R79). -/
def Core.judgeStrand (c : Core) (s kind addr : Nat) : Core :=
  let others := c.stepping.filter (· != s)
  if c.stepping.length = 3 then c.minorityFence s kind (maskOf others) addr else c.unvotable kind 0 addr

/-! ## The voter (R60 to R62) -/

/-- The areas of the strands' own TCMs (Table 00.7). -/
def inTcm (a : Nat) : Bool := a < 0x80000 || (0x100000 ≤ a && a < 0x140000)

/-- The bytes of a word store that its byte enables select, with their addresses. -/
def storeBytes (i : ItemCopy) : List (Nat × Byte) :=
  ((List.range 4).filter i.be.testBit).map fun k => (i.addr / 4 * 4 + k, BitVec.ofNat 8 (i.data / 2 ^ (8 * k)))

/-- The masked store of an item into a memory. -/
def Mem.store (m : Mem) (i : ItemCopy) : Mem := (storeBytes i).foldl (fun m p => m.put p.1 p.2) m

/-- A vault register with its stored bytes (R527): the word of `w` bytes at `off` after the store. -/
def vaultMerge (old off w : Nat) (i : ItemCopy) : Nat :=
  let bytes := (storeBytes i).foldl (fun (b : Bytes) p =>
    if 0x70000000 + off ≤ p.1 ∧ p.1 < 0x70000000 + off + w then setAt b (p.1 - (0x70000000 + off)) p.2 else b)
    (leBytes w old)
  leNat bytes

/-- VSTATUS after a store: ON_VBAT_SEEN is ro, and a store that sets a reserved bit changes nothing (R12, Table 16.5). -/
def vaultStatus (old new : Nat) : Nat := if 16 ≤ new then old else new &&& 0x7 ||| (old &&& 0x8)

/-- A voted store to the vault: the rw fields of Table 16.3; other addresses ignore it (R527). -/
def Vault.store (v : Vault) (i : ItemCopy) : Vault :=
  { v with
    rtc := vaultMerge v.rtc 0x000 8 i
    skeinSeq := vaultMerge v.skeinSeq 0x010 8 i
    vstatus := vaultStatus v.vstatus (vaultMerge v.vstatus 0x01C 4 i)
    bootBank := vaultMerge v.bootBank 0x040 1 i
    lastState := vaultMerge v.lastState 0x041 1 i
    slotId := vaultMerge v.slotId 0x043 1 i
    debugSplits := vaultMerge v.debugSplits 0x044 4 i
    retCrc := vaultMerge v.retCrc 0x07C 4 i }

/-- A store to a strand's own TCM is written by each strand without release (R60). -/
def Core.tcmStores (c : Core) (kind : Nat) (copies : List ItemCopy) : Core :=
  if kind != 0 then c
  else c.stepping.foldl (fun c s => match copies[s]? with
    | some i => if inTcm i.addr then c.updStrand s fun x => { x with tcm := x.tcm.store i } else c
    | none => c) c

/-! ## Re-admission (R69, R70) -/

/-- STRAND_BIST_DONE, `result` as STRAND.BIST_RESULT. -/
def Core.bistDone (c : Core) (s result : Nat) : Core :=
  if !(c.strandBit s 2) || c.ply.unvoted.isSome then c
  else
    let c := (c.atCyc ((c.strand s).fenceCyc + ms 6)).wr (Od.STRAND_BIST_RESULT s) result
    if result = 1 then (c.setStrandBit s 2 false).setStrandBit s 3 true
    else ((c.retireStrand s 5).faultPart 0x0203 1).afterRetire

/-- TCM_COPY_DONE: the majority's TCMs are copied and the strand waits for its boundary, no longer REJOINING (Table 02.9). -/
def Core.tcmCopyDone (c : Core) (s : Nat) : Core :=
  if c.strandBit s 3 && !(c.strand s).rejoinWait then
    match c.stepping with
    | m :: _ => (c.setStrandBit s 3 false).updStrand s fun x => { x with rejoinWait := true, tcm := (c.strand m).tcm }
    | [] => c
  else c

/-- At a boundary the register transfer of a waiting strand begins (Table 02.5). A fenced strand is not re-admitted during
a split (R88). -/
def Core.rejoinStrand (c : Core) (s : Nat) : Core :=
  if (c.strand s).rejoinWait && !c.ply.split && c.ply.unvoted.isNone then
    (c.setStrandBit s 3 true).updStrand s fun x => { x with rejoinWait := false, xfer := some c.clk.cyc }
  else c

/-- A strand takes what the majority holds: its CSRs, and the TCM stores that were mirrored to it until it is in step (Table
02.5; log entry 178). -/
def Core.takeMajority (c : Core) (s : Nat) : Core :=
  match c.stepping with
  | m :: _ => let y := c.strand m; c.updStrand s fun x => { x with tcm := y.tcm, cpu := y.cpu }
  | [] => c

/-- After 400 cycles of register transfer the strand is in step (Table 02.5, R70). PLY.LAST_RECOVERY_US is the nearest
microsecond (log entry 28). -/
def Core.endTransfer (c : Core) (s : Nat) : Core :=
  match (c.strand s).xfer with
  | none => c
  | some b =>
    if c.clk.cyc < b + 400 || c.ply.split || c.ply.unvoted.isSome || c.run == .failed then c
    else
      let t := b + 400 - (c.strand s).fenceCyc
      let st := c.rd (Od.STRAND_STATUS s)
      let c := c.takeMajority s
      let c := c.wr (Od.STRAND_STATUS s) (putBit (st &&& 0x0330) 0 true)
      let c := c.updStrand s fun x => { x with xfer := none, written := false, tokenKnown := false, firstEval := true }
      ((c.inc32 Od.PLY_REJOIN_COUNT).wr Od.PLY_LAST_RECOVERY_US ((t + 500) / 1000)).log 0x0202

def Core.endTransfers (c : Core) : Core := [0, 1, 2].foldl Core.endTransfer c

/-- The transfers that begin at a boundary. -/
def Core.rejoinAll (c : Core) : Core := [0, 1, 2].foldl Core.rejoinStrand c

/-- The data TCM as rebuilt from the creel's Ply region and the image; the code TCM stays (R58, R74; log entry 174). -/
def Core.rebuildTcm (c : Core) (m : Mem) : Mem :=
  let data := Config.dataTcm (c.creel.read 0x107C0000 0x40000)
    (match c.prog.image with | some _ => c.activeBank.progImage | none => [])
  Mem.write (m.filter fun x => x.1 < 0x100000) 0x100000 (data.take 0x40000)

/-- UNVOTED_RESUME: the BIST results decide (R74); `result s` as STRAND.BIST_RESULT. -/
def Core.unvotedResume (c : Core) (results : List Nat) : Core :=
  match c.ply.unvoted with
  | none => c
  | some u =>
    if c.run != .safe then c
    else
      let us := bitsSet 3 u
      let c := c.atCyc (c.react.safeQuiet + ms 6)
      let c := us.foldl (fun c s =>
        if c.strandRetired s then c
        else
          let r := results.getD s 1
          let c := c.wr (Od.STRAND_BIST_RESULT s) r
          if r = 1 then c else ((c.retireStrand s 5).log 0x0203)) c
      let good := us.filter fun s => !c.strandRetired s
      if 2 ≤ good.length then
        let lead := c.strand (good.headD 0)
        let c := good.foldl (fun c s =>
          let st := c.rd (Od.STRAND_STATUS s)
          (c.wr (Od.STRAND_STATUS s) (putBit (st &&& 0x0300) 0 true)).updStrand s fun x =>
            { x with
              rejoinWait := false, xfer := none, written := false, tokenKnown := false, firstEval := true
              tcm := c.rebuildTcm x.tcm, cpu := lead.cpu }) c
        let c := { c with ply := { c.ply with unvoted := none } }
        let c := c.log 0x0206
        let c := if good.length = 2 ∧ us.length = 3 then c.log 0x020C else c
        c.leaveSafe
      else (({ c with ply := { c.ply with unvoted := none } }).logA 0x0207 (c.fresh 32) (Config.freeNat (c.free + 1))
        |>.used 2).startReaction ⟨4, 4, 0x0207, 1⟩ false

/-! ## TCM checks (R55, R56) -/

/-- An uncorrectable error of a strand that is neither in step nor in BIST, or of any strand during a split: a counted fault
of it (R56). A strand on its way back into step is fenced again (log entry 173). -/
def Core.tcmCounted (c : Core) (s kind addr : Nat) : Core :=
  if c.strandRetired s then c
  else if c.ply.split then
    let c := c.voterInfo kind (maskOf (c.stepping.filter (· != s))) (2 ^ s) addr
    let (c, third) := c.countFault s
    if third then ((c.retireStrand s 4).fault' 0x0204 1).afterRetire else c
  else c.minorityFence s kind (maskOf c.stepping) addr

/-- TCM_SCRUB: an error found in the strands of `mask`, in the code or data TCM, corrected or not. -/
def Core.tcmScrub (c : Core) (mask : Nat) (code uncorr : Bool) (addr : Nat) : Core :=
  let ss := bitsSet 3 mask
  if !uncorr then ss.foldl (fun c s => ((c.inc32 (Od.STRAND_ECC_CORR s)).log1 0x0208 s)) c
  else
    let c := ss.foldl (fun c s => c.inc32 (Od.STRAND_ECC_UNCORR s)) c
    let kind := if code then 5 else 6
    let live := ss.filter c.inStep
    let c := (ss.filter fun s => c.strandBit s 2 && c.ply.unvoted.isNone).foldl (fun c s =>
      (((c.wr (Od.STRAND_BIST_RESULT s) (if code then 3 else 4)).retireStrand s 5).faultPart 0x0203 1).afterRetire) c
    let stray := ss.filter fun s => !live.contains s && !c.strandBit s 2
    if c.ply.unvoted.isSome then c
    else if c.ply.split then (live ++ stray).foldl (fun (c : Core) s => c.tcmCounted s kind addr) c
    else
      let c := stray.foldl (fun (c : Core) s => c.tcmCounted s kind addr) c
      match live with
      | [] => c
      | [s] => c.judgeStrand s kind addr
      | _ => c.unvotable kind 0 addr

/-! ## The agreement exchange (R63 to R67) -/

/-- Bits of agreesel (Table 02.3): BUSY 31, DEFAULTED 30, TRIES 29:28. -/
def agreeselWord (busy dflt : Bool) (tries src : Nat) : Nat :=
  b2n busy * 2 ^ 31 + b2n dflt * 2 ^ 30 + tries % 4 * 2 ^ 28 + src % 16

/-- AGREESEL_WRITE: the write selects `sel` and each strand samples the source (R64, R65). A repeated write after a try
without agreement is the next try (R66). -/
def Core.agreeWrite (c : Core) (sel : Nat) (samples : List Nat) : Core :=
  let src := sel % 16
  if 5 < src then
    { c with ply := { c.ply with agreesel := agreeselWord false true 0 src, agreelo := 0, agreehi := 0 } }
  else
    let old := c.ply.agreesel
    let retry := old.testBit 31 && field old 0 4 == src && c.ply.samples == []
    let tries := if retry then field old 28 2 + 1 else 1
    { c with ply := { c.ply with agreesel := agreeselWord true false tries src, samples := samples, agreeAt := c.clk.cyc } }

/-- Majority of three, or equality of two; none if there is neither. -/
def agreeOn : List Nat → Option Nat
  | [a, b, d] => if a = b ∨ a = d then some a else if b = d then some b else none
  | [a, b] => if a = b then some a else none
  | _ => none

/-- The middle of three values, the lower of two (Table 02.4). -/
def agreeNumeric : List Nat → Nat
  | [a, b, d] => max (min a b) (min (max a b) d)
  | [a, b] => min a b
  | _ => 0

/-- The 2-bit field `i` of each sample. -/
def pairFields (i : Nat) (l : List Nat) : List Nat := l.map fun v => field v (2 * i) 2

/-- The value the exchange of source 4 or 5 yields, a field without agreement at its safe default: the demand state 0
(log entry 10). -/
def agreePairs (l : List Nat) : Nat :=
  (List.range 16).foldl (fun w i => w + ((agreeOn (pairFields i l)).getD 0) * 2 ^ (2 * i)) 0

/-- Does every word or field of the source agree? -/
def agreeAll (src : Nat) (l : List Nat) : Bool :=
  match src with
  | 0 | 3 => true
  | 1 | 2 => (agreeOn l).isSome
  | _ => (List.range 16).all fun i => (agreeOn (pairFields i l)).isSome

/-- The combined value. -/
def agreeValue (src : Nat) (l : List Nat) : Nat :=
  match src with
  | 0 | 3 => agreeNumeric l
  | 1 | 2 => (agreeOn l).getD 0
  | _ => agreePairs l

/-- Is a strand's sample in the minority (R67)? Only what was agreed is judged. -/
def agreeMinority (src : Nat) (l : List Nat) (v : Nat) : Bool :=
  match src with
  | 0 => let m := agreeNumeric l; decide (1000 < (if v < m then m - v else v - m))
  | 3 => v != agreeNumeric l
  | 1 | 2 => match agreeOn l with | some m => v != m | none => false
  | _ => (List.range 16).any fun i =>
      match agreeOn (pairFields i l) with | some m => field v (2 * i) 2 != m | none => false

/-- The judgement of minority samples of one exchange (R67). -/
def Core.judgeMinority (c : Core) (src : Nat) (ss : List Nat) (l : List Nat) : Core :=
  if ss.length != 3 then c.clearMinority
  else
    (ss.zip l).foldl (fun c p =>
      let s := p.1
      if agreeMinority src l p.2 then
        let c := c.inc32 (Od.STRAND_AGREE_MINORITY s)
        let n := (c.strand s).minority.getD src 0 + 1
        if 8 ≤ n then
          let c := c.updStrand s fun x => { x with minority := setAt x.minority src 0 }
          c.judgeStrand s 7 0
        else c.updStrand s fun x => { x with minority := setAt x.minority src n }
      else c.updStrand s fun x => { x with minority := setAt x.minority src 0 }) c

/-- A word that ends its exchange with the safe default is unknown for the tick: the manager keeps the word of the previous
tick and makes no role decision (R357). -/
def Core.wordAgreed (c : Core) (key v : Nat) (dflt : Bool) : Core :=
  if dflt then { c.inc32 Od.PAIR_AGREE_UNKNOWN with pair := { c.pair with unknownAt := some (c.rd Od.TICK_COUNT) } }
  else c.wr key v

/-- What an agreed value is for (Table 02.4): the partner and witness words, the safe-input fields. -/
def Core.deliverAgreed (c : Core) (src v : Nat) (dflt : Bool) : Core :=
  match src with
  | 1 => c.wordAgreed Od.PAIR_PARTNER_WORD v dflt
  | 2 => c.wordAgreed Od.PAIR_WITNESS_WORD v dflt
  | 4 => c.wr Od.SAFE_SIN_LO v
  | 5 => c.wr Od.SAFE_SIN_HI (v % 2 ^ 16)
  | _ => c

/-- The samples of the strands in step are combined (R64 to R67); during a split too, of every strand whose IN_STEP is set
(log entry 165). -/
def Core.agreeCombine (c : Core) : Core :=
  let w := c.ply.agreesel
  if !w.testBit 31 || c.ply.samples == [] then c
  else
    let src := field w 0 4
    let tries := field w 28 2
    let ss := c.stepping
    let l := ss.map fun s => c.ply.samples.getD s 0
    let c := c.inc64 Od.AGREE_COUNT
    let c := c.judgeMinority src ss l
    if !agreeAll src l && tries < 3 then
      let c := c.inc32 Od.AGREE_RETRIES
      { c with ply := { c.ply with samples := [] } }
    else
      let v := agreeValue src l
      let dflt := !agreeAll src l
      let c := { c with ply := { c.ply with
        agreesel := agreeselWord false dflt tries src, samples := [], agreelo := v % 2 ^ 32,
        agreehi := if src = 0 ∨ src = 3 then v / 2 ^ 32 else 0
        defaultedAt := if dflt then some (c.rd Od.TICK_COUNT) else c.ply.defaultedAt } }
      let c := if dflt then (c.inc32 Od.AGREE_NOMAJ).log1 0x0209 src else c
      c.deliverAgreed src v dflt

/-- AGREE_EXCHANGE_END: 40 core cycles after the write (R64). -/
def Core.agreeEnd (c : Core) : Core :=
  if !c.ply.agreesel.testBit 31 || c.ply.samples == [] then c else (c.atCyc (c.ply.agreeAt + 40)).agreeCombine

/-- An exchange of the executive in its tick work, with up to three tries on the same captured samples (R66, R305). Its cycles
are among the 1,000 between the boundary and the release, which the boundary's command does not pass (log entry 177). -/
def Core.agreeRun (c : Core) (src : Nat) (samples : List Nat) : Core :=
  let c := (c.agreeWrite src samples).agreeCombine
  let c := if c.ply.agreesel.testBit 31 then (c.agreeWrite src samples).agreeCombine else c
  if c.ply.agreesel.testBit 31 then (c.agreeWrite src samples).agreeCombine else c

/-! ## The safe-output voter (R77 to R80) -/

/-- SOCMD_WRITE: a strand's command and token. Without safety functions the CSR is absent and the write ignored (R87). -/
def Core.socmdWrite (c : Core) (s v : Nat) : Core :=
  if c.safetyFuse = 0 then c
  else c.updStrand s fun x =>
    { x with
      socmd := v % 512, written := true
      tokenOk := !x.tokenKnown || (x.token != v.testBit 8) }

/-- A strand's input is live (R78). -/
def Core.soLive (c : Core) (s : Nat) : Bool :=
  c.inStep s && (c.strand s).written && (c.strand s).tokenOk

/-- Is the input of a strand judged at this evaluation (R79)? -/
def Core.soJudged (c : Core) (s : Nat) : Bool :=
  c.inStep s && c.tickWork && !c.ply.sovSkip && !c.ply.split && c.ply.unvoted.isNone && !(c.strand s).firstEval

/-- Judged inputs that are not live: one of three strands is the minority; otherwise the evaluation is one un-votable event
(R79). -/
def Core.tokenMisses (c : Core) : Core :=
  match [0, 1, 2].filter fun s => c.soJudged s && !c.soLive s with
  | [] => c
  | s :: more =>
    let c := (s :: more).foldl (fun (c : Core) _ => c.inc32 Od.SOV_TOKEN_MISS) c
    if more.isEmpty then c.judgeStrand s 8 0 else c.unvotable 8 0 0

/-- SOV_EVALUATION at the commit phase of SO.CG: what each safe output is driven to (R78). -/
def soDecide (live : List Nat) (k : Nat) : Bool :=
  match live with
  | [a, b, d] => (b2n (a.testBit k) + b2n (b.testBit k) + b2n (d.testBit k)) ≥ 2
  | [a, b] => a.testBit k && b.testBit k
  | _ => false

def Core.sovEvaluate (c : Core) : Core :=
  if c.safetyFuse = 0 then c
  else
    let live := c.stepping.filter c.soLive
    let cmds := live.map fun s => (c.strand s).socmd
    let c := c.tokenMisses
    let voted := if c.soForced then 0 else maskOf ((List.range 8).filter (soDecide cmds))
    let c := (c.setFld Od.SOV_STATUS 16 8 voted).setFld Od.SOV_STATUS 8 3 (maskOf live)
    let c := [0, 1, 2].foldl (fun c s => c.updStrand s fun x =>
      { x with
        token := if x.written then x.socmd.testBit 8 else x.token
        tokenKnown := x.tokenKnown || x.written
        written := false, firstEval := if c.inStep s then false else x.firstEval }) c
    { c with ply := { c.ply with sovSkip := if c.tickWork then false else c.ply.sovSkip } }

/-! ## Debugging (R81 to R83) -/

/-- A request to the strands that PLY.DEBUG_EN refuses (R81): severity 4, and the hart is reported as unavailable. -/
def Core.debugRefused (c : Core) (s : Nat) : Core := ((c.logSev 0x020A 4 s (c.fresh 32)).used 1).answer .unavailable

/-- The strands are halted by the debug module. -/
def Core.haltStrands (c : Core) : Core :=
  [0, 1, 2].foldl (fun c s => (c.setStrandBit s 9 true).setStrandBit s 8 false) c

/-- The lock-step splits (R82): DEBUG_SPLIT, safe outputs off, ACTIVE toggling stopped, functions not available, the
record, HOLD; a pair member takes the role SYNCING (R497). -/
def Core.debugSplit (c : Core) (s : Nat) : Core :=
  let c := { c with
    ply := { c.ply with split := true }
    toggling := false
    role := if c.pairMember then .syncing else c.role }
  let c := ((c.inc32 Od.PLY_DEBUG_SPLITS).logA 0x020A s (c.fresh 32)).used 1
  let c := (c.vaultWrite fun v => { v with debugSplits := c.rd Od.PLY_DEBUG_SPLITS }).cfgChanged
  let c := (c.forceSoOff.nest 0x020B (codeLevel 0x020B) 1).haltStrands
  if c.run = .init ∨ c.run = .stop ∨ c.run = .run then c.setRun .hold else c

/-- A halt or step request to a strand (DEBUG_HALT, DEBUG_STEP). Of several requests during SAFE the last one is held, a step
request in FAILED does nothing, and a split in FAILED is not counted (log entry 164). -/
def Core.debugRequest (c : Core) (s : Nat) (step : Bool) : Core :=
  if c.rd Od.PLY_DEBUG_EN = 0 then c.debugRefused s
  else match c.run with
    | .safe => { c with ply := { c.ply with heldReq := some (s, step) } }
    | .failed =>
      if step then c
      else ((({ c with ply := { c.ply with split := true } }).logA 0x020A s (c.fresh 32)).used 1).haltStrands
    | .init | .stop | .run => c.debugSplit s
    | .hold => (c.setStrandBit s 9 true).setStrandBit s 8 false
    | _ => c

/-- DEBUG_ABSTRACT_COMMAND: refused, or served; in FAILED it sets DEBUG_SPLIT and is recorded (R81, R82). -/
def Core.debugAbstract (c : Core) (s reg : Nat) : Core :=
  if c.rd Od.PLY_DEBUG_EN = 0 then c.debugRefused s
  else
    let c := if c.run = .failed then
      (({ c with ply := { c.ply with split := true } }).logA 0x020A s (c.fresh 32)).used 1 else c
    c.answerReg (c.strandCsr s) reg

/-- DEBUG_RESUME_LEAD: the strand PLY.DEBUG_LEAD names runs alone (R83). -/
def Core.resumeLead (c : Core) : Core :=
  if c.ply.split && c.run != .failed then
    let l := c.rd Od.PLY_DEBUG_LEAD
    (c.setStrandBit l 9 false).setStrandBit l 8 true
  else c

/-- DEBUG_HELD_REQUEST: a request held during SAFE takes effect once SAFE has been left (R82). -/
def Core.heldRequest (c : Core) : Core :=
  match c.ply.heldReq with
  | some (s, step) =>
    if c.run = .safe then c
    else ({ c with ply := { c.ply with heldReq := none } }).debugRequest s step
  | none => c

end Sys2Proof.Machine
end

