-- ==== Sys2Proof/Machine/SafetyFn.lean ====
section
/-! DEFINITION. Safety functions (chapter 08): the safe-input pairs with their evaluators, availability, the axis monitors,
the functions, the command to the safe-output voter, and the receiving side of Scrim. -/

namespace Sys2Proof.Machine

def PairEval.fresh : PairEval := ⟨0, 0⟩
def Axis.fresh : Axis := ⟨[], none, none, none, 0, 0, 0⟩
def ScrimConn.fresh : ScrimConn := ⟨none, 0, [], none, 0⟩

def Core.updSafety (c : Core) (f : Safety → Safety) : Core := { c with safety := f c.safety }
def Core.axis (c : Core) (k : Nat) : Axis := c.safety.axes.getD k Axis.fresh
def Core.updAxis (c : Core) (k : Nat) (f : Axis → Axis) : Core :=
  c.updSafety fun x => { x with axes := updAt f x.axes k }
def Core.conn (c : Core) (r : Nat) : ScrimConn := c.safety.conns.getD r ScrimConn.fresh
def Core.updConn (c : Core) (r : Nat) (f : ScrimConn → ScrimConn) : Core :=
  c.updSafety fun x => { x with conns := updAt f x.conns r }

/-! ## Safe-input pairs (R300 to R305) -/

/-- The pair is used and bonded, and its evaluators run. -/
def Core.sinRuns (c : Core) (p : Nat) : Bool :=
  c.sampling && c.safetyFuse != 0 && decide (2 * p + 1 < c.dioCount) && c.rd (Od.SIN_TYPE p) != 0

/-- ra and rb: each channel at its release level (Table 08.1). -/
def Core.sinLevels (c : Core) (p : Nat) : Bool × Bool :=
  let a := c.dioBit (2 * p) dsLevel
  let b := c.dioBit (2 * p + 1) dsLevel
  if c.rd (Od.SIN_TYPE p) = 2 then (a, !b) else (a, b)

/-- A channel is fed from a source with a fault of R304. -/
def Core.chanTpFault (c : Core) (i : Nat) : Bool :=
  let cfg := (c.chan i).cfg
  cfg.testBit 11 && [2, 3, 4].any (c.tpBit (field cfg 8 3))

def Core.sinTpFault (c : Core) (p : Nat) : Bool := c.chanTpFault (2 * p) || c.chanTpFault (2 * p + 1)

/-- What the passing of time does to a copy while the levels last: the discrepancy time of CLOSING and OPENING, and the
return from FAULT, where both channels have been at their demand level since `t` (R302). The levels last through the sample at `now`, or end before it where `now` has new ones. -/
def PairEval.elapse (disc now : Nat) (new demand tp : Bool) (e : PairEval) : PairEval :=
  let late := decide (e.t + disc + b2n new ≤ now)
  match e.eval with
  | 1 | 3 => if late then ⟨4, e.t + disc⟩ else e
  | 4 => if !demand then ⟨4, now⟩ else if late && !tp then ⟨0, now⟩ else e
  | _ => e

/-- A copy is put in FAULT (R303, R304); in DEMAND both channels were at their demand level already (log entry 84). -/
def PairEval.toFault (now : Nat) (e : PairEval) : PairEval := if e.eval = 0 then ⟨4, e.t⟩ else ⟨4, now⟩

/-- One sample of a copy (R302). -/
def PairEval.sample (ra rb : Bool) (now : Nat) (e : PairEval) : PairEval :=
  match e.eval with
  | 0 => if ra && rb then ⟨2, now⟩ else if ra || rb then ⟨1, now⟩ else e
  | 1 => if ra && rb then ⟨2, now⟩ else if !ra && !rb then ⟨0, now⟩ else e
  | 2 => if !ra && !rb then ⟨0, now⟩ else if !ra || !rb then ⟨3, now⟩ else e
  | 3 => if !ra && !rb then ⟨0, now⟩ else e
  | _ => e

def Core.updEvals (c : Core) (p : Nat) (f : PairEval → PairEval) : Core :=
  c.updSafety fun x => { x with evals := x.evals.map fun l => updAt f l p }

/-- The copies' states of a pair, X, Y, Z. -/
def Core.evalStates (c : Core) (p : Nat) : List Nat := c.safety.evals.map fun l => (l.getD p PairEval.fresh).eval

/-- EVAL of SIN.STATUS: the majority. -/
def Core.sinEval (c : Core) (p : Nat) : Nat := (agreeOn (c.evalStates p)).getD 0

/-- An entry to FAULT is counted and reported with its cause: 1 DISCREPANCY, 2 PULSE_A, 3 PULSE_B, 4 TP. -/
def Core.sinFaulted (c : Core) (p cause : Nat) : Core :=
  ((c.setFld (Od.SIN_STATUS p) 8 3 cause).inc32 (Od.SIN_FAULTS p)).fault' (if cause = 1 then 0x0801 else 0x0802)
    (unitDio (2 * p))

/-- The pair is put in FAULT by a pulse check or a source (R303, R304). -/
def Core.sinFault (c : Core) (p cause : Nat) : Core :=
  if !c.sinRuns p || c.sinEval p = 4 then c
  else (c.updEvals p (PairEval.toFault c.clk.cyc)).sinFaulted p cause

/-- The time up to now passes for a pair, with the levels held so far; `new`: other levels are sampled now. -/
def Core.sinElapse (c : Core) (p : Nat) (new : Bool) : Core :=
  if !c.sinRuns p then c
  else
    let (ra, rb) := c.sinLevels p
    let before := c.sinEval p
    let c := c.updEvals p (PairEval.elapse (ms (c.rd (Od.SIN_DISC_MS p))) c.clk.cyc new (!ra && !rb) (c.sinTpFault p))
    if before != 4 && c.sinEval p = 4 then c.sinFaulted p 1 else c

/-- A pair samples its levels now. -/
def Core.sinSample (c : Core) (p : Nat) : Core :=
  if !c.sinRuns p then c
  else
    let (ra, rb) := c.sinLevels p
    let c := c.updEvals p (PairEval.sample ra rb c.clk.cyc)
    if c.sinTpFault p then c.sinFault p 4 else c

def Core.sinRun (c : Core) (p : Nat) : Core := (c.sinElapse p false).sinSample p

/-- SIN_DISCREPANCY: the deadline of a pair in CLOSING or OPENING. -/
def Core.sinDiscrepancy (c : Core) (p : Nat) : Core :=
  if !c.sinRuns p || !(c.sinEval p = 1 || c.sinEval p = 3) then c
  else
    let t := ((c.safety.evals.getD 0 []).getD p PairEval.fresh).t
    (c.atCyc (t + ms (c.rd (Od.SIN_DISC_MS p)))).sinElapse p false

/-- Every pair fed from a source with a fault goes to FAULT (R304). -/
def Core.sinTpFaults (c : Core) : Core :=
  (List.range 24).foldl (fun c p => if c.sinTpFault p then (c.sinElapse p false).sinFault p 4 else c) c

/-- The reset channels in use (R308). -/
def Core.resetChannel (c : Core) (i : Nat) : Bool :=
  (List.range 16).any fun f => c.rd (Od.SF_TYPE f) != 0 && c.rd (Od.SF_RESET_CH f) == i

/-- DIO_LEVEL_ACCEPTED with what it means to a pair and to a reset channel. A level that began within a masking window is
never accepted: the sampler does not see it (R222). -/
def Core.levelAccepted (c : Core) (i : Nat) (lvl : Bool) : Core :=
  if c.pulseMasked i (c.clk.cyc - filterTime (field (c.chan i).cfg 4 3)) then c
  else
  let before := c.dioBit i dsLevel
  let since := (c.chan i).since
  let c := ((c.sinElapse (i / 2) true).dioAccept i lvl).sinSample (i / 2)
  let held := c.clk.cyc - since
  if before && !c.dioBit i dsLevel && c.resetChannel i && ms 100 ≤ held && held ≤ ms 5000 then
    c.updSafety fun x => { x with resets := x.resets.filter (· != i) ++ [i] }
  else c

/-- The channels fed from a source. -/
def Core.fedFrom (c : Core) (k : Nat) : List Nat :=
  (List.range 48).filter fun i => (c.chan i).cfg.testBit 11 && field (c.chan i).cfg 8 3 == k

/-- TEST_PULSE_START: the levels at which the pulse begins are kept for its checks (R303). -/
def Core.testPulse (c : Core) (k : Nat) : Core :=
  let was := (c.tpSource k).pulse
  let c := c.pulseStart k
  if (c.tpSource k).pulse = was then c
  else (c.fedFrom k).foldl (fun c i =>
    c.updSafety fun x => { x with atPulse := putBit x.atPulse i (c.dioBit i dsLevel) }) c

/-- PULSE_PEND: one failed check is counted on a channel of the pair. -/
def Core.pulsePend (c : Core) (p : Nat) : Core :=
  c.setBit (Od.SIN_STATUS p) 5 (c.safety.pulseFails.getD (2 * p) 0 == 1 || c.safety.pulseFails.getD (2 * p + 1) 0 == 1)

/-- PULSE_LOW_SAMPLE with the pulse check of R303. -/
def Core.pulseSample (c : Core) (i : Nat) (low : Bool) : Core :=
  let cfg := (c.chan i).cfg
  let k := field cfg 8 3
  if !c.dioLive i || !cfg.testBit 11 || !c.tpPulsing k || (c.tpSource k).pulse.isNone then c
  else
    let c := c.pulseLow i low
    if c.safetyFuse = 0 || !c.safety.atPulse.testBit i then c
    else if low then (c.updSafety fun x => { x with pulseFails := setAt x.pulseFails i 0 }).pulsePend (i / 2)
    else
      let n := min 2 (c.safety.pulseFails.getD i 0 + 1)
      let c := (c.updSafety fun x => { x with pulseFails := setAt x.pulseFails i n }).pulsePend (i / 2)
      let c := c.inc32 (Od.SIN_PULSE_FAILS (i / 2))
      if n = 2 then (c.sinElapse (i / 2) false).sinFault (i / 2) (2 + i % 2) else c

/-- The field a copy produces (R305, Table 08.2). -/
def fieldOf (eval : Nat) : Nat := if eval = 2 then 1 else if eval = 4 then 2 else 0

/-- A strand's words of sources 4 and 5: the fields of pairs 0 to 15 and 16 to 23. -/
def Core.fieldWords (c : Core) (s : Nat) : Nat × Nat :=
  let fields := (List.range 24).map fun p =>
    if c.sinRuns p then fieldOf ((c.safety.evals.getD s []).getD p PairEval.fresh).eval else 0
  let word (l : List Nat) : Nat := (l.foldr (fun f w => f + 4 * w) 0)
  (word (fields.take 16), word (fields.drop 16))

/-- PAIR_FIELD_AGREEMENT: the exchanges of sources 4 and 5 on the fields captured at the latch. -/
def Core.agreeFields (c : Core) (captured : List (Nat × Nat)) : Core :=
  if c.safetyFuse = 0 || !c.tickWork then c
  else (c.agreeRun 4 (captured.map Prod.fst)).agreeRun 5 (captured.map Prod.snd)

/-- An agreed field of the words of sources 4 and 5. -/
def fieldAt (w : Nat × Nat) (p : Nat) : Nat := if p < 16 then field w.1 (2 * p) 2 else field w.2 (2 * (p - 16)) 2

/-! ## Availability (R310, R311) -/

/-- The configuration of R299 without SAFE.CFG_REF, which holds the CRC itself. -/
def safetyKeys : List Nat :=
  (List.range 8).map Od.TP_MODE ++ [Od.SO_CG, Od.SO_DARK_PERIOD] ++ (List.range 8).map Od.SO_DARK_EN ++
    (rowKeys (odRows28.filter fun r => r.acc == .rwsc)).filter (· != Od.SAFE_CFG_REF)

/-- SAFE.CFG_CRC over the present configuration. -/
def Core.safetyCrc (c : Core) : Nat := crc32c 0xFFFFFFFF (Config.cfgBytes (c.cfgValues safetyKeys))

/-- An escalated reaction of the Ply at L2 is in progress: the functions are not available (Table 15.6). -/
def Core.plyEscalated (c : Core) : Bool :=
  c.react.active.any fun a => a.unit == 1 && a.level == 2 && decide (a.own < 2)

/-- The run states of R310. -/
def Core.safetyStates (c : Core) : Bool :=
  match c.run with
  | .init | .stop | .run => true
  | _ => false

def Core.sfAvailable (c : Core) : Bool :=
  c.safetyFuse != 0 && c.safetyStates && !c.ply.split && c.rd Od.SAFE_CFG_REF != 0 &&
    c.rd Od.SAFE_CFG_REF == c.rd Od.SAFE_CFG_CRC && !c.plyEscalated

/-- Availability is judged: its loss turns every function off and is a fault, in SAFE and FAILED a record only; its return
turns every function off (R311). -/
def Core.judgeAvailable (c : Core) : Core :=
  let now := c.sfAvailable
  if now = c.safety.avail then c
  else
    let on := (List.range 16).filter fun f => c.rd (Od.SF_STATE f) == 1
    let c := (c.updSafety fun x => { x with avail := now }).sfOff
    let c := if now then c else on.foldl (fun (c : Core) f => c.log1 0x0803 f) c
    if now then c
    else if c.run = .safe ∨ c.run = .failed ∨ !c.alive then c.log 0x080B
    else c.fault' 0x080B 0

/-- SAFETY_CRC_CHECK: once per second. -/
def Core.crcCheck (c : Core) : Core :=
  if c.safetyFuse = 0 || !c.tickWork then c
  else
    let c := c.atCyc (c.safety.crcAt + ms 1000)
    let c := (c.updSafety fun x => { x with crcAt := c.clk.cyc }).wr Od.SAFE_CFG_CRC c.safetyCrc
    c.judgeAvailable

/-- The function that owns a safe output (R306). -/
def Core.soOwner (c : Core) (k : Nat) : Option Nat :=
  (List.range 16).find? fun f =>
    match c.rd (Od.SF_TYPE f) with
    | 1 => c.bit (Od.SF_OUTPUTS f) k
    | 2 => k / 2 == c.rd (Od.SF_AXIS f)
    | _ => false

/-- A safe output of an IO48S waits for 0 and then 1 (R322). -/
def Core.rsoWait (c : Core) (k : Nat) : Core :=
  if c.safetyFuse != 1 || c.rd (Od.RSO_SRC k) = 0xFFFF then c
  else (c.wr (Od.RSO_STATE k) 2).updSafety fun x => { x with rsoZero := putBit x.rsoZero k false }

/-! ## Scrim: the state of a connection -/

/-- SCRIM.STATE values. -/
def scUnused : Nat := 0
def scWaiting : Nat := 1
def scOk : Nat := 2
def scDegraded : Nat := 3
def scTimedOut : Nat := 4

def Core.scrimState (c : Core) (r : Nat) : Nat := c.rd (Od.SCRIM_STATE r)
def Core.scrimLive (c : Core) (r : Nat) : Bool := c.scrimState r == scOk || c.scrimState r == scDegraded

/-- What functions read the connection. -/
def Core.readsConn (c : Core) (f r : Nat) : Bool :=
  c.rd (Od.SF_TYPE f) != 0 &&
    ((c.bit (Od.SF_SCRIM_IN f) 31 && c.fld (Od.SF_SCRIM_IN f) 16 4 == r) ||
     (c.rd (Od.SF_TYPE f) == 2 && c.rd (Od.AXIS_DRV_CONN (c.rd (Od.SF_AXIS f))) == r))

/-- SCRIM.STATE changes: its record, and the restart rules on leaving WAITING or TIMED_OUT (R311, R322). -/
def Core.setScrim (c : Core) (r st : Nat) : Core :=
  let old := c.scrimState r
  if old = st then c
  else
    let c := c.wr (Od.SCRIM_STATE r) st
    let c := match st with
      | 2 => c.log1 0x080A r
      | 3 => c.log1 0x0808 r
      | 4 => c.fault' 0x0809 (unitScrim r)
      | _ => c
    if (old = scWaiting || old = scTimedOut) && (st = scOk || st = scDegraded) then
      let c := (List.range 16).foldl (fun c f => if c.readsConn f r then c.sfToOff f else c) c
      (List.range 8).foldl (fun c k => if c.fld (Od.RSO_SRC k) 12 4 == r then c.rsoWait k else c) c
    else c

/-- Does a telegram's data count for the safety side: OK or DEGRADED, and AVAILABLE in the snapshot's telegram (R307)? -/
def Core.scrimGood (c : Core) (r : Nat) : Bool :=
  c.scrimLive r && match (c.conn r).snap with | some t => t.avail | none => false

/-- The data of the snapshot as the safety side reads it: zero where the conditions fail (R316, R321). -/
def Core.scrimData (c : Core) (r : Nat) : Bytes :=
  if c.scrimGood r then match (c.conn r).snap with | some t => t.data | none => [] else []

/-- scrim_bit of R307. -/
def Core.scrimBit (c : Core) (r b : Nat) : Bool := (leAt (c.scrimData r) (b / 8) 1).testBit (b % 8)

/-! ## Scrim: reception (R319 to R321) -/

/-- The seed of a network's copies (R317). -/
def scrimSeed (path : Nat) : Nat := if path = 0 then 0x1D0F3A5C else 0xE2F0C5A3

/-- A copy without PATH, for the comparison of R319. -/
def samePart (x : Bytes) : Bytes := splice (x.take (x.length - 4)) 1 [BitVec.ofNat 8 (putBit (leAt x 1 1) 0 false)]

/-- The RX connection a copy names. -/
def Core.rxConn (c : Core) (id : Nat) : Option Nat :=
  (List.range 16).find? fun r => c.rd (Od.SCRIM_DIR r) == 2 && c.rd (Od.SCRIM_CONN_ID r) == id

/-- The checks of R319 on a copy received on a network. -/
def Core.copyValid (c : Core) (r path : Nat) (x : Bytes) : Bool :=
  let n := c.rd (Od.SCRIM_LEN r)
  let flags := beAt x 1 1
  let src := beAt x 4 4
  let peer2 := c.rd (Od.SCRIM_PEER2 r)
  x.length == 0x1A + n && beAt x (0x16 + n) 4 == crc32c (scrimSeed path) (x.take (0x16 + n)) &&
    b2n (flags.testBit 0) == path && beAt x 0 1 == 1 && field flags 3 5 == 0 && beAt x 0x15 1 == 0 &&
    beAt x 2 2 == c.rd (Od.SCRIM_CONN_ID r) && (src == c.rd (Od.SCRIM_PEER1 r) || (peer2 != 0 && src == peer2)) &&
    beAt x 0x14 1 == n

/-- The age check applies (R319). -/
def Core.ageChecked (c : Core) (r : Nat) (x : ScrimCopy) : Bool :=
  c.rd (Od.SCRIM_MAX_AGE_US r) != 0 && (beAt x.bytes 1 1).testBit 2 && !c.bit Od.TIME_FLAGS 0 && !c.bit Od.TIME_FLAGS 1

/-- decide of R319. In a STANDBY module the telegrams it receives serve comparison only (R344; log entry 89). -/
def Core.scrimDecide (c : Core) (r : Nat) (x : ScrimCopy) (copies : Nat) : Core :=
  let seq := beAt x.bytes 8 4
  let d := (seq + 2 ^ 32 - c.rd (Od.SCRIM_SEQ r)) % 2 ^ 32
  let newer := !c.scrimLive r || (1 ≤ d && d ≤ 2 ^ 31 - 1)
  let age := if x.stamp ≤ x.arrival then x.arrival - x.stamp else x.stamp - x.arrival
  if c.role == .standby then c
  else if !newer || (c.ageChecked r x && us (c.rd (Od.SCRIM_MAX_AGE_US r)) < age) then c.inc32 (Od.SCRIM_REJECTED r)
  else
    let n := beAt x.bytes 0x14 1
    let data := slice x.bytes 0x16 n
    let c := (c.wr (Od.SCRIM_SEQ r) seq).setDom (Od.SCRIM_DATA r) data
    let c := if copies = 2 then c.inc64 (Od.SCRIM_ACCEPT2 r) else c.inc32 (Od.SCRIM_ACCEPT1 r)
    let c := c.updConn r fun k => { k with
      single := if copies = 2 then 0 else k.single + 1
      waiting := k.waiting ++ [⟨c.clk.cyc, copies == 1, x.bytes⟩] }
    c.setScrim r (if copies = 2 then scOk else scDegraded)

/-- decide_single of R319. -/
def Core.scrimAlone (c : Core) (r : Nat) (x : ScrimCopy) : Core :=
  if c.role == .standby then c
  else if !c.scrimLive r || c.rd (Od.SCRIM_SINGLE_MAX r) ≤ (c.conn r).single then c.inc32 (Od.SCRIM_REJECTED r)
  else c.scrimDecide r x 1

/-- A held copy whose wait has ended before now is decided alone, at its own instant. -/
def Core.scrimExpire (c : Core) (r : Nat) : Core :=
  match (c.conn r).pend with
  | some p =>
    if p.arrival + us (c.rd (Od.SCRIM_SKEW_US r)) < c.clk.now then
      (c.updConn r fun k => { k with pend := none }).scrimAlone r p
    else c
  | none => c

/-- A valid copy (R319). -/
def Core.scrimArrive (c : Core) (r : Nat) (x : ScrimCopy) : Core :=
  let c := c.scrimExpire r
  match (c.conn r).pend with
  | some p =>
    if beAt p.bytes 8 4 == beAt x.bytes 8 4 && p.path != x.path then
      let c := c.updConn r fun k => { k with pend := none }
      if samePart p.bytes = samePart x.bytes then c.scrimDecide r x 2
      else (c.inc32 (Od.SCRIM_DISAGREE r)).log1 0x0807 r
    else (c.scrimAlone r p).updConn r fun k => { k with pend := some x }
  | none => c.updConn r fun k => { k with pend := some x }

/-- SCRIM_COPY_RX: a telegram received on network A (path 0) or B (1), the four bytes of its frame header removed. A copy
that names no RX connection is no connection's copy, and is dropped. -/
def Core.scrimCopyRx (c : Core) (path : Nat) (x : Bytes) : Core :=
  if c.safetyFuse = 0 || !c.timed then c
  else match c.rxConn (beAt x 2 2) with
    | none => c
    | some r =>
      if c.copyValid r path x then c.scrimArrive r ⟨path, c.clk.now, beAt x 0xC 8, x⟩
      else c.inc32 (if path = 0 then Od.SCRIM_INVALID_A r else Od.SCRIM_INVALID_B r)

/-- SCRIM_SKEW_EXPIRY: the wait of a held copy ends. -/
def Core.scrimSkew (c : Core) (r : Nat) : Core :=
  match (c.conn r).pend with
  | some p =>
    let c := c.atTime (p.arrival + us (c.rd (Od.SCRIM_SKEW_US r)))
    (c.updConn r fun k => { k with pend := none }).scrimAlone r p
  | none => c

/-- The watchdog of R321 at the boundary of tick n. -/
def Core.scrimWatch (c : Core) (r n : Nat) : Core :=
  let p := c.period
  let lim := if p = 0 then 0 else (ms (c.rd (Od.SCRIM_WD_MS r)) + p - 1) / p
  if c.scrimLive r && decide ((c.conn r).tick + lim < n) && (c.conn r).waiting.isEmpty then
    ((c.inc32 (Od.SCRIM_TIMEOUTS r)).updConn r fun k => { k with snap := none }).setScrim r scTimedOut
  else c

/-- SCRIM_WATCHDOG: the boundary at which the connection times out. -/
def Core.scrimWatchdog (c : Core) (r : Nat) : Core :=
  if c.rd (Od.SCRIM_DIR r) != 2 || !c.clk.running || !c.scrimLive r then c
  else (c.atTime c.clk.nextB).scrimWatch r (c.rd Od.TICK_COUNT + 1)

/-- The snapshot of an RX connection: the latest telegram decided before the boundary's core cycle, and the mapped inputs of
source kind 4 (R320). In a STANDBY module the telegrams received serve no snapshot: the step record brings them (R329,
R344). -/
def Core.scrimSnap (c : Core) (r : Nat) : Core :=
  if c.rd (Od.SCRIM_DIR r) != 2 then
    if c.scrimState r = scUnused then c else (c.updConn r fun _ => ScrimConn.fresh).setScrim r scUnused
  else
    let c := if c.scrimState r = scUnused then c.setScrim r scWaiting else c
    let c := c.scrimExpire r
    let (old, young) := (c.conn r).waiting.partition fun t => decide (t.cyc < c.clk.tickCyc)
    if c.role == .standby then c.updConn r fun k => { k with waiting := young }
    else
    let c := match old.getLast? with
      | some t =>
        let c := c.updConn r fun k => { k with snap := some t, waiting := young, tick := c.rd Od.TICK_COUNT }
        c.deliverSource 4 r (if t.avail then t.data else []) fun _ => b2n t.alone * 2 ^ qDegraded
      | none => c
    c.scrimWatch r (c.rd Od.TICK_COUNT)

def Core.scrimSnaps (c : Core) : Core := (List.range 16).foldl Core.scrimSnap c

/-! ## Axes (R312 to R314) -/

/-- |v| of the faster source. -/
def fasterOf (a b : Nat) : Nat := F32.max (F32.abs a) (F32.abs b)

/-- The counter's history takes the snapshot of this tick; `errs` are the counters whose ENC_ERR was set in it. -/
def Core.axisCount (c : Core) (errs k : Nat) : Core :=
  let n := c.rd (Od.AXIS_CNT k)
  if n = 0xFF then c
  else
    let w := c.rd (Od.AXIS_SPEED_WIN k)
    c.updAxis k fun x => { x with hist := ((toInt 32 (c.rd (Od.PI_COUNT n)), errs.testBit n) :: x.hist).take (w + 1) }

/-- The sources of an axis: vA, A valid, vB, B valid (R312). A window the history does not fill yet has no count(n − W):
source A is then invalid and vA a free value. -/
def Core.axisSources (c : Core) (k : Nat) : Nat × Bool × Nat × Bool :=
  let w := c.rd (Od.AXIS_SPEED_WIN k)
  let h := (c.axis k).hist
  let m : Int := c.rd (Od.COUNT_MODULO (c.rd (Od.AXIS_CNT k)))
  let (va, okA) : Nat × Bool := match h.head?, h[w]? with
    | some a, some b =>
      let d := if m = 0 then a.1 - b.1 else (a.1 - b.1) % m
      let d := if m < 2 * d then d - m else d
      (F32.div (F32.mul (F32.ofInt d) (c.rd (Od.AXIS_ENC_SCALE k))) (F32.ofFrac (w * c.period) 1000000000),
        !((h.take w).any Prod.snd))
    | _, _ => (c.fresh 32, false)
  let r := c.rd (Od.AXIS_DRV_CONN k)
  let vb := beNat (padTo 4 (slice (c.scrimData r) (c.rd (Od.AXIS_DRV_OFS k)) 4))
  (va, okA, vb, c.scrimGood r && F32.isFinite vb)

/-- The function of an axis. -/
def Core.axisFn (c : Core) (k : Nat) : Option Nat :=
  (List.range 16).find? fun f => c.rd (Od.SF_TYPE f) == 2 && c.rd (Od.SF_AXIS f) == k

def Core.axisFault (c : Core) (k : Nat) : Bool := c.bit (Od.AXIS_STATUS k) 4

/-- The core cycle since which a condition has held. -/
def sinceWhen (on : Bool) (was : Option Nat) (now : Nat) : Option Nat := if on then some (was.getD now) else none

/-- A time since which a condition holds has lasted `d` core cycles. -/
def lasted (t : Option Nat) (d now : Nat) : Bool := match t with | some t => decide (t + d ≤ now) | none => false

/-- The fault of an axis arises or clears by its timers (R313). -/
def Core.axisJudge (c : Core) (k : Nat) : Core :=
  let x := c.axis k
  let d := ms (c.rd (Od.AXIS_SRC_TOL_MS k))
  let now := c.clk.cyc
  if c.axisFault k then (if lasted x.good d now then c.setBit (Od.AXIS_STATUS k) 4 false else c)
  else if lasted x.apart d now || lasted x.invalid d now then
    (c.setBit (Od.AXIS_STATUS k) 4 true).fault' 0x0806 (unitSf ((c.axisFn k).getD k))
  else c

/-- The speeds of an axis in a tick (R312, R313). -/
def Core.axisTick (c : Core) (errs k : Nat) : Core :=
  if c.rd (Od.AXIS_CNT k) = 0xFF then c
  else
    let c := c.axisCount errs k
    let (va, okA, vb, okB) := c.axisSources k
    let c := c.used 1
    let apart := F32.lt (c.rd (Od.AXIS_SRC_TOL k)) (F32.abs (F32.sub va vb))
    let c := ((c.wr (Od.AXIS_SPEED_A k) va).wr (Od.AXIS_SPEED_B k) vb)
    let c := ((c.setBit (Od.AXIS_STATUS k) 7 (!okB)).setBit (Od.AXIS_STATUS k) 6 (!okA)).setBit (Od.AXIS_STATUS k) 5 apart
    let now := c.clk.cyc
    let c := c.updAxis k fun x => { x with
      apart := sinceWhen apart x.apart now
      invalid := sinceWhen (!okA || !okB) x.invalid now
      good := sinceWhen (okA && okB && !apart) x.good now }
    c.axisJudge k

/-- AXIS_FAULT: the time of R313 ends. -/
def Core.axisDeadline (c : Core) (k : Nat) : Core :=
  if c.rd (Od.AXIS_CNT k) = 0xFF || !c.tickWork then c
  else
    let x := c.axis k
    let t := if c.axisFault k then x.good else match x.apart, x.invalid with
      | some a, some b => some (min a b)
      | some a, none => some a
      | none, b => b
    match t with
    | some t => (c.atCyc (t + ms (c.rd (Od.AXIS_SRC_TOL_MS k)))).axisJudge k
    | none => c

/-- A function with an axis enters STOPPING: t0, v0, and the flags of the last stop (R314). -/
def Core.axisStart (c : Core) (k : Nat) : Core :=
  let v0 := fasterOf (c.rd (Od.AXIS_SPEED_A k)) (c.rd (Od.AXIS_SPEED_B k))
  let c := (c.setBit (Od.AXIS_STATUS k) 3 false).setBit (Od.AXIS_STATUS k) 2 false
  c.updAxis k fun x => { x with ticks := 0, v0 := v0, still := 0 }

/-- One tick of the monitored stop; answers axis_done (R314). Times are executed ticks × P. -/
def Core.axisMonitor (c : Core) (k : Nat) : Core × Bool :=
  let p := c.period
  let n := (c.axis k).ticks + 1
  let t := F32.ofFrac (n * p) 1000000000
  let lim := F32.add (F32.max (F32.sub (c.axis k).v0 (F32.mul (c.rd (Od.AXIS_DECEL k)) t)) 0) (c.rd (Od.AXIS_RAMP_TOL k))
  let va := F32.abs (c.rd (Od.AXIS_SPEED_A k))
  let vb := F32.abs (c.rd (Od.AXIS_SPEED_B k))
  let stillV := c.rd (Od.AXIS_STILL k)
  let c := c.updAxis k fun x => { x with ticks := n }
  if F32.lt lim (fasterOf va vb) then
    ((c.setBit (Od.AXIS_STATUS k) 3 true).fault' 0x0805 (unitSf ((c.axisFn k).getD k)), true)
  else
    let still := if F32.le va stillV && F32.le vb stillV then (c.axis k).still + 1 else 0
    let c := c.updAxis k fun x => { x with still := still }
    if ms (c.rd (Od.AXIS_STILL_MS k)) ≤ still * p then (c.setBit (Od.AXIS_STATUS k) 2 true, true)
    else (c, decide (ms (c.rd (Od.AXIS_RAMP_MAX_MS k)) ≤ n * p))

/-! ## The functions (R307 to R309) -/

/-- demand of R307; `w` holds the agreed or replicated fields. -/
def Core.sfDemand (c : Core) (w : Nat × Nat) (f : Nat) : Bool :=
  let sin := c.rd (Od.SF_SCRIM_IN f)
  !c.safety.avail ||
    (bitsSet 24 (c.rd (Od.SF_INPUTS f))).any (fun p => fieldAt w p != 1) ||
    (sin.testBit 31 && !c.scrimBit (field sin 16 4) (field sin 0 8)) ||
    (c.rd (Od.SF_TYPE f) == 2 && c.axisFault (c.rd (Od.SF_AXIS f)))

/-- reset_edge of R308 in this tick: a qualified reset whose 0 the snapshot shows. -/
def Core.resetShown (c : Core) (i : Nat) : Bool := c.safety.resets.contains i && c.rd (Od.PI_DIO_IN i) == 0

/-- One function in one tick (R307). -/
def Core.sfStep (c : Core) (w : Nat × Nat) (f : Nat) : Core :=
  let type := c.rd (Od.SF_TYPE f)
  if type = 0 then c
  else
    let k := c.rd (Od.SF_AXIS f)
    let st := c.rd (Od.SF_STATE f)
    let demand := c.sfDemand w f
    let reset := c.resetShown (c.rd (Od.SF_RESET_CH f))
    let c := if reset && st != 3 then c.logA 0x080D f 0 else c
    match st with
    | 1 =>
      if !demand then c
      else
        let c := (c.inc32 (Od.SF_DEMANDS f)).log1 0x0803 f
        if type = 2 && c.safety.avail && !c.axisFault k then (c.wr (Od.SF_STATE f) 2).axisStart k
        else c.wr (Od.SF_STATE f) 0
    | 2 =>
      if !c.safety.avail || c.axisFault k then c.wr (Od.SF_STATE f) 0
      else
        let (c, done) := c.axisMonitor k
        if done then c.wr (Od.SF_STATE f) 0 else c
    | 0 =>
      if demand then c
      else if c.rd (Od.SF_RESTART f) = 0 then (c.wr (Od.SF_STATE f) 1).log1 0x0804 f
      else c.wr (Od.SF_STATE f) 3
    | _ =>
      if demand then c.wr (Od.SF_STATE f) 0
      else if reset then (c.wr (Od.SF_STATE f) 1).log1 0x0804 f
      else c

/-- One safe output of an IO48S follows its bit (R322). -/
def Core.rsoStep (c : Core) (k : Nat) : Core :=
  let src := c.rd (Od.RSO_SRC k)
  let r := field src 12 4
  if src = 0xFFFF || !c.scrimLive r then c.wr (Od.RSO_STATE k) 0
  else
    let b := c.scrimBit r (field src 0 8)
    match c.rd (Od.RSO_STATE k) with
    | 1 => c
    | _ =>
      if !b then (c.wr (Od.RSO_STATE k) 2).updSafety fun x => { x with rsoZero := putBit x.rsoZero k true }
      else if c.safety.rsoZero.testBit k then c.wr (Od.RSO_STATE k) 1
      else c.wr (Od.RSO_STATE k) 2

/-- socmd bit k of R309, and of R322 in an IO48S. -/
def Core.socmdBit (c : Core) (k : Nat) : Bool :=
  c.safety.avail && c.safety.request.testBit k &&
    if c.safetyFuse = 1 then
      c.rd (Od.RSO_STATE k) == 1 && c.scrimBit (c.fld (Od.RSO_SRC k) 12 4) (c.fld (Od.RSO_SRC k) 0 8)
    else match c.soOwner k with
      | some f => c.rd (Od.SF_STATE f) == 1 || c.rd (Od.SF_STATE f) == 2
      | none => false

/-- The strands in step write socmd with the token turned over (R77, R309). -/
def Core.writeSocmd (c : Core) (v : Nat) : Core :=
  c.stepping.foldl (fun c s => c.socmdWrite s (v + 256 * b2n (!(c.strand s).token))) c

/-- SAFETY_FUNCTION_EVALUATION, after the exchanges of R305; `repl` holds the fields replicated from the active in a
STANDBY module (R329). -/
def Core.sfEvaluate (c : Core) (errs : Nat) (repl : Option (Nat × Nat)) : Core :=
  if c.safetyFuse = 0 || !c.tickWork then c
  else
    let c := c.judgeAvailable
    let own := (c.rd Od.SAFE_SIN_LO, c.rd Od.SAFE_SIN_HI)
    let c : Core := match repl with
      | some w => if w = own then c else (c.inc32 Od.SAFE_STBY_DIFF).log 0x080C
      | none => c
    let c : Core := [0, 1, 2, 3].foldl (fun c k => c.axisTick errs k) c
    let c : Core := (List.range 16).foldl (fun c f => c.sfStep (repl.getD own) f) c
    let c : Core := if c.safetyFuse = 1 then (List.range 8).foldl Core.rsoStep c else c
    let c := c.updSafety fun x => { x with resets := x.resets.filter fun i => c.rd (Od.PI_DIO_IN i) != 0 }
    let v := maskOf ((List.range 8).filter c.socmdBit)
    ((c.wr Od.SAFE_SO_REQ c.safety.request).wr Od.SAFE_SOCMD v).writeSocmd v

/-! ## Acknowledgement and commit of the safe outputs (R251, R311, R322) -/

/-- An accepted SO.ACK takes effect; the owner of an output whose latch it clears goes to OFF. -/
def Core.applySoAck (c : Core) : Core :=
  match c.io.soAck with
  | none => c
  | some persist =>
    let c := (List.range 8).foldl (fun (c : Core) k =>
      let (c, cleared) := c.ackSo persist k
      if !cleared then c
      else (match c.soOwner k with | some f => c.sfToOff f | none => c).rsoWait k) c
    (c.updField fun x => { x with soAck := none }).soAckTps

/-- A forced-off condition has ended: every function is OFF and follows SF.RESTART (R311). -/
def Core.endForced (c : Core) : Core :=
  if c.ply.forced && !c.soForced then { c with ply := { c.ply with forced := false } }.sfOff else c

/-- Whether the LP of a group in CUT has come back above the cut threshold by the evaluation, a free fact (log entry 192). -/
def Core.lpReturn (c : Core) : Core :=
  [0, 1].foldl (fun (c : Core) g =>
    if c.lpCut g then
      let up := c.fresh 1 == 1
      (c.used 1).updField fun x => { x with lpUp := if up then x.lpUp ++ [g] else x.lpUp }
    else c) c

/-- The commit phase of SO.CG: an acknowledgement, the safe-output voter, and the outputs. -/
def Core.soCommit (c : Core) : Core :=
  if c.safetyFuse = 0 then c
  else c.lpReturn.applySoAck.sovEvaluate.driveSos

end Sys2Proof.Machine
end

