-- ==== Sys2Proof/Machine/Launch.lean ====
section
/-! DEFINITION. The launch queues and the frames the station sends and takes (R378 to R390, R318): frames due in a tick,
their filling by commit groups, readiness, launching, and application frames received. -/

namespace Sys2Proof.Machine

/-! ## Descriptors (Tables 10.6, 10.7) -/

structure TxDesc where
  net : Nat
  cg : Nat
  sendNow : Bool
  pcp : Nat
  dst : Nat
  ethertype : Nat
  len : Nat
  cycle : Nat
  ofs : Nat
  launchNs : Nat
deriving DecidableEq, Repr

/-- Descriptor f of a FRAME.TX_TABLE. -/
def txDesc (t : Bytes) (f : Nat) : TxDesc where
  net := leAt t (32 * f) 1
  cg := leAt t (32 * f + 1) 1
  sendNow := leAt t (32 * f + 2) 1 == 1
  pcp := leAt t (32 * f + 3) 1
  dst := leAt t (32 * f + 4) 6
  ethertype := leAt t (32 * f + 0xA) 2
  len := leAt t (32 * f + 0xC) 2
  cycle := leAt t (32 * f + 0xE) 2
  ofs := leAt t (32 * f + 0x10) 2
  launchNs := leAt t (32 * f + 0x14) 4

/-- The conditions of Table 10.6 on descriptor f. -/
def Core.txDescOk (c : Core) (t : Bytes) (f : Nat) : Bool :=
  let d := txDesc t f
  d.net == 0 ||
    (decide (d.net ≤ 3) && decide (d.cg ≤ 7) && decide (leAt t (32 * f + 2) 1 ≤ 1) && decide (d.pcp ≤ 7) &&
      ! [c.rd Od.NET_ETHERTYPE, 0x88F7, 0x88E3, 0x0800, 0x0806].contains d.ethertype &&
      decide (46 ≤ d.len) && decide (d.len ≤ 1500) && decide (1 ≤ d.cycle) && decide (d.cycle ≤ 1024) &&
      decide (d.ofs < d.cycle) && leAt t (32 * f + 0x12) 2 == 0 && leAt t (32 * f + 0x18) 8 == 0 &&
      decide (phaseCycles c.period (c.rd (Od.COMMIT_PHASE d.cg)) + 2000 ≤ d.launchNs) && decide (d.launchNs < c.period))

def Core.txDesc (c : Core) (f : Nat) : TxDesc := Machine.txDesc (c.dom Od.FRAME_TX_TABLE) f

structure RxDesc where
  net : Nat
  matchLen : Nat
  ethertype : Nat
  src : Nat
  matchOfs : Nat
  pattern : Nat
  maxAge : Nat
deriving DecidableEq, Repr

/-- Receive object o of a FRAME.RX_TABLE. -/
def rxDesc (t : Bytes) (o : Nat) : RxDesc where
  net := leAt t (24 * o) 1
  matchLen := leAt t (24 * o + 1) 1
  ethertype := leAt t (24 * o + 2) 2
  src := leAt t (24 * o + 4) 6
  matchOfs := leAt t (24 * o + 0xA) 2
  pattern := leAt t (24 * o + 0xC) 4
  maxAge := leAt t (24 * o + 0x10) 2

def rxDescOk (t : Bytes) (o : Nat) : Bool :=
  let d := rxDesc t o
  decide (d.net ≤ 3) && decide (d.matchLen ≤ 4) && leAt t (24 * o + 0x12) 6 == 0

def Core.rxDesc (c : Core) (o : Nat) : RxDesc := Machine.rxDesc (c.dom Od.FRAME_RX_TABLE) o

/-! ## Buffers (R383, R192) -/

/-- The launch buffer of frame f: bytes no entry writes are 0. -/
def Core.frameBuf (c : Core) (f : Nat) : Bytes := padTo (c.txDesc f).len (c.net.bufs.getD f [])

/-- A committed value goes into the buffer of frame f. -/
def Core.copyToFrame (c : Core) (f ofs type v : Nat) : Core :=
  let b := putPayload (c.frameBuf f) ofs type v
  c.updNet fun x => { x with
    bufs := setAt (padTo' x.bufs) f b
    copied := if x.copied.contains f then x.copied else f :: x.copied }
where
  /-- The list of the 128 buffers. -/
  padTo' (l : List Bytes) : List Bytes := l ++ List.replicate (128 - l.length) []

/-- A committed value goes into the output image of remote station s, at a bit offset from 0x18 (R388); the buffer of a
station that is not ONLINE in this cycle is not filled (R198). -/
def Core.copyToImage (c : Core) (s ofs type v : Nat) : Core :=
  if !c.rsOnline s then c
  else
  let img := padTo 0x84 (c.dom (Od.RS_OUT_IMAGE s))
  c.setDom (Od.RS_OUT_IMAGE s) (img.take 0x18 ++ putPayload (img.drop 0x18) ofs type v)

/-! ## Frames due in a tick (Table 10.5) -/

def ownHeader (kind len : Nat) : Bytes := leBytes 1 kind ++ leBytes 1 1 ++ beBytes 2 len

def Core.scrimDue (c : Core) (r : Nat) : Bool :=
  let cyc := c.rd (Od.SCRIM_CYCLE r)
  c.rd (Od.SCRIM_DIR r) == 1 && c.safetyFuse != 0 && cyc != 0 && c.stepNumber % cyc == 0

/-- The station instant of a commit group's phase, seen from the boundary. -/
def Core.commitInstant (c : Core) (g : Nat) : Nat := c.clk.now + phaseCycles c.period (c.rd (Od.COMMIT_PHASE g))

def Core.scrimPlan (c : Core) (r : Nat) : List Ready :=
  if !c.scrimDue r then []
  else
    let t := c.commitInstant (c.rd (Od.SCRIM_TX_CG r)) + 2000
    [⟨2, r, 3, t, t, false, 7, c.rd Od.NET_GROUP_MAC, c.rd Od.NET_ETHERTYPE, 38, []⟩]

def Core.imagePlan (c : Core) (s : Nat) : List Ready :=
  let t := c.commitInstant (c.rd (Od.RS_OUT_CG s)) + 2000
  [⟨3, s, c.rd (Od.RS_NETWORK s), t, t, true, 5, c.rd Od.NET_GROUP_MAC, c.rd Od.NET_ETHERTYPE, 0x84, []⟩]

def Core.appPlan (c : Core) (f : Nat) : List Ready :=
  let d := c.txDesc f
  if d.net = 0 || d.cycle = 0 || c.rd Od.TICK_NUMBER % d.cycle != d.ofs then []
  else [⟨5, f, d.net, c.commitInstant d.cg + 2000, c.clk.now + d.launchNs, d.sendNow, d.pcp, d.dst, d.ethertype, d.len, []⟩]

/-- RUN_STATE of an input image (Table 10.8). -/
def Core.imageRun (c : Core) : Nat := c.run.code - 4

/-- The input image of a remote station (Table 10.8). -/
def Core.inputImage (c : Core) (leave : Bool) : Bytes :=
  let dio := maskOf ((List.range 48).filter fun i => c.rd (Od.PI_DIO_IN i) == 1)
  let flags := b2n leave + 2 * b2n (c.rd Od.RSTA_STATE == 2) + 4 * b2n (c.safetyFuse != 0)
  let body := ownHeader 1 0x200 ++ beBytes 4 (c.rd Od.SERIAL) ++ leBytes 1 (c.rd Od.RSTA_NUMBER) ++ leBytes 1 flags ++
    leBytes 1 c.imageRun ++ leBytes 1 c.clk.state.code ++ beBytes 8 (c.rd Od.TICK_NUMBER) ++ zeros 4 ++
    beBytes 8 dio ++
    (List.range 48).flatMap (fun i => beBytes 2 (c.rd (qKey (Od.PI_DIO_IN i)))) ++
    (List.range 24).flatMap (fun i => beBytes 4 (c.rd (Od.PI_UIO_IN i))) ++
    (List.range 24).flatMap (fun i => beBytes 2 (c.rd (qKey (Od.PI_UIO_IN i)))) ++
    (List.range 8).flatMap (fun i => beBytes 4 (c.rd (Od.PI_COUNT i))) ++
    (List.range 8).flatMap (fun i => beBytes 2 (c.rd (qKey (Od.PI_COUNT i)))) ++
    (List.range 24).flatMap (fun i => beBytes 8 (c.rd (Od.PI_UIO_STAMP i)))
  body ++ beBytes 4 (crc32c 0xFFFFFFFF body)

/-- The input image of this tick (class 4). -/
def Core.inputPlan (c : Core) : List Ready :=
  let k := c.rd Od.RSTA_NUMBER
  if c.roleFuse != 1 || k = 0xFF || !c.pairSends then []
  else
    let img := c.inputImage false
    [⟨4, k, 3, c.clk.now + 2000, c.clk.now + 2000 + k * c.rd Od.NET_RIO_SLOT_NS, true, 5, c.rd Od.NET_GROUP_MAC,
      c.rd Od.NET_ETHERTYPE, img.length, [img, img]⟩]

/-- The frames due in the tick that has just begun. -/
def Core.planFrames (c : Core) : Core :=
  let plan := (List.range 16).flatMap c.scrimPlan ++ (c.prog.remotes.flatMap fun r => c.imagePlan r.num) ++
    c.inputPlan ++ (if c.roleFuse = 1 || c.roleFuse = 3 then [] else (List.range 128).flatMap c.appPlan)
  c.updNet fun x => { x with ready := x.ready.filter (·.cls == 6) ++ plan, copied := [] }

/-- The launch instant of a pair message that falls due now: boundary + 3,000 ns of this tick, or of the next one where
that has passed (R356, Table 10.5). -/
def Core.pairInstant (c : Core) : Nat :=
  let base := c.clk.now - (c.clk.cyc - c.clk.tickCyc)
  if base + 3000 < c.clk.now then c.clk.nextB + 3000 else base + 3000

/-- A pair message waits for its instant, one copy for each network. -/
def Core.planPairMessage (c : Core) (num : Nat) (msgs : List Bytes) : Core :=
  let t := c.pairInstant
  let frames := msgs.map fun m => ownHeader 4 m.length ++ m
  c.updNet fun x => { x with
    ready := x.ready ++ [⟨6, num, 3, t, t, false, 6, c.rd Od.NET_GROUP_MAC, c.rd Od.NET_ETHERTYPE,
      (frames.headD []).length, frames⟩] }

/-- The payload of a planned frame is filled. -/
def Core.fillReady (c : Core) (cls num : Nat) (payload : List Bytes) : Core :=
  c.updNet fun x => { x with ready := x.ready.map fun r =>
    if r.cls = cls ∧ r.num = num then { r with payload := payload, len := (payload.headD []).length } else r }

/-! ## Commits fill frames -/

/-- The STATE data of Table 08.4. -/
def Core.scrimState8 (c : Core) : Bytes :=
  if !c.safety.avail then zeros 8
  else
    let w := (c.rd Od.SAFE_SIN_LO, c.rd Od.SAFE_SIN_HI)
    let on f := c.rd (Od.SF_STATE f) == 1
    let run := (List.range 16).filter fun f => on f || c.rd (Od.SF_STATE f) == 2
    let rel := ((List.range 24).filter fun p => fieldAt w p == 1).map (· + 16)
    let ax := ((List.range 4).filter fun k => match c.axisFn k with | some f => on f | none => false).map (· + 40)
    let so := (bitsSet 8 (c.fld Od.SOV_STATUS 16 8)).map (· + 48)
    leBytes 8 (maskOf ((if c.safetyFuse = 1 then [] else run) ++ rel ++ (if c.safetyFuse = 1 then [] else ax) ++ so))

/-- A telegram of Table 08.3 for one path. -/
def Core.telegram (c : Core) (r path seq stamp : Nat) (data : Bytes) : Bytes :=
  let locked := c.clk.state == TimeState.locked && !c.bit Od.TIME_FLAGS 1
  let body := leBytes 1 1 ++ leBytes 1 (path + 2 * b2n c.safety.avail + 4 * b2n locked) ++
    beBytes 2 (c.rd (Od.SCRIM_CONN_ID r)) ++ beBytes 4 (c.rd Od.SERIAL) ++ beBytes 4 seq ++ beBytes 8 stamp ++
    leBytes 1 data.length ++ leBytes 1 0 ++ data
  body ++ beBytes 4 (crc32c (scrimSeed path) body)

/-- The roles in which telegrams are sent (R318). -/
def Core.scrimSends (c : Core) : Bool := c.role == .alone || c.role == .active

/-- SCRIM.STATE as it shows: UNUSED, that of an RX connection, or SENDING or SILENT of a TX connection. -/
def Core.scrimShown (c : Core) (r : Nat) : Nat :=
  match c.rd (Od.SCRIM_DIR r) with
  | 0 => 0
  | 1 => if c.scrimSends && c.clk.running && c.netGate then 5 else 6
  | _ => max 1 (c.scrimState r)

/-- The commit of a due TX connection with its group (R318). -/
def Core.scrimTx (c : Core) (r : Nat) : Core :=
  if !c.scrimDue r || c.run == .safe || c.run == .failed then c
  else
    let seq := (c.rd (Od.SCRIM_SEQ r) + 1) % 2 ^ 32
    let c := c.wr (Od.SCRIM_SEQ r) seq
    if !c.scrimSends then c
    else
      let data := c.scrimState8
      let copy path := let t := c.telegram r path seq (c.clk.now + 2000) data; ownHeader 3 t.length ++ t
      (c.setDom (Od.SCRIM_DATA r) data).fillReady 2 r [copy 0, copy 1]

def Core.scrimTxGroup (c : Core) (g : Nat) : Core :=
  ((List.range 16).filter fun r => c.rd (Od.SCRIM_TX_CG r) == g).foldl Core.scrimTx c

/-- A station's output image at its group's commit: filled while ONLINE, discarded in the tick in which it went OFFLINE
(R198). -/
def Core.imageTx (c : Core) (r : Remote) : Core :=
  let s := r.num
  if c.rsOnline s then
    let img := padTo 0x84 (c.dom (Od.RS_OUT_IMAGE s))
    let active := c.role == .active || c.role == .alone
    let body := ownHeader 2 0x80 ++ beBytes 4 (c.rd Od.SERIAL) ++ leBytes 1 s ++ leBytes 1 (b2n active) ++ zeros 2 ++
      beBytes 8 (c.rd Od.TICK_NUMBER) ++ zeros 4 ++ slice img 0x18 0x68
    let img := body ++ beBytes 4 (crc32c 0xFFFFFFFF body)
    (c.setDom (Od.RS_OUT_IMAGE s) img).fillReady 3 s [img, img]
  else if r.left = some (c.rd Od.TICK_COUNT) then
    ((c.inc32 (Od.RS_OUT_DISCARDED s)).inc32 Od.RIO_OUT_DISCARDED).log 0x0507
  else c

def Core.imageTxGroup (c : Core) (g : Nat) : Core :=
  (c.prog.remotes.filter fun r => c.rd (Od.RS_OUT_CG r.num) == g).foldl Core.imageTx c

/-! ## Ready and launched (R378, R380, R381, R384) -/

/-- A bit of FRAME.TX_STATUS (Table 10.15), for an application frame. -/
def Core.txBit (c : Core) (cls num i : Nat) : Core :=
  if cls = 5 then c.setBit (Od.FRAME_TX_STATUS num) i true else c

/-- A frame of a network is not sent. -/
def Core.dropFrame (c : Core) (n cls num : Nat) : Core := (c.inc32 (Od.NET_DROPPED n)).txBit cls num 1

/-- A late entry is counted and recorded. -/
def Core.lateFrame (c : Core) (cls num : Nat) : Core := ((c.inc32 Od.LQ_LATE).log 0x0A03).txBit cls num 2

/-- An entry is placed in a launch queue. -/
def Core.queueLaunch (c : Core) (n : Nat) (e : Launch) : Core :=
  if 64 ≤ (c.side n).launch.length then ((c.inc32 Od.LQ_FULL).log 0x0A08).txBit e.cls e.num 1
  else
    let c := c.updSide n fun x => { x with launch := x.launch ++ [e] }
    c.peak (if n = 0 then Od.LQ_PEAK_A else Od.LQ_PEAK_B) (c.side n).launch.length

/-- The frame from its destination address to its last payload byte, tagged while NET.VLAN is not 0 (R368). -/
def Core.frameOf (c : Core) (n dst ethertype pcp : Nat) (payload : Bytes) : Bytes :=
  let vlan := c.rd Od.NET_VLAN
  beBytes 6 dst ++ beBytes 6 (c.rd (Od.NET_MAC n)) ++
    (if vlan = 0 then [] else beBytes 2 0x8100 ++ beBytes 2 (pcp * 8192 + vlan)) ++ beBytes 2 ethertype ++ payload

/-- One network's copy of a frame that is ready. -/
def Core.readyOn (c : Core) (r : Ready) (n : Nat) : Core :=
  if !r.nets.testBit n then c
  else
    let late := decide (r.time < c.clk.now)
    let c := if late then c.lateFrame r.cls r.num else c
    if late && !r.sendNow then c.dropFrame n r.cls r.num
    else
      let payload := if r.cls = 5 then c.frameBuf r.num else r.payload.getD n []
      c.queueLaunch n ⟨r.cls, r.num, max r.time c.clk.now, r.sendNow, c.frameOf n r.dst r.ethertype r.pcp payload⟩

/-- The first of the frames that are not ready: by instant, class and number. -/
def readyBefore (a b : Ready) : Bool := lexLt [a.ready, a.cls, a.num] [b.ready, b.cls, b.num]

def firstReady (l : List Ready) : Option Ready :=
  l.foldl (fun best r => match best with | some b => if readyBefore r b then some r else some b | none => some r) none

/-- FRAME_READY: the next frame of this tick becomes ready and is queued, is late, or is withheld by the gating. -/
def Core.frameReady (c : Core) : Core :=
  match firstReady c.net.ready with
  | none => c
  | some r =>
    if !c.clk.running then c
    else
      let c := (c.atTime r.ready).updNet fun x => { x with ready := x.ready.erase r }
      let gated := !c.classSends r.cls
      let c := if r.cls = 5 then c.setFld (Od.FRAME_TX_STATUS r.num) 1 5 0 else c
      if gated then (c.txBit r.cls r.num 5).txBit r.cls r.num 1
      else if r.cls != 5 && r.payload.isEmpty then c
      else
        let c := if r.cls = 5 && !c.net.copied.contains r.num then c.txBit 5 r.num 4 else c
        [0, 1].foldl (fun c n => c.readyOn r n) c

def firstLaunch (l : List Launch) : Option Launch :=
  l.foldl (fun best r => match best with
    | some b => if lexLt [r.time, r.cls, r.num] [b.time, b.cls, b.num] then some r else some b
    | none => some r) none

/-- A launch frame leaves through one port: the earliest start over the ports so far, and whether one was delayed. -/
def Core.launchPort (n len time : Nat) (acc : Core × Option Nat × Bool) (p : Nat) : Core × Option Nat × Bool :=
  let (c, start, delayed) := acc
  let sp := c.portSpeed n p
  let x := c.port n p
  let s := max (max time c.clk.now) (x.free + preambleNs sp)
  let ends := s + sfdNs sp len
  (c.updPort n p fun x => { x with free := ends, launchEnd := ends }, some (min s (start.getD s)),
    delayed || decide (time < x.launchEnd + preambleNs sp))

/-- An entry goes out on the ports that R367 gives for its destination. -/
def Core.sendLaunch (c : Core) (n : Nat) (e : Launch) : Core :=
  let ports := c.outPorts n (beAt e.bytes 0 6)
  let (c, start, delayed) := ports.foldl (Core.launchPort n (frameLen e.bytes.length) e.time) (c, none, false)
  let c := if delayed then (c.inc32 Od.LQ_DELAYED).txBit e.cls e.num 3 else c
  let t := start.getD e.time
  let c := (c.inc64 (Od.NET_TX_FRAMES n)).emit (.launched n ports t e.cls e.num e.bytes)
  if e.cls = 1 then c.hostSend n 4 ptpEventMac (c.ptpLen n 44) (.ptp 8 e.num t) else c

/-- LAUNCH: the next entry of a network's queue falls due; an entry whose every port is down is dropped (R381, Table
10.17). -/
def Core.launchNext (c : Core) (n : Nat) : Core :=
  match firstLaunch (c.side n).launch with
  | none => c
  | some e =>
    if !c.clk.running then c
    else
      let late := decide (e.time < c.clk.now)
      let c := (c.atTime e.time).updSide n fun x => { x with launch := x.launch.erase e }
      if c.netLost n then (c.inc32 Od.LQ_LINKDOWN).dropFrame n e.cls e.num
      else
        let c := if late then c.lateFrame e.cls e.num else c
        if (late && !e.sendNow) || (c.outPorts n (beAt e.bytes 0 6)).isEmpty then c.dropFrame n e.cls e.num
        else c.sendLaunch n e

/-- PTP_MASTER_SYNC: a Sync is queued for the next whole multiple of the Sync interval (R374). -/
def Core.masterSync (c : Core) (n : Nat) : Core :=
  if !c.ptpOn n || !c.ptpMaster n then c
  else
    let i := logInterval (c.rd (Od.PTP_LOG_SYNC n))
    let t := ceilMul (max c.clk.now ((c.ptp n).syncAt + 1)) i
    let seq := ((c.ptp n).syncSeq + 1) % 65536
    let frame := c.syncFrame n seq
    let c := (c.used 1).updPtp n fun p => { p with syncAt := t, syncSeq := seq }
    let vlan := c.rd Od.NET_VLAN
    let bytes := if vlan = 0 then frame
      else frame.take 12 ++ beBytes 2 0x8100 ++ beBytes 2 (7 * 8192 + vlan) ++ frame.drop 12
    c.queueLaunch n ⟨1, seq, t, true, bytes⟩

/-! ## Application frames received (R385) -/

/-- Receive object o takes a frame. -/
def Core.objectTakes (c : Core) (n src ethertype : Nat) (p : Bytes) (o : Nat) : Bool :=
  let d := c.rxDesc o
  d.net.testBit n && d.ethertype == ethertype && d.src == src &&
    (d.matchLen == 0 || slice p d.matchOfs d.matchLen == (beBytes 4 d.pattern).take d.matchLen)

/-- APP_FRAME_RX: payload after the EtherType; the instant is the frame's end stamp. -/
def Core.appFrameRx (c : Core) (n src ethertype : Nat) (p : Bytes) : Core :=
  if !c.clk.running || c.roleFuse = 1 || c.roleFuse = 3 then c
  else match (List.range 128).find? (c.objectTakes n src ethertype p) with
    | none => c
    | some o =>
      let last := (c.net.taken.filter (·.obj == o)).getLast?
      let dup := (c.rxDesc o).net == 3 && match last with | some t => t.payload == p | none => false
      if dup then c
      else
        let c := c.updNet fun x => { x with taken := x.taken ++ [⟨o, c.clk.now, n, p⟩] }
        let k := Od.FRAME_RX_STATUS o
        let c := (((c.setBit k 1 true).setBit k 2 false).setBit k 3 (n == 0)).setBit k 4 (n == 1)
        c.evPulse (169 + o)

/-- A receive object's part of the snapshot at station time `b`. -/
def Core.objectLatch (c : Core) (b o : Nat) : Core :=
  if (c.rxDesc o).net = 0 then c
  else match (c.net.taken.filter fun t => t.obj == o && decide (t.stamp < b)).getLast? with
    | some t => (c.wr (Od.FRAME_RX_AGE o) 0).deliverSource 2 o t.payload fun _ => 0
    | none => c.incSat 65535 (Od.FRAME_RX_AGE o)

/-- AGED is set once the age has reached MAX_AGE. -/
def Core.objectAge (c : Core) (o age : Nat) : Core :=
  let d := c.rxDesc o
  if d.net = 0 || d.maxAge = 0 || age < d.maxAge || c.bit (Od.FRAME_RX_STATUS o) 2 then c
  else (c.setBit (Od.FRAME_RX_STATUS o) 2 true).log1 0x0A06 o

/-- The application frames of a snapshot. -/
def Core.objectLatches (c : Core) (b : Nat) : Core :=
  let c := (List.range 128).foldl (fun (c : Core) o =>
    let c := c.objectLatch b o
    c.objectAge o (c.rd (Od.FRAME_RX_AGE o))) c
  c.updNet fun x => { x with taken := x.taken.filter fun t => decide (b ≤ t.stamp) }

/-- RX_OBJECT_AGED: the boundary at which an object's age reaches its limit. -/
def Core.objectAged (c : Core) (o : Nat) : Core :=
  if !c.clk.running || c.net.taken.any fun t => t.obj == o then c
  else (c.atTime c.clk.nextB).objectAge o (c.rd (Od.FRAME_RX_AGE o) + 1)

end Sys2Proof.Machine
end

