-- ==== Sys2Proof/Machine/Can.lean ====
section
/-! DEFINITION. The CAN FD controllers (chapter 11): launches, transmission, error confinement, reception, time-triggered
operation, sleep and wake. -/

namespace Sys2Proof.Machine

def CanBuf.fresh : CanBuf := ⟨0, 0, [], [], false, false, false, false, 0, 0⟩

def CanCtl.fresh : CanCtl :=
  { bufs := List.replicate 5 CanBuf.fresh, queues := [[], [], [], []], dropped := [false, false, false, false],
    ackErrs := 0, recCount := 0, tecCount := 0, busy := false, sleeping := false, recover := false, plan := [], taken := [],
    mark := 0, cycles := 0, refs := [], cfgDue := false, svc := [] }

def Core.ctl (c : Core) (k : Nat) : CanCtl := c.can.getD k CanCtl.fresh
def Core.updCtl (c : Core) (k : Nat) (f : CanCtl → CanCtl) : Core := { c with can := updAt f c.can k }
def Core.buf (c : Core) (k b : Nat) : CanBuf := (c.ctl k).bufs.getD b CanBuf.fresh
def Core.updBuf (c : Core) (k b : Nat) (f : CanBuf → CanBuf) : Core :=
  c.updCtl k fun x => { x with bufs := updAt f x.bufs b }

def bufSvc : Nat := 3
def bufRef : Nat := 4

/-- The number of controllers (R423). -/
def Core.canCount (c : Core) : Nat := if c.canEn 2 then 4 else 2

/-! ## CAN.STATUS (Table 11.12) and CAN.TXB_STATUS (Table 11.13) -/

def csOnBus : Nat := 1
def csIntegrating : Nat := 3
def csPassive : Nat := 5
def csBusOff : Nat := 6
def csNoack : Nat := 7
def csAsleep : Nat := 8
def csWoken : Nat := 9

def Core.canBit (c : Core) (k i : Nat) : Bool := c.bit (Od.CAN_STATUS k) i

/-- A change of ERR_PASSIVE, BUS_OFF or NOACK is an event (Table 12.1). -/
def Core.setCanBit (c : Core) (k i : Nat) (b : Bool) : Core :=
  if c.canBit k i == b then c
  else
    let c := c.setBit (Od.CAN_STATUS k) i b
    if i == csPassive || i == csBusOff || i == csNoack then c.evPulse (165 + k) else c

/-- CAN.MODE of a running controller; 0 keeps it off the bus. -/
def Core.canMode (c : Core) (k : Nat) : Nat := if c.clk.running && decide (k < c.canCount) then c.rd (Od.CAN_MODE k) else 0

/-- The controller takes part on its bus. -/
def Core.canOnBus (c : Core) (k : Nat) : Bool :=
  c.canMode k != 0 && c.canBit k csOnBus && !c.canBit k csBusOff && !c.canBit k csAsleep

def tbCancelLate : Nat := 4
def tbSent : Nat := 3
def tbCancelled : Nat := 5
def tbLate : Nat := 6
def tbDropped : Nat := 7
def tbReplaced : Nat := 8
def tbDeferred : Nat := 9
def tbGated : Nat := 10
def tbError : Nat := 11
def tbNoack : Nat := 12
def tbOld : Nat := 13

/-- A bit of an application buffer's status; the service buffers have none. -/
def Core.txbBit (c : Core) (k b i : Nat) (v : Bool) : Core :=
  if b < 3 then c.setBit (Od.CAN_TXB_STATUS (3 * k + b)) i v else c

/-- Each launch clears bits 13:3. -/
def Core.txbClear (c : Core) (k b : Nat) : Core :=
  if b < 3 then c.setFld (Od.CAN_TXB_STATUS (3 * k + b)) 3 11 0 else c

/-- The records of class 0x0B carry the controller number (R421). -/
def Core.canLog (c : Core) (code k : Nat) : Core := c.log1 code k

/-! ## Tables 11.3 and 11.5 -/

structure CanDesc where
  flags : Nat
  cg : Nat
  sendNow : Bool
  dlc : Nat
  id : Nat
  cycle : Nat
  ofs : Nat
  launchNs : Nat
deriving DecidableEq, Repr

def canDesc (t : Bytes) (b : Nat) : CanDesc where
  flags := leAt t (32 * b) 1
  cg := leAt t (32 * b + 1) 1
  sendNow := leAt t (32 * b + 2) 1 == 1
  dlc := leAt t (32 * b + 3) 1
  id := leAt t (32 * b + 4) 4
  cycle := leAt t (32 * b + 8) 2
  ofs := leAt t (32 * b + 0xA) 2
  launchNs := leAt t (32 * b + 0xC) 4

def CanDesc.en (d : CanDesc) : Bool := d.flags.testBit 0
def CanDesc.fdf (d : CanDesc) : Bool := d.flags.testBit 1
def CanDesc.ide (d : CanDesc) : Bool := d.flags.testBit 3

/-- Data bytes of a DLC (ISO 11898-1). -/
def dlcLen (fdf : Bool) (dlc : Nat) : Nat :=
  if !fdf || dlc ≤ 8 then min dlc 8 else [12, 16, 20, 24, 32, 48, 64].getD (dlc - 9) 64

/-- The IDWORD of a buffer's frames. -/
def CanDesc.idword (d : CanDesc) : Nat :=
  d.id + b2n d.ide * 2 ^ 31 + b2n d.fdf * 2 ^ 30 + b2n (d.flags.testBit 2) * 2 ^ 29

/-- The conditions of Table 11.3 on descriptor b of controller k; the witness has no enabled buffer (R423). -/
def Core.canDescOk (c : Core) (k : Nat) (t : Bytes) (b : Nat) : Bool :=
  let d := canDesc t b
  let role := c.rd (Od.TT_ROLE k)
  let cycleMax := if role = 2 then 64 else 1024
  let launchMax := if role = 2 then c.rd (Od.TT_CYCLE_TICKS k) * c.period else c.period
  !d.en ||
    (c.roleFuse != 3 && decide (d.flags < 32) && decide (d.cg ≤ 7) && decide (leAt t (32 * b + 2) 1 ≤ 1) &&
      decide (d.dlc ≤ if d.fdf then 15 else 8) && decide (d.id < if d.ide then 2 ^ 29 else 2 ^ 11) &&
      (d.fdf || !d.flags.testBit 2) && !(d.fdf && c.rd (Od.CAN_MODE k) == 1) &&
      decide (1 ≤ d.cycle) && decide (d.cycle ≤ cycleMax) && decide (d.ofs < d.cycle) && decide (d.launchNs < launchMax) &&
      (role == 2 || decide (phaseCycles c.period (c.rd (Od.COMMIT_PHASE d.cg)) + 2000 ≤ d.launchNs)) &&
      leAt t (32 * b + 0x10) 16 == 0)

def Core.canDesc (c : Core) (k b : Nat) : CanDesc := Machine.canDesc (c.dom (Od.CAN_TX_TABLE k)) b

structure CanFilter where
  dest : Nat
  queue : Nat
  flags : Nat
  id : Nat
  mask : Nat
  maxAge : Nat
deriving DecidableEq, Repr

def canFilter (t : Bytes) (g : Nat) : CanFilter where
  dest := leAt t (16 * g) 1
  queue := leAt t (16 * g + 1) 1
  flags := leAt t (16 * g + 2) 1
  id := leAt t (16 * g + 4) 4
  mask := leAt t (16 * g + 8) 4
  maxAge := leAt t (16 * g + 0xC) 2

def canFilterOk (t : Bytes) (g : Nat) : Bool :=
  let f := canFilter t g
  decide (f.dest ≤ 2) && decide (f.queue ≤ if f.dest = 2 then 3 else 0) && decide (f.flags < 8) &&
    leAt t (16 * g + 3) 1 == 0 && leAt t (16 * g + 0xE) 2 == 0

def Core.canFilter (c : Core) (k g : Nat) : CanFilter := Machine.canFilter (c.dom (Od.CAN_RX_FILTERS k)) g

/-! ## Bit timing (R400) -/

/-- A sample point of 60 % to 90 % of a bit of 1 + s1 + s2 quanta. -/
def samplePointOk (s1 s2 : Nat) : Bool :=
  decide (60 * (1 + s1 + s2) ≤ 100 * (1 + s1)) && decide (100 * (1 + s1) ≤ 90 * (1 + s1 + s2))

/-- The length of a bit in ns: quanta of brp × 10 ns. -/
def bitNs (brp s1 s2 : Nat) : Nat := brp * 10 * (1 + s1 + s2)

def nbtBit (v : Nat) : Nat := bitNs (field v 0 5 + 1) (field v 24 8 + 1) (field v 17 7 + 1)
def dbtBit (v : Nat) : Nat := bitNs (field v 0 5 + 1) (field v 24 5 + 1) (field v 20 4 + 1)

/-- A nominal timing the station accepts. -/
def nbtOk (v : Nat) : Bool :=
  let s1 := field v 24 8 + 1
  let s2 := field v 17 7 + 1
  field v 5 5 == 0 && decide (1000 ≤ nbtBit v) && decide (nbtBit v ≤ 8000) && samplePointOk s1 s2 &&
    decide (field v 10 7 + 1 ≤ s2)

/-- A data timing the station accepts beside a nominal one. -/
def dbtOk (v nbt : Nat) : Bool :=
  let s1 := field v 24 5 + 1
  let s2 := field v 20 4 + 1
  field v 29 3 == 0 && field v 14 2 == 0 && field v 5 2 == 0 && decide (200 ≤ dbtBit v) && decide (dbtBit v ≤ 2000) &&
    decide (dbtBit v ≤ nbtBit nbt) && samplePointOk s1 s2 && decide (field v 16 4 + 1 ≤ s2) &&
    (v.testBit 7 || decide (1000 ≤ dbtBit v))

/-! ## Requests and the bus (R403, R405, R406) -/

/-- A request of a buffer makes one attempt. -/
def Core.canSingle (c : Core) (k b : Nat) : Bool :=
  (b < 3 && ((c.canDesc k b).flags.testBit 4 || c.rd (Od.TT_ROLE k) != 0)) || b == bufRef ||
    (c.canBit k csNoack && c.rd (Od.CAN_NOACK_SS k) == 1)

/-- The rank of a pending buffer in the order of R405. -/
def Core.offerRank (c : Core) (k b : Nat) : List Nat :=
  let w := (c.buf k b).idword
  let id := if w.testBit 31 then field w 0 29 else field w 0 11 * 2 ^ 18
  if b = bufRef then [0] else if c.rd (Od.CAN_TX_ORDER k) = 1 then [1, b] else [1, id, b]

/-- The buffer offered next. -/
def Core.offered (c : Core) (k : Nat) : Option Nat :=
  ((List.range 5).filter fun b => (c.buf k b).st == 1).foldl
    (fun best b => match best with
      | some x => if lexLt (c.offerRank k b) (c.offerRank k x) then some b else some x
      | none => some b) none

/-- An answer that waits for SVC goes into it while it is IDLE, as a base frame of eight bytes (R402, R420). -/
def Core.loadSvc (c : Core) (k : Nat) : Core :=
  match (c.ctl k).svc with
  | [] => c
  | (id, data) :: rest =>
    if (c.buf k bufSvc).st != 0 || c.canMode k == 0 then c
    else
      (c.updCtl k fun x => { x with svc := rest }).updBuf k bufSvc fun x => { x with
        st := 1, idword := id, reg := data, defer := false, cancel := false, single := c.canSingle k bufSvc
        asked := c.clk.now }

/-- As soon as the bus allows, the offered buffer starts its frame. -/
def Core.canOffer (c : Core) (k : Nat) : Core :=
  let c := c.loadSvc k
  if !c.canOnBus k || (c.ctl k).busy || (c.ctl k).bufs.any (·.st == 2) then c
  else match c.offered k with
    | none => c
    | some b =>
      let x := c.buf k b
      let c := c.updBuf k b fun x => { x with st := 2, sof := c.clk.now }
      let c := if b = bufRef then c.peak (Od.TT_REF_DELAY_MAX_NS k) (c.clk.now - x.asked) else c
      c.emit (.can k x.idword x.reg)

/-- A buffer's content goes into its transmit register and it becomes PENDING. -/
def Core.loadBuf (c : Core) (k b : Nat) : Core :=
  let d := c.canDesc k b
  c.updBuf k b fun x => { x with
    st := 1, idword := d.idword, reg := padTo (dlcLen d.fdf d.dlc) x.shadow, defer := false, cancel := false,
    single := c.canSingle k b, asked := c.clk.now }

/-- A buffer returns to IDLE. -/
def Core.idleBuf (c : Core) (k b : Nat) : Core :=
  c.updBuf k b fun x => { x with st := 0, defer := false, cancel := false }

/-- A PENDING buffer's request is cancelled. -/
def Core.cancelBuf (c : Core) (k b : Nat) : Core := (c.idleBuf k b).txbBit k b tbCancelled true

/-- The buffer acts according to its state at its launch instant (Table 11.4). -/
def Core.launchBuf (c : Core) (k b : Nat) : Core :=
  let x := c.buf k b
  let c := if x.copied then c else c.txbBit k b tbOld true
  let c := c.updBuf k b fun x => { x with copied := false }
  match x.st with
  | 0 => (c.loadBuf k b).canOffer k
  | 1 => ((c.loadBuf k b).txbBit k b tbReplaced true).inc32 (Od.CAN_TXB_REPLACED (3 * k + b))
  | _ => (c.updBuf k b fun x => { x with defer := true, cancel := false }).txbBit k b tbDeferred true

/-- Whether a controller's launches are made: not while asleep, nor in a follower's states LOST and BUS_OFF. -/
def Core.ttSilent (c : Core) (k : Nat) : Bool := c.rd (Od.TT_ROLE k) == 2 && 3 ≤ c.rd (Od.TT_STATE k)

/-- A launch of an application buffer at `t`. -/
def Core.canLaunchAt (c : Core) (k b t : Nat) : Core :=
  if c.canMode k == 0 || c.ttSilent k then c
  else if c.canBit k csAsleep then c.inc32 (Od.CAN_SLEEP_SKIPPED k)
  else if !c.netGate then ((c.txbClear k b).txbBit k b tbGated true)
  else
    let c := c.txbClear k b
    if t < c.clk.now then
      let c := ((c.inc32 Od.CAN_LATE).canLog 0x0B07 k).txbBit k b tbLate true
      if (c.canDesc k b).sendNow then c.launchBuf k b else c.txbBit k b tbDropped true
    else c.launchBuf k b

/-- The first of the launches to come. -/
def firstPlan (l : List (Nat × Nat)) : Option (Nat × Nat) :=
  l.foldl (fun best x => match best with | some y => if lexLt [x.2, x.1] [y.2, y.1] then some x else best | none => some x) none

/-- CAN_LAUNCH: the controller's next launch instant; `busy`: another node's frame is on the bus. -/
def Core.canLaunch (c : Core) (k : Nat) (busy : Bool) : Core :=
  match firstPlan (c.ctl k).plan with
  | none => c
  | some p =>
    if !c.clk.running then c
    else
      let c := (c.atTime p.2).updCtl k fun x => { x with plan := x.plan.erase p, busy := busy }
      c.canLaunchAt k p.1 p.2

/-- The launches of the tick that begins, of a controller that is no follower (R403). -/
def Core.canPlan (c : Core) (k : Nat) : Core :=
  if c.canMode k == 0 || c.rd (Od.TT_ROLE k) = 2 then c
  else
    let due := (List.range 3).filterMap fun b =>
      let d := c.canDesc k b
      if d.en && d.cycle != 0 && c.rd Od.TICK_NUMBER % d.cycle == d.ofs then some (b, c.clk.now + d.launchNs) else none
    let cyc := c.rd (Od.TT_CYCLE_TICKS k)
    let ref := c.rd (Od.TT_ROLE k) == 1 && cyc != 0 && c.rd Od.TICK_NUMBER % cyc == 0
    c.updCtl k fun x => { x with
      plan := x.plan ++ due
      refs := x.refs ++ if ref then [c.clk.now + c.rd (Od.TT_REF_OFS_NS k)] else [] }

/-- A committed value goes into the shadow of application buffer n (R402). -/
def Core.copyToCan (c : Core) (n ofs type v : Nat) : Core :=
  let d := c.canDesc (n / 3) (n % 3)
  c.updBuf (n / 3) (n % 3) fun x => { x with
    shadow := putPayload (padTo (dlcLen d.fdf d.dlc) x.shadow) ofs type v, copied := true }

/-! ## Error confinement (R413, R414) -/

/-- The counters as registers show them, and the states that follow from them. -/
def Core.showErrors (c : Core) (k : Nat) : Core :=
  let x := c.ctl k
  let c := (c.wr (Od.CAN_TEC k) (min 255 x.tecCount)).wr (Od.CAN_REC k) (min 127 x.recCount)
  let off := c.canBit k csBusOff
  let c := c.setBit (Od.CAN_STATUS k) 4 (decide (96 ≤ x.tecCount) || decide (96 ≤ x.recCount))
  let passive := !off && (decide (128 ≤ x.tecCount) || decide (128 ≤ x.recCount))
  if passive == c.canBit k csPassive then c else (c.setCanBit k csPassive passive).canLog 0x0B01 k

/-- The follower's state changes (Table 11.9). -/
def Core.setTt (c : Core) (k st : Nat) : Core :=
  if c.rd (Od.TT_STATE k) = st then c else (c.wr (Od.TT_STATE k) st).canLog 0x0B09 k

/-- A reference is missed (R416). -/
def Core.refMissed (c : Core) (k : Nat) : Core := (c.inc32 (Od.TT_REF_MISSED k)).canLog 0x0B08 k

/-- While network outputs are withheld, pending requests of TXB0 to TXB2 and REF are cancelled (R408); such a reference is
missed (Table 11.14). -/
def Core.canGate (c : Core) : Core :=
  if c.netGate then c
  else (List.range 4).foldl (fun c k => [0, 1, 2, bufRef].foldl (fun (c : Core) b =>
    if (c.buf k b).st != 1 then c
    else
      let c := c.cancelBuf k b
      if b = bufRef then c.refMissed k else c) c) c

/-- CAN_BUS_OFF: every request ends with ERROR and every buffer becomes IDLE; a reference among them is missed. -/
def Core.busOff (c : Core) (k : Nat) : Core :=
  let c := (((c.setCanBit k csBusOff true).setCanBit k csOnBus false).inc32 (Od.CAN_BUSOFFS k)).canLog 0x0B02 k
  let c := if (c.buf k bufRef).st = 0 then c else c.refMissed k
  let c := (List.range 5).foldl (fun (c : Core) b =>
    if (c.buf k b).st = 0 then c else (c.idleBuf k b).txbBit k b tbError true) c
  let c := c.updCtl k fun x => { x with recover := c.rd (Od.CAN_BUSOFF_AUTO k) == 1, busy := false }
  if c.rd (Od.TT_ROLE k) = 2 then c.setTt k 4 else c

/-- NOACK is set or cleared. -/
def Core.setNoack (c : Core) (k : Nat) (on : Bool) : Core :=
  if c.canBit k csNoack == on then c else (c.setCanBit k csNoack on).canLog 0x0B04 k

/-- CAN_BUS_ERROR: kind as CAN.LAST_ERR; `tx`: the controller is the transmitter; `first`: as receiver it saw a dominant bit
first after its error flag. -/
def Core.canBusError (c : Core) (k kind : Nat) (tx first : Bool) : Core :=
  if !c.canOnBus k then c
  else
    let c := (c.inc32 (Od.CAN_ERRORS k)).wr (Od.CAN_LAST_ERR k) kind
    let alone := tx && kind == 3 && c.canBit k csPassive
    let c := c.updCtl k fun x => { x with
      tecCount := if tx && !alone then x.tecCount + 8 else x.tecCount
      recCount := if tx then x.recCount else x.recCount + if first then 8 else 1
      ackErrs := if !tx then x.ackErrs else if kind == 3 then x.ackErrs + 1 else 0
      busy := if tx then x.busy else false }
    let lim := c.rd (Od.CAN_NOACK_LIMIT k)
    let c := if tx && kind == 3 && lim != 0 && decide (lim ≤ (c.ctl k).ackErrs) then c.setNoack k true else c
    let c := if 256 ≤ (c.ctl k).tecCount then c.busOff k else c
    (c.showErrors k).canOffer k

/-- CAN_BUSOFF_RECOVERY: 128 occurrences of 11 recessive bits have been seen. -/
def Core.busOffRecovery (c : Core) (k : Nat) : Core :=
  if c.canMode k == 0 || !c.canBit k csBusOff || !(c.ctl k).recover || c.canBit k csAsleep then c
  else
    let c := c.updCtl k fun x => { x with tecCount := 0, recCount := 0, recover := false, ackErrs := 0 }
    let c := (((c.setCanBit k csBusOff false).setCanBit k csOnBus true).canLog 0x0B03 k).showErrors k
    c.canOffer k

/-- CAN_INTEGRATION_COMPLETE. -/
def Core.integrated (c : Core) (k : Nat) : Core :=
  if c.canMode k == 0 || !c.canBit k csIntegrating then c
  else ((c.setCanBit k csIntegrating false).setCanBit k csOnBus true).canOffer k

/-! ## The end of an attempt (R406, R407) -/

/-- The buffer on the bus. -/
def Core.onBusBuf (c : Core) (k : Nat) : Option Nat := (List.range 5).find? fun b => (c.buf k b).st == 2

/-- A frame that has ended: a deferred load becomes pending, else the buffer is as `after` leaves it. -/
def Core.afterFrame (c : Core) (k b : Nat) (pending : Bool) : Core :=
  let x := c.buf k b
  if x.defer && !x.cancel then c.loadBuf k b
  else if pending then c.updBuf k b fun x => { x with st := 1, single := c.canSingle k b }
  else c.idleBuf k b

/-- The frame succeeded. -/
def Core.frameSent (c : Core) (k b : Nat) : Core :=
  let x := c.buf k b
  let c := c.updCtl k fun y => { y with tecCount := y.tecCount - 1, ackErrs := 0 }
  let c := ((c.setNoack k false).showErrors k).inc64 (Od.CAN_TX_FRAMES k)
  let c := if b < 3 then c.inc32 (Od.CAN_TXB_SENT (3 * k + b)) else c
  let c := if x.defer && !x.cancel then c else (c.txbBit k b tbSent true).txbBit k b tbCancelLate x.cancel
  let c := if b = bufRef then
      ((c.inc32 (Od.TT_REF_SENT k)).wr (Od.TT_CYCLE_COUNT k) (leAt x.reg 0 1 % 64)).wr (Od.TT_REF_STAMP k) x.sof
    else c
  c.afterFrame k b false

/-- The frame failed; the error itself is CAN_BUS_ERROR's. -/
def Core.frameFailed (c : Core) (k b : Nat) : Core :=
  let x := c.buf k b
  if x.cancel then c.cancelBuf k b
  else if x.single || c.canSingle k b then
    let c := if b = bufRef then c.refMissed k else c
    let c := if x.defer then c else
      (c.txbBit k b tbError true).txbBit k b tbNoack (c.canBit k csNoack && c.rd (Od.CAN_LAST_ERR k) == 3)
    c.afterFrame k b false
  else c.afterFrame k b true

/-- CAN_FRAME_TX_END. -/
def Core.frameTxEnd (c : Core) (k : Nat) (ok : Bool) : Core :=
  match c.onBusBuf k with
  | none => c
  | some b => if !c.canOnBus k then c else (if ok then c.frameSent k b else c.frameFailed k b).canOffer k

/-- CAN_ARBITRATION_LOST: offered again, unless a cancellation waits for it. -/
def Core.arbitrationLost (c : Core) (k : Nat) : Core :=
  match c.onBusBuf k with
  | none => c
  | some b =>
    if !c.canOnBus k then c
    else
      let c := if (c.buf k b).cancel then c.cancelBuf k b else c.afterFrame k b true
      c.updCtl k fun x => { x with busy := true }

/-- CAN_TXB_CANCEL of buffer n. -/
def Core.txbCancel (c : Core) (n v : Nat) : Core :=
  if v != 1 then c.abort 0x06090030
  else
    let k := n / 3
    let b := n % 3
    match (c.buf k b).st with
    | 0 => c.answer .done
    | 1 => (c.cancelBuf k b).answer .done
    | _ => (c.updBuf k b fun x => { x with cancel := true, defer := false }).answer .done

/-! ## Configuration (R401, R412) -/

/-- CAN_CONFIG_APPLY at a boundary. -/
def Core.canApply (c : Core) (k : Nat) : Core :=
  if !(c.ctl k).cfgDue then c
  else
    let on := c.rd (Od.CAN_MODE k) != 0
    let asleep := on && c.canBit k csAsleep
    let c := { c with can := updAt (fun x => { CanCtl.fresh with mark := x.mark, cycles := x.cycles }) c.can k }
    let c := [csPassive, csBusOff, csNoack, csOnBus].foldl (fun (c : Core) i => c.setCanBit k i false) c
    let c := ((c.setCanBit k csAsleep asleep).setCanBit k csIntegrating (on && !asleep)).showErrors k
    let c := [0, 1, 2].foldl (fun (c : Core) b => c.wr (Od.CAN_TXB_STATUS (3 * k + b)) 0) c
    let c := [0, 1, 2, 3].foldl (fun (c : Core) j => (c.wr (Od.CAN_Q_COUNT (4 * k + j)) 0).evLevel (145 + 4 * k + j) false) c
    if c.rd (Od.TT_ROLE k) != 2 then c.setTt k 0 else c

def Core.canApplyAll (c : Core) : Core := (List.range c.canCount).foldl Core.canApply c

/-! ## Reception (R409 to R412) -/

def frameId (w : Nat) : Nat := if w.testBit 31 then field w 0 29 else field w 0 11

/-- A filter takes a frame. -/
def CanFilter.takes (f : CanFilter) (x : CanFrame) : Bool :=
  f.dest != 0 && f.flags.testBit (if x.idword.testBit 30 then 2 else 1) && f.flags.testBit 0 == x.idword.testBit 31 &&
    (frameId x.idword ^^^ f.id) &&& f.mask == 0

/-- A queue entry (Table 11.8). -/
def queueEntry (x : CanFrame) (g stamp : Nat) (overflow : Bool) : Bytes :=
  leBytes 4 x.idword ++ leBytes 1 x.dlc ++ leBytes 1 (b2n x.esi + 2 * b2n overflow) ++ leBytes 2 g ++ leBytes 8 stamp ++
    padTo 64 x.data

/-- A frame goes into queue j of controller k. -/
def Core.toQueue (c : Core) (k j g : Nat) (x : CanFrame) : Core :=
  let q := (c.ctl k).queues.getD j []
  let was := (c.ctl k).dropped.getD j false
  if 64 ≤ q.length then
    let c := (c.inc32 (Od.CAN_Q_DROPPED (4 * k + j))).updCtl k fun y => { y with dropped := setAt y.dropped j true }
    if was then c else c.canLog 0x0B05 k
  else
    let c := c.updCtl k fun y => { y with
      queues := setAt y.queues j (q ++ [queueEntry x g c.clk.now was]), dropped := setAt y.dropped j false }
    let c := (c.wr (Od.CAN_Q_COUNT (4 * k + j)) (q.length + 1)).peak (Od.CAN_Q_PEAK (4 * k + j)) (q.length + 1)
    c.evLevel (145 + 4 * k + j) true

/-- A frame is taken by receive object 32k + g. -/
def Core.toObject (c : Core) (k g : Nat) (x : CanFrame) : Core :=
  let o := 32 * k + g
  let c := c.updCtl k fun y => { y with taken := y.taken ++ [(g, c.clk.now, x.data)] }
  let s := Od.CAN_RXO_STATUS o
  (((c.setBit s 1 true).setBit s 2 false).setBit s 3 (x.idword.testBit 30)).evPulse (297 + o)

/-- A valid data frame passes the filters. -/
def Core.filterFrame (c : Core) (k : Nat) (x : CanFrame) : Core :=
  match (List.range 32).find? fun g => (c.canFilter k g).takes x with
  | none => c
  | some g => if (c.canFilter k g).dest = 2 then c.toQueue k (c.canFilter k g).queue g x else c.toObject k g x

/-- A receive object's part of the snapshot at station time `t`, and its age. -/
def Core.canObjectLatch (c : Core) (t o : Nat) : Core :=
  let k := o / 32
  let g := o % 32
  if (c.canFilter k g).dest != 1 then c
  else match (((c.ctl k).taken.filter fun x => x.1 == g && decide (x.2.1 < t)).getLast?) with
    | some x => (c.wr (Od.CAN_RXO_AGE o) 0).deliverSource 3 o x.2.2 fun _ => 0
    | none => c.incSat 65535 (Od.CAN_RXO_AGE o)

def Core.canObjectAge (c : Core) (o age : Nat) : Core :=
  let f := c.canFilter (o / 32) (o % 32)
  if f.dest != 1 || f.maxAge = 0 || age < f.maxAge || c.bit (Od.CAN_RXO_STATUS o) 2 then c
  else (c.setBit (Od.CAN_RXO_STATUS o) 2 true).canLog 0x0B06 (o / 32)

def Core.canLatches (c : Core) (t : Nat) : Core :=
  let c := (List.range (32 * c.canCount)).foldl (fun (c : Core) o =>
    let c := c.canObjectLatch t o
    c.canObjectAge o (c.rd (Od.CAN_RXO_AGE o))) c
  { c with can := c.can.map fun x => { x with taken := x.taken.filter fun y => decide (t ≤ y.2.1) } }

/-- CAN_RX_OBJECT_AGED: the boundary at which an object's age reaches its limit. -/
def Core.canObjectAged (c : Core) (o : Nat) : Core :=
  if !c.clk.running || 32 * c.canCount ≤ o || (c.ctl (o / 32)).taken.any (fun x => x.1 == o % 32) then c
  else (c.atTime c.clk.nextB).canObjectAge o (c.rd (Od.CAN_RXO_AGE o) + 1)

/-- CAN_Q_ACK of queue q, on a path that may acknowledge it (R412 is the access check's). -/
def Core.queueAck (c : Core) (q n : Nat) : Core :=
  let k := q / 4
  let j := q % 4
  let l := (c.ctl k).queues.getD j []
  if n = 0 || 64 < n || l.length < n then c.abort 0x06090030
  else
    let c := c.updCtl k fun y => { y with queues := setAt y.queues j (l.drop n) }
    let c := c.wr (Od.CAN_Q_COUNT q) (l.length - n)
    (if l.length = n then c.evLevel (145 + q) false else c).answer .done

/-- CAN.Q_HEAD: 80 zero bytes if the queue is empty. -/
def Core.queueHead (c : Core) (q : Nat) : Bytes := (((c.ctl (q / 4)).queues.getD (q % 4) []).head?).getD (zeros 80)

/-! ## Time-triggered operation (R415 to R417) -/

/-- A basic cycle in ns. -/
def Core.basicCycle (c : Core) (k : Nat) : Nat := c.rd (Od.TT_CYCLE_TICKS k) * c.period

/-- TT_REFERENCE_LAUNCH: a time master's reference instant; one that has not started by then is dropped. -/
def Core.ttRefLaunch (c : Core) (k : Nat) (busy : Bool) : Core :=
  match (c.ctl k).refs with
  | [] => c
  | t :: rest =>
    if c.canMode k == 0 then c
    else
      let c := (c.atTime t).updCtl k fun x => { x with refs := rest, busy := busy }
      let c := if (c.buf k bufRef).st = 1 then (c.idleBuf k bufRef).refMissed k else c
      if !c.netGate || c.canBit k csAsleep then c
      else
        let cyc := c.rd (Od.TT_CYCLE_TICKS k)
        let n := if cyc = 0 then 0 else c.rd Od.TICK_NUMBER / cyc
        let count := n % max 1 (c.rd (Od.TT_MATRIX_CYCLES k))
        let c := c.updBuf k bufRef fun x => { x with
          st := 1, idword := c.rd (Od.TT_REF_ID k), reg := leBytes 1 count, single := true, cancel := false, defer := false,
          asked := t }
        c.canOffer k

/-- The launches of a follower's basic cycle with a sync mark and a count: those from `from'` on, or all. -/
def Core.ttPlan (c : Core) (k mark count : Nat) (skipPast : Bool) : Core :=
  let due := (List.range 3).filterMap fun b =>
    let d := c.canDesc k b
    let t := mark + d.launchNs
    if d.en && d.cycle != 0 && count % d.cycle == d.ofs && !(skipPast && decide (t < c.clk.now)) then some (b, t) else none
  c.updCtl k fun x => { x with plan := due }

/-- A follower takes a reference: its sync mark is the start-of-frame stamp. -/
def Core.ttReference (c : Core) (k : Nat) (x : CanFrame) (sof : Nat) : Core :=
  let count := leAt x.data 0 1 % 64
  let c := c.updCtl k fun y => { y with mark := sof, cycles := 0 }
  let c := ((c.inc32 (Od.TT_REF_SENT k)).wr (Od.TT_CYCLE_COUNT k) count).wr (Od.TT_REF_STAMP k) sof
  (c.setTt k 1).ttPlan k sof count false

/-- A reference message of a follower's bus. -/
def Core.isReference (c : Core) (k : Nat) (x : CanFrame) : Bool :=
  c.rd (Od.TT_ROLE k) == 2 && !x.idword.testBit 31 && !x.idword.testBit 30 && frameId x.idword == c.rd (Od.TT_REF_ID k) && !x.remote

/-- A valid frame at a controller that takes part is counted; a remote frame goes no further, another one to `take`. -/
def Core.canTaken (c : Core) (k : Nat) (x : CanFrame) (take : Core → Core) : Core :=
  if !c.canOnBus k || (x.idword.testBit 30 && c.canMode k == 1) then c
  else
    let c := c.updCtl k fun y => { y with
      busy := false, recCount := if 127 < y.recCount then 119 + c.fresh 32 % 9 else y.recCount - 1 }
    let c := ((c.used 1).showErrors k).inc64 (Od.CAN_RX_FRAMES k)
    (if x.remote then c else take c).canOffer k

/-- A frame for the filters; a reference, with its start-of-frame stamp, is taken by a follower. -/
def Core.canReceive (c : Core) (k : Nat) (x : CanFrame) (sof : Nat) : Core :=
  c.canTaken k x fun c => (if c.isReference k x then c.ttReference k x sof else c).filterFrame k x

/-- TT_REFERENCE_RX. -/
def Core.ttRefRx (c : Core) (k : Nat) (x : CanFrame) (sof : Nat) : Core :=
  if c.isReference k x then c.canReceive k x sof else c

/-- TT_REFERENCE_MISSED: no reference for 1.5 basic cycles. Transmission goes on from the last sync mark. -/
def Core.ttMissed (c : Core) (k : Nat) : Core :=
  if c.canMode k == 0 || c.rd (Od.TT_STATE k) != 1 then c
  else
    let cyc := c.basicCycle k
    let c := (c.atTime ((c.ctl k).mark + cyc * 3 / 2)).setTt k 2
    let c := (c.inc32 (Od.TT_REF_MISSED k)).updCtl k fun x => { x with cycles := 1 }
    c.ttPlan k ((c.ctl k).mark + cyc) ((c.rd (Od.TT_CYCLE_COUNT k) + 1) % max 1 (c.rd (Od.TT_MATRIX_CYCLES k))) true

/-- A follower in MISSED counts whole basic cycles at the boundaries. -/
def Core.ttCount (c : Core) (k : Nat) : Core :=
  let n := (c.ctl k).cycles + 1
  let cyc := c.basicCycle k
  if c.rd (Od.TT_STATE k) != 2 || cyc = 0 || c.clk.now < (c.ctl k).mark + n * cyc then c
  else
    let c := (c.inc32 (Od.TT_REF_MISSED k)).updCtl k fun x => { x with cycles := n }
    c.ttPlan k ((c.ctl k).mark + n * cyc) ((c.rd (Od.TT_CYCLE_COUNT k) + n) % max 1 (c.rd (Od.TT_MATRIX_CYCLES k))) true

/-- TT_FOLLOWER_LOST: TT.LOSS_LIMIT basic cycles have begun and ended without a reference. -/
def Core.ttLost (c : Core) (k : Nat) : Core :=
  if c.canMode k == 0 || c.rd (Od.TT_STATE k) != 2 then c
  else
    let t := (c.ctl k).mark + (c.rd (Od.TT_LOSS_LIMIT k) + 1) * c.basicCycle k
    ((c.atTime t).setTt k 3).updCtl k fun x => { x with plan := [] }

/-- What the controllers do at a boundary. -/
def Core.canBoundary (c : Core) : Core :=
  (List.range c.canCount).foldl (fun (c : Core) k => ((c.canApply k).canPlan k).ttCount k) c

/-! ## Sleep and wake (R418, R419) -/

/-- CAN_CMD_SLEEP. -/
def Core.canSleep (c : Core) (k : Nat) : Core :=
  if c.canMode k == 0 || c.canBit k csAsleep || c.rd (Od.TT_ROLE k) = 1 then c.abort 0x08000022
  else
    let c := (List.range 5).foldl (fun (c : Core) b =>
      if (c.buf k b).st = 1 then c.cancelBuf k b
      else c.updBuf k b fun x => { x with defer := false }) c
    ((c.updCtl k fun x => { x with sleeping := true }).setCanBit k csWoken false).answer .done

/-- CAN_SLEEP_ENTERED. -/
def Core.sleepEntered (c : Core) (k : Nat) : Core :=
  if c.canMode k == 0 || !(c.ctl k).sleeping || (c.ctl k).bufs.any (·.st == 2) then c
  else
    let c := (List.range 5).foldl (fun (c : Core) b => if (c.buf k b).st = 1 then c.cancelBuf k b else c) c
    let c := c.updCtl k fun x => { x with sleeping := false, busy := false }
    (((c.setCanBit k csAsleep true).setCanBit k csOnBus false).setCanBit k csIntegrating false).canLog 0x0B0A k

/-- A wake: the controller re-integrates, keeping TEC and REC. -/
def Core.canWoken (c : Core) (k : Nat) : Core :=
  let c := ((c.setCanBit k csAsleep false).setCanBit k csWoken true).setCanBit k csIntegrating true
  (((c.inc32 (Od.CAN_WAKES k)).canLog 0x0B0A k).evPulse (161 + k))

/-- CAN_CMD_WAKE. -/
def Core.canWake (c : Core) (k : Nat) : Core :=
  if c.canMode k == 0 || !c.canBit k csAsleep then c.abort 0x08000022 else (c.canWoken k).answer .done

/-- CAN.WAKE_MODE selects the event. -/
def Core.wakes (c : Core) (k : Nat) : WakeEvent → Bool
  | .dominant => c.rd (Od.CAN_WAKE_MODE k) == 1
  | .pattern => c.rd (Od.CAN_WAKE_MODE k) == 2
  | .frame x =>
    let id := c.rd (Od.CAN_WAKE_ID k)
    c.rd (Od.CAN_WAKE_MODE k) == 3 && x.idword.testBit 31 == id.testBit 31 &&
      (frameId x.idword ^^^ field id 0 29) &&& c.rd (Od.CAN_WAKE_MASK k) == 0 &&
      (beNat (padTo 8 x.data) ^^^ c.rd (Od.CAN_WAKE_DATA k)) &&& c.rd (Od.CAN_WAKE_DMASK k) == 0

/-- CAN_BUS_WAKE. -/
def Core.canBusWake (c : Core) (k : Nat) (e : WakeEvent) : Core :=
  if c.canMode k == 0 || !c.canBit k csAsleep || !c.wakes k e then c
  else
    let c := c.canWoken k
    match e with
    | .frame x => c.wr (Od.CAN_LAST_WAKE_ID k) (putBit (frameId x.idword) 31 (x.idword.testBit 31))
    | _ => c

/-- CAN_CMD_RECOVER. -/
def Core.canRecover (c : Core) (k : Nat) : Core :=
  if c.canMode k == 0 || !c.canBit k csBusOff then c.abort 0x08000022
  else (c.updCtl k fun x => { x with recover := true }).answer .done

end Sys2Proof.Machine
end

