-- ==== Sys2Proof/Machine/Pair.lean ====
section
/-! DEFINITION. The redundant pair (R332 to R354): roles, pairing, ACTIVE toggling, takeover, the trailing standby and
re-synchronisation. -/

namespace Sys2Proof.Machine

def ServedUnit.fresh : ServedUnit := ⟨[none, none], 0, 0, 0⟩
def ServedPair.fresh : ServedPair := ⟨[ServedUnit.fresh, ServedUnit.fresh], none, none⟩

def Pair.fresh : Pair :=
  { detected := false, stopped := false, lanes := [false, false], present := false, announced := 0, released := none,
    both := none, startWait := none, stepNow := none, idle := false, record := none, recordAt := 0, skipped := [],
    resyncs := [], held := false, words := [], outcomes := [], changes := [], hash := 0, latch := [], runs := [], seq := 0, beatAt := 0,
    witness := [none, none], witnessWord := 0, order := none, acked := false, requestAt := none, quiet := none,
    unknownAt := none, served := List.replicate 8 ServedPair.fresh }

def Core.updPair (c : Core) (f : Pair → Pair) : Core := { c with pair := f c.pair }

/-! ## Status and health (Tables 09.8, 09.11) -/

def psReturn : Nat := 0
def psPartnerToggling : Nat := 2
def psResyncing : Nat := 4
def psUnfit : Nat := 5
def psWitnessLost : Nat := 6
def psRefused : Nat := 7
def psPartnerRefused : Nat := 8
def psPartnerAbsent : Nat := 9
def psUnsynced : Nat := 10
def psRequest : Nat := 11

def Core.pairBit (c : Core) (i : Nat) : Bool := c.bit Od.PAIR_STATUS i
def Core.setPairBit (c : Core) (i : Nat) (b : Bool) : Core := c.setBit Od.PAIR_STATUS i b

/-- PAIR.ROLE (Table 09.10). -/
def Role.code : Role → Nat
  | .alone => 0 | .active => 1 | .standby => 2 | .syncing => 3 | .witness => 4

/-- PAIR.STATUS with the bits the hardware shows. -/
def Core.pairStatus (c : Core) : Nat :=
  putBit (putBit (c.rd Od.PAIR_STATUS) 3 c.interlock) 1 c.toggling

def Core.syncedNow (c : Core) : Bool :=
  c.role == .active || (c.role == .standby && !c.pairBit psResyncing && !c.pairBit psUnfit)

/-- FIELD_OK: no field group CUT, TRIP or LOW, and no group supply low. -/
def Core.fieldOk (c : Core) : Bool :=
  (List.range c.fgCount).all (fun g => c.rd (Od.FG_STATUS g) &&& 0x43 == 0) &&
    (List.range 3).all fun u => c.rd (Od.UG_STATUS u) &&& 1 == 0

def Core.timeLocked (c : Core) : Bool := c.clk.state == TimeState.locked && !c.bit Od.TIME_FLAGS 1

def Core.inputsAgree (c : Core) : Bool := c.rd Od.PAIR_DIFF_DIO == 0 && c.rd Od.PAIR_DIFF_UIO == 0

/-- The health word. -/
def Core.health (c : Core) : Nat :=
  let retired := (bitsSet 32 (c.rd Od.SPIN_RETIRED)).length
  let online := (bitsSet 64 (c.rd Od.RIO_ONLINE)).length
  retired * 2 ^ 24 + online * 2 ^ 16 + b2n (c.pairBit psRequest) * 2 ^ 10 + b2n (c.pairBit psReturn) * 2 ^ 9 +
    b2n c.inputsAgree * 2 ^ 8 + b2n c.fieldOk * 2 ^ 7 + b2n c.timeLocked * 2 ^ 6 +
    b2n (decide (c.stepping.length = 3) && !c.ply.split) * 2 ^ 5 + b2n c.syncedNow * 2 ^ 4 +
    b2n (c.pair.lanes == [true, true]) * 2 ^ 3 + b2n (!c.netLost 1) * 2 ^ 2 + b2n (!c.netLost 0) * 2 +
    b2n (c.safetyFuse == 0 || c.safety.avail)

/-! ## Toggling (R336, R339) -/

/-- The conditions of R336; in SAFE and FAILED the executive's keep-alive stops. -/
def Core.toggleWant (c : Core) : Bool :=
  c.pairEn && c.pair.detected && !c.pair.stopped && c.ply.unvoted.isNone &&
    (match c.run with | .init | .stop | .run | .hold => true | _ => false) &&
    match c.pairRole with
    | .active => !c.ply.split
    | .alone => !c.pairBit psRefused
    | _ => false

/-- The conditions of R361 for a return. -/
def Core.returnFit (c : Core) : Bool :=
  c.pairMember && c.rd Od.PAIR_UNIT == 0 && c.role == .standby && c.syncedNow && c.fieldOk && c.inputsAgree && c.timeLocked &&
    c.rd Od.PAIR_RETURN_HOLD_S != 0

/-- What the pair hardware and its timers show after a command. -/
def Core.settlePair (c : Core) : Core :=
  let c := { c with toggling := c.toggleWant }
  let fit := c.returnFit
  let c := c.updPair fun p => { p with
    both := sinceWhen (c.toggling && c.partnerToggling) p.both c.clk.cyc
    quiet := sinceWhen fit p.quiet c.clk.cyc }
  if !fit && c.pairBit psReturn then c.setPairBit psReturn false else c

/-- ACTIVE_TOGGLE_STOP: the keep-alive is missing. -/
def Core.toggleStop (c : Core) : Core := if c.toggling then c.updPair fun p => { p with stopped := true } else c

/-! ## Roles -/

/-- The redundancy manager makes no role decision in a tick with an unknown word (R357). -/
def Core.roleHeld (c : Core) : Bool := c.pair.unknownAt == some (c.rd Od.TICK_COUNT)

/-- A STANDBY is demoted (R347, R363). -/
def Core.demote (c : Core) : Core := c.becomeSyncing.fault' 0x090F unitPair

/-- The module takes the role ACTIVE under R350, with the state of its own image; in RUN its loop units are armed (Table
04.13). -/
def Core.startActive (c : Core) : Core :=
  let c := { c with role := .active }.setPairBit psPartnerAbsent (!c.pair.present)
  if c.run == .run then c.armRunning else c

/-- R350, at partner detection and at a cold start. -/
def Core.detectRole (c : Core) : Core :=
  let c := c.updPair fun p => { p with startWait := none, detected := true }
  if !c.pairMember then { c with role := if c.roleFuse == 3 || c.rd Od.WIT_ENABLE == 1 then .witness else .alone }
  else if c.pairBit psRefused then { c with role := .alone }
  else if c.partnerToggling then { c with role := .syncing }
  else if c.rd Od.PAIR_UNIT = 0 then c.startActive
  else { c with role := .syncing }.updPair fun p => { p with startWait := some c.clk.cyc }

/-- PARTNER_DETECTION. -/
def Core.partnerDetection (c : Core) : Core :=
  if c.run == .init && c.react.startDone && (c.pwr.acqOver || c.clk.locked || c.clk.source == 0) && !c.pair.detected &&
      !c.roleHeld
  then c.detectRole else c

/-- START_WAIT_EXPIRY. -/
def Core.startWaitExpiry (c : Core) : Core :=
  match c.pair.startWait with
  | none => c
  | some t =>
    if !c.alive || c.roleHeld then c
    else
      let c := (c.atCyc (t + ms (c.rd Od.PAIR_START_WAIT_MS))).updPair fun p => { p with startWait := none }
      if c.partnerToggling then c else c.startActive

/-- A witness station's role follows WIT.ENABLE and PAIR.ENABLE at a boundary (R355). -/
def Core.witnessRole (c : Core) : Core :=
  if c.pairMember then c else { c with role := if c.roleFuse == 3 || c.rd Od.WIT_ENABLE == 1 then .witness else .alone }

/-! ## Pairing (R334) -/

/-- The keys under PAIR.CFG_HASH: every rws and rwsc entry outside 0x2900 to 0x29FF and 0x2E00 to 0x2EFF but NET.IP_ADDR. -/
def hashedKeys : List Nat :=
  (((([0x20, 0x21, 0x22, 0x23, 0x25, 0x26, 0x27, 0x28, 0x2A, 0x2B, 0x2C, 0x2D, 0x2F].flatMap odPage).filter fun r =>
      r.acc == .rws || r.acc == .rwsc) |> rowKeys).filter fun k => k != Od.NET_IP_ADDR 0 && k != Od.NET_IP_ADDR 1) ++
    (List.range 64).flatMap fun s => (rowKeys (odRows30.filter fun r => r.acc == .rws)).map (· + s * 0x4000)

/-- PAIR.CFG_HASH. A DOMAIN entry goes in with its bytes. -/
def Core.cfgHash (c : Core) : Nat :=
  crc32c 0xFFFFFFFF (Config.cfgBytes ((c.cfgValues hashedKeys).map fun p => (p.1, p.2 + leNat (c.dom p.1 ++ [1]) - 1)))

/-- The first reason for refusing a partner; 0 none. -/
def Core.refuseReason (c : Core) (x : Identity) : Nat :=
  if x.variant != c.variant then 1
  else if x.serial != c.rd Od.PAIR_PARTNER_ID || x.partnerId != c.rd Od.SERIAL then 2
  else if x.pairId != c.rd Od.PAIR_PAIR_ID || x.unit == c.rd Od.PAIR_UNIT then 3
  else if x.activeId != c.rd Od.PROG_ACTIVE_ID then 4
  else if x.cfgHash != c.cfgHash then 5
  else 0

/-- PAIRING_IDENTITY_EXCHANGE: the partner's presence line is active and its identity has come over the lanes. One of the
modules has started up: UNFIT clears (R346; log entry 197). -/
def Core.identityExchange (c : Core) (x : Identity) : Core :=
  if !c.alive || !c.pairMember then c
  else
    let why := c.refuseReason x
    let c := (c.updPair fun p => { p with present := true, announced := x.role }).wr Od.PAIR_REFUSE_REASON why
    let c := (c.setPairBit psPartnerAbsent false).setPairBit psUnfit false
    if why = 0 then c.setPairBit psPartnerRefused false
    else if c.role == .active && c.pair.detected then c.setPairBit psPartnerRefused true
    else ({ c with role := .alone }.setPairBit psRefused true).fault' 0x0902 unitPair

/-! ## Lanes and the detector (R335, R337) -/

/-- LANE_DOWN and LANE_UP. -/
def Core.laneChange (c : Core) (l : Nat) (up : Bool) : Core :=
  if !c.alive || !c.pairEn || c.pair.lanes.getD l up == up then c
  else
    let c := c.updPair fun p => { p with lanes := setAt p.lanes l up }
    (if up then c else c.inc32 Od.PAIR_LANE_ERRORS).log 0x090C

/-- PARTNER_TOGGLING_DETECTED. -/
def Core.togglingDetected (c : Core) : Core :=
  if c.alive && c.pairEn then c.setPairBit psPartnerToggling true else c

/-- TIEBREAK: both ACTIVE lines have toggled for 20 µs; the secondary yields (R339). -/
def Core.tiebreak (c : Core) : Core :=
  match c.pair.both with
  | none => c
  | some t =>
    if !c.alive || c.rd Od.PAIR_UNIT != 1 || !c.pairMember then c
    else ((c.atCyc (t + us 20)).becomeSyncing.inc32 Od.PAIR_TIEBREAKS).fault' 0x090D unitPair

/-! ## Takeover and handover (R340, R341, R352 to R354) -/

/-- An order lapses or is not executed at its boundary (R359). -/
def Core.orderIgnored (c : Core) : Core :=
  ((c.updPair fun p => { p with order := none, acked := false }).inc32 Od.PAIR_ORDERS_IGNORED).log 0x090B

/-- A STANDBY becomes ACTIVE during tick m: step m is skipped (R352). -/
def Core.takeField (c : Core) (gap : Nat) : Core :=
  let c := c.setPairBit psUnsynced (c.pairBit psResyncing)
  let c := (c.setPairBit psResyncing false).setPairBit psRequest false
  let c := { c with role := .active }.updPair fun p => { p with
    skipped := p.skipped ++ [c.rd Od.TICK_NUMBER], record := none, requestAt := none, released := p.released }
  c.wr Od.PAIR_LAST_GAP_NS gap

/-- The role register moves in every powered run state but SAFE and FAILED: a STANDBY in SAFE resumes as SYNCING (R76,
R340). -/
def Core.roleMoves (c : Core) : Bool := c.alive && c.run != .safe && c.run != .failed

/-- A SYNCING module that may start cold: decided at partner detection, waiting for nothing, its lock-step not split (R354,
R497), and not held off by an escalated reaction (Table 15.6). -/
def Core.coldMay (c : Core) : Bool :=
  c.roleMoves && c.pairMember && c.role == .syncing && c.pair.detected && c.pair.startWait.isNone && !c.ply.split && !c.pair.held

/-- A SYNCING module without a partner starts cold (R354). -/
def Core.coldStart (c : Core) : Core :=
  let c := (c.logSev 0x090F 6 (Config.freeNat c.free) (Config.freeNat (c.free + 1))).used 2
  (c.nest 0x090F (codeLevel 0x090F) unitPair).detectRole

/-- The run states in which a STANDBY runs steps. -/
def Core.mayTake (c : Core) : Bool := match c.run with | .stop | .run | .hold => true | _ => false

/-- At a boundary a SYNCING module whose partner does not toggle starts cold (R354; log entry 94). -/
def Core.coldBoundary (c : Core) : Core :=
  if c.coldMay && !c.partnerToggling && !c.roleHeld then c.coldStart else c

/-- TAKEOVER_ON_LOSS: the partner's ACTIVE has stopped toggling; in a STANDBY the loss is confirmed and its own
field_enable rises `gap` ns after the last edge. -/
def Core.takeoverOnLoss (c : Core) (gap : Nat) : Core :=
  if !c.alive || !c.pairEn || !c.partnerToggling then c
  else
    let c := c.setPairBit psPartnerToggling false
    match c.pairRole with
    | .standby =>
      if !c.roleMoves then c
      else
        let c := if c.pair.order.isSome then c.orderIgnored else c
        ((c.takeField gap).inc32 Od.PAIR_TAKEOVERS_LOSS).fault' 0x0903 unitPair
    | .syncing => if c.coldMay then c.coldStart else c
    | _ => c

/-- The active's side of a handover at its boundary (R341, R353). -/
def Core.releaseField (c : Core) : Core :=
  let c := { c.becomeSyncing with toggling := false }
  let c := ((c.emit (.symbol 1)).inc32 Od.PAIR_HANDOVERS).log 0x0904
  (c.updPair fun p => { p with requestAt := none }).setPairBit psRequest false

/-- RELEASE_RX: the symbol ends the partner's toggling at once; a module that has taken the order sets its role register to
ACTIVE. -/
def Core.releaseRx (c : Core) (gap : Nat) : Core :=
  if !c.alive || !c.pairEn then c
  else
    let c := (c.updPair fun p => { p with released := some (c.rd Od.TICK_COUNT) }).setPairBit psPartnerToggling false
    if c.pairRole == .standby && c.pair.acked && c.pair.order.isSome && c.roleMoves then
      let c := (c.updPair fun p => { p with order := none, acked := false }).takeField gap
      (c.inc32 Od.PAIR_HANDOVERS).log 0x0904
    else c

/-- ORDER_EXECUTE at a boundary: the active releases, or ignores the order; a standby ignores one whose boundary has gone
by without a RELEASE. -/
def Core.orderBoundary (c : Core) : Core :=
  match c.pair.order with
  | none => c
  | some o =>
    if c.role == .active then
      if c.clk.now < o.due then c else if c.pair.acked then c.releaseField else c.orderIgnored
    else if o.due + c.period ≤ c.clk.now then c.orderIgnored else c

/-! ## Steps (R342 to R347, R352) -/

/-- A step that was not run: the releases of its periodic tasks count as dropped, the countdowns advance, and each loop due
at it has GAP set. -/
def Core.skipStep (c : Core) (m : Nat) : Core :=
  let was := c.pair.stepNow
  let c := c.updPair fun p => { p with stepNow := some m }
  let c := (c.validSlots.filter fun k => c.slotDue k && c.slotMode k != 3).foldl Core.gapSlot c
  let c := c.taskNumbers.foldl (fun c t =>
    if c.rd (Od.TASK_KIND t) != 1 then c
    else
      let n := c.rd (Od.TASK_NEXT t)
      if n != 0 then c.wr (Od.TASK_NEXT t) (n - 1)
      else (c.wr (Od.TASK_NEXT t) (c.rd (Od.TASK_PERIOD t) - 1)).dropRelease t) c
  c.updPair fun p => { p with stepNow := was }

/-- The steps still to be treated as skipped. -/
def Core.skipSteps (c : Core) : Core :=
  (c.pair.skipped.foldl Core.skipStep c).updPair fun p => { p with skipped := [] }

/-- The CRC of one of the two copies is correct. -/
def StepRecord.crcOk (r : StepRecord) : Bool := r.lanes.any id

/-- STEP_RECORD_RX: a complete record, the first copy whose CRC is correct; each copy with a wrong one is a lane error
(R335). -/
def Core.stepRecordRx (c : Core) (r : StepRecord) : Core :=
  if !c.alive || !c.pairMember || !(c.role == .standby || c.role == .syncing) then c
  else
  let c := c.addW 32 Od.PAIR_LANE_ERRORS (r.lanes.filter not).length
  if !r.crcOk then c
  else (c.updPair fun p => { p with record := some r, recordAt := c.clk.cyc }).wr Od.PAIR_REC_BYTES r.size

/-- RECORD_WAIT_EXPIRY. -/
def Core.recordWaitExpiry (c : Core) : Core :=
  if !c.alive || c.role != .standby || c.roleHeld then c
  else (c.atCyc (c.pair.recordAt + ms (c.rd Od.PAIR_RECORD_WAIT_MS))).demote

/-- The record of the step that a STANDBY runs in the tick that begins. -/
def Core.recordDue (c : Core) : Option StepRecord :=
  match c.pair.record with
  | some r => if r.step + 1 = c.rd Od.TICK_NUMBER then some r else none
  | none => none

/-- The channels' own latch, before the replicated snapshot takes its place. -/
def Core.ownLatch (c : Core) : List (Nat × Nat) :=
  (List.range 48).map (fun i => (Od.PI_DIO_IN i, c.rd (Od.PI_DIO_IN i))) ++
    (List.range 24).map fun i => (Od.PI_UIO_IN i, c.rd (Od.PI_UIO_IN i))

/-- The nominal range of a channel in thousandths of its unit (Tables 07.2, 07.6). -/
def nominalRange (mode range : Nat) : Int × Int :=
  match mode, range with
  | 2, 0 | 3, 0 | 5, 0 | 6, _ => (4000, 20000)
  | 4, 0 => (0, 10000)
  | 4, _ => (-10000, 10000)
  | 5, 1 => (0, 20000)
  | 5, _ => (0, 24000)
  | _, _ => match inRange mode range with | some r => (r.lo, r.hi) | none => (0, 1000)

/-- The width of the nominal range in the unit of the value: through the characteristic where one applies (log entry 198). -/
def Core.nominalSpan (c : Core) (i : Nat) : Nat :=
  let (lo, hi) := nominalRange (c.uioMode i) (c.uioRange i)
  if charMode (c.uioMode i) then F32.abs (F32.sub (c.toEu i (milli hi)) (c.toEu i (milli lo))) else F32.sub (milli hi) (milli lo)

/-- Two UIO values agree within PAIR.CMP_UIO_TOL percent of the nominal span. -/
def Core.uioAgree (c : Core) (i a b : Nat) : Bool :=
  let span := c.nominalSpan i
  F32.le (F32.abs (F32.sub a b)) (F32.div (F32.mul (c.rd Od.PAIR_CMP_UIO_TOL) span) (F32.ofNat 100))

/-- A comparison of one channel; its run of differing (a) or agreeing comparisons is counted in pairs (channel, count): a
count above 2^16 is one of agreeing ones. -/
def Core.compareOne (c : Core) (ch : Nat) (differs : Bool) : Core :=
  let dio := decide (ch < 48)
  let key := if dio then Od.PAIR_DIFF_DIO else Od.PAIR_DIFF_UIO
  let i := if dio then ch else ch - 48
  let was := ((c.pair.runs.find? (·.1 == ch)).map (·.2)).getD 0
  let n := if differs then (if was < 65536 then was + 1 else 1) else (if was < 65536 then 65537 else was + 1)
  let c := c.updPair fun p => { p with runs := p.runs.filter (·.1 != ch) ++ [(ch, n)] }
  let lim := c.rd Od.PAIR_CMP_TICKS
  if differs then
    if lim ≤ n && !c.bit key i then (c.setBit key i true).log 0x0908 else c
  else if lim ≤ n - 65536 then c.setBit key i false else c

/-- INPUT_COMPARE: the own latch of the boundary that the record's snapshot is of (R348). -/
def Core.compareInputs (c : Core) (r : StepRecord) : Core :=
  let val (l : List (Nat × Nat)) (k : Nat) : Option Nat := (l.find? (·.1 == k)).map (·.2)
  let own := c.pair.latch
  let theirs := r.inputs.map fun x => (x.1, x.2.1)
  let c := (bitsSet 48 (c.rd Od.PAIR_CMP_DIO)).foldl (fun (c : Core) i =>
    match val own (Od.PI_DIO_IN i), val theirs (Od.PI_DIO_IN i) with
    | some a, some b => c.compareOne i (a != b)
    | _, _ => c) c
  (bitsSet 24 (c.rd Od.PAIR_CMP_UIO)).foldl (fun (c : Core) i =>
    match val own (Od.PI_UIO_IN i), val theirs (Od.PI_UIO_IN i) with
    | some a, some b => c.compareOne (48 + i) (!c.uioAgree i a b)
    | _, _ => c) c

/-- The snapshot S(n) of a record takes the place of the own one, its Scrim telegrams included (R320, R321, R329). -/
def Core.applySnapshot (c : Core) (r : StepRecord) : Core :=
  let c := r.inputs.foldl (fun (c : Core) x => (c.wr x.1 x.2.1).wr (qKey x.1) x.2.2) c
  let c := r.images.foldl (fun (c : Core) x => (c.setDom (Od.RS_IN_IMAGE x.1) x.2.2).wr (Od.RS_LAST_TICK x.1) x.2.1) c
  let c := r.scrim.foldl (fun (c : Core) x =>
    let seq := beAt x.2 8 4
    let newer := between 1 ((seq + 2 ^ 32 - c.rd (Od.SCRIM_SEQ x.1)) % 2 ^ 32) (2 ^ 31 - 1)
    let c := if newer || !c.scrimLive x.1 then c.wr (Od.SCRIM_SEQ x.1) seq else c
    let c := c.updConn x.1 fun k => { k with snap := some ⟨c.clk.tickCyc, false, x.2⟩, tick := c.rd Od.TICK_COUNT }
    if c.scrimLive x.1 then c else c.setScrim x.1 scOk) c
  ((List.range 16).filter fun k => c.rd (Od.SCRIM_DIR k) == 2).foldl (fun (c : Core) k => c.scrimWatch k (c.rd Od.TICK_COUNT)) c

/-- The outcomes of a release list as the standby makes them. -/
def Core.recordReleases (c : Core) (r : StepRecord) : Core × List Nat × Bool :=
  let (held, made) := r.releases.partition fun x => x.2 == .held
  let c := held.foldl (fun (c : Core) x => if c.rd (Od.TASK_KIND x.1) = 2 then c.setTaskBit x.1 tsPending true else c) c
  c.listStep (made.map fun x => (x.1, match x.2 with | .released => 0 | .skipped => 1 | _ => 2))

/-- A change that the record carries is applied at the boundary that begins its step. -/
def Core.applyStepChange (c : Core) : StepChange → Core
  | .loop x =>
    { (c.applyChange x).cfgChanged with loops := { (c.applyChange x).loops with kept := c.loops.kept ++ [x] } }
  | .state run => { c with react := { c.react with cmd := some run } }
  | .armed t => (c.updProg fun p => { p with changeAt := t, transferred := false }).wr Od.PROG_STATE 5
  | .postponed t => (c.updProg fun p => { p with changeAt := t, transferred := false }).wr Od.PROG_POSTPONED
      (c.rd Od.PROG_POSTPONED + 1)
  | .entry k v => ((c.storeEntry k v).valueTaken k (beNat v)).cfgChanged
  | .changeover => c.updProg fun p => { p with transferred := true, changeAt := c.stepNumber, transferEnd := c.clk.cyc }

/-- The fixed inputs of Table 05.1 in index order. -/
def Core.fixedInputs (c : Core) : List Nat :=
  (List.range c.dioCount).map Od.PI_DIO_IN ++ [Od.PI_DIO_IN_WORD] ++ (List.range c.uioCount).map Od.PI_UIO_IN ++
    (List.range 8).map Od.PI_COUNT ++ (List.range c.uioCount).map Od.PI_UIO_STAMP

/-- The step record of the present tick (Table 09.3); `size` is its length in bytes. -/
def Core.stepRecord (c : Core) (size : Nat) : StepRecord where
  step := c.stepNumber
  tickCount := c.rd Od.TICK_COUNT
  period := c.period
  inputs := (c.fixedInputs ++ c.inEntries.map InEntry.key).map fun k => (k, c.rd k, c.rd (qKey k))
  images := (c.prog.remotes.filter fun r => c.bit Od.RIO_ONLINE r.num).map fun r =>
    (r.num, c.rd (Od.RS_LAST_TICK r.num), c.dom (Od.RS_IN_IMAGE r.num))
  scrim := (List.range 16).filterMap fun r => match (c.conn r).snap with
    | some t => if (c.conn r).tick = c.rd Od.TICK_COUNT then some (r, t.bytes) else none
    | none => none
  fields := (c.rd Od.SAFE_SIN_LO, c.rd Od.SAFE_SIN_HI)
  releases := c.pair.outcomes
  changes := c.pair.changes
  hash := c.pair.hash
  size := size
  lanes := [true, true]

/-! ## The output hash and re-synchronisation (R345, R346, R351) -/

/-- A word copied by a commit group. -/
def Core.noteWord (c : Core) (g w v : Nat) : Core := c.updPair fun p => { p with words := p.words ++ [(g, w, v)] }

/-- Ascending by group and word index. -/
def insertWord (x : Nat × Nat × Nat) : List (Nat × Nat × Nat) → List (Nat × Nat × Nat)
  | [] => [x]
  | y :: ys => if lexLt [x.1, x.2.1] [y.1, y.2.1] then x :: y :: ys else y :: insertWord x ys

/-- H(n). -/
def Core.outputHash (c : Core) : Nat :=
  let ws := c.pair.words.foldl (fun l x => insertWord x l) []
  let body := ws.flatMap fun x => beBytes 2 x.2.1 ++ beBytes 4 x.2.2
  crc32c 0xFFFFFFFF (body ++ if c.safetyFuse = 0 then [] else leBytes 1 (c.rd Od.SAFE_SOCMD))

/-- A mismatch or a step divergence (R346). -/
def Core.hashMismatch (c : Core) : Core :=
  let c := (c.inc32 Od.PAIR_HASH_MISMATCH).log 0x0905
  if c.pairBit psResyncing then c
  else
    let recent := (c.pair.resyncs.filter fun t => decide (c.clk.cyc < t + ms 600000)) ++ [c.clk.cyc]
    let c := (c.updPair fun p => { p with resyncs := recent }).setPairBit psResyncing true
    if c.rd Od.PAIR_RESYNC_LIMIT ≤ recent.length && !c.pairBit psUnfit then
      (c.setPairBit psUnfit true).fault' 0x0907 unitPair
    else c

/-- The last commit of a tick: the hash of its step; a STANDBY compares it with that of the next record. -/
def Core.hashEnd (c : Core) : Core :=
  let h := c.outputHash
  let c := c.updPair fun p => { p with hash := h, words := [] }
  match c.role, c.pair.record with
  | .standby, some r =>
    if c.pair.idle || c.pair.stepNow != some (r.step - 1) || r.step = 0 || c.pairBit psResyncing then c
    else
      let c := (c.wr Od.PAIR_HASH h).wr Od.PAIR_HASH_PARTNER r.hash
      if h = r.hash then c else c.hashMismatch
  | _, _ => c

/-- The registers a copy brings: the process image, the tasks, the function states, the axis monitors, and the states and
sequence numbers of the Scrim connections (R329, R346). -/
def copiedKey (k : Nat) : Bool :=
  between 0x6000 (k / 256) 0x7FFF || between 0x2500 (k / 256) 0x254F || k / 256 == 0x2827 ||
    between 0x283C (k / 256) 0x283E || (between 0x2840 (k / 256) 0x284F && between 0x0C (k % 256) 0x0D)

/-- A connection as the copy has it: the telegram of its snapshot, `age` executed ticks old. -/
def Core.adoptConn (c : Core) (r age : Nat) (bytes : Bytes) : Core :=
  let n := beAt bytes 0x14 1
  let c := if bytes.isEmpty then c else c.setDom (Od.SCRIM_DATA r) (slice bytes 0x16 n)
  c.updConn r fun _ => { ScrimConn.fresh with
    snap := if bytes.isEmpty then none else some ⟨c.clk.cyc, false, bytes⟩
    tick := c.rd Od.TICK_COUNT - age }

/-- The copy is adopted, with the stored tick counts rebased. -/
def Core.adopt (c : Core) (x : PairCopy) : Core :=
  let c := x.creel.foldl (fun (c : Core) p => c.putCreel p.1 (padTo p.2.length (Config.rebased x.difference p.1 p.2))) c
  let c := (x.values.filter fun p => copiedKey p.1).foldl (fun (c : Core) p => c.wr p.1 p.2) c
  let c := c.updSafety fun s => { s with axes := if x.axes.isEmpty then s.axes else x.axes }
  x.conns.foldl (fun (c : Core) p => if p.1 < 16 then c.adoptConn p.1 p.2.1 p.2.2 else c) c

/-- RESYNC_ADOPT, at the boundary at which the next step begins. -/
def Core.resyncAdopt (c : Core) (x : PairCopy) : Core :=
  if !c.clk.running || c.role != .standby || !c.pairBit psResyncing then c
  else (((c.atTime c.clk.nextB).adopt x).setPairBit psResyncing false |>.inc32 Od.PAIR_RESYNCS).log 0x0906

/-- CREEL_TRANSFER_ADOPT: the SYNCING module becomes STANDBY at the boundary at which it begins its first step. -/
def Core.creelAdopt (c : Core) (x : PairCopy) : Core :=
  if !c.clk.running || !c.pairMember || c.role != .syncing || c.pair.held || c.pair.startWait.isSome ||
      c.clk.state != TimeState.locked || !(c.mayTake || c.run == .init) then c
  else
    let c := (c.atTime c.clk.nextB).adopt x
    let c : Core := { c with role := .standby }
    let c := if c.run == .run then c.armRunning else c
    (c.updPair fun p => { p with recordAt := c.clk.cyc, runs := [], latch := [] }).log 0x0901

/-! ## Commands of PAIR.CMD (R363) -/

/-- PAIR_CMD_HANDOVER. -/
def Core.pairHandover (c : Core) : Core :=
  if c.role == .active || c.role == .standby then
    ((c.setPairBit psRequest true).updPair fun p => { p with requestAt := some c.clk.cyc }).answer .done
  else c.abort 0x08000022

/-- HANDOVER_REQ_LAPSE. -/
def Core.requestLapse (c : Core) : Core :=
  match c.pair.requestAt with
  | none => c
  | some t => if !c.alive then c else
      ((c.atCyc (t + ms (c.rd Od.WIT_JUDGE_MS))).setPairBit psRequest false).updPair fun p => { p with requestAt := none }

/-- PAIR_CMD_RESYNC. -/
def Core.pairResync (c : Core) : Core :=
  if c.role == .standby || c.role == .syncing then
    (c.becomeSyncing.updPair fun p => { p with held := false }).answer .done
  else c.abort 0x08000022

/-- PAIR_CMD_CLEAR_UNFIT. -/
def Core.pairClearUnfit (c : Core) : Core :=
  (c.setPairBit psUnfit false).answer .done

/-- RETURN_REQUEST. -/
def Core.returnRequest (c : Core) : Core :=
  match c.pair.quiet with
  | none => c
  | some t =>
    if !c.alive || c.pairBit psReturn then c
    else ((c.atCyc (t + ms (1000 * c.rd Od.PAIR_RETURN_HOLD_S))).setPairBit psReturn true).log 0x090E

end Sys2Proof.Machine
end

