-- ==== Sys2Proof/Machine/Rejects.lean ====
section
/-! DEFINITION. The refused combinations of Table 15.3: for each reject code, whether a configuration, an image or a change
set brings its condition about (R10, R500, R501). The functions look at a core as it would be with the change made. -/

namespace Sys2Proof.Machine

/-- A code if its condition holds. -/
def rejectIf (b : Bool) (code : Nat) : List Nat := if b then [code] else []

/-- The lowest of the codes found (R500). -/
def lowest : List Nat → Option Nat
  | [] => none
  | x :: xs => some (xs.foldl min x)

/-! ## Spares (R119, R164) -/

def Core.spareSet (c : Core) (n : Nat) : Option Nat :=
  let s := c.rd (Od.SP_SPARE n)
  if s = 255 then none else some s

/-- 0x0301. -/
def Core.spareBad (c : Core) : Bool :=
  (List.range c.spindles).any fun n => match c.spareSet n with
    | some s => s == n || decide (c.spindles ≤ s)
    | none => false

/-- The pinned jobs of a home in an image's task. -/
def TaskDef.pinnedAt (t : TaskDef) (h : Nat) : List Nat :=
  (t.jobs.filter fun p => p.1 == h && field p.2 46 2 == 1).map (·.2)

/-- The tasks with pinned jobs at one of two homes, with the cost of those jobs in cycles. -/
def pinnedCosts (im : ImageSet) (a b : Nat) : List (TaskDef × Nat) :=
  (im.tasks.map fun t => (t, ((t.pinnedAt a ++ t.pinnedAt b).foldl (fun s w => s + field w 52 12 * 64) 0))).filter
    fun p => p.2 != 0

/-- The largest sum due in one tick: over the least common period if it is at most 65,536 ticks, else every task. -/
def Core.pinnedLoad (c : Core) (l : List (TaskDef × Nat)) : Nat :=
  let period (t : TaskDef) : Nat := max 1 (c.rd (Od.TASK_PERIOD t.num))
  let all := l.foldl (fun s p => s + p.2) 0
  let p := l.foldl (fun m t => Nat.lcm m (period t.1)) 1
  if p ≤ 65536 then
    (List.range p).foldl (fun m n =>
      max m (l.foldl (fun s t =>
        if t.1.kind = 2 ∨ n % period t.1 = c.rd (Od.TASK_OFFSET t.1.num) % period t.1 then s + t.2 else s) 0)) 0
  else all

/-- The earliest commit phase in cycles among the deadline groups of the pinned jobs of two homes. -/
def Core.pinnedWindow (c : Core) (im : ImageSet) (a b : Nat) : Nat :=
  (im.tasks.flatMap fun t => t.pinnedAt a ++ t.pinnedAt b).foldl (fun m w =>
    let g := field (c.creel.word (field w 4 28 * 16 + 0x08) 4) 16 3
    min m (phaseCycles c.period (c.rd (Od.COMMIT_PHASE g)))) c.period - 1000

/-- R164 for SPn and its spare. -/
def Core.spareFits (c : Core) (n s : Nat) : Bool :=
  let core := match c.prog.image with
    | none => true
    | some im => decide (c.pinnedLoad (pinnedCosts im n s) ≤ 9 * c.pinnedWindow im n s / 10)
  c.batchAdmitted (c.batchOf n ++ c.batchOf s) && core

def Core.sparesFit (c : Core) : Bool :=
  (List.range c.spindles).all fun n => match c.spareSet n with
    | some s => c.spareFits n s
    | none => true

/-! ## Loop descriptors (Table 04.12) -/

/-- The TYPE a handle must carry for an entry of the process image; none where no TYPE fits. -/
def handleType : Nat → Option Nat
  | 0x08 => some 0
  | 0x04 => some 1
  | 0x03 => some 2
  | 0x06 => some 3
  | _ => none

/-- The type of a process image entry as the low byte of its data type index; none if there is no such entry. -/
def Core.piType (c : Core) (key : Nat) : Option Nat :=
  let idx := key / 256
  if (c.row? key).isSome then
    match idx with
    | 0x6000 | 0x7000 => some 0x01
    | 0x6001 | 0x6030 => some 0x1B
    | 0x6010 | 0x7010 => some 0x08
    | 0x6020 => some 0x04
    | _ => none
  else if 0x7000 ≤ idx then ((c.outEntries.find? fun e => e.key == key).map (·.type))
  else (c.inEntries.find? fun e => e.key == key).map (·.type)

/-- Reserved bits of a handle: bits 25:20 and what its kind does not use of the payload. -/
def handleReserved (h : Nat) : Bool :=
  field h 20 6 != 0 ||
    (match hKind h with
      | 0 => field h 0 20 != 0
      | 3 => field h 15 5 != 0
      | 4 => field h 12 8 != 0
      | _ => false)

/-- The entry a PI handle names does not exist, or the slot a SLOT handle names is not VALID. -/
def Core.handleDangles (c : Core) (h : Nat) : Bool :=
  match hKind h with
  | 1 => (c.piType (hKey h 0x6000)).isNone
  | 2 => (c.piType (hKey h 0x7000)).isNone
  | 4 => !c.slotValid (field h 0 12)
  | _ => false

/-- A PI handle whose TYPE differs from the entry it names. -/
def Core.handleMistyped (c : Core) (h : Nat) : Bool :=
  let t (base : Nat) : Bool := match c.piType (hKey h base) with
    | some x => handleType x != some (hType h)
    | none => false
  match hKind h with
  | 1 => t 0x6000
  | 2 => t 0x7000
  | _ => false

/-- The staging word that H_OUT writes. -/
def Core.slotTarget (c : Core) (k : Nat) : Option Nat :=
  let h := c.slotWord k 0x1C
  match hKind h with
  | 2 => c.outStage (hKey h 0x7000)
  | 3 => some (field h 0 14)
  | _ => none

/-- The conditions of Table 04.12 on one VALID slot: 0x0401 to 0x040A. -/
def Core.slotRejects (c : Core) (k : Nat) : List Nat :=
  let w (o : Nat) : Nat := c.slotWord k o
  let ctrl := w 0x00
  let comp := w 0x0C
  let law := c.slotLaw k
  let pv := w 0x10
  let sp := w 0x14
  let ff := w 0x18
  let out := w 0x1C
  let pos := w 0x20
  let reads := [pv, sp, ff, pos]
  let frCog := comp.testBit 7 || comp.testBit 6
  let wlink := ctrl.testBit 22
  let ks := [0x2C, 0x30, 0x34, 0x38, 0x3C].map w
  rejectIf (law == 0 || law == 7 || field ctrl 0 18 != 0 || field (w 0x08) 24 8 != 0 || field comp 0 5 != 0 ||
      (out :: reads).any handleReserved) 0x0401 ++
    rejectIf ((reads.any fun h => ! [0, 1, 2, 4].contains (hKind h)) || ! [0, 2, 3].contains (hKind out) ||
      (out :: reads).any c.handleMistyped) 0x0402 ++
    rejectIf ((out :: reads).any c.handleDangles) 0x0403 ++
    rejectIf (decide (3 ≤ law) && decide (law ≤ 5) && hKind sp != 0) 0x0404 ++
    rejectIf ((frCog && hKind pos != 1) || (comp.testBit 6 && (c.compAttr (field comp 8 8)).mode == 1)) 0x0405 ++
    rejectIf (wlink && (hKind pos != 4 || frCog || !(law == 1 || law == 2))) 0x0406 ++
    rejectIf (F32.lt (w 0x24) (w 0x28) || ([w 0x24, w 0x28] ++ ks).any (fun x => !F32.isFinite x) ||
      (law == 1 && F32.lt (ks.getD 4 0) 0) || (law == 3 && (F32.lt (ks.getD 1 0) 0 || F32.lt (ks.getD 2 0) 0))) 0x0407 ++
    rejectIf (decide (c.slotDiv k ≤ c.slotOfs k)) 0x0408 ++
    rejectIf (hKind sp == 4 &&
      (let d := c.slotDiv (field sp 0 12)
       d % c.slotDiv k != 0 || decide (256 < d / c.slotDiv k))) 0x0409 ++
    rejectIf (match c.slotTarget k with
      | some t => c.wordGroup t != 0xFF && c.wordGroup t != c.slotDcg k
      | none => false) 0x040A

/-- Some value stands twice in a list. -/
def hasTwice (l : List Nat) : Bool := l.eraseDups.length != l.length

/-- Table 04.12 over the whole table: 0x0401 to 0x040F. -/
def Core.loopRejects (c : Core) : List Nat :=
  let ks := c.validSlots
  let lists := (List.range 32).map c.batchOf
  let slots := (ks.map c.slotRejects).flatten
  slots ++ rejectIf (hasTwice (ks.filterMap c.slotTarget)) 0x040B ++
    rejectIf (hasTwice lists.flatten) 0x040C ++
    rejectIf (hasTwice ((ks.map fun k => c.slotWord k 0x04).filter (· != 0))) 0x040D ++
    rejectIf (decide (1024 < c.viewWords)) 0x040E ++
    rejectIf (lists.any (fun l => !c.batchAdmitted l) || !c.sparesFit) 0x040F

/-! ## Maps (R191 to R193, Table 05.4) -/

/-- Keys in strictly ascending order. -/
def rising : List Nat → Bool
  | [] => true
  | [_] => true
  | a :: b :: l => decide (a < b) && rising (b :: l)

/-- Bits of a source's payload; none where the configuration does not define the source. -/
def Core.sourceBits (c : Core) (im : ImageSet) (e : InEntry) : Option Nat :=
  match e.kind with
  | 1 => if im.stations.any (·.num == e.src) then some (8 * 488) else none
  | 2 => let d := c.rxDesc e.src
      if e.src < 128 ∧ d.net ≠ 0 then some (8 * 1500) else none
  | 3 =>
    if e.src < 32 * c.canCount ∧ (c.canFilter (e.src / 32) (e.src % 32)).dest = 1 then some (8 * 64) else none
  | 4 => if e.src < 16 ∧ c.rd (Od.SCRIM_DIR e.src) = 2 then some (8 * c.rd (Od.SCRIM_LEN e.src)) else none
  | _ => none

/-- Bits of a destination's data; none where the configuration does not define it. -/
def Core.destBits (c : Core) (im : ImageSet) (e : OutEntry) : Option Nat :=
  match e.kind with
  | 0 => if e.dest = 0 then some 0xFFFF else none
  | 2 => if im.stations.any (·.num == e.dest) then some (8 * 104) else none
  | 3 => let d := c.txDesc e.dest
      if e.dest < 128 ∧ d.net ≠ 0 then some (8 * d.len) else none
  | 4 => let d := c.canDesc (e.dest / 3) (e.dest % 3)
      if e.dest < 3 * c.canCount ∧ d.en then some (8 * dlcLen d.fdf d.dlc) else none
  | _ => none

/-- The group that a destination's chapter assigns. -/
def Core.destGroup (c : Core) (im : ImageSet) (e : OutEntry) : Nat :=
  match e.kind with
  | 2 => if im.stations.any (·.num == e.dest) then c.rd (Od.RS_OUT_CG e.dest) else e.cg
  | 3 => (c.txDesc e.dest).cg
  | 4 => (c.canDesc (e.dest / 3) (e.dest % 3)).cg
  | _ => e.cg

/-- A value lies within `bits` bits, a type wider than BOOLEAN on a byte. -/
def mapFits (type ofs bits : Nat) : Bool :=
  typeBits type != 0 && decide (ofs + typeBits type ≤ bits) && (typeBits type == 1 || ofs % 8 == 0)

/-- The rules of an image's maps: 0x0501 to 0x0505, 0x050B, 0x0B02. -/
def Core.mapRejects (c : Core) (im : ImageSet) : List Nat :=
  let out := im.outMap
  let sameBlock (a b : OutEntry) : Bool := a.stage / 64 == b.stage / 64 && a.cg != b.cg
  let fieldBad (e : OutEntry) : Bool := match c.fieldBlock (e.stage / 64) with
    | some g => g != e.cg
    | none => false
  let outBad (e : OutEntry) : Bool := match c.destBits im e with
    | some n => e.kind != 0 && !mapFits e.type e.ofs n
    | none => true
  let inBad (e : InEntry) : Bool := match c.sourceBits im e with
    | some n => !mapFits e.type e.ofs n
    | none => true
  rejectIf (out.any fun a => fieldBad a || out.any (sameBlock a)) 0x0501 ++
    rejectIf (out.any fun e => e.kind == 2 && c.destGroup im e != e.cg) 0x0502 ++
    rejectIf (out.any fun e => (e.kind == 3 || e.kind == 4) && c.destGroup im e != e.cg) 0x0503 ++
    rejectIf (im.inMap.any fun e => e.flags.testBit 0 && typeBits e.type == 64) 0x0504 ++
    rejectIf (!rising (im.inMap.map InEntry.key) || !rising (out.map OutEntry.key) ||
      (im.inMap.any fun e => !(between 0x6100 e.index 0x67FF) || !(between 1 e.sub 255)) ||
      (out.any fun e => !(between 0x7100 e.index 0x77FF) || !(between 1 e.sub 255))) 0x0505 ++
    rejectIf (out.any outBad || im.inMap.any inBad) 0x050B ++
    rejectIf (out.any fun e => e.kind == 4 && (match c.destBits im e with
      | some n => decide (n < e.ofs + typeBits e.type)
      | none => false)) 0x0B02

/-! ## Counters and safety (R227, R301, R326) -/

/-- The configured mode of a DIO channel. -/
def Core.dioCfgMode (c : Core) (i : Nat) : Nat := field (c.rd (Od.DIO_CFG i)) 0 4
def Core.dioInMode (c : Core) (i : Nat) : Bool := between 1 (c.dioCfgMode i) 4

/-- The channels a counter's mode uses: A in modes 1 to 5, B from mode 2 (Table 06.3). -/
def Core.counterChannels (c : Core) (k : Nat) : List Nat :=
  match c.rd (Od.COUNT_MODE k) with
  | 0 => []
  | 1 => [2 * k]
  | _ => [2 * k, 2 * k + 1]

/-- 0x0601. -/
def Core.counterBad (c : Core) : Bool :=
  (List.range 8).any fun k => (c.counterChannels k).any fun i => !(decide (i < c.dioCount) && c.dioInMode i)

/-- Bits of DIO.CFG (Table 06.9): FILTER, OPEN_WIRE_EN, TP_SRC, TP_EN, OPEN_LOAD_EN. -/
def dcFilter : Nat := 4
def dcOpenWire : Nat := 7
def dcTpSrc : Nat := 8
def dcTpEn : Nat := 11
def dcOpenLoad : Nat := 12

/-- The safe-input pairs in use. -/
def Core.usedPairs (c : Core) : List Nat := (List.range 24).filter fun p => c.rd (Od.SIN_TYPE p) != 0

/-- The channels a used axis or a used function takes as encoder inputs or reset channel. -/
def Core.takenChannels (c : Core) : List Nat :=
  ((List.range 4).flatMap fun a =>
    let k := c.rd (Od.AXIS_CNT a)
    if k ≤ 7 then [2 * k, 2 * k + 1] else []) ++
    ((List.range 16).filterMap fun f =>
      let ch := c.rd (Od.SF_RESET_CH f)
      if c.rd (Od.SF_TYPE f) ≠ 0 ∧ ch ≤ 47 then some ch else none)

/-- 0x0801 to 0x0804. -/
def Core.pairRejects (c : Core) : List Nat :=
  let one (p : Nat) : List Nat :=
    let a := 2 * p
    let b := 2 * p + 1
    let ca := c.rd (Od.DIO_CFG a)
    let cb := c.rd (Od.DIO_CFG b)
    let tp (x : Nat) : Nat := field x dcTpSrc 3
    let type := c.rd (Od.SIN_TYPE p)
    rejectIf (!c.dioInMode a || !c.dioInMode b || c.rd (Od.DIO_CHATTER_N a) != 0 || c.rd (Od.DIO_CHATTER_N b) != 0 ||
        ca.testBit dcOpenWire || cb.testBit dcOpenWire) 0x0801 ++
      rejectIf ((type == 1 || type == 2) && !(ca.testBit dcTpEn && cb.testBit dcTpEn && tp ca != tp cb &&
        c.rd (Od.TP_MODE (tp ca)) == 2 && c.rd (Od.TP_MODE (tp cb)) == 2)) 0x0802 ++
      rejectIf (type == 3 && (ca.testBit dcTpEn || cb.testBit dcTpEn || ! [1, 2].contains (field ca dcFilter 3) ||
        ! [1, 2].contains (field cb dcFilter 3))) 0x0803 ++
      rejectIf (c.takenChannels.contains a || c.takenChannels.contains b) 0x0804
  (c.usedPairs.map one).flatten

/-- The functions in use. -/
def Core.usedFns (c : Core) : List Nat := (List.range 16).filter fun f => c.rd (Od.SF_TYPE f) != 0

/-- The connection and the bit that a word SF.SCRIM_IN names (Table 08.12). -/
def scrimNames (w : Nat) : List (Nat × Nat) := if w.testBit 31 then [(field w 16 4, field w 0 8)] else []

def Core.rxUsed (c : Core) (r : Nat) : Bool := decide (r < 16) && c.rd (Od.SCRIM_DIR r) == 2

/-- 0x0805 to 0x080C. -/
def Core.safetyRejects (c : Core) : List Nat :=
  let fns := c.usedFns
  let outs := fns.flatMap fun f => bitsSet 8 (c.rd (Od.SF_OUTPUTS f))
  let ss1 := fns.filter fun f => c.rd (Od.SF_TYPE f) == 2
  let axes := ss1.map fun f => c.rd (Od.SF_AXIS f)
  let usedAxis (a : Nat) : Bool := decide (a ≤ 3) && c.rd (Od.AXIS_CNT a) != 255
  let ax := (List.range 4).filter usedAxis
  let cnts := ax.map fun a => c.rd (Od.AXIS_CNT a)
  let conns := (List.range 16).filter fun r => c.rd (Od.SCRIM_DIR r) != 0
  rejectIf (hasTwice outs || ss1.any fun f => c.rd (Od.SF_OUTPUTS f) != 0) 0x0805 ++
    rejectIf (axes.any (fun a => !usedAxis a) || hasTwice axes) 0x0806 ++
    rejectIf (fns.any fun f =>
      ((bitsSet 24 (c.rd (Od.SF_INPUTS f))).any fun p => !c.usedPairs.contains p || decide (c.dioCount ≤ 2 * p)) ||
        (c.rd (Od.SF_RESET_CH f) != 255 && decide (c.dioCount ≤ c.rd (Od.SF_RESET_CH f)))) 0x0807 ++
    rejectIf (fns.any fun f => (scrimNames (c.rd (Od.SF_SCRIM_IN f))).any fun x =>
      !c.rxUsed x.1 || decide (8 * c.rd (Od.SCRIM_LEN x.1) ≤ x.2)) 0x0808 ++
    rejectIf (ax.any (fun a => !between 3 (c.rd (Od.COUNT_MODE (c.rd (Od.AXIS_CNT a)))) 5 ||
      c.rd (Od.COUNT_MODULO (c.rd (Od.AXIS_CNT a))) == 0) || hasTwice cnts) 0x0809 ++
    rejectIf (ax.any fun a =>
      let r := c.rd (Od.AXIS_DRV_CONN a)
      r != 255 && (!c.rxUsed r || decide (c.rd (Od.SCRIM_LEN r) < c.rd (Od.AXIS_DRV_OFS a) + 4))) 0x080A ++
    rejectIf (hasTwice (conns.map fun r => c.rd (Od.SCRIM_CONN_ID r) * 4 + c.rd (Od.SCRIM_DIR r))) 0x080B ++
    rejectIf (conns.any fun r => c.rd (Od.SCRIM_DIR r) == 2 && c.rd (Od.SCRIM_PEER1 r) == 0) 0x080C

/-! ## The pair's record, frames, CAN, combinations of channels -/

/-- 0x0901: the step record of the running image can exceed PAIR.REC_LIMIT. -/
def Core.recordBad? (c : Core) (im : ImageSet) : Bool :=
  c.pairMember && decide ((c.period / 2 - 1000) / 4 <
    Config.recordMax (im.inMap.foldl (fun n e => n + typeBits e.type / 8) 0) im.stations.length
      ((List.range 16).filter c.rxUsed).length im.tasks.length)

/-- 0x0A01. -/
def Core.framesBad (c : Core) : Bool :=
  (List.range 128).any fun f => !c.txDescOk (c.dom Od.FRAME_TX_TABLE) f

/-- 0x0B01, 0x0B03 and 0x0B04 of one controller. -/
def Core.canRejects (c : Core) (k : Nat) : List Nat :=
  let t := c.dom (Od.CAN_TX_TABLE k)
  let en := (List.range 3).any fun b => (Machine.canDesc t b).en
  let role := c.rd (Od.TT_ROLE k)
  rejectIf ((List.range 3).any fun b => !c.canDescOk k t b) 0x0B01 ++
    rejectIf (c.roleFuse == 3 && (en || role != 0)) 0x0B03 ++
    rejectIf ((role == 1 && decide (c.period ≤ c.rd (Od.TT_REF_OFS_NS k))) ||
      (role == 2 && (List.range 3).any fun b => (Machine.canDesc t b).en &&
        decide (c.rd (Od.TT_CYCLE_TICKS k) * c.period ≤ (Machine.canDesc t b).launchNs))) 0x0B04

def Core.cansRejects (c : Core) : List Nat := ((List.range c.canCount).map c.canRejects).flatten

/-- 0x0F01: a test-pulse source, a cold-junction channel or a compared channel that is absent; 0x0F03; 0x0F04. -/
def Core.channelRejects (c : Core) : List Nat :=
  let dio := List.range c.dioCount
  let uio := List.range c.uioCount
  let cfg (i : Nat) : Nat := c.rd (Od.UIO_CFG i)
  rejectIf ((dio.any fun i => (c.rd (Od.DIO_CFG i)).testBit dcTpEn && !c.safeIo) ||
      (uio.any fun i => c.rd (Od.UIO_CJ_CHAN i) != 255 && decide (c.uioCount ≤ c.rd (Od.UIO_CJ_CHAN i))) ||
      decide (2 ^ c.dioCount ≤ c.rd Od.PAIR_CMP_DIO) || decide (2 ^ c.uioCount ≤ c.rd Od.PAIR_CMP_UIO)) 0x0F01 ++
    rejectIf (!(c.pairMember) && ((dio.any fun i => c.dioCfgMode i == 9) || uio.any fun i => (cfg i).testBit 21)) 0x0F03 ++
    rejectIf (c.safetyFuse == 1 && (List.range 8).any fun k =>
      let w := c.rd (Od.RSO_SRC k)
      w != 0xFFFF && !c.rxUsed (field w 12 4)) 0x0F04

/-! ## Credentials (R474, R482) -/

def Core.credRole (c : Core) (i : Nat) : Nat := c.rd (Od.CRED_ROLE i)

/-- A credential is enabled (R474). -/
def Core.credEnabled (c : Core) (i : Nat) : Bool :=
  c.rd (Od.CRED_ENABLE i) == 1 && c.rd (Od.CRED_ID i) != 0 && between 1 (c.credRole i) 5 && !(c.dom (Od.CRED_SECRET i)).isEmpty

def Core.enabledCreds (c : Core) : List Nat := (List.range 16).filter c.credEnabled

/-- A right of a role (Table 14.5). -/
def Core.roleRight (c : Core) (role b : Nat) : Bool := between 1 role 5 && c.bit (Od.SEC_ROLE_RIGHTS (role - 1)) b

/-- At least two enabled credentials of different roles hold SIGN (R482, R484). -/
def Core.twoSigners (c : Core) : Bool :=
  let s := c.enabledCreds.filter fun i => c.roleRight (c.credRole i) 5
  s.any fun i => s.any fun j => c.credRole i != c.credRole j

/-- 0x0E02. -/
def Core.signersBad (c : Core) : Bool :=
  !(c.twoSigners && c.enabledCreds.any fun i => c.roleRight (c.credRole i) 4)

/-- 0x0E04. -/
def Core.credsBad (c : Core) : Bool :=
  let e := c.enabledCreds
  hasTwice (e.map fun i => c.rd (Od.CRED_ID i)) ||
    e.any fun i => e.any fun j => i != j && c.dom (Od.CRED_NAME i) == c.dom (Od.CRED_NAME j)

/-! ## By entry, and over a whole configuration -/

/-- The rules of the running image's maps, as a write that concerns their groups or destinations leaves them. -/
def Core.runningMapRejects (c : Core) : List Nat :=
  match c.prog.image with
  | some im => c.mapRejects im
  | none => []

/-- Every rule of Table 15.3 on a configuration without an image. -/
def Core.configRejects (c : Core) : List Nat :=
  rejectIf c.spareBad 0x0301 ++ rejectIf c.counterBad 0x0601 ++
    (if c.safetyFuse = 0 then [] else c.pairRejects ++ c.safetyRejects) ++
    rejectIf c.framesBad 0x0A01 ++ c.cansRejects ++ c.channelRejects ++
    rejectIf ((List.range 512).any fun s => !c.evCfgOk s (c.evCfg s)) 0x0C01

/-- The rules that a single write of an entry can break, by the page of its index. -/
def Core.rejectsFor (c : Core) (key : Nat) : List Nat :=
  let idx := key / 256
  let safe := if c.safetyFuse = 0 then [] else c.pairRejects ++ c.safetyRejects
  let groups := if blockGroupKey key then c.loopRejects ++ c.runningMapRejects else []
  if between 0x2201 idx 0x2220 then rejectIf c.spareBad 0x0301 ++ rejectIf (!c.sparesFit) 0x040F
  else if between 0x2300 idx 0x23FF then c.loopRejects
  else if idx = 0x2020 then rejectIf c.framesBad 0x0A01 ++ c.cansRejects ++ c.loopRejects
  else if idx = 0x2010 then rejectIf c.framesBad 0x0A01 ++ c.cansRejects ++ c.loopRejects ++
    (match c.prog.image with | some im => rejectIf (c.recordBad? im) 0x0901 | none => [])
  else if between 0x2501 idx 0x2540 then rejectIf (!c.sparesFit) 0x040F
  else if between 0x2600 idx 0x26FF then rejectIf c.counterBad 0x0601 ++ safe ++ c.channelRejects ++ groups
  else if between 0x2700 idx 0x27FF then c.channelRejects ++ groups
  else if between 0x2800 idx 0x28FF then safe ++ c.channelRejects ++ c.runningMapRejects
  else if idx = 0x2900 then c.channelRejects
  else if between 0x2A00 idx 0x2AFF then rejectIf c.framesBad 0x0A01 ++ c.runningMapRejects
  else if between 0x2B00 idx 0x2BFF then c.cansRejects ++ c.runningMapRejects
  else if between 0x3000 idx 0x3FFF then c.runningMapRejects
  else []

end Sys2Proof.Machine
end

