-- ==== Sys2Proof/Machine/Skein.lean ====
section
/-! DEFINITION. Skein, the event recorder (chapter 13): the request queue, the writer with its rate limits, the RAM ring,
the flash mirror and the reads. Functions of the recorder alone take from the core only the few values a record
carries. -/

namespace Sys2Proof.Machine

/-- What the writer takes from the core when it writes (R450, Table 13.2). -/
structure Writer where
  /-- Station time. -/
  now : Nat
  /-- TICK.COUNT. -/
  tick : Nat
  /-- FLAGS but for STEP and SUMMARY. -/
  flags : Nat
  /-- SKEIN.BUCKET_DEPTH of severities 1 to 7. -/
  depth : List Nat
deriving DecidableEq, Repr

/-- The writer's view of the core. STAMP is 0 before station time exists (R450). -/
def Core.writer (c : Core) : Writer where
  now := if c.timed then c.clk.now else 0
  tick := c.rd Od.TICK_COUNT % 2 ^ 32
  flags := b2n (c.bit Od.TIME_FLAGS 0 || !c.timed || c.clk.source == 0) + 2 * b2n (c.bit Od.TIME_FLAGS 1) +
    16 * b2n c.ply.split
  depth := (List.range 7).map fun s => c.rd (Od.SKEIN_BUCKET_DEPTH s)

def Writer.depthOf (w : Writer) (code : Nat) : Nat := w.depth.getD (codeSevMax code - 1) 0

/-- A counter of SKEIN.LOST counts one. -/
def Recorder.lose (r : Recorder) (sev : Nat) : Recorder :=
  { r with lost := updAt (· + 1) r.lost (sev - 1) }

/-- A request reaches the queue of 256 entries, or is dropped and counted (R449). -/
def Recorder.request (r : Recorder) (q : Request) : Recorder :=
  if r.queue.length < 256 then { r with queue := r.queue ++ [q] }
  else { r.lose q.sev with dropRun := r.dropRun + 1 }

/-- Requests in order. -/
def Recorder.requests (r : Recorder) (qs : List Request) : Recorder := qs.foldl Recorder.request r

/-- Requests of one core cycle in ascending code, in order of arrival where the codes are equal (R449). -/
def insertByCode (q : Request) : List Request → List Request
  | [] => [q]
  | p :: ps => if q.code < p.code then q :: p :: ps else p :: insertByCode q ps

def sortByCode : List Request → List Request := List.foldl (fun acc q => insertByCode q acc) []

/-- An entry of severity 4 or higher enters the mirror queue of 1,024 entries, or is counted as not mirrored (R454). -/
def Recorder.toMirror (r : Recorder) (e : Entry) : Recorder :=
  if e.sev < 4 then r
  else if r.mirror.length < 1024 then { r with mirror := r.mirror ++ [e] }
  else { r with mirrorLost := r.mirrorLost + 1, mirrorRun := r.mirrorRun + 1 }

/-- The ring without its oldest entry of severity at most `sev`, and the slot it held (R452). -/
def dropOldest (sev : Nat) : List (Nat × Entry) → Option (Nat × List (Nat × Entry))
  | [] => none
  | (i, e) :: rest =>
    if e.sev ≤ sev then some (i, rest)
    else (dropOldest sev rest).map fun (j, l) => (j, (i, e) :: l)

/-- The number of slots of the RAM ring (R451). -/
def ringSlots : Nat := 65536

/-- The step that a request records, in ns (R448); 0 for any other record. -/
def Request.stepSize (q : Request) : Int := if q.step.isSome then toInt 64 (q.arg0 + q.arg1 * 2 ^ 32) else 0

/-- The STAMP of an entry written now. The record of a step carries its own. Any other one has the station time of the
writing, on the scale before the steps whose records are still in the queue, so that STAMP decreases at a step record alone
(R49, R448, R450, log entry 159). -/
def Recorder.stamp (r : Recorder) (w : Writer) (q : Request) : Nat :=
  match q.step with
  | some t => t
  | none => (r.queue.foldl (fun (t : Int) x => t - x.stepSize) w.now).toNat

/-- An entry is placed in the RAM ring under R452, with the next sequence number; the second component says whether it
was written. -/
def Recorder.place (r : Recorder) (w : Writer) (q : Request) (summary : Bool) : Recorder × Bool :=
  let e : Entry := ⟨r.lastSeq + 1, r.stamp w q, q.code, q.sev,
    w.flags + 4 * b2n summary + 8 * b2n q.step.isSome, w.tick, q.arg0, q.arg1⟩
  if r.ring.length < ringSlots then
    ({ r with ring := r.ring ++ [(r.ring.length, e)], lastSeq := e.seq }.toMirror e, true)
  else
    match dropOldest q.sev r.ring with
    | some (i, rest) =>
      ({ r with ring := rest ++ [(i, e)], lastSeq := e.seq, overwritten := r.overwritten + 1 }.toMirror e, true)
    | none => (r.lose q.sev, false)

/-- The bucket of a code; one that is not listed is full (R453). -/
def Recorder.bucket (r : Recorder) (w : Writer) (code : Nat) : Bucket :=
  (r.buckets.find? fun b => b.code == code).getD ⟨code, w.depthOf code, 0, 0, 0, 0⟩

/-- The bucket of a code replaced, the buckets in ascending code. -/
def putBucket (b : Bucket) : List Bucket → List Bucket
  | [] => [b]
  | x :: xs => if b.code = x.code then b :: xs else if b.code < x.code then b :: x :: xs else x :: putBucket b xs

def Recorder.setBucket (r : Recorder) (b : Bucket) : Recorder := { r with buckets := putBucket b r.buckets }

/-- The writer serves one request: the rate limit of R453, then R450. -/
def Recorder.serve (r : Recorder) (w : Writer) (q : Request) : Recorder × Bool :=
  let b := r.bucket w q.code
  if 0 < b.tokens then (r.setBucket { b with tokens := b.tokens - 1 }).place w q false
  else
    ({ r.setBucket { b with suppressed := b.suppressed + 1, sevMax := max b.sevMax q.sev, lastArg := q.arg0 } with
        suppressed := r.suppressed + 1 }, false)

/-- Once the queue has room, the run of dropped requests is recorded (R449). -/
def Recorder.reportDrops (r : Recorder) : Recorder :=
  if r.dropRun = 0 then r
  else { r with dropRun := 0 }.request ⟨0x0D05, codeSev 0x0D05, r.dropRun, 0, none⟩

/-- The writer takes the oldest request (R449, R450); the second component is the severity written, 0 for none. -/
def Recorder.writeNext (r : Recorder) (w : Writer) : Recorder × Nat :=
  match r.queue with
  | [] => (r, 0)
  | q :: rest =>
    let (r, ok) := { r with queue := rest }.serve w q
    (r.reportDrops, if ok then q.sev else 0)

/-- The refill instant of a code at `ms` on PLY.MONO_MS (R453); the second component is the severity of a summary written, 0
for none. While the voter releases no store, no summary is written (R461). -/
def Recorder.refill (r : Recorder) (w : Writer) (code ms : Nat) (canWrite : Bool) : Recorder × Nat :=
  let b := { r.bucket w code with refilled := ms }
  if w.depthOf code ≤ b.tokens then (r.setBucket b, 0)
  else if 0 < b.suppressed && canWrite then
    let q : Request := ⟨code, b.sevMax, min b.suppressed (2 ^ 32 - 1), b.lastArg, none⟩
    let (r, ok) := (r.setBucket { b with suppressed := 0, sevMax := 0 }).place w q true
    ({ r with summaries := r.summaries + 1 }, if ok then b.sevMax else 0)
  else (r.setBucket { b with tokens := b.tokens + 1 }, 0)

/-- The next refill instant of a code, of a period in ms: the first multiple from now on that has not been used. -/
def Recorder.refillInstant (r : Recorder) (w : Writer) (code period cyc : Nat) : Nat :=
  let t := ceilMul cyc (ms period) / 1000000
  let done := (r.bucket w code).refilled
  if t ≤ done then done / period * period + period else t

/-! ## The flash ring (R454, R455) -/

/-- Entries of one sector (R455). -/
def sectorEntries : Nat := 2048

/-- The sector the next entry goes to: the newest one while it has room, else the next erased one. -/
def Recorder.openSector (r : Recorder) : Option Recorder :=
  match r.flash.getLast? with
  | some s =>
    if s.entries.length < sectorEntries && !r.retired.contains s.number then some r
    else match r.erased with
      | n :: ns => some { r with flash := r.flash ++ [⟨n, []⟩], erased := ns }
      | [] => none
  | none => match r.erased with
    | n :: ns => some { r with flash := [⟨n, []⟩], erased := ns }
    | [] => none

/-- The last sector of the ring gains an entry. -/
def appendEntry (e : Entry) : List Sector → List Sector
  | [] => []
  | [s] => [{ s with entries := s.entries ++ [e] }]
  | s :: ss => s :: appendEntry e ss

/-- An entry is programmed; nothing happens while no sector is erased. -/
def Recorder.program (r : Recorder) (e : Entry) : Recorder :=
  match r.openSector with
  | some r => { r with flash := appendEntry e r.flash }
  | none => r

/-- A request that found the mirror queue full is reported once the queue has room again (R454). -/
def Recorder.reportMirror (r : Recorder) : Recorder :=
  if r.mirrorRun = 0 then r
  else { r with mirrorRun := 0 }.request ⟨0x0D03, codeSev 0x0D03, r.mirrorRun, 0, none⟩

/-- The oldest entry of the mirror queue is programmed; a program that fails retires the sector (R455). -/
def Recorder.mirrorProgram (r : Recorder) (ok : Bool) : Recorder :=
  match r.mirror with
  | [] => r
  | e :: rest =>
    match r.openSector with
    | none => r
    | some r =>
      if ok then ({ r with mirror := rest, flash := appendEntry e r.flash }).reportMirror
      else match r.flash.getLast? with
        | some s => ({ r with retired := r.retired ++ [s.number] }).request
            ⟨0x0D04, codeSev 0x0D04, s.number, 0, none⟩
        | none => r

/-- A sector is erased ahead of the writer when none is: the oldest sector, with its entries (R455). -/
def Recorder.erase (r : Recorder) (ok : Bool) : Recorder :=
  if !r.erased.isEmpty then r
  else match r.flash with
    | [] => r
    | s :: ss =>
      if r.retired.contains s.number then { r with flash := ss }
      else if ok then { r with flash := ss, erased := [s.number], flashErases := r.flashErases + 1 }
      else ({ r with flash := ss, retired := r.retired ++ [s.number] }).request
        ⟨0x0D04, codeSev 0x0D04, s.number, 0, none⟩

/-- The entries of the flash ring, oldest first. -/
def Recorder.flashEntries (r : Recorder) : List Entry := r.flash.flatMap Sector.entries

/-- SKEIN.FLASH_HEAD_SEQ: the SEQ of the last entry programmed. -/
def Recorder.flashHead (r : Recorder) : Nat := (r.flashEntries.getLast?.map Entry.seq).getD 0

/-- SKEIN.FLASH_OLDEST_SEQ. -/
def Recorder.flashOldest (r : Recorder) : Nat := (r.flashEntries.head?.map Entry.seq).getD 0

/-- One request of the queue in FAILED: programmed directly to the flash ring from severity 4, else discarded and
counted (R461). -/
def Recorder.direct (r : Recorder) (w : Writer) (q : Request) : Recorder :=
  if q.sev < 4 then r.lose q.sev
  else
    let e : Entry := ⟨r.lastSeq + 1, r.stamp w q, q.code, q.sev, w.flags + 8 * b2n q.step.isSome, w.tick, q.arg0, q.arg1⟩
    { r with lastSeq := e.seq }.program e

/-- The requests of a queue in their order. -/
def Recorder.flush (r : Recorder) (w : Writer) : List Request → Recorder
  | [] => { r with queue := [] }
  | q :: qs => ({ r with queue := qs }.direct w q).flush w qs

/-- The station enters FAILED: the queue is programmed directly, and nothing further is written to RAM (R461). -/
def Recorder.flushFailed (r : Recorder) (w : Writer) : Recorder := r.flush w r.queue

/-- The power-fail sequence programs `n` entries of the mirror queue before the rail reaches the reset level; the rest
are lost (R522). -/
def Recorder.powerFail (r : Recorder) (n : Nat) : Recorder :=
  { (r.mirror.take n).foldl Recorder.program r with mirror := [] }

/-- Power-on and RESET_N clear the RAM ring, the queues and the counts since power-on (R451, R533); the flash ring is
kept. -/
def Recorder.clearRam (r : Recorder) : Recorder :=
  { r with
    queue := [], dropRun := 0, ring := [], buckets := [], mirror := [], mirrorRun := 0, overwritten := 0,
    suppressed := 0, summaries := 0, bootSeq := 0, mirrorLost := 0, lost := List.replicate 7 0 }

/-- The writer starts (R458): `v` is the vault's sequence number if it is valid; its first record 0x0D01 carries the
boot counter and whether `v` was valid. -/
def Recorder.startWriter (r : Recorder) (w : Writer) (v : Option Nat) (bootCount : Nat) : Recorder :=
  let useVault := match v with | some n => decide (r.flashHead ≤ n) | none => false
  let base := match v with | some n => if r.flashHead ≤ n then n else r.flashHead | none => r.flashHead
  let r := { r with lastSeq := base }
  let first : Request := ⟨0x0D01, codeSev 0x0D01, bootCount, b2n v.isSome, none⟩
  let (r, _) := r.serve w first
  let r := { r with bootSeq := base + 1 }
  if useVault then r else r.request ⟨0x0D02, codeSev 0x0D02, (base + 1) % 2 ^ 32, 0, none⟩

/-! ## Reading (R456, R457) -/

/-- The 32 bytes of an entry (Table 13.1). -/
def Entry.bytes (e : Entry) : Bytes :=
  leBytes 8 e.seq ++ leBytes 8 e.stamp ++ leBytes 2 e.code ++ leBytes 1 e.sev ++ leBytes 1 e.flags ++
    leBytes 4 e.tick ++ leBytes 4 e.arg0 ++ leBytes 4 e.arg1

/-- SKEIN.READ: up to 32 entries of the source with SEQ from `start` and severity from `minSev`, ascending (R457). -/
def Recorder.read (r : Recorder) (src start minSev : Nat) : Bytes :=
  let all := if src = 0 then r.ring.map Prod.snd else r.flashEntries
  ((all.filter fun e => decide (start ≤ e.seq) && decide (minSev ≤ e.sev)).take 32).flatMap Entry.bytes

/-- SKEIN.HELD: entries of one severity held in RAM. -/
def Recorder.held (r : Recorder) (sev : Nat) : Nat := (r.ring.filter fun p => p.2.sev == sev).length

/-- The word at an address of the Skein RAM, slot i at 0x20 × i (R451). -/
def Recorder.ramByte (r : Recorder) (off : Nat) : Byte :=
  match r.ring.find? fun p => p.1 == off / 32 with
  | some (_, e) => e.bytes.getD (off % 32) 0
  | none => 0

end Sys2Proof.Machine
end

