-- ==== Sys2Proof/Machine/Witness.lean ====
section
/-! DEFINITION. Pair messages, heartbeats, orders and the witness (R355 to R361). -/

namespace Sys2Proof.Machine

/-! ## Pair messages (Table 09.5) -/

/-- The pair credential of the key store (R486). -/
def Core.pairKey (c : Core) : Bytes := c.dom Od.SEC_PAIR_KEY

/-- TAG: HMAC-SHA-256, its first 16 bytes, over bytes 0x00 to 0x27. -/
def pairTag (key body : Bytes) : Bytes := (Sha.hmac key body).take 16

/-- A message on one path. -/
def Core.pairMessage (c : Core) (type pairId w1 w2 tick path : Nat) : Bytes :=
  let body := leBytes 1 1 ++ leBytes 1 type ++ leBytes 1 path ++ leBytes 1 0 ++ beBytes 4 (c.rd Od.SERIAL) ++
    beBytes 4 pairId ++ beBytes 4 c.pair.seq ++ beBytes 8 c.pairInstant ++ beBytes 4 w1 ++ beBytes 4 w2 ++ beBytes 8 tick
  body ++ pairTag c.pairKey body

/-- The executive sends: the tick generator runs and the voter releases. -/
def Core.execSends (c : Core) : Bool := c.clk.running && c.ply.unvoted.isNone

/-- A message with the next sequence number, on both networks. -/
def Core.sendPair (c : Core) (type pairId w1 w2 tick : Nat) : Core :=
  if !c.pairSends then c
  else
  let c := c.updPair fun p => { p with seq := (p.seq + 1) % 2 ^ 32 }
  c.planPairMessage c.pair.seq [c.pairMessage type pairId w1 w2 tick 0, c.pairMessage type pairId w1 w2 tick 1]

/-- A received message that is not dropped: VERSION, PATH, PAIR_ID and TAG are right. `net` 0 A, 1 B. -/
def Core.pairValid (c : Core) (net type pairId : Nat) (m : Bytes) : Bool :=
  m.length == 0x38 && beAt m 0 1 == 1 && beAt m 1 1 == type && beAt m 2 1 == net && beAt m 8 4 == pairId &&
    slice m 0x28 16 == pairTag c.pairKey (m.take 0x28)

def msgSrc (m : Bytes) : Nat := beAt m 4 4
def msgPair (m : Bytes) : Nat := beAt m 8 4
def msgSeq (m : Bytes) : Nat := beAt m 0xC 4
def msgWord1 (m : Bytes) : Nat := beAt m 0x18 4
def msgWord2 (m : Bytes) : Nat := beAt m 0x1C 4
def msgTick (m : Bytes) : Nat := beAt m 0x20 8

/-- MODULE_HEARTBEAT_SEND. -/
def Core.moduleBeat (c : Core) : Core :=
  if !c.execSends || !c.pairMember then c
  else
    let c := c.atCyc (c.pair.beatAt + ms (c.rd Od.PAIR_HB_MS))
    let w1 := c.role.code + (c.pairStatus &&& 0xFFF8)
    (c.updPair fun p => { p with beatAt := c.clk.cyc }).sendPair 1 (c.rd Od.PAIR_PAIR_ID) w1 c.health (c.rd Od.PAIR_STEP)

/-! ## The witness (R355, R358, R359) -/

def Core.isWitness (c : Core) : Bool := c.role == .witness

def Core.servedPair (c : Core) (i : Nat) : ServedPair := c.pair.served.getD i ServedPair.fresh
def ServedPair.unit (p : ServedPair) (u : Nat) : ServedUnit := p.units.getD u ServedUnit.fresh
def Core.updServed (c : Core) (i : Nat) (f : ServedPair → ServedPair) : Core :=
  c.updPair fun p => { p with served := updAt f p.served i }

/-- The serial number of a unit of a served pair. -/
def Core.servedId (c : Core) (i u : Nat) : Nat := if u = 0 then c.rd (Od.WIT_P_ID_PRIMARY i) else c.rd (Od.WIT_P_ID_SECONDARY i)

/-- The served pair of a pair identifier. -/
def Core.servedBy (c : Core) (id : Nat) : Option Nat :=
  (List.range 8).find? fun i => id != 0 && c.rd (Od.WIT_P_PAIR_ID i) == id

/-- heard(x, t). -/
def Core.heardUnit (c : Core) (x : ServedUnit) (limit : Nat) : Bool :=
  x.heard.any fun h => match h with | some t => decide (c.clk.cyc ≤ t + ms limit) | none => false

/-- The keys of R358, most significant first. -/
def healthKeys (h : Nat) : List Nat :=
  [field h 0 1, field h 7 1, field h 1 1 + field h 2 1, field h 16 8, field h 5 1, 255 - field h 24 8]

/-- Health word a is worse than health word b. -/
def worse (a b : Nat) : Bool := lexLt (healthKeys a) (healthKeys b)

/-- An order is in progress: until its taker announces ACTIVE, or 100 ms after its instant. -/
def Core.orderOpen (c : Core) (p : ServedPair) : Bool :=
  match p.order with
  | some o => decide (c.clk.now < o.due + ms 100) && (p.unit o.taker).role != 1
  | none => false

/-- order_handover: a RELEASE to the active and a TAKE to the standby. -/
def Core.orderHandover (c : Core) (i s : Nat) (grant : Bool) : Core :=
  let at' := c.clk.now + ms (c.rd Od.WIT_ORDER_LEAD_MS)
  let id := c.rd (Od.WIT_P_PAIR_ID i)
  let c := c.sendPair 3 id 1 (c.servedId i (1 - s)) at'
  let o : WitnessOrder := ⟨c.pair.seq, at', grant, s, []⟩
  let c := c.sendPair 3 id 2 (c.servedId i s) at'
  let c := c.updServed i fun p => { p with order := some o, worse := none }
  (c.inc32 (Od.WIT_P_ORDERS i)).wr (Od.WIT_P_LAST_AT i) at'

/-- The judgement of a served pair at a heartbeat. Whether the standby sees its partner toggling is a free fact: no field of a
heartbeat carries it (log entry 203). -/
def Core.judgePair (c : Core) (i : Nat) : Core :=
  let p := c.servedPair i
  let active := [0, 1].find? fun u => (p.unit u).role == 1
  let standby := [0, 1].find? fun u => (p.unit u).role == 2
  match active, standby with
  | some au, some su =>
    let a := p.unit au
    let s := p.unit su
    let bad := worse a.health s.health
    let since := sinceWhen bad p.worse c.clk.cyc
    let c := c.updServed i fun p => { p with worse := since }
    let lim := c.rd Od.WIT_LOSS_MS
    let toggling := c.fresh 1 == 1
    if !(c.heardUnit s lim && s.health.testBit 4 && !c.orderOpen p) then c
    else
    let c := if c.heardUnit a lim then c else c.used 1
    if !c.heardUnit a lim && toggling then c.orderHandover i su false
    else if lasted since (ms (c.rd Od.WIT_JUDGE_MS)) c.clk.cyc then c.orderHandover i su false
    else if (a.health.testBit 10 || s.health.testBit 10) && !worse s.health a.health then c.orderHandover i su true
    else if su == 0 && s.health.testBit 9 && !worse s.health a.health then c.orderHandover i su true
    else c
  | _, _ => c.updServed i fun p => { p with worse := none }

/-- A module heartbeat at the witness. -/
def Core.witnessHears (c : Core) (net : Nat) (m : Bytes) : Core :=
  match c.servedBy (msgPair m) with
  | none => c
  | some i =>
    match [0, 1].find? (fun u => c.servedId i u == msgSrc m) with
    | none => c
    | some u =>
      if !c.pairValid net 1 (msgPair m) m then c
      else
        let role := field (msgWord1 m) 0 3
        let c := c.updServed i fun p => { p with units := updAt (fun x => { x with
          heard := setAt x.heard net (some c.clk.cyc), role := role, status := msgWord1 m, health := msgWord2 m }) p.units u }
        let c := c.wr (if u = 0 then Od.WIT_P_HEALTH_PRIMARY i else Od.WIT_P_HEALTH_SECONDARY i) (msgWord2 m)
        let c := if role = 1 then c.wr (Od.WIT_P_ACTIVE_ID i) (msgSrc m) else c
        if c.run == .safe then c else c.judgePair i

/-- MODULE_HEARTBEAT_RX: at the witness, and at the partner, which keeps its health word. -/
def Core.moduleBeatRx (c : Core) (net : Nat) (m : Bytes) : Core :=
  if !c.execSends then c
  else if c.isWitness then c.witnessHears net m
  else if c.pairMember && msgSrc m == c.rd Od.PAIR_PARTNER_ID && c.pairValid net 1 (c.rd Od.PAIR_PAIR_ID) m then
    (c.wr Od.PAIR_PARTNER_HEALTH (msgWord2 m)).updPair fun p => { p with announced := field (msgWord1 m) 0 3 + 1 }
  else c

/-- The witness state word as seen for unit u of a pair (Table 09.7). -/
def Core.stateWordFor (c : Core) (i u : Nat) : Nat :=
  let p := c.servedPair i
  let lim := c.rd Od.WIT_LOSS_MS
  let base := b2n (c.heardUnit (p.unit u) lim) * 128 + b2n (c.heardUnit (p.unit (1 - u)) lim) * 64
  match p.order with
  | some o => if c.orderOpen p then base + (if o.taker = u then 2 else 1) * 16 + b2n o.grant * 4 else base
  | none => base

/-- WITNESS_HEARTBEAT_SEND: one message to each served module; a witness in SAFE sends nothing. -/
def Core.witnessBeat (c : Core) : Core :=
  if !c.execSends || !c.isWitness || c.run == .safe then c
  else
    let c := c.atCyc (c.pair.beatAt + ms (c.rd Od.WIT_HB_MS))
    let c := c.updPair fun p => { p with beatAt := c.clk.cyc }
    (List.range 8).foldl (fun (c : Core) i =>
      if c.rd (Od.WIT_P_PAIR_ID i) = 0 then c
      else [0, 1].foldl (fun (c : Core) u =>
        if c.servedId i u = 0 then c else c.sendPair 2 (c.rd (Od.WIT_P_PAIR_ID i)) (c.stateWordFor i u) 0 0) c) c

/-- ORDER_ACK_RX at the witness. -/
def Core.orderAckRx (c : Core) (net : Nat) (m : Bytes) : Core :=
  match c.servedBy (msgPair m) with
  | none => c
  | some i =>
    if !c.execSends || !c.isWitness || !c.pairValid net 4 (msgPair m) m then c
    else match (c.servedPair i).order with
      | none => c
      | some o =>
        let seq := msgWord2 m
        if seq != o.seq && seq != (o.seq + 1) % 2 ^ 32 then c
        else
          let unit := if seq == o.seq then 1 - o.taker else o.taker
          let ack := (unit, msgWord1 m == 1)
          if c.servedId i unit != msgSrc m || o.acks.contains ack then c
          else c.updServed i fun p => { p with order := some { o with acks := o.acks ++ [ack] } }

/-! ## The modules' side (R357, R359, R360) -/

/-- WITNESS_HEARTBEAT_RX. -/
def Core.witnessBeatRx (c : Core) (net : Nat) (m : Bytes) : Core :=
  if !c.execSends || !c.pairMember || msgSrc m != c.rd Od.PAIR_WITNESS_ID ||
      !c.pairValid net 2 (c.rd Od.PAIR_PAIR_ID) m then c
  else
    let c := c.updPair fun p => { p with witness := setAt p.witness net (some c.clk.cyc), witnessWord := msgWord1 m &&& 0xF4 }
    if c.pairBit psWitnessLost then (c.setPairBit psWitnessLost false).log 0x090A else c

/-- The witness state word as this module forms it (Table 09.7). -/
def Core.ownWitnessWord (c : Core) : Nat :=
  let seen (n : Nat) : Bool := match c.pair.witness.getD n none with
    | some t => decide (c.clk.cyc ≤ t + ms (c.rd Od.PAIR_WIT_LOSS_MS))
    | none => false
  c.pair.witnessWord + b2n (seen 1) * 2 + b2n (seen 0)

/-- The partner state word as the J3 receivers give it (Table 09.6). -/
def Core.ownPartnerWord (c : Core) : Nat :=
  b2n (c.pair.released == some (c.rd Od.TICK_COUNT)) * 128 + c.pair.announced % 8 * 16 +
    b2n (c.pair.lanes.getD 1 false) * 8 + b2n (c.pair.lanes.getD 0 false) * 4 + b2n c.partnerToggling * 2 + b2n c.pair.present

/-- WITNESS_LOST. -/
def Core.witnessLost (c : Core) : Core :=
  if !c.execSends || !c.pairMember || c.pairBit psWitnessLost then c
  else
    let last := c.pair.witness.foldl (fun m h => max m (h.getD 0)) 0
    ((c.atCyc (last + ms (c.rd Od.PAIR_WIT_LOSS_MS))).setPairBit psWitnessLost true).log 0x090A

/-- An order of the witness for a pair: TYPE 3 with the pair's identifier. -/
def Core.orderValid (c : Core) (net : Nat) (m : Bytes) : Bool :=
  c.pairMember && msgSrc m == c.rd Od.PAIR_WITNESS_ID && c.pairValid net 3 (c.rd Od.PAIR_PAIR_ID) m

/-- The acknowledgement of an order: 1 accepted, 2 refused. -/
def Core.ackOrder (c : Core) (m : Bytes) (ok : Bool) : Core :=
  c.sendPair 4 (c.rd Od.PAIR_PAIR_ID) (if ok then 1 else 2) (msgSeq m) 0

/-- The order has been taken already, from the other path. -/
def Core.orderKnown (c : Core) (m : Bytes) : Bool := match c.pair.order with | some o => o.seq == msgSeq m | none => false

/-- TAKE_ORDER_RX: TAKE_ACK or TAKE_NAK over J3, the order relayed, and an acknowledgement. -/
def Core.takeOrderRx (c : Core) (net : Nat) (m : Bytes) : Core :=
  if !c.execSends || !c.orderValid net m || msgWord1 m != 2 || msgWord2 m != c.rd Od.SERIAL || c.orderKnown m then c
  else
    let ok := c.role == .standby && c.syncedNow
    let c := (c.emit (.symbol (if ok then 2 else 3))).emit (.relay m)
    let c := if c.role == .active then c else c.updPair fun p => { p with order := some ⟨msgSeq m, msgTick m⟩, acked := ok }
    c.ackOrder m ok

/-- RELEASE_ORDER_RX: from the network, or the standby's order relayed over J3 with the same instant. -/
def Core.releaseOrderRx (c : Core) (relay : Bool) (net : Nat) (m : Bytes) : Core :=
  let mine := msgWord1 m == 1 && msgWord2 m == c.rd Od.SERIAL
  let relayed := relay && msgWord1 m == 2 && msgWord2 m == c.rd Od.PAIR_PARTNER_ID
  if !c.execSends || !c.orderValid net m || !(mine || relayed) then c
  else
    let known := match c.pair.order with | some o => o.due == msgTick m | none => false
    let ok := c.role == .active
    let c := if known || (!ok && !mine) then c
      else c.updPair fun p => { p with order := some ⟨msgSeq m, msgTick m⟩, acked := ok && p.acked }
    if mine && !(known && c.orderKnown m) then c.ackOrder m ok else c

/-- TAKE_ACK_RX and TAKE_NAK_RX. -/
def Core.takeSymbol (c : Core) (ack : Bool) : Core :=
  if c.execSends && c.pairMember && c.role == .active then c.updPair fun p => { p with acked := ack } else c

end Sys2Proof.Machine
end

