-- ==== Sys2Proof/Machine/Flags.lean ====
section
/-! DEFINITION. Views: dictionary entries whose value is computed from the state at each read (status words, masks, counts
and derived states), as their entry tables and bit tables define them. Every other entry reads as its register. -/

namespace Sys2Proof.Machine

/-- A word whose bit i is the i-th truth value. -/
def flags : List Bool → Nat
  | [] => 0
  | b :: bs => b2n b + 2 * flags bs

/-- A mask over n units. -/
def maskFor (n : Nat) (p : Nat → Bool) : Nat := maskOf ((List.range n).filter p)

/-! ## Chapters 01 and 02 -/

/-- TIME.FLAGS: OFFSET_HIGH follows the last valid offset and TIME.LOCK_LIMIT (R45). -/
def Core.timeFlags (c : Core) : Nat :=
  putBit (c.rd Od.TIME_FLAGS) 7 (decide (c.rd Od.TIME_LOCK_LIMIT < (toInt 64 (c.rd Od.TIME_OFFSET)).natAbs))

/-- PLY.CONFIG. -/
def Core.plyConfig (c : Core) : Nat :=
  if c.run == .failed then 5
  else if c.ply.split then 4
  else if c.ply.unvoted.isSome then 3
  else match c.stepping.length with
    | 3 => 0
    | 2 => if [0, 1, 2].any c.strandRetired then 2 else 1
    | _ => 5

/-- DUPLEX_DEGRADED: exactly two strands in step, and one retired. -/
def Core.degraded (c : Core) : Bool := c.stepping.length == 2 && [0, 1, 2].any c.strandRetired

/-- AGREE_DEFAULTED: an exchange of the current or the previous tick ended with the safe default. -/
def Core.agreeDefaulted (c : Core) : Bool :=
  match c.ply.defaultedAt with | some t => decide (c.rd Od.TICK_COUNT ≤ t + 1) | none => false

/-- PLY.FLAGS (Table 02.8). -/
def Core.plyFlags (c : Core) : Nat :=
  flags [c.degraded, c.ply.split, c.ply.unvoted.isSome, c.soForced, [0, 1, 2].any fun s => c.strandBit s 1,
    [0, 1, 2].any fun s => (c.strand s).rejoinWait, c.agreeDefaulted]

/-- SOV.STATUS: VOTED and LIVE of the last evaluation, and the forced-off conditions of R80 that hold (Table 02.11). -/
def Core.sovStatus (c : Core) : Nat :=
  setField (c.rd Od.SOV_STATUS) 0 3 (flags [decide (c.stepping.length < 2), c.ply.unvoted.isSome, c.ply.split])

/-- A window of counted faults: its number, its oldest and its newest entry. -/
def windowCount (l : List Nat) : Nat := min 3 l.length
def windowOldest (l : List Nat) : Nat := l.headD 0

/-- PLY.DEBUG_SPLITS is kept in the vault domain. -/
def Core.viewPly (c : Core) (k : Nat) : Option Nat :=
  if k = Od.TICK_PHASE then some c.phase
  else if k = Od.TIME_NOW then some c.clk.now
  else if k = Od.TIME_STATE then some c.clk.state.code
  else if k = Od.TIME_FLAGS then some c.timeFlags
  else if k = Od.TIME_HOLDOVER_S then if c.clk.state = .holdover then some c.holdoverSeconds else none
  else if k = Od.PLY_CONFIG then some c.plyConfig
  else if k = Od.PLY_FLAGS then some c.plyFlags
  else if k = Od.PLY_MONO_MS then some c.monoMs
  else if k = Od.SOV_STATUS then some c.sovStatus
  else if k = Od.PLY_DEBUG_HALTED then some (maskFor 3 fun s => c.strandBit s 9)
  else if let some s := record? (Od.STRAND_FAULT_WINDOW 0) 3 k then some (windowCount (c.windowFaults s))
  else if let some s := record? (Od.STRAND_FAULT_OLDEST_MS 0) 3 k then some (windowOldest (c.windowFaults s))
  else if let some s := record? (Od.STRAND_FAULT_NEWEST_MS 0) 3 k then some (((c.strand s).faults.getLast?).getD 0)
  else none

/-! ## Chapters 03 and 04 -/

/-- SP.STATUS (Table 03.12). -/
def Core.spStatus (c : Core) (n : Nat) : Nat :=
  let s := c.spin n
  let ra := (c.tentativeJob n).isSome
  flags [decide (n < c.spindles), c.spinRetired n, false, false, s.arm.isSome, s.job.isSome, s.waiting, ra,
    ra && s.stalled.isSome, c.spinHalted n]

/-- LU.STATUS (Table 04.16). -/
def Core.luStatus (c : Core) (n : Nat) : Nat :=
  let s := c.spin n
  let last := c.rd (Od.LU_STATUS n)
  let host := (c.hosted n).any fun m => !(c.listSlots (c.spin m).arm).isEmpty
  flags [decide (n < c.spindles), c.unitArmed n, s.batch.isSome, last.testBit 3, c.spinUsable n && host, last.testBit 5]

/-- Per-path entries (R173, R457): the value of a path, else the entry's Default. -/
def Core.sel (c : Core) (p : Path) (k : Nat) : Nat :=
  match c.srv.sels.find? fun x => x.1 == p && x.2.1 == k with
  | some x => x.2.2
  | none => odDefault k

def Core.setSel (c : Core) (p : Path) (k v : Nat) : Core :=
  { c with srv := { c.srv with sels := (c.srv.sels.filter fun x => !(x.1 == p && x.2.1 == k)) ++ [(p, k, v)] } }

/-- The offset in a descriptor of a window sub-index of record 0x2312; OUT and VIEW_INFO lie in the newer view word. -/
def Core.slotOffset (c : Core) (k sub : Nat) : Nat :=
  if sub ≤ 9 then 4 * (sub - 1)
  else if sub ≤ 0x10 then 0x24 + 4 * (sub - 0x0A)
  else if sub = 0x11 then 0x44 + 8 * c.newerView k
  else if sub = 0x12 then 0x40 + 8 * c.newerView k
  else if sub = 0x13 then 0x50
  else if sub ≤ 0x15 then 0x54
  else 0x58 + 4 * (sub - 0x16)

/-- The descriptors as a dictionary read shows them: the state lines are those of the last boundary (R137). -/
def Core.shownSlots (c : Core) (sub : Nat) : Core := if sub ≤ 0x10 then c else { c with creel := c.loops.shown }

/-- A window entry of record 0x2312 for slot k. -/
def Core.slotEntry (c : Core) (k sub : Nat) : Nat :=
  let c := c.shownSlots sub
  let w := c.slotWord k (c.slotOffset k sub)
  if sub = 0x14 then field w 16 16 else if sub = 0x15 then field w 0 16 else if sub = 0x20 then 0 else w

def Core.viewLoop (c : Core) (p : Path) (k : Nat) : Option Nat :=
  let t := c.compAttr (c.sel p Od.COMP_SEL)
  if k = Od.SPIN_ENABLED then some (2 ^ c.spindles - 1)
  else if let some n := record? (Od.SP_STATUS 0) 32 k then some (c.spStatus n)
  else if let some n := record? (Od.SP_PARTNER 0) 32 k then some (c.partner n)
  else if let some n := record? (Od.SP_FAULT_WINDOW 0) 32 k then some (windowCount (c.spinWindow n))
  else if let some n := record? (Od.SP_FAULT_OLDEST_MS 0) 32 k then some (windowOldest (c.spinWindow n))
  else if let some n := record? (Od.LU_STATUS 0) 32 k then some (c.luStatus n)
  else if let some n := record? (Od.LU_ENTRIES 0) 32 k then some (c.luEntries n)
  else if let some n := record? (Od.LU_WINDOW 0) 32 k then some (c.luWindow n)
  else if let some n := record? (Od.LU_DUE_MAX 0) 32 k then some (c.luDueMax n)
  else if let some n := record? (Od.LU_LOAD_PCT 0) 32 k then some (c.luLoad n)
  else if k = Od.RA_ENABLE ∧ (c.fuses.io || c.fuses.wit) = true then some 0
  else if k = Od.LOOP_VIEW_WORDS then some c.viewWords
  else if k = Od.LOOP_IN_USE then some c.armedSlots.length
  else if k = Od.LOOP_APPLY_PENDING then some c.loops.staged.length
  else if k = Od.LOOP_SEL ∨ k = Od.COMP_SEL ∨ k = Od.SKEIN_READ_FROM ∨ k = Od.SKEIN_READ_SRC ∨ k = Od.SKEIN_READ_MIN_SEV then
    some (c.sel p k)
  else if k / 256 = 0x2312 ∧ k % 256 ≠ 0 then some (c.slotEntry (c.sel p Od.LOOP_SEL) (k % 256))
  else if k = Od.COMP_SCALE then some t.scale
  else if k = Od.COMP_OFFSET then some t.offset
  else if k = Od.COMP_MODE then some t.mode
  else none

/-! ## Chapter 05 -/

/-- The inputs of the process image: the fixed ones the variant has, and the mapped ones. -/
def Core.imageInputs (c : Core) : List Nat :=
  ((rowKeys odRows60).filter fun k => decide (k < 0x680000) && k % 256 != 0 && (c.row? k).isSome) ++ c.inEntries.map InEntry.key

def Core.countClass (c : Core) (p : Nat → Bool) : Nat := (c.imageInputs.filter fun k => p (field (c.rd (qKey k)) 14 2)).length

def Core.viewTask (c : Core) (k : Nat) : Option Nat :=
  if k = Od.TASK_OPEN_MASK then some (maskFor 64 c.taskOpen)
  else if k = Od.PI_BAD_COUNT then some (c.countClass fun q => q < 2)
  else if k = Od.PI_UNCERTAIN_COUNT then some (c.countClass fun q => q == 2)
  else if let some i := record? (Od.L0_STATUS 0) 8 k then
    some (if c.rd (Od.L0_STATUS i) = 0 then 0 else if c.run == .run || c.run == .hold then 1 else 2)
  else none

/-! ## Chapters 06 and 07 -/

/-- DIO.STATUS (Table 06.10): SUPPLY_LOW of the group and STAGE_ON beside the stored bits. -/
def Core.dioStatus (c : Core) (i : Nat) : Nat := putBit (putBit (c.rd (Od.DIO_STATUS i)) 7 (c.fgBit (i / 8) 0)) 2 (c.stageOn i)

/-- A fault of DIO.FAULT_MASK. -/
def Core.dioFault (c : Core) (i : Nat) : Bool :=
  [dsShort, dsLatched, dsThermal, dsExternal, dsOpenLoad, dsOpenWire].any fun b => c.dioBit i b

/-- A dark test that holds switch `m` of SOk open at the moment. -/
def Core.darkOpen (c : Core) (k : Nat) (m : Bool) : Bool :=
  c.io.dark.any fun d => d.so == k && d.m == m && decide (d.start ≤ c.clk.cyc) && decide (c.clk.cyc < d.stop)

/-- SO.STATUS (Table 06.12). -/
def Core.soStatus (c : Core) (k : Nat) : Nat :=
  let s := c.rd (Od.SO_STATUS k)
  putBit (putBit (putBit (putBit s 0 (c.bit Od.SOV_STATUS (16 + k))) 1 (s.testBit 1 && !c.darkOpen k false)) 2
    (s.testBit 2 && !c.darkOpen k true)) 9 (c.darkNow k)

/-- TP.STATUS: ON and PULSING beside the stored bits. -/
def Core.tpStatus (c : Core) (k : Nat) : Nat :=
  putBit (putBit (c.rd (Od.TP_STATUS k)) 0 (c.tpActive k && !c.tpIsLow k)) 1 (c.tpPulsing k)

def Core.viewField (c : Core) (k : Nat) : Option Nat :=
  if k = Od.DIO_CHANNELS then some c.dioCount
  else if k = Od.UIO_CHANNELS then some c.uioCount
  else if k = Od.DIO_FAULT_MASK then some (maskFor 48 c.dioFault)
  else if k = Od.UIO_FAULT_MASK then some (maskFor 24 c.uioFault)
  else if k = Od.UIO_HART_ACTIVE then some (maskFor 24 fun i => decide (2 ≤ c.rd (Od.HART_STATE i)))
  else if let some i := elem? (Od.DIO_STATUS 0) 48 k then some (c.dioStatus i)
  else if let some i := elem? (Od.UIO_STATUS 0) 24 k then some (putBit (c.rd (Od.UIO_STATUS i)) 14 (c.ugLow (i / 8)))
  else if let some i := elem? (Od.UIO_SUPPLY_V 0) 24 k then
    if c.uioMode i = 5 then some (F32.max (milli 5000) (F32.min (milli 26000) (F32.add (c.fresh 32) (F32.ofNat 2)))) else none
  else if let some i := elem? (Od.TP_STATUS 0) 8 k then some (c.tpStatus i)
  else if let some i := elem? (Od.SO_STATUS 0) 8 k then some (c.soStatus i)
  else none

/-! ## Chapter 08 -/

/-- SAFE.STATE (Table 08.10). -/
def Core.safeState (c : Core) : Nat :=
  let ref := c.rd Od.SAFE_CFG_REF
  flags [c.safety.avail, ref == 0, ref != 0 && ref != c.rd Od.SAFE_CFG_CRC, c.ply.split, !c.safetyStates,
    c.role == .standby]

def Core.viewSafety (c : Core) (k : Nat) : Option Nat :=
  if k = Od.SAFE_STATE then some c.safeState
  else if let some p := elem? (Od.SIN_STATUS 0) 24 k then
    let state := fieldAt (c.rd Od.SAFE_SIN_LO, c.rd Od.SAFE_SIN_HI) p
    some (setField (setField (c.rd (Od.SIN_STATUS p)) 0 2 state) 2 3 (c.sinEval p))
  else if let some a := elem? (Od.AXIS_STATUS 0) 4 k then
    let stopping := match c.axisFn a with | some f => c.rd (Od.SF_STATE f) == 2 | none => false
    some (putBit (putBit (c.rd (Od.AXIS_STATUS a)) 0 (c.rd (Od.AXIS_CNT a) != 255)) 1 stopping)
  else if let some r := record? (Od.SCRIM_STATE 0) 16 k then some (c.scrimShown r)
  else none

/-! ## Chapters 09 to 12 -/

/-- WIT.P.STATE. -/
def Core.witState (c : Core) (i : Nat) : Nat :=
  if c.rd (Od.WIT_P_PAIR_ID i) = 0 then 0
  else
    let p := c.servedPair i
    if c.orderOpen p then 4
    else match ([0, 1].filter fun u => c.heardUnit (p.unit u) (c.rd Od.WIT_LOSS_MS)).length with
      | 2 => 1
      | 1 => 2
      | _ => 3

/-- PAIR.REC_LIMIT (R343). -/
def Core.recLimit (c : Core) : Nat := (c.period / 2 - 1000) / 4

/-- PAIR.RETURN_LEFT_S: what remains of PAIR.RETURN_HOLD_S while the hold-off of R361 runs. -/
def Core.returnLeft (c : Core) : Nat :=
  match c.pair.quiet with
  | some t => c.rd Od.PAIR_RETURN_HOLD_S - (c.clk.cyc - t) / 1000000000
  | none => 0

def Core.viewPair (c : Core) (k : Nat) : Option Nat :=
  if k = Od.PAIR_ROLE then some c.role.code
  else if k = Od.PAIR_STATUS then some c.pairStatus
  else if k = Od.PAIR_HEALTH then some c.health
  else if k = Od.PAIR_REC_LIMIT then some c.recLimit
  else if k = Od.PAIR_RETURN_LEFT_S then some c.returnLeft
  else if k = Od.PAIR_CFG_HASH then some c.cfgHash
  else if k = Od.WIT_PAIRS then some ((List.range 8).filter fun i => c.rd (Od.WIT_P_PAIR_ID i) != 0).length
  else if let some i := record? (Od.WIT_P_STATE 0) 8 k then some (c.witState i)
  else none

/-- The node-ID whose SDO server a controller is (R420); none without a server. -/
def Core.sdoNode (c : Core) (k : Nat) : Option Nat :=
  let id := c.rd (Od.CAN_NODE_ID k)
  if id = 0 ∨ c.canCount ≤ k ∨ c.rd (Od.CAN_MODE k) = 0 then none
  else some (id + b2n (c.pairMember && c.rd Od.PAIR_UNIT == 1))

def cobId (base : Nat) : Option Nat → Nat
  | some id => base + id
  | none => 0x80000000

def Core.viewNet (c : Core) (k : Nat) : Option Nat :=
  if k = Od.NET_DS_SESSIONS then some c.srv.sessions.length
  else if let some n := record? (Od.NET_STATUS 0) 2 k then
    some (putBit (putBit (putBit (c.rd (Od.NET_STATUS n)) 7 (c.rd (Od.NET_IP_ADDR n) != 0)) 6 (c.rd Od.PTP_FOLLOWED == n + 1)) 5
      (c.rd (Od.NET_MRP_EN n) == 1))
  else if k = Od.FRAME_TX_USED then some ((List.range 128).filter fun f => (c.txDesc f).net != 0).length
  else if k = Od.FRAME_RX_USED then some ((List.range 128).filter fun o => (c.rxDesc o).net != 0).length
  else if let some f := elem? (Od.FRAME_TX_STATUS 0) 128 k then
    some (putBit (c.rd (Od.FRAME_TX_STATUS f)) 0 ((c.txDesc f).net != 0))
  else if let some o := elem? (Od.FRAME_RX_STATUS 0) 128 k then
    some (putBit (c.rd (Od.FRAME_RX_STATUS o)) 0 ((c.rxDesc o).net != 0))
  else if k = Od.CAN_CONTROLLERS then some c.canCount
  else if let some i := record? (Od.CAN_STATUS 0) 4 k then
    some (putBit (putBit (c.rd (Od.CAN_STATUS i)) 0 (c.rd (Od.CAN_MODE i) != 0)) 2 (!c.netGate))
  else if let some b := elem? (Od.CAN_TXB_STATUS 0) 12 k then
    some (setField (putBit (c.rd (Od.CAN_TXB_STATUS b)) 0 (c.canDesc (b / 3) (b % 3)).en) 1 2 (c.buf (b / 3) (b % 3)).st)
  else if let some o := elem? (Od.CAN_RXO_STATUS 0) 128 k then
    some (putBit (c.rd (Od.CAN_RXO_STATUS o)) 0 (decide (o / 32 < c.canCount) && (c.canFilter (o / 32) (o % 32)).dest == 1))
  else if let some i := record? (Od.SDO_COB_RX 0) 4 k then some (cobId 0x600 (c.sdoNode i))
  else if let some i := record? (Od.SDO_COB_TX 0) 4 k then some (cobId 0x580 (c.sdoNode i))
  else none

/-- EV.S.STATUS (Table 12.8). -/
def Core.evStatus (c : Core) (s : Nat) : Nat :=
  let counting := c.evCoalN s != 0 && field (c.evCount s) 0 16 != 0 && !c.router.pending.contains s
  flags [c.router.levels.contains s, c.evPending s, (List.range 33).any fun t => c.offerNow t == s && s != 0, c.inService s,
    counting || c.router.windows.any fun w => w.1 == s, c.router.withdrawn.contains s]

/-- EV.T.STATUS (Table 12.9). Whether the executive is in WFI is open. -/
def Core.targetStatus (c : Core) (t : Nat) : Nat :=
  let asleep := if t = 0 then c.fresh 1 == 1 else (c.spin (t - 1)).waiting
  maskOf ((c.router.service.filter fun x => x.target == t).map (·.group)) + c.offerNow t % 512 * 2 ^ 16 + b2n asleep * 2 ^ 30 +
    b2n (c.targetRetired t) * 2 ^ 31

def Core.viewEvent (c : Core) (k : Nat) : Option Nat :=
  if [0x2C10, 0x2C14, 0x2C18, 0x2C1C].any (fun b => k == srcKey b 0) then some 0
  else if let some s := source? 0x2C10 k then some (((c.router.cfgDue.find? fun x => x.1 == s).map (·.2)).getD (c.evCfg s))
  else if let some s := source? 0x2C18 k then some (c.evStatus s)
  else if let some t := elem? (Od.EV_T_STATUS 0) 33 k then some (c.targetStatus t)
  else none

/-! ## Chapters 14 and 15 -/

/-- CRED.STATE. -/
def Core.credState (c : Core) (i : Nat) : Nat :=
  if c.rd (Od.CRED_ID i) = 0 then 0
  else if ((c.srv.locks.getD i none).isSome) then 3
  else if c.credEnabled i then 1 else 2

/-- SEC.COMMISSION_LEFT_S. -/
def Core.commissionLeft (c : Core) : Nat :=
  if c.rd Od.SEC_COMMISSIONING = 1 then (c.srv.commissionEnd - c.monoMs + 999) / 1000 else 0

/-- SEC.STATUS (Table 14.12). -/
def Core.secStatus (c : Core) : Nat :=
  let sealed := match c.srv.cset with | some s => s.sealing.isSome | none => false
  flags [c.twoSigners, c.rd Od.SEC_COMMISSIONING == 1, c.srv.cset.isSome && !sealed, sealed, !(c.dom Od.SEC_PAIR_KEY).isEmpty,
    c.pwr.bankFallback, c.srv.noProgram]

def Core.viewSec (c : Core) (k : Nat) : Option Nat :=
  if k = Od.SEC_STATUS then some c.secStatus
  else if k = Od.SEC_COMMISSION_LEFT_S then some c.commissionLeft
  else if let some i := record? (Od.CRED_STATE 0) 16 k then some (c.credState i)
  else if k = Od.CS_STATE then
    some (match c.srv.cset with | none => 0 | some s => if s.sealing.isSome then 2 else 1)
  else if k = Od.CS_AUTHOR then some (match c.srv.cset with | none => 0 | some s => s.author)
  else if k = Od.CS_CHANGES then some (match c.srv.cset with | none => 0 | some s => s.changes.length)
  else none

/-- The station flags (Table 15.10). -/
def Core.stateFlags (c : Core) : Nat :=
  flags [c.fieldGate, c.rd Od.SEC_COMMISSIONING == 1, c.degraded, c.bit Od.TIME_FLAGS 0, c.bit Od.TIME_FLAGS 1, c.ply.split,
    c.interlock, c.safety.avail, c.srv.noProgram, c.srv.cfgRejected, c.netGate]

def Core.viewState (c : Core) (k : Nat) : Option Nat :=
  if k = Od.STATE_RUN then some c.run.code
  else if k = Od.STATE_FLAGS then some c.stateFlags
  else if k = Od.ERROR_REGISTER then
    some (b2n (c.run == .safe || c.run == .failed || decide (2 ≤ c.react.highest)) + 128 * b2n c.degraded)
  else if k = Od.REACT_IN_PROGRESS then some (maskOf (((c.react.active.map (·.level)).filter (· ≤ 4)).eraseDups))
  else if k = Od.REACT_QUEUED then some c.react.queue.length
  else if k = Od.HEALTH_STATUS then some (putBit (c.rd Od.HEALTH_STATUS) 4 (decide (24 ≤ c.rd Od.HEALTH_POWERED_H)))
  else if k = Od.PRODUCT_CODE then some (0x70000 + c.variant)
  else none

/-! ## The recorder (chapter 13) -/

def Recorder.viewOf (r : Recorder) (k : Nat) : Option Nat :=
  if k = Od.SKEIN_HEAD_SEQ then some r.lastSeq
  else if k = Od.SKEIN_OLDEST_SEQ then some ((r.ring.head?.map fun x => x.2.seq).getD 0)
  else if k = Od.SKEIN_COUNT then some r.ring.length
  else if k = Od.SKEIN_OVERWRITTEN then some r.overwritten
  else if k = Od.SKEIN_SUPPRESSED then some r.suppressed
  else if k = Od.SKEIN_SUMMARIES then some r.summaries
  else if k = Od.SKEIN_BOOT_SEQ then some r.bootSeq
  else if k = Od.SKEIN_FLASH_HEAD_SEQ then some r.flashHead
  else if k = Od.SKEIN_FLASH_OLDEST_SEQ then some r.flashOldest
  else if k = Od.SKEIN_MIRROR_PENDING then some r.mirror.length
  else if k = Od.SKEIN_MIRROR_LOST then some r.mirrorLost
  else if k = Od.SKEIN_FLASH_ERASES then some r.flashErases
  else if k = Od.SKEIN_FLASH_RETIRED then some r.retired.length
  else if let some i := elem? (Od.SKEIN_LOST 0) 7 k then some (r.lost.getD i 0)
  else if let some i := elem? (Od.SKEIN_HELD 0) 7 k then some (r.held (i + 1))
  else none

/-! ## Measured quantities -/

/-- Entries that read a quantity measured in the module or on its field wiring: each read yields a free value, here with the
number of values it can take. -/
def measured (k : Nat) : Option Nat :=
  if k = Od.SPIN_LOAD ∨ k = Od.PAIR_SYNC_PCT ∨
      (record? (Od.SP_BUSY 0) 32 k).isSome then some 101
  else if k = Od.CREEL_WAIT_MAX then some 129
  else if k = Od.PAIR_TIME_DIFF then some (2 ^ 32)
  else if [(Od.DIO_VOLTAGE 0, 48), (Od.DIO_CURRENT 0, 48), (Od.FG_VOLTAGE 0, 6), (Od.FG_CURRENT 0, 6),
      (Od.TP_CURRENT 0, 8), (Od.SO_CURRENT 0, 8), (Od.UIO_HEADROOM 0, 24), (Od.UIO_SUPPLY_V 0, 24), (Od.UIO_TJ 0, 24),
      (Od.UG_POWER 0, 3)].any fun x => (elem? x.1 x.2 k).isSome then some (2 ^ 32)
  else none

/-! ## Reading a number -/

/-- Configuration accepted and waiting for its boundary reads as the pending value. -/
def Core.pendingOr (c : Core) (k : Nat) : Nat := (c.srv.due.get? k).getD (c.rd k)

/-- The value that an entry of a numeric type reads as, on a path. -/
def Core.value (c : Core) (r : Recorder) (p : Path) (k : Nat) : Nat :=
  let page := k / 65536
  let v : Option Nat :=
    if page = 0x20 ∨ page = 0x21 then c.viewPly k
    else if page = 0x22 ∨ page = 0x23 then c.viewLoop p k
    else if page = 0x25 then c.viewTask k
    else if page = 0x26 ∨ page = 0x27 then c.viewField k
    else if page = 0x28 then c.viewSafety k
    else if page = 0x29 then c.viewPair k
    else if page = 0x2A ∨ page = 0x2B ∨ page = 0x12 then c.viewNet k
    else if page = 0x2C then c.viewEvent k
    else if page = 0x2D then (match r.viewOf k with | some x => some x | none => c.viewLoop p k)
    else if page = 0x2E then c.viewSec k
    else if page = 0x2F ∨ page = 0x10 then c.viewState k
    else none
  match v with
  | some x => x
  | none =>
    match measured k with
    | some n => Config.freeNat c.free % n
    | none => c.pendingOr k

end Sys2Proof.Machine
end

