-- ==== Sys2Proof/Machine/Access.lean ====
section
/-! DEFINITION. Access to the dictionary (chapter 14): which entries exist, on whose behalf a path asks, the checks of R465
in their order, the ranges of values, and reading. -/

namespace Sys2Proof.Machine

/-! ## Abort codes (Table 14.2) -/

def abToggle : Nat := 0x05030000
def abTimeout : Nat := 0x05040000
def abCommand : Nat := 0x05040001
def abReadOnly : Nat := 0x06010002
def abAbsent : Nat := 0x06020000
def abLength : Nat := 0x06070010
def abRange : Nat := 0x06090030
def abRight : Nat := 0x08000020
def abLocked : Nat := 0x08000021
def abState : Nat := 0x08000022

/-! ## Entries (step 1 of R465) -/

/-- The CiA 301 type of a map entry's TYPE (Table 05.4). -/
def mapType : Nat → OdType
  | 0x01 => .bool | 0x02 => .i8 | 0x03 => .i16 | 0x04 => .i32 | 0x05 => .u8 | 0x06 => .u16 | 0x07 => .u32
  | 0x08 => .real32 | 0x15 => .i64 | _ => .u64

/-- The mapped entries of the process image, with their types; an input's quality word stands 0x0800 above it. -/
def Core.mappedRow? (c : Core) (k : Nat) : Option OdRow :=
  let idx := k / 256
  let sub := k % 256
  let row (t : OdType) (acc : OdAcc) (d : Nat) : OdRow := ⟨idx, idx, sub, sub, t, acc, d, .any⟩
  let ins := c.inEntries
  let outs := c.outEntries
  if sub = 0 then
    let n := (ins.filter fun e => e.index == idx || e.index + 0x0800 == idx).length + (outs.filter fun e => e.index == idx).length
    if n = 0 then none else some (row .u8 .const n)
  else match ins.find? fun e => e.key == k with
    | some e => some (row (mapType e.type) .ro 0)
    | none =>
      if ins.any fun e => qKey e.key == k then some (row .u16 .ro 0)
      else (outs.find? fun e => e.key == k).map fun e => row (mapType e.type) .ro 0

/-- The row of an entry that exists and is not absent under R8. Of the block of a remote station that is not configured only
RS.STATE exists (R212). The quality word of a fixed input stands 0x0800 above it (R188). -/
def Core.entry? (c : Core) (k : Nat) : Option OdRow :=
  let idx := k / 256
  match c.row? k with
  | some r =>
    if between 0x3000 idx 0x3FFF then
      let s := (idx - 0x3000) / 0x40
      if c.rd (Od.RS_STATE s) = 0 ∧ k ≠ Od.RS_STATE s then none else some r
    else some r
  | none =>
    match (if between 0x6800 idx 0x6FFF then c.row? (k - 0x080000) else none) with
    | some r => some (if k % 256 = 0 then r else { r with type := .u16, default := 0 })
    | none => if between 0x6000 idx 0x7FFF then c.mappedRow? k else none

/-! ## Principals and rights (R464, R472, R473, R484) -/

inductive Principal where
  | firmware
  | anonymous
  | credential (i : Nat)
deriving DecidableEq, Repr

def Core.session? (c : Core) (n : Nat) : Option Session := c.srv.sessions.find? (·.num == n)

def Core.principal (c : Core) : Path → Principal
  | .ply => .firmware
  | .spindle _ => .firmware
  | .can _ => .anonymous
  | .session n =>
    match c.session? n with
    | some s => if s.secure then (match s.cred with | some i => .credential i | none => .anonymous) else .anonymous
    | none => .anonymous

/-- Bits of a rights word (Table 14.5). -/
def rRead : Nat := 0
def rWriteRw : Nat := 1
def rWriteRws : Nat := 2
def rProgram : Nat := 3
def rStage : Nat := 4
def rState : Nat := 6

/-- The rights of a principal; in an unprovisioned module every one but SIGN. -/
def Core.rights (c : Core) (p : Principal) : Nat :=
  if !c.twoSigners then 0x5F
  else match p with
    | .firmware => c.rd Od.SEC_FW_RIGHTS
    | .anonymous => c.rd Od.SEC_ANON_RIGHTS
    | .credential i => if between 1 (c.credRole i) 5 then c.rd (Od.SEC_ROLE_RIGHTS (c.credRole i - 1)) else 0

/-- A principal as CS.AUTHOR reports it (R478). -/
def Core.authorOf (c : Core) : Principal → Nat
  | .firmware => 0xFFFFFFFE
  | .anonymous => 0xFFFFFFFF
  | .credential i => c.rd (Od.CRED_ID i)

/-- An entry of the protection set-up (R477). -/
def protectedKey (k : Nat) (r : OdRow) : Bool :=
  r.acc == .rwc || r.acc == .rwsc || (record? (Od.CRED_SECRET 0) 16 k).isSome || k == Od.SEC_PAIR_KEY

/-- A write of MODE alone of a loop descriptor in RUN, which counts as rw (Table 04.15). -/
def Core.modeOnly (c : Core) (p : Path) (k v : Nat) : Bool :=
  let old := c.slotWord (c.sel p Od.LOOP_SEL) 0
  k == Od.LOOP_W_CTRL && c.run == .run && setField v 26 2 0 == setField old 26 2 0

/-- The right a write needs (Table 14.3); none for CS.SIGN. -/
def Core.writeRight (c : Core) (p : Path) (k : Nat) (r : OdRow) (v : Nat) : Option Nat :=
  if k = Od.CS_SIGN then none
  else if protectedKey k r || k == Od.CS_CMD || k == Od.SEC_CMD then some rStage
  else if k = Od.PROG_CHANGEOVER ∨ k = Od.PROG_CMD ∨ k = Od.PROG_IMAGE then some rProgram
  else if k = Od.PAIR_CMD ∨ k = Od.STATE_CMD then some rState
  else if r.acc == .rws && !c.modeOnly p k v then some rWriteRws
  else some rWriteRw

/-! ## State (step 5 of R465) -/

/-- Writes that the step record carries under TYPE 0x07 (R343, R344): loop words of access rw, tables and attributes, MODE,
the run-state command, the arming of an exchange. -/
def Core.carried (c : Core) (p : Path) (k v : Nat) : Bool :=
  (between (Od.LOOP_W_CTRL + 9) k (Od.LOOP_W_CTRL + 0x10)) || c.modeOnly p k v || k == Od.COMP_DATA || k == Od.COMP_SCALE ||
    k == Od.COMP_OFFSET || k == Od.COMP_MODE || k == Od.COMP_TABLES || k == Od.STATE_CMD || (k == Od.PROG_CMD && v == 3)

/-- The path that may acknowledge a queue (R412). -/
def Path.reader : Path → Nat
  | .ply => 0
  | .spindle _ => 0
  | .session _ => 1
  | .can _ => 2

/-- A change set is sealed. -/
def Core.csSealed (c : Core) : Bool := match c.srv.cset with | some s => s.sealing.isSome | none => false

/-- The present state permits a write. -/
def Core.permits (c : Core) (p : Path) (k : Nat) (r : OdRow) (v : Nat) : Bool :=
  let stop := c.run == .stop
  let other := c.role == .standby || c.role == .syncing
  (match r.acc with
    | .rws => stop || c.modeOnly p k v
    | .rwsc => stop
    | _ => true) &&
  !(other && c.carried p k v) &&
  !(protectedKey k r && c.csSealed) &&
  !(k == Od.LOOP_W_OUT && c.slotMode (c.sel p Od.LOOP_SEL) != 1) &&
  !(k == Od.TIME_RESTEP && !stop) &&
  !(k == Od.PROG_IMAGE && !c.imageWritable) &&
  (match elem? (Od.COUNT_CMD 0) 8 k with
    | some i => !((List.range 4).any fun a => (c.axisFn a).isSome && c.rd (Od.AXIS_CNT a) == i)
    | none => true) &&
  (match record? (Od.HART_REQ 0) 24 k with
    | some i => c.rd (Od.HART_STATE i) == 2 && c.hartCan i
    | none => true) &&
  (match record? (Od.HART_UNIQUE_ID 0) 24 k with
    | some i => !(c.rd (Od.HART_AUTO_ID i) == 1 && 2 ≤ c.rd (Od.HART_STATE i))
    | none => true) &&
  (match elem? (Od.CAN_Q_ACK 0) 16 k with
    | some q => c.rd (Od.CAN_Q_READER q) == p.reader
    | none => true) &&
  (match source? 0x2C14 k with
    | some s => !(c.evTaskSource s && field v 16 6 != c.evTarget s)
    | none => true) &&
  !(k == Od.WIT_ENABLE && v == 1 && c.pairMember)

/-! ## Values (steps 6 and 7 of R465) -/

/-- How a path carries a value: SDO little-endian, the dictionary service in network order, the memory window as a word
(R462). -/
inductive Wire where
  | le | be | word
deriving DecidableEq, Repr

def OdType.signed : OdType → Bool
  | .i8 | .i16 | .i32 | .i64 => true
  | _ => false

/-- A numeric value from its bytes on a path, or the abort of step 6 or of R462. -/
def decodeValue (t : OdType) (w : Wire) (data : Bytes) : Except Nat Nat :=
  match w with
  | .word =>
    let v := leNat data
    if t.width = 64 then .ok v
    else if t.signed then
      (if ofInt 32 (toInt t.width v) = v then .ok (v % 2 ^ t.width) else .error abRange)
    else if v < 2 ^ t.width then .ok v else .error abRange
  | _ =>
    if data.length ≠ t.bytes then .error abLength
    else
      let v := if w = .le then leNat data else beNat data
      if t = .bool ∧ 1 < v then .error abRange else .ok v

/-- The conditions of Table 06.9 and the Variants rule of chapter 06 on DIO.CFG. -/
def Core.dioCfgOk (c : Core) (v : Nat) : Bool :=
  let m := field v 0 4
  let inp := between 1 m 4
  (m == 0 || inp || m == 8 || m == 9) && decide (field v 4 3 ≤ 5) && decide (v < 2 ^ 13) && !(v.testBit 12 && inp) &&
    !(v.testBit 12 && m == 0) && !(v.testBit 7 && !inp) && !(m == 9 && !c.pairEn) && !(v.testBit 11 && !c.safeIo)

/-- The conditions of Table 07.12 on UIO.CFG, those of R268 on CHAR among them. -/
def Core.uioCfgOk (c : Core) (i v : Nat) : Bool :=
  let m := field v 0 4
  let range := field v 8 4
  let wires := field v 12 2
  let chr := field v 16 2
  let conv := v.testBit 14
  let points := leAt (let t := c.srv.dueDoms.get (Od.UIO_CHAR_TABLE i); if t.isEmpty then c.dom (Od.UIO_CHAR_TABLE i) else t) 0 1
  decide (v < 2 ^ 22) && field v 4 4 == 0 && !v.testBit 15 && decide (m ≤ 10) &&
    !(v.testBit 21 && (m != 6 || !c.pairEn || c.roleFuse == 1)) && !(v.testBit 20 && !(m == 5 || m == 6)) &&
    !(v.testBit 19 && ! [2, 3, 7, 8, 9, 10].contains m) && !(v.testBit 18 && ! [2, 3, 5, 6].contains m) &&
    chr != 3 && !(chr == 1 && !between 1 m 3) && !(chr != 0 && (m == 7 || m == 9 || m == 10)) &&
    !(chr == 2 && !between 2 points 16) &&
    !(between 7 m 9 && !conv) && !((between 4 m 6 || m == 10) && conv) &&
    wires != 3 && !(wires != 0 && !(m == 7 || m == 8)) &&
    decide (range ≤ (match m with | 1 => 3 | 2 => 1 | 3 => 1 | 4 => 1 | 5 => 2 | 7 => 2 | 8 => 1 | 9 => 7 | _ => 0))

/-- Whether two REAL32 values are equal as numbers. -/
def realEq (a b : Nat) : Bool := F32.le a b && F32.le b a

/-- The further conditions on the value of a number, beside the range of its row: what the entry's rule or table says of its
fields, and of its bounds that depend on another entry. -/
def Core.extraOk (c : Core) (k v : Nat) : Bool :=
  let thr (on hyst : Nat) : Bool := !F32.lt (F32.sub on hyst) 0x40000000
  if k = Od.TICK_PERIOD then c.variant != 12 || v == 4
  else if k = Od.LOOP_W_CTRL then field v 0 18 == 0
  else if k = Od.LOOP_W_CTRL + 2 then field v 24 8 == 0
  else if k = Od.LOOP_W_CTRL + 3 then field v 0 5 == 0
  else if between (Od.LOOP_W_CTRL + 4) k (Od.LOOP_W_CTRL + 8) then field v 20 6 == 0
  else if k = Od.RA_ENABLE then !(v == 1 && (c.fuses.io || c.fuses.wit))
  else if let some t := record? (Od.TASK_OFFSET 0) 64 k then decide (v < c.rd (Od.TASK_PERIOD t))
  else if let some t := record? (Od.TASK_PERIOD 0) 64 k then decide (c.rd (Od.TASK_OFFSET t) < v)
  else if (elem? (Od.DIO_CFG 0) 48 k).isSome then c.dioCfgOk v
  else if let some i := elem? (Od.DIO_THR_ON 0) 48 k then thr v (c.rd (Od.DIO_THR_HYST i))
  else if let some i := elem? (Od.DIO_THR_HYST 0) 48 k then thr (c.rd (Od.DIO_THR_ON i)) v
  else if let some i := elem? (Od.UIO_CFG 0) 24 k then c.uioCfgOk i v
  else if let some i := elem? (Od.UIO_PHYS_LO 0) 24 k then !realEq v (c.pendingOr (Od.UIO_PHYS_HI i))
  else if let some i := elem? (Od.UIO_PHYS_HI 0) 24 k then !realEq v (c.pendingOr (Od.UIO_PHYS_LO i))
  else if let some i := elem? (Od.UIO_EU_LO 0) 24 k then !realEq v (c.pendingOr (Od.UIO_EU_HI i))
  else if let some i := elem? (Od.UIO_EU_HI 0) 24 k then !realEq v (c.pendingOr (Od.UIO_EU_LO i))
  else if (elem? (Od.SF_SCRIM_IN 0) 16 k).isSome then v &&& 0x800F00FF == v
  else if (elem? (Od.RSO_SRC 0) 8 k).isSome then v == 0xFFFF || field v 8 4 == 0
  else if let some r := record? (Od.SCRIM_LEN 0) 16 k then !(c.rd (Od.SCRIM_DIR r) == 1 && v != 8)
  else if k = Od.PAIR_WIT_LOSS_MS then decide (3 * c.rd Od.PAIR_HB_MS ≤ v)
  else if k = Od.WIT_LOSS_MS then decide (3 * c.rd Od.PAIR_HB_MS ≤ v)
  else if k = Od.NET_RIO_SLOT_NS then !c.fuses.io || decide (2000 + c.rd Od.RSTA_NUMBER * v < c.period / 2)
  else if (record? (Od.PTP_MODE 0) 2 k).isSome then !(v == 1 && c.rd Od.TIME_SOURCE != 0)
  else if let some i := record? (Od.CAN_NBT 0) 4 k then nbtOk v && dbtOk (c.pendingOr (Od.CAN_DBT i)) v
  else if let some i := record? (Od.CAN_DBT 0) 4 k then dbtOk v (c.pendingOr (Od.CAN_NBT i))
  else if (record? (Od.CAN_NODE_ID 0) 4 k).isSome then !(c.pairMember && 126 < v)
  else if (source? 0x2C10 k).isSome then v &&& 0xFF1F3FF1 == v
  else if let some s := source? 0x2C14 k then s != 0 && v &&& 0x3F0007 == v && c.evTargetOk (field v 16 6)
  else if (record? (Od.CRED_ID 0) 16 k).isSome then !(v == 0xFFFFFFFE || v == 0xFFFFFFFF)
  else if (record? (Od.CAN_CMD 0) 4 k).isSome then between 1 v 3
  else true

/-- The value lies in its range, with every reserved bit 0. -/
def Core.valueOk (c : Core) (k : Nat) (r : OdRow) (v : Nat) : Bool := r.range.admits r.type v && c.extraOk k v

/-- The length of a DOMAIN or string that its entry states: least and greatest. -/
def domLength (k : Nat) : Nat × Nat :=
  if k = Od.LOOP_TABLE then (524288, 524288)
  else if k = Od.COMP_TABLES then (1048576, 1048576)
  else if k = Od.COMP_DATA then (4096, 4096)
  else if (elem? (Od.UIO_CHAR_TABLE 0) 24 k).isSome then (132, 132)
  else if k = Od.FRAME_TX_TABLE then (4096, 4096)
  else if k = Od.FRAME_RX_TABLE then (3072, 3072)
  else if (elem? (Od.CAN_TX_TABLE 0) 4 k).isSome then (96, 96)
  else if (elem? (Od.CAN_RX_FILTERS 0) 4 k).isSome then (512, 512)
  else if (elem? (Od.KEY_PUB) 4 k).isSome then (64, 64)
  else if (record? (Od.CRED_NAME 0) 16 k).isSome then (1, 32)
  else if (record? (Od.CRED_SECRET 0) 16 k).isSome ∨ k = Od.SEC_PAIR_KEY then (32, 32)
  else if k = Od.CS_SIGN then (40, 40)
  else if (record? (Od.HART_REQ 0) 24 k).isSome then (3, 253)
  else (0, 0x1000000)

/-- The reserved bits of a loop descriptor, of a frame descriptor and of a CAN transmit descriptor are 0 (R12, Tables 04.4
to 04.7, 04.10, 10.6, 11.3), whether or not the descriptor is in use. -/
def slotReservedOk (b : Bytes) (k : Nat) : Bool :=
  let w (o : Nat) : Nat := leAt b (128 * k + o) 4
  field (w 0) 0 18 == 0 && field (w 8) 24 8 == 0 && field (w 0x0C) 0 5 == 0 &&
    ([0x10, 0x14, 0x18, 0x1C, 0x20].all fun o => field (w o) 20 6 == 0) && field (w 0x50) 16 16 == 0 && field (w 0x50) 0 3 == 0
def txReservedOk (b : Bytes) (f : Nat) : Bool :=
  decide (leAt b (32 * f) 1 ≤ 3) && decide (leAt b (32 * f + 3) 1 ≤ 7) && leAt b (32 * f + 0x12) 2 == 0 &&
    leAt b (32 * f + 0x18) 8 == 0
def canReservedOk (b : Bytes) (n : Nat) : Bool := decide (leAt b (32 * n) 1 < 32) && leAt b (32 * n + 0x10) 16 == 0

/-- The conditions on the content of a DOMAIN that its own table states, with every reserved bit 0. -/
def Core.domOk (k : Nat) (b : Bytes) : Bool :=
  if (elem? (Od.UIO_CHAR_TABLE 0) 24 k).isSome then between 2 (leAt b 0 1) 16 && leAt b 1 3 == 0
  else if k = Od.FRAME_RX_TABLE then (List.range 128).all fun o => rxDescOk b o
  else if k = Od.LOOP_TABLE then (List.range 4096).all (slotReservedOk b)
  else if k = Od.FRAME_TX_TABLE then (List.range 128).all (txReservedOk b)
  else if (elem? (Od.CAN_TX_TABLE 0) 4 k).isSome then (List.range 3).all (canReservedOk b)
  else if (elem? (Od.CAN_RX_FILTERS 0) 4 k).isSome then (List.range 32).all fun g => canFilterOk b g
  else if (record? (Od.HART_REQ 0) 24 k).isSome then
    let flags := leAt b 0 1
    decide (flags < 2) && !(flags.testBit 0 && leAt b 1 1 != 0)
  else true

/-! ## The lock of a DOMAIN write (R471) -/

def Core.lockedTo (c : Core) (p : Path) (k : Nat) : Bool := c.srv.writes.any fun w => w.key == k && w.path != p

/-- A write to a protected entry while a change set of another author exists (step 4). -/
def Core.otherAuthor (c : Core) (p : Path) (k : Nat) (r : OdRow) : Bool :=
  protectedKey k r && (match c.srv.cset with | some s => s.author != c.authorOf (c.principal p) | none => false)

/-- Steps 1 to 5 of R465 for a write; `v` is the value as far as the state of step 5 depends on it. -/
def Core.checkWrite (c : Core) (p : Path) (k v : Nat) : Except Nat OdRow :=
  match c.entry? k with
  | none => .error abAbsent
  | some r =>
    if r.acc = .const ∨ r.acc = .ro then .error abReadOnly
    else if (match c.writeRight p k r v with | some b => !(c.rights (c.principal p)).testBit b | none => false) then
      .error abRight
    else if c.lockedTo p k || c.otherAuthor p k r then .error abLocked
    else if !c.permits p k r v then .error abState
    else .ok r

/-- Steps 1 and 3 for a read. -/
def Core.checkRead (c : Core) (p : Path) (k : Nat) : Except Nat OdRow :=
  match c.entry? k with
  | none => .error abAbsent
  | some r =>
    if r.acc = .wo ∨ (c.rights (c.principal p)).testBit rRead then .ok r else .error abRight

/-! ## Reading -/

/-- Decimal digits, most significant first. -/
def decimal (v : Nat) : Nat → Bytes
  | 0 => []
  | n + 1 => (if v < 10 then [] else decimal (v / 10) n) ++ [BitVec.ofNat 8 (48 + v % 10)]

/-- The codes of the variants by VARIANT_ID (Table 00.3). -/
def variantName (v : Nat) : String :=
  match v with
  | 1 => "DX7-X48S" | 2 => "DX7-X48N" | 3 => "DX7-X24S" | 4 => "DX7-M48S" | 5 => "DX7-M48N" | 6 => "DX7-M24S"
  | 7 => "DX7-M24N" | 8 => "DX7-E24N" | 9 => "DX7-IO48S" | 10 => "DX7-IO48N" | 11 => "DX7-G00N" | _ => "DX7-W"

def ascii (s : String) : Bytes := s.toList.map fun ch => BitVec.ofNat 8 ch.toNat

/-- The canonical form of a change set (Table 14.7): an entry's value, or its SHA-256. -/
def Change.row (x : Change) : Bytes :=
  let hashed := (record? (Od.CRED_SECRET 0) 16 x.key).isSome || x.key == Od.SEC_PAIR_KEY || decide (32 < x.value.length)
  let v := if hashed then Sha.digest x.value else x.value
  beBytes 2 (x.key / 256) ++ beBytes 1 (x.key % 256) ++ beBytes 1 v.length ++ zeros 4 ++ padTo 32 v

def Core.csContent (c : Core) : Bytes :=
  match c.srv.cset with
  | some s =>
    match s.sealing with
    | some (nonce, _) =>
      beBytes 1 1 ++ beBytes 1 s.changes.length ++ zeros 2 ++ beBytes 4 (c.rd Od.SERIAL) ++ beBytes 8 nonce ++
        s.changes.flatMap Change.row
    | none => []
  | none => []

/-- CS.DIGEST. -/
def Core.csDigest (c : Core) : Bytes := if c.csSealed then Sha.digest c.csContent else []

/-- The content of a DOMAIN or string entry as a path reads it. wo entries read as zero bytes of their length (R15). -/
def Core.domValue (c : Core) (r : Recorder) (p : Path) (k : Nat) (row : OdRow) : Bytes :=
  let len := domLength k
  if row.acc = .wo then zeros (if len.1 = len.2 then len.1 else 0)
  else if k = Od.LOOP_TABLE then
    (List.range 4096).flatMap fun s => c.creel.read (slotAddr s) 64 ++ c.loops.shown.read (slotAddr s + 64) 64
  else if k = Od.COMP_TABLES then c.creel.read (compAddr 0) 1048576
  else if k = Od.COMP_DATA then c.creel.read (compAddr (c.sel p Od.COMP_SEL)) 4096
  else if let some q := elem? (Od.CAN_Q_HEAD 0) 16 k then c.queueHead q
  else if k = Od.SKEIN_READ then
    r.read (c.sel p Od.SKEIN_READ_SRC) (c.sel p Od.SKEIN_READ_FROM) (c.sel p Od.SKEIN_READ_MIN_SEV)
  else if k = Od.CS_CONTENT then c.csContent
  else if k = Od.CS_DIGEST then c.csDigest
  else if k = Od.DEVICE_NAME then ascii (variantName c.variant)
  else if k = Od.SW_VERSION then
    decimal c.pwr.execVersion 10
  else
    let b := match c.srv.dueDoms.find? (·.1 == k) with | some x => x.2 | none => c.dom k
    if len.1 = len.2 then padTo len.1 b else b

/-- The entry is a byte string. -/
def OdRow.isDomain (r : OdRow) : Bool := r.type == .domain || r.type == .vstring

/-- The number an entry reads as. -/
def Core.number (c : Core) (r : Recorder) (p : Path) (k : Nat) (row : OdRow) : Nat :=
  if row.acc = .wo then 0
  else if between 0x6000 (k / 256) 0x7FFF ∧ k % 256 = 0 then row.default
  else c.value r p k

/-- The bytes of a value on a wire. -/
def encodeValue (t : OdType) (w : Wire) (v : Nat) : Bytes :=
  match w with
  | .be => beBytes t.bytes v
  | .le => leBytes t.bytes v
  | .word => if t.width = 64 then leBytes 8 v else leBytes 4 (if t.signed then ofInt 32 (toInt t.width v) else v)

end Sys2Proof.Machine
end

