-- ==== Sys2Proof/Machine/Sessions.lean ====
section
/-! DEFINITION. The sessions of the dictionary service: opening, datagrams, repeats and closing (R391, R392, R476), and the
authentication of credentials (R475). Log entries 90 and 91. -/

namespace Sys2Proof.Machine

def Core.updSrv (c : Core) (f : Server → Server) : Core := { c with srv := f c.srv }

/-! ## Authentication (R475) -/

/-- A failed authentication of a credential; the fifth in a row locks it. -/
def Core.authFailed (c : Core) (i : Nat) : Core :=
  let n := c.srv.fails.getD i 0 + 1
  let c := ((c.inc32 (Od.CRED_FAILS i)).inc32 Od.SEC_AUTH_FAILS).log 0x0E02
  let c := c.updSrv fun s => { s with fails := setAt s.fails i (if 5 ≤ n then 0 else n) }
  if 5 ≤ n then (c.updSrv fun s => { s with locks := setAt s.locks i (some c.monoMs) }).log 0x0E03 else c

/-- A session or signature of a credential is accepted. -/
def Core.authDone (c : Core) (i : Nat) : Core :=
  (c.inc32 (Od.CRED_USES i)).updSrv fun s => { s with fails := setAt s.fails i 0 }

def Core.credLocked (c : Core) (i : Nat) : Bool := (c.srv.locks.getD i none).isSome

/-- CREDENTIAL_LOCK_EXPIRY: 300 s after the lock. -/
def Core.lockExpiry (c : Core) (i : Nat) : Core :=
  match c.srv.locks.getD i none with
  | some t => (c.atCyc (ms (t + 300000))).updSrv fun s => { s with locks := setAt s.locks i none }
  | none => c

/-! ## Datagrams (Table 10.10) -/

def dsSecure : Nat := 1
def dsAckOnly : Nat := 2
def dsOpenFlag : Nat := 4
def dsClose : Nat := 8

structure DsHeader where
  flags : Nat
  session : Nat
  seq : Nat
  ack : Nat
deriving DecidableEq, Repr

/-- The header of a datagram that keeps to Table 10.10. -/
def dsHeader (d : Bytes) : Option DsHeader :=
  let len := beAt d 0xC 2
  if 16 ≤ d.length ∧ beAt d 0 1 = 1 ∧ beAt d 1 1 < 16 ∧ len ≤ 1200 ∧ d.length = 16 + len ∧ beAt d 0xE 2 = 0 then
    some ⟨beAt d 1 1, beAt d 2 2, beAt d 4 4, beAt d 8 4⟩
  else none

/-- A datagram leaves for a client. A secure payload takes a TLS record's 22 bytes more on the wire. -/
def Core.sendDatagram (c : Core) (net mac flags session seq ack : Nat) (payload : Bytes) : Core :=
  let secure := flags.testBit 0
  let header := beBytes 1 1 ++ beBytes 1 flags ++ beBytes 2 session ++ beBytes 4 seq ++ beBytes 4 ack ++
    beBytes 2 payload.length ++ zeros 2
  let extra := if secure && !payload.isEmpty then 22 else 0
  c.hostSend net 4 mac (14 + 20 + 8 + 16 + payload.length + extra) (.datagram session (header ++ payload))

def Session.flags (s : Session) : Nat := b2n s.secure

/-- The session carries messages: unsecured, or its handshake is complete (R476). -/
def Session.serves (s : Session) : Bool := !s.secure || s.cred.isSome

def Core.updSession (c : Core) (n : Nat) (f : Session → Session) : Core :=
  c.updSrv fun x => { x with sessions := x.sessions.map fun s => if s.num = n then f s else s }

/-- A datagram without payload. -/
def Core.sendPlain (c : Core) (s : Session) (flags : Nat) : Core :=
  c.sendDatagram s.net s.mac (s.flags + flags) s.num s.tx s.rx []

/-- A payload datagram goes out, or waits for one of the four places. -/
def Core.sendPayload (c : Core) (n : Nat) (payload : Bytes) : Core :=
  match c.session? n with
  | none => c
  | some s =>
    if 4 ≤ s.out.length then c.updSession n fun s => { s with queued := s.queued ++ [payload] }
    else
      let seq := (s.tx + 1) % 2 ^ 32
      let c := c.updSession n fun s => { s with tx := seq, out := s.out ++ [⟨seq, payload, c.clk.cyc, 0⟩] }
      c.sendDatagram s.net s.mac s.flags s.num seq s.rx payload

/-- Waiting payloads take the places that have become free. -/
def Core.pump (c : Core) (n : Nat) : Nat → Core
  | 0 => c
  | k + 1 =>
    match c.session? n with
    | none => c
    | some s =>
      match s.queued with
      | [] => c
      | p :: ps =>
        if 4 ≤ s.out.length then c
        else ((c.updSession n fun s => { s with queued := ps }).sendPayload n p).pump n k

/-- The client has received everything up to SEQ `ack`. -/
def Core.ackTo (c : Core) (n ack : Nat) : Core :=
  (c.updSession n fun s => { s with out := s.out.filter fun d => ack < d.seq }).pump n 4

/-! ## Opening and closing (R391, R476) -/

/-- A session ends, with its record and its unfinished DOMAIN writes (R471); `tell`: the station closes it, and says so. -/
def Core.endSession (c : Core) (n : Nat) (tell : Bool) : Core :=
  match c.session? n with
  | none => c
  | some s =>
    let c := if tell then c.sendPlain s dsClose else c
    (c.updSrv fun x => { x with
      sessions := x.sessions.filter (·.num != n)
      writes := x.writes.filter (·.path != .session n)
      sels := x.sels.filter (·.1 != .session n) }).log 0x0A07

/-- The station closes a session. -/
def Core.closeSession (c : Core) (n : Nat) : Core := c.endSession n true

/-- The service listens on a network: the station has an address there (R368). -/
def Core.dsListens (c : Core) (net : Nat) : Bool := c.clk.running && c.rd (Od.NET_IP_ADDR net) != 0 && !c.netLost net

/-- A datagram the service discards. -/
def Core.dsDiscard (c : Core) (net : Nat) : Core := c.inc32 (Od.NET_RX_ERRORS net)

/-- The lowest number from 1 that names no session. -/
def Core.unusedSession (c : Core) : Nat :=
  ((List.range 9).find? fun i => (c.session? (i + 1)).isNone).getD 8 + 1

/-- DS_OPEN. -/
def Core.dsOpen (c : Core) (net mac : Nat) (d : Bytes) : Core :=
  if !c.dsListens net then c
  else match dsHeader d with
    | none => c.dsDiscard net
    | some h =>
      let secure := h.flags.testBit 0
      if !h.flags.testBit 2 || h.session != 0 || h.seq != 0 then c.dsDiscard net
      else if 8 ≤ c.srv.sessions.length || (!secure && c.rd Od.NET_DS_PLAIN == 0) then
        c.sendDatagram net mac (b2n secure + dsClose) 0 0 0 []
      else
        let free := c.fresh 16
        let num := if free = 0 ∨ (c.session? free).isSome then c.unusedSession else free
        let s : Session := ⟨num, net, mac, secure, none, 0, 0, [], [], c.clk.cyc, c.clk.cyc⟩
        let c := ((c.used 1).updSrv fun x => { x with sessions := x.sessions ++ [s] }).log 0x0A07
        c.sendPlain s dsOpenFlag

/-- The session a datagram belongs to, if its SESSION and SECURE fit. -/
def Core.dsSession (c : Core) (net : Nat) (h : DsHeader) : Option Session :=
  match c.session? h.session with
  | some s => if s.net = net ∧ s.secure = h.flags.testBit 0 then some s else none
  | none => none

/-- DS_CLOSE. -/
def Core.dsCloseRx (c : Core) (net : Nat) (d : Bytes) : Core :=
  if !c.dsListens net then c
  else match dsHeader d with
    | none => c.dsDiscard net
    | some h =>
      match c.dsSession net h with
      | none => c.dsDiscard net
      | some s => if h.flags.testBit 3 then c.endSession s.num false else c.dsDiscard net

/-- DS_ACK_ONLY. -/
def Core.dsAck (c : Core) (net : Nat) (d : Bytes) : Core :=
  if !c.dsListens net then c
  else match dsHeader d with
    | none => c.dsDiscard net
    | some h =>
      match c.dsSession net h with
      | none => c.dsDiscard net
      | some s =>
        if h.flags.testBit 1 then (c.updSession s.num fun s => { s with heard := c.clk.cyc }).ackTo s.num h.ack
        else c.dsDiscard net

/-- DS_RETRANSMIT_TIMEOUT: 200 ms after its last sending the oldest unacknowledged datagram is repeated, five times at most.
-/
def Core.dsRetransmit (c : Core) (n : Nat) : Core :=
  match c.session? n with
  | none => c
  | some s =>
    match s.out with
    | [] => c
    | d :: ds =>
      if !c.clk.running then c
      else
        let first := ds.foldl (fun (m : Datagram) x => if x.cyc < m.cyc then x else m) d
        let c := c.atCyc (first.cyc + ms 200)
        if 5 ≤ first.repeats then c.closeSession n
        else
          let again : Datagram := { first with cyc := c.clk.cyc, repeats := first.repeats + 1 }
          let c := c.updSession n fun s => { s with out := s.out.map fun x => if x.seq = first.seq then again else x }
          c.sendDatagram s.net s.mac s.flags s.num first.seq s.rx first.payload

/-- DS_IDLE_TIMEOUT: 60 s without a datagram of the client. -/
def Core.dsIdle (c : Core) (n : Nat) : Core :=
  match c.session? n with
  | none => c
  | some s => if c.clk.running then (c.atCyc (s.heard + ms 60000)).closeSession n else c

/-- TLS_HANDSHAKE_TIMEOUT. -/
def Core.tlsTimeout (c : Core) (n : Nat) : Core :=
  match c.session? n with
  | none => c
  | some s => if c.clk.running && s.secure && s.cred.isNone then (c.atCyc (s.opened + ms 10000)).closeSession n else c

/-- The handshake of a secure session: its credential is enabled and not locked, or the session ends. -/
def Core.handshake (c : Core) (n : Nat) : Handshake → Core
  | .progress => (c.used 1).sendPayload n (Config.tlsFlight c.free)
  | .complete i =>
    if i < 16 ∧ c.credEnabled i ∧ !c.credLocked i then
      let c := (c.authDone i).updSession n fun s => { s with cred := some i }
      match c.session? n with | some s => c.sendPlain s dsAckOnly | none => c
    else c.closeSession n
  | .failed (some i) =>
    (if i < 16 ∧ c.credEnabled i ∧ !c.credLocked i then c.authFailed i else c).closeSession n
  | .failed none => c.closeSession n

end Sys2Proof.Machine
end

