-- ==== Sys2Proof/Machine/Countersign.lean ====
section
/-! DEFINITION. The change set, its two signatures, and COMMISSIONING (R478 to R485). -/

namespace Sys2Proof.Machine

/-! ## Staging (R478) -/

def insertChange (x : Change) : List Change → List Change
  | [] => [x]
  | y :: ys => if x.key < y.key then x :: y :: ys else if x.key = y.key then x :: ys else y :: insertChange x ys

/-- A write to a protected entry that has passed the checks. -/
def Core.csStage (c : Core) (p : Path) (k : Nat) (value : Bytes) : Core :=
  let set : ChangeSet := c.srv.cset.getD ⟨c.authorOf (c.principal p), [], none, none, 0, none⟩
  let changes := insertChange ⟨k, value⟩ set.changes
  if 64 < changes.length then c.abort abRange
  else (c.updSrv fun s => { s with cset := some { set with changes := changes, staged := c.clk.cyc } }).answer .done

/-- The set ends without a commit: CS.RESULT and its record. -/
def Core.csEnd (c : Core) (result : Nat) : Core :=
  ((c.updSrv fun s => { s with cset := none }).wr Od.CS_RESULT result).log 0x0E06

/-- CS_CMD_ABANDON. -/
def Core.csAbandon (c : Core) : Core := if c.srv.cset.isNone then c.abort abState else (c.csEnd 2).answer .done

/-- CS_IDLE_ABANDON: an OPEN set without a staging write for 600 s. -/
def Core.csIdle (c : Core) : Core :=
  match c.srv.cset with
  | some s => if s.sealing.isSome then c else (c.atCyc (s.staged + ms 600000)).csEnd 2
  | none => c

/-- CS_WINDOW_EXPIRY. -/
def Core.csExpiry (c : Core) : Core :=
  match c.srv.cset with
  | some s =>
    match s.sealing with
    | some (_, t) => if s.accepted.isSome then c else (c.atCyc (ms (t + 1000 * c.rd Od.CS_WINDOW_S))).csEnd 3
    | none => c
  | none => c

/-! ## The checks of a whole set (R482) -/

/-- An entry that belongs to each module alone (R483). -/
def ownEntry (k : Nat) : Bool := between 0x2900 (k / 256) 0x29FF || between 0x2E00 (k / 256) 0x2EFF

/-- The refusals of a second signature, and of a seal in an unprovisioned module (R484). -/
def Core.csBarred (c : Core) (s : ChangeSet) : Bool :=
  (c.run != .stop && s.changes.any fun x => (c.entry? x.key).any fun r => r.acc == .rwsc) || c.ply.split ||
    (!(c.role == .active || c.role == .alone) && s.changes.any fun x => !ownEntry x.key)

/-- The configuration as it would be after the commit. -/
def Core.afterChanges (c : Core) (l : List Change) : Core := l.foldl (fun (c : Core) x => c.storeEntry x.key x.value) c

/-- The codes that one change of the set meets in the configuration after the commit. -/
def Core.changeRejects (c after : Core) (x : Change) : List Nat :=
  let bad := match c.entry? x.key with
    | some r => !r.isDomain && !after.valueOk x.key r (beNat x.value)
    | none => true
  let old := c.rd x.key
  let new := beNat x.value
  rejectIf bad 0x0F02 ++ (after.valueTaken x.key new).rejectsFor x.key ++
    rejectIf ((elem? Od.KEY_STATE 4 x.key).isSome && old == 2 && new != 2) 0x0E03 ++
    rejectIf (x.key == Od.SEC_EXEC_MIN_VERSION && decide (new < old)) 0x0E05

/-- Every reject code the set meets. The two signers are no condition while the module is unprovisioned (R484). -/
def Core.setRejects (c : Core) (s : ChangeSet) : List Nat :=
  let after := c.afterChanges s.changes
  s.changes.flatMap (c.changeRejects after) ++ rejectIf (c.twoSigners && after.signersBad) 0x0E02 ++ rejectIf after.credsBad 0x0E04

/-- The report of a refusal: STATE.REJECTS and the 0x0F02 record with the entry concerned (R500). -/
def Core.refuse (c : Core) (code k : Nat) : Core := (c.inc32 Od.STATE_REJECTS).logA 0x0F02 code (k * 256)

/-- The set is checked as a whole: rejected, or accepted for the next boundary. -/
def Core.csJudge (c : Core) (s : ChangeSet) (ids : Nat × Nat) : Core :=
  let after := c.afterChanges s.changes
  match lowest (c.setRejects s) with
  | some code =>
    let key := ((s.changes.find? fun x => (c.changeRejects after x).contains code).map (·.key)).getD
      ((s.changes.head?.map (·.key)).getD 0)
    ((c.wr Od.CS_REJECT code).refuse code key).csEnd 4
  | none => c.updSrv fun x => { x with cset := some { s with accepted := some ids } }

/-- CS_CMD_SEAL: by the author of an OPEN set. In an unprovisioned module it also passes the set to the checks. -/
def Core.csSeal (c : Core) (p : Path) : Core :=
  match c.srv.cset with
  | none => c.abort abState
  | some s =>
    if s.sealing.isSome then c.abort abState
    else if s.author ≠ c.authorOf (c.principal p) then c.abort abLocked
    else if !c.twoSigners && c.csBarred s then c.abort abState
    else
      let sealed := { s with sealing := some (c.fresh 64, c.monoMs) }
      let c := (c.used 1).updSrv fun x => { x with cset := some sealed }
      let c := ((c.wr Od.CS_SEALED_MS c.monoMs).wr Od.CS_SIGNER1 0).log 0x0E04
      (if c.twoSigners then c else c.csJudge sealed (0, 0)).answer .done

/-! ## Signatures (R481, R482) -/

/-- CS_SIGN: the 40 bytes CRED_ID, 0, MAC. -/
def Core.csSign (c : Core) (sig : Bytes) : Core :=
  let id := beAt sig 0 4
  match c.srv.cset with
  | none => c.abort abState
  | some s =>
    let open_ := match s.sealing with
      | some (_, t) => decide (c.monoMs < t + 1000 * c.rd Od.CS_WINDOW_S) && s.accepted.isNone
      | none => false
    if !open_ then c.abort abState
    else if beAt sig 4 4 ≠ 0 then c.abort abRange
    else
      match (List.range 16).find? fun i => c.credEnabled i && c.rd (Od.CRED_ID i) == id with
      | none => c.abort abRight
      | some i =>
        if c.credLocked i || !c.roleRight (c.credRole i) 5 then c.abort abRight
        else if Sha.hmac (c.dom (Od.CRED_SECRET i)) c.csContent ≠ slice sig 8 32 then (c.authFailed i).abort abRight
        else
          match s.signer with
          | none =>
            let c := (c.authDone i).updSrv fun x => { x with cset := some { s with signer := some i } }
            (c.wr Od.CS_SIGNER1 id).answer .done
          | some j =>
            if i = j ∨ c.credRole i = c.credRole j then c.abort abRight
            else if c.csBarred s then c.abort abState
            else ((c.authDone i).csJudge s (c.rd (Od.CRED_ID j), id)).answer .done

/-! ## The commit (R482, R484, R485) -/

/-- A session that a commit closes: its credential is disabled, or has another role or secret (R476). -/
def Core.sessionEnds (before after : Core) (s : Session) : Bool :=
  match s.cred with
  | some i => !after.credEnabled i || before.credRole i != after.credRole i ||
      before.dom (Od.CRED_SECRET i) != after.dom (Od.CRED_SECRET i)
  | none => false

/-- A change of COMMISSIONING is recorded; on its setting its time starts. -/
def Core.setCommissioning (c : Core) (on : Bool) : Core :=
  let was := c.rd Od.SEC_COMMISSIONING == 1
  let c := (c.wr Od.SEC_COMMISSIONING (b2n on)).updSrv fun s => { s with
    commissionEnd := if on then c.monoMs + 1000 * c.rd Od.SEC_COMMISSION_MAX_S else s.commissionEnd }
  if was = on then c else c.log 0x0E07

/-- CS_COMMIT at a boundary, between the latch and the release. -/
def Core.csCommit (c : Core) : Core :=
  match c.srv.cset with
  | some s =>
    match s.accepted with
    | some (a, b) =>
      let after := c.afterChanges s.changes
      let revoked := (List.range 4).filter fun i =>
        c.rd (Od.KEY_STATE + i) != 2 && after.rd (Od.KEY_STATE + i) == 2
      let comm := s.changes.find? (·.key == Od.SEC_COMMISSIONING)
      let after := s.changes.foldl (fun (d : Core) x => d.valueTaken x.key (beNat x.value)) after
      let done := ((after.updSrv fun x => { x with cset := none }).wr Od.CS_RESULT 1).inc32 Od.CS_COMMITS
      let done := (done.logA 0x0E05 a b).cfgChanged
      let done := (s.changes.filter fun x => !ownEntry x.key).foldl (fun (d : Core) x => d.carry (.entry x.key x.value)) done
      let done := match comm with
        | some x => (done.wr Od.SEC_COMMISSIONING (c.rd Od.SEC_COMMISSIONING)).setCommissioning (beNat x.value == 1)
        | none => done
      let done := if !c.twoSigners && done.twoSigners then done.log 0x0E08 else done
      let done := revoked.foldl (fun (d : Core) i => d.log1 0x0E09 i) done
      ((c.srv.sessions.filter fun x => c.sessionEnds done x).map (·.num)).foldl Core.closeSession done
    | none => c
  | none => c

/-- Unsecured sessions end while they are not accepted (R391). -/
def Core.closePlain (c : Core) : Core :=
  if c.rd Od.NET_DS_PLAIN = 1 then c
  else ((c.srv.sessions.filter fun s => !s.secure).map (·.num)).foldl Core.closeSession c

/-- SEC.CMD = 1 takes effect at the boundary (R485). -/
def Core.commissionBoundary (c : Core) : Core :=
  if !c.srv.endCommission then c
  else
    let c := c.updSrv fun s => { s with endCommission := false }
    if c.rd Od.SEC_COMMISSIONING = 1 then c.setCommissioning false |>.cfgChanged else c

/-- COMMISSIONING_EXPIRY: SEC.COMMISSION_LEFT_S reaches 0. -/
def Core.commissionExpiry (c : Core) : Core :=
  if c.rd Od.SEC_COMMISSIONING ≠ 1 then c
  else ((c.atCyc (ms c.srv.commissionEnd)).setCommissioning false).cfgChanged

end Sys2Proof.Machine
end

