-- ==== Sys2Proof/Machine/Writes.lean ====
section
/-! DEFINITION. Writing the dictionary (chapter 14): the effect of an accepted write of each entry, single numbers and
DOMAIN transfers (R463, R465, R471, R478, R495, R500). -/

namespace Sys2Proof.Machine

/-! ## The configuration as accepted -/

/-- The configuration with everything accepted that waits for its boundary. -/
def Core.merged (c : Core) : Core :=
  let c := c.srv.due.foldl (fun (c : Core) x => c.wr x.1 x.2) c
  let c := c.srv.dueDoms.foldl (fun (c : Core) x => c.setDom x.1 x.2) c
  (c.loops.staged.foldl Core.makeChange c).setBlockMap

/-- Entries whose configuration waits for the next boundary: the universal channels' (R260) and the CAN controllers' (R401).
-/
def deferredKey (k : Nat) : Bool :=
  let idx := k / 256
  between 0x2702 idx 0x270F || idx == 0x2740 || between 0x2B01 idx 0x2B04 || between 0x2B08 idx 0x2B0B ||
    idx == 0x2B10 || idx == 0x2B20 || idx == 0x2B34

/-! ## Refusals of single writes (R500) -/

/-- Reject codes that a single value meets, beside those of the configuration as a whole: R427 and R438. -/
def Core.valueRejects (c : Core) (k v : Nat) : List Nat :=
  (match source? 0x2C10 k with | some s => rejectIf (!c.evCfgOk s v) 0x0C01 | none => []) ++
    (match elem? (Od.EV_T_FALLBACK 0) 33 k with | some _ => rejectIf (!c.evTargetOk v) 0x0F01 | none => [])

/-- A single write refused under Table 15.3: the abort, STATE.LAST_REJECT and the report. -/
def Core.refuseWrite (c : Core) (code k : Nat) : Core :=
  ((c.wr Od.STATE_LAST_REJECT code).refuse code k).abort abRange

/-- A write is made unless the configuration with it, `after`, meets a reject code. -/
def Core.unlessRejected (c after : Core) (k : Nat) (codes : List Nat) (go : Core) : Core :=
  match lowest (codes ++ after.rejectsFor k) with
  | some code => c.refuseWrite code k
  | none => go.answer .done

/-! ## Commands -/

/-- What the outcome of some commands depends on beside State: LPg is above its recovery threshold (FG.ACK, R243); the
safe-output conditions that persist (SO.ACK, R251); the partner is STANDBY and reports PREPARED for the same image (R344). -/
structure Facts where
  above : Bool
  persist : Nat
  partner : Bool
deriving DecidableEq, Repr

/-- The facts of a write on a path, as free values. -/
def Core.freeFacts (c : Core) : Facts where
  above := (Config.freeNat c.free).testBit 0
  persist := Config.freeNat (c.free + 1) % 2 ^ 64
  partner := (Config.freeNat (c.free + 2)).testBit 0

/-- STATE.CMD (R495). -/
def Core.stateCmd (c : Core) (run : Bool) : Core :=
  let barred := match c.run with
    | .hold | .safe | .failed => true
    | _ => false
  if barred || c.role == .standby || c.role == .syncing || (run && c.srv.noProgram) then c.abort abState
  else if c.run == .init then ({ c with react := { c.react with initCmd := some run } }).answer .done
  else if (run && c.run == .run) || (!run && c.run == .stop) then c.answer .done
  else ({ c with react := { c.react with cmd := some run } }).answer .done

/-- The configuration as it would be with an image in use: its tables, units, values and map. -/
def Core.withImage (c : Core) (im : ImageSet) : Core :=
  let c := c.validSlots.foldl (fun (c : Core) k => c.putCreel (slotAddr k) (zeros 128)) c
  let c := im.slots.foldl (fun (c : Core) x => c.putCreel (slotAddr x.1) (padTo 128 x.2)) c
  let c := im.tables.foldl (fun (c : Core) x => c.putCreel (compAddr x.1) x.2) c
  let c : Core := { c with loops := { c.loops with attrs := im.attrs.map fun a => ⟨a.1, a.2.1, a.2.2.1, a.2.2.2⟩ } }
  let c := c.updArr fun a => { a with sp := a.sp.map fun s => { s with arm := none } }
  let c := im.tasks.foldl (fun (c : Core) t => (c.wr (Od.TASK_PERIOD t.num) t.period).wr (Od.TASK_OFFSET t.num) t.offset) c
  let c := im.stations.foldl (fun (c : Core) s => c.wr (Od.RS_OUT_CG s.num) s.outCg) c
  let c := im.entries.foldl (fun (c : Core) e => c.wr e.1 e.2) c
  let c := c.putCreel im.base im.area
  (c.updProg fun p => { p with image := some im }).setBlockMap

/-- A reference of an image to a unit that is absent: an entry, a home spindle, a batch's spindle, an event source (R10). -/
def Core.imageAbsent (c : Core) (im : ImageSet) : Bool :=
  (im.entries.any fun e => (c.entry? e.1).isNone) ||
    (im.tasks.any fun t => (t.jobs.any fun j => decide (c.spindles ≤ j.1)) || (t.kind == 2 && !c.evPresent t.event)) ||
    (im.level0.any fun l => decide (c.spindles ≤ l.home)) || im.batches.any fun b => decide (c.spindles ≤ b.1)

/-- The event-source configurations of an image that break R427. -/
def Core.imageSourcesBad (c : Core) (im : ImageSet) : Bool :=
  im.entries.any fun e => match source? 0x2C10 e.1 with | some s => !c.evCfgOk s e.2 | none => false

/-- The codes that the checks of VERIFIED find in an image (Table 05.7). -/
def Core.verifyCodes (c : Core) : List Nat :=
  match (c.bank c.inactiveBank).content with
  | none => [0x0E01]
  | some im =>
    let after := c.withImage im
    rejectIf (!c.verifies 2 0 (c.bank c.inactiveBank).progImage) 0x0E01 ++ rejectIf (!im.crcOk) 0x050A ++
      rejectIf (!(c.bank c.inactiveBank).sameExec c.activeBank) 0x0506 ++
      (if im.reject = 0 then [] else [im.reject]) ++ after.mapRejects im ++ after.loopRejects ++
      rejectIf (c.recordBad? im) 0x0901 ++ rejectIf (c.imageSourcesBad im) 0x0C01 ++ rejectIf (c.imageAbsent im) 0x0F01

/-- Admission at PREPARED (R163, R164). -/
def Core.prepareCodes (c : Core) : List Nat :=
  match (c.bank c.inactiveBank).content with
  | none => []
  | some im => (c.withImage im).loopRejects.filter (· == 0x040F)

/-- PROG.CMD (Table 05.7); the arming of an exchange needs the partner of a pair to be ready for it (R344). -/
def Core.progCmd (c : Core) (v : Nat) (partner : Bool) : Core :=
  match v with
  | 1 => c.progVerify c.verifyCodes
  | 2 => c.progPrepare c.prepareCodes
  | 3 => if c.pairMember && c.role != .alone && !partner then c.abort abState else c.progArm
  | 4 => c.progCancel
  | _ => c.progErase

/-- CAN.CMD. -/
def Core.canCmd (c : Core) (k v : Nat) : Core :=
  match v with
  | 1 => c.canSleep k
  | 2 => c.canWake k
  | _ => c.canRecover k

/-- PAIR.CMD. -/
def Core.pairCmd (c : Core) (v : Nat) : Core :=
  match v with
  | 1 => c.pairHandover
  | 2 => c.pairResync
  | _ => c.pairClearUnfit

/-- FG.ACK (R243). -/
def Core.fgAck (c : Core) (g : Nat) (above : Bool) : Core :=
  if above && !c.fgBit g 1 then (c.fgAckAccept g).answer .done else c.abort abState

/-- SO.ACK (R251). -/
def Core.soAck (c : Core) (persist : Nat) : Core := (c.updField fun x => { x with soAck := some persist }).answer .done

/-- UIO.ACK (R280). -/
def Core.uioAck (c : Core) (i : Nat) : Core :=
  (c.updUio fun x => { x with acks := x.acks.filter (· != i) ++ [i] }).answer .done

/-- COUNT.CMD (R230). -/
def Core.countCmd (c : Core) (i : Nat) : Core := (c.setBit (Od.COUNT_STATUS i) 3 true).answer .done

/-- SEC.CMD (R485). -/
def Core.secCmd (c : Core) : Core := (c.updSrv fun s => { s with endCommission := true }).answer .done

/-! ## Loop descriptors, tables and attributes (R150, R154, R168) -/

/-- A descriptor word of the selected slot; `slot` is the slot. -/
def Core.writeSlot (c : Core) (slot k v : Nat) : Core :=
  let sub := k % 256
  if sub = 0x20 then (c.stageClears [slot]).answer .done
  else if sub = 0x11 then (c.stageChange (.out slot v)).answer .done
  else
    let ofs := c.slotOffset slot sub
    c.unlessRejected (c.merged.setSlotWord slot ofs v) k [] (c.stageChange (.word slot ofs v))

/-- An attribute of the selected table. -/
def Core.writeAttr (c : Core) (t which k v : Nat) : Core :=
  c.unlessRejected (c.merged.setAttr t which v) k [] (c.stageChange (.attr t which v))

/-! ## Numbers -/

/-- A configuration value is accepted: it takes effect at once, or waits for the next boundary. One whose rule names no
moment takes effect at once, COMMIT.PHASE in the tick in progress included (log entry 162). -/
def Core.storeValue (c : Core) (k : Nat) (r : OdRow) (v : Nat) : Core :=
  if deferredKey k then c.updSrv fun s => { s with due := s.due.ins k v }
  else if let some s := source? 0x2C10 k then (c.evCfgStage s v).cfgChanged
  else
    let c := if k = Od.TICK_PERIOD then c.writePeriod v else (c.wr k v).valueTaken k v
    let c := match record? (Od.HART_AUTO_ID 0) 24 k with | some i => (if v = 0 then c.hartManual i else c) | none => c
    let c := match ptpSetting? k with | some n => c.ptpAnew n | none => c
    if r.acc = .rw then c else c.cfgChanged

/-- The effect of a write whose checks have passed, by entry. -/
def Core.applyNumber (c : Core) (p : Path) (k : Nat) (r : OdRow) (v : Nat) (f : Facts) : Core :=
  if protectedKey k r then c.csStage p k (beBytes r.type.bytes v)
  else if k = Od.LOOP_SEL ∨ k = Od.COMP_SEL ∨ k = Od.SKEIN_READ_FROM ∨ k = Od.SKEIN_READ_SRC ∨ k = Od.SKEIN_READ_MIN_SEV then
    (c.setSel p k v).answer .done
  else if k = Od.TIME_RESTEP then c.requestReStep.answer .done
  else if k = Od.LOOP_CLEAR_ALL then (c.stageClears (List.range 4096)).answer .done
  else if k / 256 = 0x2312 then c.writeSlot (c.sel p Od.LOOP_SEL) k v
  else if k = Od.COMP_SCALE then c.writeAttr (c.sel p Od.COMP_SEL) 0 k v
  else if k = Od.COMP_OFFSET then c.writeAttr (c.sel p Od.COMP_SEL) 1 k v
  else if k = Od.COMP_MODE then c.writeAttr (c.sel p Od.COMP_SEL) 2 k v
  else if k = Od.PROG_CMD then c.progCmd v f.partner
  else if let some g := elem? (Od.FG_ACK 0) 6 k then c.fgAck g f.above
  else if let some i := elem? (Od.COUNT_CMD 0) 8 k then c.countCmd i
  else if k = Od.SO_ACK then c.soAck f.persist
  else if let some i := elem? (Od.UIO_ACK 0) 24 k then c.uioAck i
  else if let some i := record? (Od.HART_CANCEL 0) 24 k then (c.hartCancel i).answer .done
  else if k = Od.PAIR_CMD then c.pairCmd v
  else if let some i := record? (Od.CAN_CMD 0) 4 k then c.canCmd i v
  else if let some n := elem? (Od.CAN_TXB_CMD 0) 12 k then c.txbCancel n v
  else if let some q := elem? (Od.CAN_Q_ACK 0) 16 k then c.queueAck q v
  else if let some s := source? 0x2C14 k then (c.evCtrlStore s v true).answer .done
  else if (elem? (Od.EV_T_THRESH 0) 33 k).isSome then ((c.wr k v).arbitrate 2).answer .done
  else if k = Od.SEC_CMD then c.secCmd
  else if k = Od.CS_CMD then (if v = 1 then c.csSeal p else c.csAbandon)
  else if k = Od.STATE_CMD then c.stateCmd (v == 2)
  else c.unlessRejected ((c.merged.wr k v).valueTaken k v) k (c.valueRejects k v) (c.storeValue k r v)

/-- A write of a number: the checks of R465 in their order, then its effect. -/
def Core.writeNumber (c : Core) (p : Path) (k : Nat) (w : Wire) (data : Bytes) (f : Facts) : Core :=
  let v := match c.entry? k with
    | some r => (match decodeValue r.type w data with | .ok v => v | .error _ => 0)
    | none => 0
  match c.checkWrite p k v with
  | .error code => c.abort code
  | .ok r =>
    match decodeValue r.type w data with
    | .error code => c.abort code
    | .ok v => if c.valueOk k r v then c.applyNumber p k r v f else c.abort abRange

/-! ## DOMAIN and string contents -/

/-- The effect of a whole content whose checks have passed. -/
def Core.applyDomain (c : Core) (p : Path) (k : Nat) (r : OdRow) (b : Bytes) : Core :=
  if k = Od.CS_SIGN then c.csSign b
  else if protectedKey k r then c.csStage p k b
  else if k = Od.COMP_DATA then
    let t := c.sel p Od.COMP_SEL
    c.unlessRejected (c.merged.putCreel (compAddr t) b) k [] (c.stageChange (.table t b))
  else if k = Od.LOOP_TABLE ∨ k = Od.COMP_TABLES then
    let addr := if k = Od.LOOP_TABLE then slotAddr 0 else compAddr 0
    c.unlessRejected (c.merged.putCreel addr b) k [] (c.stageChange (.whole addr b))
  else if let some i := record? (Od.HART_REQ 0) 24 k then (c.hartRequest i b).answer .done
  else
    let go := if deferredKey k then c.updSrv fun s => { s with dueDoms := s.dueDoms.put k b } else (c.setDom k b).cfgChanged
    c.unlessRejected (c.merged.setDom k b) k [] go

/-- The length that a HART request states of itself (Table 07.8). -/
def hartLengthOk (k : Nat) (b : Bytes) : Bool := (record? (Od.HART_REQ 0) 24 k).isNone || b.length == 3 + leAt b 2 1

/-- The end of a transfer: length, content, effect. -/
def Core.endDomain (c : Core) (p : Path) (k : Nat) (r : OdRow) (b : Bytes) : Core :=
  let len := domLength k
  if b.length < len.1 ∨ len.2 < b.length ∨ !hartLengthOk k b then c.abort abLength
  else if !Core.domOk k b then c.abort abRange
  else c.applyDomain p k r b

/-- The transfer of a path to an entry ends, and its lock with it. -/
def Core.unlock (c : Core) (p : Path) (k : Nat) : Core :=
  c.updSrv fun s => { s with writes := s.writes.filter fun w => !(w.key == k && w.path == p) }

/-- A segment of a DOMAIN or string write (R471). PROG.IMAGE goes to its bank segment by segment (Table 05.7). -/
def Core.writeSegment (c : Core) (p : Path) (k ofs : Nat) (seg : Bytes) (last : Bool) : Core :=
  match c.checkWrite p k 0 with
  | .error code => (c.unlock p k).abort code
  | .ok r =>
    if !r.isDomain then c.abort abCommand
    else
      let old := match c.srv.writes.find? fun w => w.key == k && w.path == p with | some w => w.data | none => []
      let data := splice old ofs seg
      let c := c.unlock p k
      if (domLength k).2 < data.length then c.abort abLength
      else
        let c := if last then c
          else c.updSrv fun s => { s with writes := s.writes ++ [⟨k, p, data, c.clk.cyc⟩] }
        if k = Od.PROG_IMAGE then (c.writeImage ofs seg last).answer .done
        else if last then c.endDomain p k r data
        else c.answer .done

/-- A write of a whole content; a transfer of the same path to the entry ends with it. -/
def Core.writeWhole (c : Core) (p : Path) (k : Nat) (b : Bytes) : Core :=
  match c.checkWrite p k 0 with
  | .error code => (c.unlock p k).abort code
  | .ok r =>
    let c := c.unlock p k
    if (domLength k).2 < b.length then c.abort abLength
    else if k = Od.PROG_IMAGE then (c.writeImage 0 b true).answer .done
    else c.endDomain p k r b

/-- DOMAIN_LOCK_TIMEOUT: 5 s without a segment. -/
def Core.domainTimeout (c : Core) (p : Path) (k : Nat) : Core :=
  match c.srv.writes.find? fun w => w.key == k && w.path == p with
  | some w => (c.atCyc (w.cyc + ms 5000)).unlock p k
  | none => c

/-! ## Any entry -/

/-- A write of a whole value, number or bytes. -/
def Core.writeEntry (c : Core) (p : Path) (k : Nat) (w : Wire) (data : Bytes) (f : Facts) : Core :=
  match c.entry? k with
  | some r => if r.isDomain then c.writeWhole p k data else c.writeNumber p k w data f
  | none => c.abort abAbsent

/-- A write on a path whose facts are free values (log entry 92). -/
def Core.writeFree (c : Core) (p : Path) (k : Nat) (w : Wire) (data : Bytes) : Core :=
  (c.used 3).writeEntry p k w data c.freeFacts

/-- A read of a number: its value, or an abort. -/
def Core.readNumber (c : Core) (r : Recorder) (p : Path) (k : Nat) : Except Nat (OdRow × Nat) :=
  match c.checkRead p k with
  | .error code => .error code
  | .ok row => .ok (row, c.number r p k row)

/-- The bytes of an entry of any type on a wire. -/
def Core.readBytes (c : Core) (r : Recorder) (p : Path) (k : Nat) (w : Wire) : Except Nat Bytes :=
  match c.checkRead p k with
  | .error code => .error code
  | .ok row => .ok (if row.isDomain then c.domValue r p k row else encodeValue row.type w (c.number r p k row))

end Sys2Proof.Machine
end

