-- ==== Sys2Proof/Machine/States.lean ====
section
/-! DEFINITION. Run states, queued reactions, the end of SAFE, and the health monitors (chapter 15; R200 at the end of
STOP). -/

namespace Sys2Proof.Machine

/-! ## Entering RUN and STOP (R496) -/

/-- Every loop unit is disarmed. -/
def Core.disarmAll (c : Core) : Core := (List.range 32).foldl (fun (c : Core) n => c.armUnit n 0 0) c

/-- On entry to STOP: loops are disarmed, run-ahead records are discarded, and the retain copy is wanted (R134, R209). -/
def Core.enterStop (c : Core) : Core :=
  let c := (c.disarmAll.aheadCheck [] true).1
  (c.updProg fun p => { p with retainWant := true }).setRun .stop

/-- On entry to RUN: countdowns (R179), the batches of the image (R149), and the outputs of a remote station (R200). -/
def Core.enterRun (c : Core) (fromStop : Bool) : Core :=
  let c := c.tasksEnterRun fromStop
  c.armRunning.outputsRestart.setRun .run

/-- An accepted STATE.CMD takes effect at a boundary (R495). One accepted before SAFE waits for the resumption (R508). -/
def Core.applyStateCmd (c : Core) : Core :=
  match c.react.cmd with
  | none => c
  | some run =>
    let c' : Core := { c with react := { c.react with cmd := none } }
    match c.run, run with
    | .stop, true => (c'.carry (.state true)).enterRun true
    | .run, false => (c'.carry (.state false)).enterStop
    | .stop, false => c'
    | .run, true => c'
    | _, _ => c

/-! ## Queued reactions and SAFE (R504, R508) -/

/-- A reaction in progress at the level of `f` or higher that holds it back. -/
def React.holdsBack (r : React) (f : Reaction) : Bool :=
  r.active.any fun a => decide (f.level ≤ a.level) && !(r.safeEsc && a.level == 3 && decide (f.level ≤ 2))

/-- REACTION_QUEUED_START: the first queued reaction that nothing holds back starts. -/
def Core.queuedStart (c : Core) : Core :=
  if c.react.highest = 4 then c
  else match c.react.queue.find? fun f => !c.react.holdsBack f with
    | none => c
    | some f => { c with react := { c.react with queue := c.react.queue.erase f } }.startReaction f true

/-- SAFE_RESUME after an escalation: every queued reaction of L2 or lower has started, and STATE.SAFE_HOLD_MS has passed. -/
def Core.safeResume (c : Core) : Core :=
  if c.run != .safe || !c.react.safeEsc || c.react.queue.any (fun f => decide (f.level ≤ 2)) then c
  else ((c.atCyc (c.react.safeQuiet + ms (c.rd Od.STATE_SAFE_HOLD_MS))).leaveSafe).log 0x0F06

/-! ## Health monitors (R509 to R513) -/

/-- The cap of a predicted life in hours, and what a life that is not predicted reads as. -/
def lifeCap : Nat := 1000000
def noLife : Nat := 0xFFFFFFFF

/-- A life of num / den hours, capped; `Config.lifeUp` says how one that is not whole is rounded. -/
def lifeOf (num den : Nat) : Nat :=
  if den = 0 then lifeCap
  else min lifeCap (if num % den = 0 then num / den else num / den + b2n (Config.lifeUp num den))

/-- A term of R510: its value now, its value W hours ago, and its rated value. -/
structure Term where
  now : Nat
  past : Nat
  rated : Nat
deriving DecidableEq, Repr

/-- L_j of R510. -/
def Term.life (w : Nat) (t : Term) : Nat :=
  if t.rated ≤ t.now then 0
  else if t.now ≤ t.past then lifeCap
  else lifeOf ((t.rated - t.now) * w) (t.now - t.past)

/-- An item's figures: consumed fraction as binary32, whether it has reached 1.0, life in hours. -/
structure Figures where
  consumed : Nat
  worn : Bool
  life : Nat
deriving DecidableEq, Repr

/-- A counter item: the maximum of its consumed fractions, the minimum of its lives. -/
def counterItem (w : Nat) (ts : List Term) : Figures where
  consumed := ts.foldl (fun m t => F32.max m (F32.ofFrac t.now t.rated)) 0
  worn := ts.any fun t => decide (t.rated ≤ t.now)
  life := ts.foldl (fun m t => min m (t.life w)) lifeCap

/-- The die item (R511), from the largest δ and the powered hours; a δ that is no number leaves the figures free. -/
def Core.dieItem (c : Core) (delta t : Nat) : Figures :=
  let cons := F32.div delta (milli 50)
  if !F32.isFinite cons then ⟨c.fresh 32, false, c.fresh 32⟩
  else if F32.le (F32.ofNat 1) cons then ⟨cons, true, 0⟩
  else match F32.val cons with
    | .fin false m e =>
      -- c = m * 2^e with e < 0 as c < 1: L = t (2^(-4e) - m^4) / m^4
      let k := (-e).toNat
      ⟨cons, false, if m = 0 then lifeCap else lifeOf (t * (2 ^ (4 * k) - m ^ 4)) (m ^ 4)⟩
    | _ => ⟨cons, false, lifeCap⟩

/-- The item of VBAT (R512): 30 nA is 3 mAh in 100,000 h. -/
def Core.vbatItem (c : Core) : Figures :=
  let cap := c.rd Od.HEALTH_VBAT_CAP_MAH
  let used := c.rd Od.HEALTH_VBAT_USED_MAH
  if F32.le cap 0 then ⟨0, false, noLife⟩
  else
    let cons := F32.div used cap
    match F32.val (F32.sub cap used) with
    | .fin false m e =>
      let f := F32.scale (m * 100000) 3 e
      ⟨cons, decide (m = 0), if m = 0 then 0 else lifeOf f.1 f.2⟩
    | _ => ⟨cons, true, 0⟩

/-- The rated values of Table 15.7 in the order of a sample: DIO, SO, UIO, banks, flash ring. -/
def ratedDio : List Nat := [1000000000, 10000000000, 1000000]
def ratedUio : List Nat := [1000000, 200000000]

/-- A sample: every counter term of Table 15.7, item by item. -/
def Core.healthSample (c : Core) (r : Recorder) (x : HealthReading) : List Nat :=
  ((List.range 48).flatMap fun i => [c.rd (Od.DIO_OUT_SWITCHES i), c.rd (Od.DIO_DEMAG_MJ i), c.rd (Od.DIO_THERM_CYCLES i)]) ++
    (List.range 8).map (fun k => c.rd (Od.SO_SWITCHES k)) ++
    ((List.range 24).flatMap fun i => [c.rd (Od.UIO_THERM_CYCLES i), c.rd (Od.UIO_DISSIP_J i)]) ++
    [x.banks.getD 0 0, x.banks.getD 1 0, r.flashErases]

/-- The terms of a counter item: where they lie in a sample, and their rated values. -/
def itemTerms (item : Nat) : List (Nat × Nat) :=
  if 2 ≤ item ∧ item ≤ 49 then ratedDio.zipIdx.map fun p => (3 * (item - 2) + p.2, p.1)
  else if 50 ≤ item ∧ item ≤ 57 then [(144 + (item - 50), 100000000)]
  else if 58 ≤ item ∧ item ≤ 81 then ratedUio.zipIdx.map fun p => (152 + 2 * (item - 58) + p.2, p.1)
  else if item = 82 ∨ item = 83 then [(200 + (item - 82), 100000)]
  else if item = 84 then [(202, 25600000)]
  else []

/-- Items of channels that are not bonded are absent (R509, R516). -/
def Core.itemPresent (c : Core) (item : Nat) : Bool :=
  if 2 ≤ item ∧ item ≤ 49 then decide (item - 2 < c.dioCount)
  else if 50 ≤ item ∧ item ≤ 57 then c.safetyFuse != 0
  else if 58 ≤ item ∧ item ≤ 81 then decide (item - 58 < c.uioCount)
  else decide (1 ≤ item) && decide (item ≤ 85)

/-- The figures of an item at this hour. -/
def Core.itemFigures (c : Core) (now past : List Nat) (w delta item : Nat) : Figures :=
  if item = 1 then c.dieItem delta (c.rd Od.HEALTH_POWERED_H)
  else if item = 85 then c.vbatItem
  else counterItem w ((itemTerms item).map fun p => ⟨now.getD p.1 0, past.getD p.1 0, p.2⟩)

/-- The VBAT measurement with its flags; each setting is recorded (R512). -/
def Core.measureVbat (c : Core) (v : Nat) : Core :=
  let low := F32.lt v (milli 2500)
  let bad := F32.lt v (milli 2200) || c.monitor.rtcBad
  let c := c.wr Od.HEALTH_VBAT_V v
  let c := if low && !c.bit Od.HEALTH_STATUS 2 then c.log 0x0F0A else c
  let c := if bad && !c.bit Od.HEALTH_STATUS 3 then c.log 0x0F0A else c
  (c.setBit Od.HEALTH_STATUS 2 low).setBit Od.HEALTH_STATUS 3 bad

/-- One item's registers, and its record when its consumed fraction reaches 1.0 (R513). -/
def Core.reportItem (c : Core) (item : Nat) (f : Figures) (predict : Bool) : Core :=
  let c := (c.wr (Od.HEALTH_CONSUMED (item - 1)) f.consumed).wr (Od.HEALTH_LIFE_H (item - 1)) (if predict then f.life else noLife)
  if f.worn && !c.monitor.ended.contains item then
    { c.log1 0x0F09 item with monitor := { c.monitor with ended := c.monitor.ended ++ [item] } }
  else c

/-- The smallest life, and the lowest item that has it. -/
def worstItem (l : List (Nat × Figures)) : Nat × Nat :=
  l.foldl (fun best p => if p.2.life < best.1 then (p.2.life, p.1) else best)
    (match l with | p :: _ => (p.2.life, p.1) | [] => (noLife, 0))

/-- HEALTH_EVALUATION, once per powered hour. -/
def Core.healthEvaluate (c : Core) (r : Recorder) (x : HealthReading) : Core :=
  if !c.tickWork then c
  else
    let c := c.atCyc (c.monitor.lastCyc + 3600000000000)
    let c := { c with monitor := { c.monitor with lastCyc := c.clk.cyc } }.inc32 Od.HEALTH_POWERED_H
    let hours := c.rd Od.HEALTH_POWERED_H
    let w := min (c.rd Od.HEALTH_WINDOW_H) hours
    let c := (c.wr Od.HEALTH_BANK_ERASES0 (x.banks.getD 0 0)).wr Od.HEALTH_BANK_ERASES1 (x.banks.getD 1 0)
    let deltas := (List.range 16).map fun i =>
      let p := x.ages.getD i (0, 0)
      F32.div (F32.sub p.1 p.2) p.1
    let c := deltas.zipIdx.foldl (fun (c : Core) p => c.wr (Od.HEALTH_AGE_DELTA p.2) p.1) c
    let c := c.measureVbat x.vbat
    let now := c.healthSample r x
    let past := (c.monitor.samples[w - 1]?).getD []
    let delta := match deltas with | d :: ds => ds.foldl F32.max d | [] => 0
    let items := ((List.range 86).filter c.itemPresent).map fun i => (i, c.itemFigures now past w delta i)
    let c := { c.used 1 with monitor := { c.monitor with samples := (now :: c.monitor.samples).take 8760 } }
    let predict := decide (24 ≤ hours)
    let c := items.foldl (fun (c : Core) p => c.reportItem p.1 p.2 predict) c
    let c := c.setBit Od.HEALTH_STATUS 1 (items.any fun p => p.2.worn)
    if !predict then c
    else
      let (life, item) := worstItem items
      let c := (c.wr Od.HEALTH_MODULE_H life).wr Od.HEALTH_LIMIT_ITEM item
      let warn := decide (life < c.rd Od.HEALTH_WARN_H)
      let c := if warn && !c.bit Od.HEALTH_STATUS 0 then c.log 0x0F08 else c
      c.setBit Od.HEALTH_STATUS 0 warn

end Sys2Proof.Machine
end

