-- ==== Sys2Proof/Machine/DictService.lean ====
section
/-! DEFINITION. The messages of the dictionary service and the datagrams that carry them (R391 to R393). -/

namespace Sys2Proof.Machine

/-! ## Messages (Table 10.11) -/

def dsMessage (m : Bytes) : DsMessage where
  op := beAt m 0 1
  tag := beAt m 1 1
  key := odKey (beAt m 2 2) (beAt m 4 1)
  flags := beAt m 5 1
  len := beAt m 6 2
  offset := beAt m 8 4
  status := beAt m 0xC 4
  data := m.drop 16

/-- A response: OP with bit 7 set, TAG, INDEX and SUB of the request. -/
def DsMessage.response (m : DsMessage) (last : Bool) (status : Nat) (data : Bytes) : Bytes :=
  beBytes 1 (m.op ||| 0x80) ++ beBytes 1 m.tag ++ beBytes 3 m.key ++ beBytes 1 (b2n last) ++ beBytes 2 data.length ++
    beBytes 4 m.offset ++ beBytes 4 status ++ data

/-- What a request is answered with. -/
def Core.dsStatus (c : Core) (n : Nat) (m : DsMessage) (last : Bool) (status : Nat) (data : Bytes) : Core :=
  let c := c.answer (if status = 0 then (if data.isEmpty then .done else .bytes data) else .abort status)
  c.sendPayload n (m.response last status data)

/-- The abort code a write was answered with; 0 for none. -/
def Core.replyCode (c : Core) : Nat := match c.reply with | .abort code => code | _ => 0

/-- The dictionary serves requests from INIT to SAFE (R497). -/
def Core.dictServes (c : Core) : Bool :=
  match c.run with
  | .init | .stop | .run | .hold | .safe => true
  | _ => false

/-- A read. -/
def Core.dsRead (c : Core) (r : Recorder) (n : Nat) (m : DsMessage) : Core :=
  match c.entry? m.key with
  | some row =>
    if row.type = .domain then c.dsStatus n m false abCommand []
    else match c.readBytes r (.session n) m.key .be with
      | .ok b => (c.used 1).dsStatus n m false 0 b
      | .error code => c.dsStatus n m false code []
  | none => c.dsStatus n m false abAbsent []

/-- A write. -/
def Core.dsWrite (c : Core) (n : Nat) (m : DsMessage) : Core :=
  match c.entry? m.key with
  | some row =>
    if row.type = .domain then c.dsStatus n m false abCommand []
    else
      let c := c.writeFree (.session n) m.key .be m.data
      c.dsStatus n m false c.replyCode []
  | none => c.dsStatus n m false abAbsent []

/-- A segment of a DOMAIN or string entry, read. -/
def Core.dsReadSegment (c : Core) (r : Recorder) (n : Nat) (m : DsMessage) : Core :=
  match c.entry? m.key with
  | some row =>
    if !row.isDomain then c.dsStatus n m false abCommand []
    else match c.readBytes r (.session n) m.key .be with
      | .ok b => c.dsStatus n m (decide (b.length ≤ m.offset + 1024)) 0 (slice b m.offset 1024)
      | .error code => c.dsStatus n m false code []
  | none => c.dsStatus n m false abAbsent []

/-- A segment written. -/
def Core.dsWriteSegment (c : Core) (n : Nat) (m : DsMessage) : Core :=
  match c.entry? m.key with
  | some row =>
    if !row.isDomain then c.dsStatus n m false abCommand []
    else
      let c := c.writeSegment (.session n) m.key m.offset m.data (m.flags.testBit 0)
      c.dsStatus n m false c.replyCode []
  | none => c.dsStatus n m false abAbsent []

/-- A whole message is served: reserved bits first, then by its OP. -/
def Core.dsServe (c : Core) (r : Recorder) (n : Nat) (msg : Bytes) : Core :=
  let m := dsMessage msg
  if (c.session? n).isNone then c
  else if 1024 < m.len then c.dsStatus n m false abLength []
  else if 1 < m.flags || m.status != 0 then c.dsStatus n m false abRange []
  else match m.op with
    | 1 => c.dsRead r n m
    | 2 => c.dsWrite n m
    | 3 => c.dsReadSegment r n m
    | 4 => c.dsWriteSegment n m
    | _ => c.dsStatus n m false abCommand []

/-- A message that has arrived: served, or kept while the executive stands still (R497). -/
def Core.dsRequest (c : Core) (r : Recorder) (n : Nat) (msg : Bytes) : Core :=
  if !c.dictServes || !(c.session? n).any Session.serves then c
  else if c.ply.unvoted.isSome then c.updSrv fun s => { s with waiting := s.waiting ++ [.message n msg] }
  else c.dsServe r n msg

/-- A row's message: one of its OP, whole. -/
def Core.dsRow (c : Core) (r : Recorder) (op n : Nat) (msg : Bytes) : Core :=
  let m := dsMessage msg
  if m.op = op ∧ msg.length = 16 + m.len then c.dsRequest r n msg else c

/-! ## Payload datagrams (R392) -/

/-- The whole messages of a payload; an incomplete one at its end is discarded. -/
def dsMessages (b : Bytes) : Nat → List Bytes
  | 0 => []
  | k + 1 =>
    let n := 16 + beAt b 6 2
    if b.length < 16 ∨ b.length < n then [] else b.take n :: dsMessages (b.drop n) k

/-- DS_DATAGRAM: a payload datagram; a secure payload is given as its content, a handshake's as what it does. -/
def Core.dsDatagram (c : Core) (r : Recorder) (net : Nat) (d : Bytes) (tls : Handshake) : Core :=
  if !c.dsListens net then c
  else match dsHeader d with
    | none => c.dsDiscard net
    | some h =>
      match c.dsSession net h with
      | none => c.dsDiscard net
      | some s =>
        if 1 < h.flags then c.dsDiscard net
        else
          let n := s.num
          let c := (c.updSession n fun s => { s with heard := c.clk.cyc }).ackTo n h.ack
          let payload := d.drop 16
          if payload.isEmpty then c
          else if h.seq ≤ s.rx then (match c.session? n with | some s => c.sendPlain s dsAckOnly | none => c)
          else if h.seq ≠ s.rx + 1 then c
          else
            let c := c.updSession n fun s => { s with rx := h.seq }
            let before := c.sent.length
            let c := if s.secure ∧ s.cred.isNone then c.handshake n tls
              else (dsMessages payload 80).foldl (fun (c : Core) m => c.dsRequest r n m) c
            match c.session? n with
            | some s => if c.sent.length = before then c.sendPlain s dsAckOnly else c
            | none => c

end Sys2Proof.Machine
end

