-- ==== Sys2Proof/Machine/Sdo.lean ====
section
/-! DEFINITION. The CANopen SDO server on each controller (R420, R466): expedited and segmented transfer. -/

namespace Sys2Proof.Machine

/-- The transfer in progress on a controller. -/
def Core.sdoNow (c : Core) (k : Nat) : Option SdoTransfer := c.srv.sdo.getD k none
def Core.setSdo (c : Core) (k : Nat) (t : Option SdoTransfer) : Core := c.updSrv fun s => { s with sdo := setAt s.sdo k t }

/-- An answer of eight bytes through SVC. -/
def Core.sdoSend (c : Core) (k : Nat) (data : Bytes) : Core :=
  match c.sdoNode k with
  | some id => (c.updCtl k fun x => { x with svc := x.svc ++ [(0x580 + id, padTo 8 data)] }).canOffer k
  | none => c

/-- Index and sub-index as a frame carries them: little-endian. -/
def sdoMux (key : Nat) : Bytes := leBytes 2 (key / 256) ++ leBytes 1 (key % 256)

/-- An abort frame. -/
def Core.sdoAbort (c : Core) (k key code : Nat) : Core :=
  (c.sdoSend k (leBytes 1 0x80 ++ sdoMux key ++ leBytes 4 code)).abort code

/-- The transfer in progress ends without its last segment; its lock ends with it. -/
def Core.sdoEnd (c : Core) (k : Nat) : Core :=
  match c.sdoNow k with
  | some t => (c.setSdo k none).unlock (.can k) t.key
  | none => c

/-- A new request aborts the transfer in progress. -/
def Core.sdoFresh (c : Core) (k : Nat) : Core :=
  match c.sdoNow k with
  | some t => (c.sdoEnd k).sdoAbort k t.key abCommand
  | none => c

/-- The answer to a finished or accepted download. -/
def Core.sdoConfirm (c : Core) (k key : Nat) (data : Bytes) : Core :=
  match c.reply with
  | .abort code => (c.sdoEnd k).sdoAbort k key code
  | _ => c.sdoSend k data

/-- Initiate download: expedited, or the start of a segmented transfer. -/
def Core.sdoDownload (c : Core) (k : Nat) (f : Bytes) : Core :=
  let cmd := leAt f 0 1
  let key := odKey (leAt f 1 2) (leAt f 3 1)
  let c := c.sdoFresh k
  let ok := leBytes 1 0x60 ++ sdoMux key
  if cmd.testBit 1 then
    let size := match c.entry? key with
      | some r => if r.isDomain then 4 else r.type.bytes
      | none => 4
    let n := if cmd.testBit 0 then 4 - field cmd 2 2 else size
    (c.writeFree (.can k) key .le (slice f 4 n)).sdoConfirm k key ok
  else match c.checkWrite (.can k) key 0 with
    | .error code => c.sdoAbort k key code
    | .ok r =>
      let c := c.setSdo k (some ⟨key, false, false, [], c.clk.cyc⟩)
      let c := if r.isDomain then
          c.updSrv fun s => { s with writes := s.writes ++ [⟨key, .can k, [], c.clk.cyc⟩] }
        else c
      (c.answer .done).sdoSend k ok

/-- Download segment. -/
def Core.sdoDownSegment (c : Core) (k : Nat) (f : Bytes) : Core :=
  let cmd := leAt f 0 1
  match c.sdoNow k with
  | none => c.sdoAbort k 0 abCommand
  | some t =>
    if t.up then (c.sdoEnd k).sdoAbort k t.key abCommand
    else if cmd.testBit 4 ≠ t.toggle then (c.sdoEnd k).sdoAbort k t.key abToggle
    else
      let last := cmd.testBit 0
      let seg := slice f 1 (7 - field cmd 1 3)
      let data := t.data ++ seg
      let ok := leBytes 1 (0x20 + 16 * b2n t.toggle)
      let domain := match c.entry? t.key with | some r => r.isDomain | none => false
      let c := c.setSdo k (if last then none else some { t with toggle := !t.toggle, data := data, cyc := c.clk.cyc })
      let c := if domain then c.writeSegment (.can k) t.key t.data.length seg last
        else if last then c.writeFree (.can k) t.key .le data
        else c.answer .done
      c.sdoConfirm k t.key ok

/-- Initiate upload: expedited for up to four bytes, else the start of a segmented transfer with its size. -/
def Core.sdoUpload (c : Core) (r : Recorder) (k : Nat) (f : Bytes) : Core :=
  let key := odKey (leAt f 1 2) (leAt f 3 1)
  let c := c.sdoFresh k
  match c.readBytes r (.can k) key .le with
  | .error code => c.sdoAbort k key code
  | .ok b =>
    let c := (c.used 1).answer (.bytes b)
    if 1 ≤ b.length ∧ b.length ≤ 4 then
      c.sdoSend k (leBytes 1 (0x43 + 4 * (4 - b.length)) ++ sdoMux key ++ b)
    else (c.setSdo k (some ⟨key, true, false, b, c.clk.cyc⟩)).sdoSend k
      (leBytes 1 0x41 ++ sdoMux key ++ leBytes 4 b.length)

/-- Upload segment. -/
def Core.sdoUpSegment (c : Core) (k : Nat) (f : Bytes) : Core :=
  let cmd := leAt f 0 1
  match c.sdoNow k with
  | none => c.sdoAbort k 0 abCommand
  | some t =>
    if !t.up then (c.sdoEnd k).sdoAbort k t.key abCommand
    else if cmd.testBit 4 ≠ t.toggle then (c.sdoEnd k).sdoAbort k t.key abToggle
    else
      let seg := t.data.take 7
      let last := decide (t.data.length ≤ 7)
      let c := c.setSdo k (if last then none
        else some { t with toggle := !t.toggle, data := t.data.drop 7, cyc := c.clk.cyc })
      (c.answer (.bytes seg)).sdoSend k (leBytes 1 (16 * b2n t.toggle + 2 * (7 - seg.length) + b2n last) ++ seg)

/-- A request by its command specifier. -/
def Core.sdoServe (c : Core) (r : Recorder) (k : Nat) (f : Bytes) : Core :=
  match leAt f 0 1 / 32 with
  | 0 => c.sdoDownSegment k f
  | 1 => c.sdoDownload k f
  | 2 => c.sdoUpload r k f
  | 3 => c.sdoUpSegment k f
  | 4 => c.sdoEnd k
  | _ => (c.sdoFresh k).sdoAbort k (odKey (leAt f 1 2) (leAt f 3 1)) abCommand

/-- A request that has arrived: eight bytes, served, or kept while the executive stands still (R497). -/
def Core.sdoRequest (c : Core) (r : Recorder) (k : Nat) (f : Bytes) : Core :=
  if f.length ≠ 8 || !c.dictServes then c
  else if c.ply.unvoted.isSome then c.updSrv fun s => { s with waiting := s.waiting ++ [.sdo k f] }
  else c.sdoServe r k f

/-- The COB-ID on which a controller serves takes a frame (R409, R420). -/
def Core.sdoTakes (c : Core) (k : Nat) (x : CanFrame) : Bool :=
  match c.sdoNode k with
  | some id => !x.idword.testBit 31 && !x.idword.testBit 30 && frameId x.idword == 0x600 + id
  | none => false

/-- CAN_FRAME_RX: the SDO server, or the lowest matching filter. -/
def Core.canFrameRx (c : Core) (r : Recorder) (k : Nat) (x : CanFrame) (sof : Nat) : Core :=
  if c.sdoTakes k x then c.canTaken k x fun c => c.sdoRequest r k x.data else c.canReceive k x sof

/-- An SDO row: a request frame on the served COB-ID whose command specifier is one of the row's. -/
def Core.sdoRow (c : Core) (r : Recorder) (ccs : List Nat) (k : Nat) (f : Bytes) : Core :=
  match c.sdoNode k with
  | some id => if ccs.contains (leAt f 0 1 / 32) then c.canFrameRx r k ⟨0x600 + id, 8, false, false, f⟩ c.clk.now else c
  | none => c

/-- SDO_SEGMENT_TIMEOUT: 1,000 ms without a segment. -/
def Core.sdoTimeout (c : Core) (k : Nat) : Core :=
  match c.sdoNow k with
  | some t => ((c.atCyc (t.cyc + ms 1000)).sdoEnd k).sdoAbort k t.key abTimeout
  | none => c

end Sys2Proof.Machine
end

