-- ==== Sys2Proof/Machine/Window.lean ====
section
/-! DEFINITION. The masters' loads and stores: the memory window of the dictionary (R467 to R469), the router region
(Table 12.4), and the access faults of R18. A master is 0 for the Ply and n + 1 for SPn. -/

namespace Sys2Proof.Machine

/-! ## Results of an access -/

def masterPath (m : Nat) : Path := if m = 0 then .ply else .spindle (m - 1)

/-- A load returns its value. -/
def Core.loaded (c : Core) (m v : Nat) : Core :=
  (if m = 0 then c else c.setRd (m - 1) (v % 2 ^ 32)).answer (.value v)

/-- An access raises its exception. -/
def Core.accessFault (c : Core) (m : Nat) (t : Trap) : Core :=
  if m = 0 then c.plyTrap t else c.raise (m - 1) t

def faultOf (store : Bool) : Trap := if store then .storeAccess else .loadAccess

/-! ## The window control block (Table 14.4) -/

def Window.fresh : Window := ⟨0, 0, 0, false, zeros 1024⟩
def Core.window (c : Core) (m : Nat) : Window := c.srv.windows.getD m Window.fresh
def Core.updWindow (c : Core) (m : Nat) (f : Window → Window) : Core :=
  c.updSrv fun s => { s with windows := updAt f s.windows m }
def Core.winStatus (c : Core) (m code : Nat) : Core := c.updWindow m fun w => { w with status := code }

/-- A window access that raises the fault; it sets WIN.STATUS. -/
def Core.winFault (c : Core) (m : Nat) (store : Bool) (code : Nat) : Core :=
  ((c.winStatus m code).accessFault m (faultOf store)).abort code

/-- A load of a word of the block. -/
def Core.blockLoad (c : Core) (m addr : Nat) : Core :=
  let w := c.window m
  let o := addr - 0x42000000
  if o = 0 then c.loaded m w.hi
  else if o = 4 then c.loaded m w.status
  else if o = 8 then c.loaded m w.domOfs
  else if o = 0xC then c.loaded m (b2n w.last)
  else if 0x400 ≤ o ∧ o < 0x800 then c.loaded m (leAt w.buf (o - 0x400) 4)
  else c.winFault m false abAbsent

/-- A store to a word of the block; WIN.STATUS is read-only, bits 31:1 of WIN.DOM_CTRL are reserved. -/
def Core.blockStore (c : Core) (m addr v : Nat) : Core :=
  let o := addr - 0x42000000
  if o = 0 then (c.updWindow m fun w => { w with hi := v }).answer .done
  else if o = 4 then (c.winStatus m abReadOnly).abort abReadOnly
  else if o = 8 then (c.updWindow m fun w => { w with domOfs := v }).answer .done
  else if o = 0xC then
    if 1 < v then (c.winStatus m abRange).abort abRange else (c.updWindow m fun w => { w with last := v == 1 }).answer .done
  else if 0x400 ≤ o ∧ o < 0x800 then
    (c.updWindow m fun w => { w with buf := splice w.buf (o - 0x400) (leBytes 4 v) }).answer .done
  else c.winFault m true abAbsent

/-! ## Entries through the window -/

/-- The entry whose word an address is. -/
def winKey (addr : Nat) : Nat := odKey ((addr - 0x40000000) / 0x400) ((addr - 0x40000000) % 0x400 / 4)

/-- A segment of a DOMAIN or string entry goes into WIN.BUF. -/
def Core.winDomainLoad (c : Core) (m : Nat) (b : Bytes) : Core :=
  let seg := slice b (c.window m).domOfs 1024
  ((c.updWindow m fun w => { w with buf := splice w.buf 0 seg, status := 0 })).loaded m seg.length

/-- A load of a number; a wide one leaves bits 63:32 in WIN.HI. -/
def Core.winNumberLoad (c : Core) (m : Nat) (row : OdRow) (v : Nat) : Core :=
  if row.type.width = 64 then
    (c.updWindow m fun w => { w with hi := v / 2 ^ 32 % 2 ^ 32, status := 0 }).loaded m (v % 2 ^ 32)
  else (c.winStatus m 0).loaded m (leNat (encodeValue row.type .word v))

/-- A load of an entry. One that lacks its right completes with a free value. -/
def Core.winLoad (c : Core) (r : Recorder) (m k : Nat) : Core :=
  let p := masterPath m
  match c.checkRead p k with
  | .error code =>
    if code = abAbsent then c.winFault m false code
    else
      let c := (c.used 1).winStatus m code
      (c.loaded m (Config.freeNat (c.free - 1) % 2 ^ 32)).abort code
  | .ok row =>
    let c' := c.used 1
    if row.isDomain then c'.winDomainLoad m (c.domValue r p k row) else c'.winNumberLoad m row (c.number r p k row)

/-- A store to an entry: a number, the 64-bit value {WIN.HI, word} of a wide one, or a segment of `v` bytes from WIN.BUF. -/
def Core.winStore (c : Core) (m k v : Nat) : Core :=
  let p := masterPath m
  match c.entry? k with
  | none => c.winFault m true abAbsent
  | some row =>
    let w := c.window m
    let c :=
      if row.isDomain then
        if 1 ≤ v ∧ v ≤ 1024 then c.writeSegment p k w.domOfs (slice w.buf 0 v) w.last else c.abort abRange
      else c.writeFree p k .word (if row.type.width = 64 then leBytes 8 (w.hi * 2 ^ 32 + v) else leBytes 4 v)
    c.winStatus m c.replyCode

/-- An access of the dictionary window. -/
def Core.winAccess (c : Core) (r : Recorder) (m addr size : Nat) (store : Option Nat) : Core :=
  if size ≠ 4 || addr % 4 != 0 then (c.used 1).winFault m store.isSome (c.fresh 32)
  else match store with
    | some v => if addr < 0x42000000 then c.winStore m (winKey addr) v else c.blockStore m addr v
    | none => if addr < 0x42000000 then c.winLoad r m (winKey addr) else c.blockLoad m addr

/-! ## The router region (Table 12.4) -/

/-- A load; CLAIM claims for the Ply, and completes 10 cycles later (R434). -/
def Core.routerLoad (c : Core) (r : Recorder) (m addr : Nat) : Core :=
  let o := addr - 0x60000000
  if o = 0x4008 ∧ m = 0 then
    let (c, id) := c.evClaim 0
    (if id = 0 then c else c.eventClaimed id (c.clk.cyc + 10)).loaded 0 id
  else if o < 0x2000 then
    let base := match o % 16 / 4 with | 0 => 0x2C10 | 1 => 0x2C14 | 2 => 0x2C18 | _ => 0x2C1C
    (c.used 1).loaded m (c.value r (masterPath m) (srcKey base (o / 16)))
  else
    let t := (o - 0x4000) / 0x20
    if 0x4000 ≤ o ∧ t ≤ 32 ∧ o % 0x20 = 0 then c.loaded m (c.rd (Od.EV_T_THRESH t))
    else if 0x4000 ≤ o ∧ t ≤ 32 ∧ o % 0x20 = 4 then (c.used 1).loaded m (c.targetStatus t)
    else c.accessFault m .loadAccess

/-- A store, with the rights of each master. A TARGET that may not be named, a reserved bit (R12), the TARGET of a task's
event source (R426), or a configuration R427 refuses changes nothing. -/
def Core.routerStore (c : Core) (m addr v : Nat) : Core :=
  let o := addr - 0x60000000
  let s := o / 16
  let t := (o - 0x4000) / 0x20
  if o = 0x400C ∧ m = 0 then c.evComplete 0 v
  else if o < 0x2000 ∧ o % 16 = 0 ∧ m = 0 then
    if c.run == .stop && c.evCfgOk s v then c.evCfgStage s v else c
  else if o < 0x2000 ∧ o % 16 = 4 then
    if v &&& 0x3F0007 != v || (m == 0 && (!c.evTargetOk (field v 16 6) || (c.evTaskSource s && field v 16 6 != c.evTarget s)))
    then c else c.evCtrlStore s v (m == 0)
  else if 0x4000 ≤ o ∧ t ≤ 32 ∧ o % 0x20 = 0 ∧ (m = 0 ∨ m = t) then
    if v ≤ 16 then (c.wr (Od.EV_T_THRESH t) v).arbitrate 2 else c
  else c.accessFault m .storeAccess

def Core.routerAccess (c : Core) (r : Recorder) (m addr size : Nat) (store : Option Nat) : Core :=
  if size ≠ 4 || addr % 4 != 0 then c.accessFault m (faultOf store.isSome)
  else match store with
    | some v => c.routerStore m addr v
    | none => c.routerLoad r m addr

/-! ## Any access (R18, Table 00.7) -/

def inDictWindow (a : Nat) : Bool := between 0x40000000 a 0x43FFFFFF
def inRouter (a : Nat) : Bool := between 0x60000000 a 0x6000FFFF
def inSkeinRam (a : Nat) : Bool := between 0x18000000 a 0x181FFFFF
def inStaging (a : Nat) : Bool := between 0x14000000 a 0x1400FFFF
def inCreel (a : Nat) : Bool := between 0x10000000 a 0x107FFFFF
def inFlash (a : Nat) : Bool := between 0x20000000 a 0x2FFFFFFF
def inSram (a : Nat) : Bool := between 0x08000000 a 0x0800FFFF
def inVault (a : Nat) : Bool := between 0x70000000 a 0x70000FFF

/-- The master reaches the range for reading. -/
def mayLoad (m a : Nat) : Bool :=
  inCreel a || inStaging a || inSkeinRam a || inFlash a || inDictWindow a || inRouter a ||
    (if m = 0 then inTcm a || inVault a else inSram a)

/-- The master reaches the range for a plain store: no spindle stores to staging, nor to the descriptor and compensation
tables (R121, R137). -/
def mayStore (m a : Nat) : Bool :=
  inDictWindow a || inRouter a ||
    (if m = 0 then inTcm a || inVault a || inCreel a || inStaging a || inSkeinRam a
      else inSram a || between 0x10180000 a 0x107FFFFF)

/-- The master fetches instructions from the range: a spindle from the creel and its own SRAM only (R92), the Ply from
memory it can load from, not registers. -/
def mayFetch (m a : Nat) : Bool :=
  if m = 0 then mayLoad m a && !inDictWindow a && !inRouter a && !inVault a else inCreel a || inSram a

/-- The bytes of the vault as loads see them: the registers of Table 16.3, zero elsewhere. -/
def Vault.bytes (v : Vault) : Bytes :=
  leBytes 8 v.rtc ++ leBytes 8 v.offStamp ++ leBytes 8 v.skeinSeq ++ leBytes 4 v.bootCount ++ leBytes 4 v.vstatus ++
    zeros 32 ++ v.block ++ leBytes 4 v.retCrc

/-- A load of the Ply from a memory; from TCM, what the strands in step hold there (R55, R59). -/
def Core.plyLoad (c : Core) (r : Recorder) (a size : Nat) : Core :=
  if inCreel a then c.creelLoad none a size fun c v => c.loaded 0 v
  else if inStaging a then c.loaded 0 (c.arr.stage.word (a - 0x14000000) size)
  else if inSkeinRam a then c.loaded 0 (leNat ((List.range size).map fun i => r.ramByte (a - 0x18000000 + i)))
  else if inFlash a then c.loaded 0 (leAt (c.bank (if a < 0x28000000 then 0 else 1)).bytes ((a - 0x20000000) % 0x08000000) size)
  else if inVault a then c.loaded 0 (leAt c.vault.bytes (a - 0x70000000) size)
  else match c.stepping with
    | s :: _ => if inTcm a then c.loaded 0 ((c.strand s).tcm.word a size) else c
    | [] => c

/-- The declared scratch of the open job, in its local SRAM (Table 03.7). -/
def Core.inScratch (c : Core) (n a : Nat) : Bool :=
  match (c.spin n).job with
  | some j =>
    let w := c.descWord j 0x0C
    let lo := 0x08000000 + field w 16 16
    decide (lo ≤ a) && decide (a < lo + field w 0 16)
  | none => false

/-- A load that a tentative job performs at once (R126). -/
def Core.aheadLoadOk (c : Core) (n rec_ a : Nat) : Bool :=
  let declared := match c.record rec_ with
    | some x => x.ranges.any fun g => decide (g.addr ≤ a) && decide (a < g.addr + g.len)
    | none => false
  declared || c.inScratch n a || inStaging a || inFlash a ||
    (decide (c.rd Od.RA_RO_BASE ≤ a) && decide (a < c.rd Od.RA_RO_LIMIT))

/-- A spindle's load or store that reaches its range. -/
def Core.spinReach (c : Core) (r : Recorder) (n a size : Nat) (store : Option Nat) : Core :=
  if inDictWindow a then
    if c.ply.unvoted.isSome then c.later (.access (n + 1) a size store) else c.winAccess r (n + 1) a size store
  else if inRouter a then c.routerAccess r (n + 1) a size store
  else match store with
    | some v => c.spinStore n a size v
    | none =>
      if inStaging a then c.stageLoad n a size
      else if inSkeinRam a then c.setRd n (leNat ((List.range size).map fun i => r.ramByte (a - 0x18000000 + i)))
      else c.spinLoad n a size

/-! ## The instruction caches (R92): 64 sets of 4 lines of 64 bytes -/

/-- A line is brought in; one of a full set makes room for it. -/
def Spindle.fill (s : Spindle) (line : Nat) (content : Bytes) (cyc : Nat) : Spindle :=
  let set := s.icache.filter fun x => x.1 % 64 == line % 64
  let l := if set.length < 4 then s.icache else match set[Config.icacheVictim cyc % 4]? with
    | some x => s.icache.erase x
    | none => s.icache
  { s with icache := l ++ [(line, content)] }

def Spindle.cached (s : Spindle) (line : Nat) : Option Bytes := (s.icache.find? (·.1 == line)).map (·.2)

/-- A fetch of SPn: from its SRAM, or from the creel through its cache. -/
def Core.spinFetch (c : Core) (n a size : Nat) : Core :=
  if inSram a then c.answer (.value ((c.spin n).sram.word (a - 0x08000000) size))
  else
    let line := a / 64
    let c := if ((c.spin n).cached line).isSome then c
      else c.updSpin n fun s => s.fill line (c.creel.read (line * 64) 64) c.clk.cyc
    c.answer (.value (leAt (((c.spin n).cached line).getD []) (a % 64) size))

/-- ICACHE_PARITY_ERROR at an address: its line is invalidated, and the fetch is repeated from the creel (R92). -/
def Core.icacheParity (c : Core) (n a : Nat) : Core :=
  if n < c.spindles then
    let c := c.updSpin n fun s => { s with icache := s.icache.filter fun x => x.1 != a / 64 }
    (c.updSpin n fun s => s.fill (a / 64) (c.creel.read (a / 64 * 64) 64) c.clk.cyc).spinCorrected n 1
  else c

/-- The protection entries of SPn permit the access: `right` 0 load, 1 store, 2 fetch. -/
def Core.spinPmp (c : Core) (n a size right : Nat) : Bool := (c.spin n).cpu.allows 8 a size right

/-- Those of the strands, which hold the same in every strand in step. -/
def Core.plyPmp (c : Core) (a size right : Nat) : Bool := (c.strand (c.stepping.headD 0)).cpu.allows 16 a size right

/-- LOAD_STORE_ACCESS_FAULT for SPn: an access that its range or kind forbids, or the core's protection entries (R54, R90),
raises the exception; any other is made. A tentative job stalls before a trap entry and before what R126 names. -/
def Core.spinAccess (c : Core) (r : Recorder) (n a size : Nat) (kind : AccessKind) : Core :=
  if !c.spinRuns n || (c.spin n).blocked then c
  else
    let c := c.updSpin n fun s => { s with trap := none }
    let ahead := c.tentativeJob n
    match kind with
    | .fetch => if mayFetch (n + 1) a && c.spinPmp n a size 2 then c.spinFetch n a size else c.trapEntry n .instructionAccess
    | .load =>
      if !(mayLoad (n + 1) a && c.spinPmp n a size 0) then c.trapEntry n .loadAccess
      else match ahead with
        | some x => if c.aheadLoadOk n x a then c.spinReach r n a size none else c.stall n (.load a size)
        | none => c.spinReach r n a size none
    | .store v =>
      if !(mayStore (n + 1) a && c.spinPmp n a size 1) then c.trapEntry n .storeAccess
      else if ahead.isSome && !c.inScratch n a then c.stall n (.store a size v)
      else c.spinReach r n a size (some v)

/-- The same for the Ply, whose stores to memory are the voter's (R61). -/
def Core.plyAccess (c : Core) (r : Recorder) (a size : Nat) (kind : AccessKind) : Core :=
  if c.ply.unvoted.isSome then c
  else
    let c := { c with ply := { c.ply with trap := none } }
    match kind with
    | .fetch => if mayFetch 0 a && c.plyPmp a size 2 then c else c.accessFault 0 .instructionAccess
    | .load =>
      if !(mayLoad 0 a && c.plyPmp a size 0) then c.accessFault 0 .loadAccess
      else if inDictWindow a then c.winAccess r 0 a size none
      else if inRouter a then c.routerAccess r 0 a size none
      else c.plyLoad r a size
    | .store v =>
      if !(mayStore 0 a && c.plyPmp a size 1) then c.accessFault 0 .storeAccess
      else if inDictWindow a then c.winAccess r 0 a size (some v)
      else if inRouter a then c.routerAccess r 0 a size (some v)
      else c

/-- An access of a master, in the states in which programs and the executive run. -/
def Core.access (c : Core) (r : Recorder) (m a size : Nat) (kind : AccessKind) : Core :=
  if !c.dictServes then c else if m = 0 then c.plyAccess r a size kind else c.spinAccess r (m - 1) a size kind

/-! ## Writes on a path -/

/-- How a path carries a value (R462). -/
def Path.wire : Path → Wire
  | .ply => .word
  | .spindle _ => .word
  | .can _ => .le
  | .session _ => .be

/-- The master whose window a path is. -/
def Path.master : Path → Option Nat
  | .ply => some 0
  | .spindle n => some (n + 1)
  | _ => none

/-- A path on which a request can arrive: a running spindle that waits in no instruction, a controller that serves SDO, a
session that carries messages. -/
def Core.pathOpen (c : Core) : Path → Bool
  | .ply => true
  | .spindle n => c.spinRuns n && !(c.spin n).blocked
  | .can k => (c.sdoNode k).isSome
  | .session n => (c.session? n).any Session.serves

/-- A write of a whole value with what its path shows of it: the window sets WIN.STATUS, and an absent entry raises the
fault (R467). -/
def Core.writeNow (c : Core) (p : Path) (k : Nat) (data : Bytes) (f : Facts) : Core :=
  match p.master with
  | none => c.writeEntry p k p.wire data f
  | some m =>
    if (c.entry? k).isNone then c.winFault m true abAbsent
    else
      let c := c.writeEntry p k p.wire data f
      c.winStatus m c.replyCode

/-- The window address of an entry's word (Table 00.7). -/
def winAddr (k : Nat) : Nat := 0x40000000 + k / 256 * 0x400 + k % 256 * 4

/-- A tentative job that stalls before a store through its window (R126). -/
def Core.pathStalls (c : Core) : Path → Option Nat
  | .spindle n => if (c.tentativeJob n).isSome then some n else none
  | _ => none

/-- A write of a whole value on a path, `data` as the path carries it; while the executive stands still it waits (R497). -/
def Core.pathWrite (c : Core) (p : Path) (k : Nat) (data : Bytes) (f : Facts) : Core :=
  if !c.dictServes || !c.pathOpen p then c
  else match c.pathStalls p with
    | some n => c.stall n (.write k data)
    | none =>
      if c.ply.unvoted.isSome then c.updSrv fun s => { s with waiting := s.waiting ++ [.write p k data] }
      else c.writeNow p k data f

/-- A value as a path carries it. -/
def pathBytes (p : Path) (k v : Nat) : Bytes :=
  match p.wire, odRow? k with
  | .le, some r => leBytes r.type.bytes v
  | .be, some r => beBytes r.type.bytes v
  | _, _ => leBytes 4 v

/-- A write of a number on a path. -/
def Core.pathNumber (c : Core) (p : Path) (k v : Nat) : Core :=
  (c.used 3).pathWrite p k (pathBytes p k v) c.freeFacts

/-- A segment of a DOMAIN entry, with WIN.STATUS on a window, where an absent entry raises the fault (R467). -/
def Core.segmentNow (c : Core) (p : Path) (k ofs : Nat) (seg : Bytes) (last : Bool) : Core :=
  match p.master with
  | some m =>
    if (c.entry? k).isNone then c.winFault m true abAbsent
    else
      let c := c.writeSegment p k ofs seg last
      c.winStatus m c.replyCode
  | none => c.writeSegment p k ofs seg last

/-- A read of an entry on a path of SDO or of a session: its bytes as the path carries them, or an abort. -/
def Core.readNow (c : Core) (r : Recorder) (p : Path) (k : Nat) : Core :=
  match c.readBytes r p k p.wire with
  | .ok b => c.answer (.bytes b)
  | .error code => c.abort code

/-- A segment of a DOMAIN entry written on a path. -/
def Core.pathSegment (c : Core) (p : Path) (k ofs : Nat) (seg : Bytes) (last : Bool) : Core :=
  if !c.dictServes || !c.pathOpen p then c
  else match c.pathStalls p with
    | some n => c.stall n (.segment k ofs seg last)
    | none =>
      if c.ply.unvoted.isSome then c.updSrv fun s => { s with waiting := s.waiting ++ [.segment p k ofs seg last] }
      else c.segmentNow p k ofs seg last

/-- A read of an entry on a path; on a memory window it is a load of the entry's word (R469). -/
def Core.pathRead (c : Core) (r : Recorder) (p : Path) (k : Nat) : Core :=
  if !c.dictServes || !c.pathOpen p then c
  else match p.master with
    | some m => c.access r m (winAddr k) 4 .load
    | none =>
      if c.ply.unvoted.isSome then c.updSrv fun s => { s with waiting := s.waiting ++ [.read p k] }
      else c.readNow r p k

/-! ## Requests that waited (R497) -/

def Core.serveWaiting (c : Core) (r : Recorder) : Waiting → Core
  | .access m a size v =>
    let c := if m = 0 then c else c.updSpin (m - 1) fun s => { s with stalled := none }
    if inRouter a then c.routerAccess r m a size v
    else if inDictWindow a then c.winAccess r m a size v
    else if m = 0 then c.plyLoad r a size
    else c.spinReach r (m - 1) a size v
  | .message n msg => c.dsServe r n msg
  | .sdo k f => c.sdoServe r k f
  | .segment p k ofs seg last => c.segmentNow p k ofs seg last
  | .read p k => c.readNow r p k
  | .write p k data => (c.used 3).writeNow p k data c.freeFacts

/-- While the executive runs, what has waited is served in the order of arrival. -/
def Core.serveAll (c : Core) (r : Recorder) : Core :=
  if c.ply.unvoted.isSome || !c.dictServes || c.srv.waiting.isEmpty then c
  else
    let l := c.srv.waiting
    l.foldl (fun (c : Core) w => c.serveWaiting r w) (c.updSrv fun s => { s with waiting := [] })

end Sys2Proof.Machine
end

