-- ==== Sys2Proof/Machine/Power.lean ====
section
/-! DEFINITION. Power, reset, the vault domain and start-up (chapter 16; R24, R37, R86, R88, R458, R463, R488, R502). Every
operation here takes and answers the event recorder beside the core, since supply loss and start-up act on both. -/

namespace Sys2Proof.Machine

/-! ## What is lost and what is kept (R463, R509, R533) -/

/-- The counters kept since manufacture, and the constants of the module. -/
def lastingKey (k : Nat) : Bool :=
  (match odRow? k with | some r => r.acc == .const | none => false) ||
    (elem? (Od.DIO_OUT_SWITCHES 0) 48 k).isSome || (elem? (Od.DIO_DEMAG_MJ 0) 48 k).isSome ||
    (elem? (Od.DIO_THERM_CYCLES 0) 48 k).isSome || (elem? (Od.UIO_THERM_CYCLES 0) 24 k).isSome || (elem? (Od.UIO_DISSIP_J 0) 24 k).isSome ||
    (elem? (Od.SO_SWITCHES 0) 8 k).isSome || k == Od.PROG_EXCH_COUNT || k == Od.CS_COMMITS || k == Od.HEALTH_POWERED_H ||
    k == Od.HEALTH_VBAT_USED_MAH

/-- The core without power: every register at its Default, nothing in progress. -/
def Core.blank : Core where
  od := []
  doms := []
  free := 0
  out := []
  reply := .none
  clk := { now := 0, cyc := 0, running := false, startCyc := 0, tickStart := 0, tickCyc := 0, nextB := 0,
           schedEnd := 0, state := .free, acq := [], acqNet := 0, locked := false, stepDue := false, source := 0, okRun := 0, rates := [], lastValid := 0,
           holdSince := 0 }
  run := .off
  role := .alone
  toggling := false
  ply := { strands := List.replicate 3 Strand.idle, agreesel := 0, agreelo := 0, agreehi := 0, samples := [],
           defaultedAt := none, agreeAt := 0, cycleOfs := 0, instretOfs := 0, unvoted := none,
           sovSkip := false, forced := false, split := false, heldReq := none, released := none, holdWork := false, trap := none }
  react := { active := [], queue := [], safeFrom := .stop, safeEsc := false, safeQuiet := 0, cmd := none, initCmd := none,
             startDone := false }
  pwr := { supply := false, low := false, overV := false, resetLow := false, vbat := false, slotId := 0, t0 := 0,
           prevState := 0, acqOver := false, acqStart := 0, holdOff := true, bankFallback := false,
           execVersion := 0, failed := false }
  vault := ⟨0, 0, 0, 0, 0, 0, 0, 0, 0, 0, 0⟩
  creel := []
  arr := { sp := List.replicate 32 Spindle.idle, uid := 0, parked := [], compares := [], records := [], stage := [],
           marks := [], finals := [], tentative := [], poison := [], suspended := [], saves := [], dropped := [],
           holds := [], committed := [], copies := [], released := false, retiredAt := [], unhosted := [], hostless := [] }
  loops := { staged := [], kept := [], clears := [], attrs := [], view := [], restampAll := false, stepped := false, shown := [] }
  prog := { banks := [⟨[], none, []⟩, ⟨[], none, []⟩], image := none, instances := [], events := [], cycles := [],
            l0Mark := (0, 0), changeAt := 0, transferred := false, transferEnd := 0, retainDue := 0, retainWant := false, remotes := [],
            outputs := ⟨none, none, 0, [], false⟩ }
  router := Router.fresh
  io := { dio := List.replicate 48 DioChan.fresh, counts := List.replicate 8 0, inputs := List.replicate 8 (false, false),
          tp := List.replicate 8 TpSource.fresh, reversed := [], lpUp := [], holds := [], holdOver := [], acks := [], soAck := none,
          forcedOff := [], dark := [] }
  uio := { ch := List.replicate 24 UioChan.fresh, hart := List.replicate 24 HartChan.fresh, ugWait := [], ugStart := [],
           acks := [] }
  safety := { evals := List.replicate 3 (List.replicate 24 PairEval.fresh), pulseFails := List.replicate 48 0,
              atPulse := 0, resets := [], axes := List.replicate 4 Axis.fresh, conns := List.replicate 16 ScrimConn.fresh,
              request := 0, avail := false, crcAt := 0, rsoZero := 0 }
  net := { sides := [NetSide.fresh, NetSide.fresh], ready := [], bufs := [], copied := [], taken := [] }
  sent := []
  pair := Pair.fresh
  can := List.replicate 4 CanCtl.fresh
  srv := { windows := List.replicate 33 Window.fresh, sels := [], writes := [], sdo := List.replicate 4 none, sessions := [],
           waiting := [], cset := none, fails := List.replicate 16 0, locks := List.replicate 16 none, endCommission := false,
           commissionEnd := 0, due := [], dueDoms := [], changed := none, copies := [none, none], noProgram := false,
           cfgRejected := false }
  monitor := ⟨[], 0, [], false⟩

/-- The die loses its state: by supply loss, or held in reset. The vault, the flash banks with the configuration record and
the retain log, the stored off states of IOUT_PASSIVE and the counters kept since manufacture stay. -/
def Core.lose (c : Core) (into : RunState) : Core :=
  let b := Core.blank
  { b with
    od := c.od.filter fun p => lastingKey p.1
    doms := c.doms.filter fun p => lastingKey p.1
    free := c.free
    run := into
    pwr := { b.pwr with supply := c.pwr.supply, resetLow := c.pwr.resetLow, vbat := c.pwr.vbat, failed := c.pwr.failed }
    vault := c.vault
    prog := { b.prog with banks := c.prog.banks }
    uio := { b.uio with ch := c.uio.ch.map fun a => { UioChan.fresh with cell := a.cell } }
    srv := { b.srv with copies := c.srv.copies }
    monitor := { b.monitor with samples := c.monitor.samples } }

/-! ## The vault domain (R526 to R528) -/

/-- The supervisor trips: the validity bits clear, and all other content is undefined. -/
def Core.vaultTrip (c : Core) : Core :=
  let f (i : Nat) : Nat := Config.freeNat (c.free + i)
  { c.used 10 with vault := {
      rtc := f 0 % 2 ^ 64, offStamp := f 1 % 2 ^ 64, skeinSeq := f 2 % 2 ^ 64, bootCount := f 3 % 2 ^ 32, vstatus := 0,
      bootBank := f 4 % 2 ^ 8, lastState := f 5 % 2 ^ 8, resetCause := f 6 % 2 ^ 8, slotId := f 7 % 2 ^ 8,
      debugSplits := f 8 % 2 ^ 32, retCrc := f 9 % 2 ^ 32 } }

/-- VBAT_SUPERVISOR_TRIP: VBAT falls below the supervisor threshold; while it is the source, the vault is lost (Table 15.1:
without both supplies the station is OFF). -/
def Core.vbatTrip (c : Core) : Core :=
  let c := { c with pwr := { c.pwr with vbat := false } }
  if c.run = .vault then { c.vaultTrip with run := .off } else c

/-- VBAT_RESTORE: VBAT rises above the threshold; in OFF it powers the vault domain. -/
def Core.vbatRestore (c : Core) : Core :=
  let c := { c with pwr := { c.pwr with vbat := true } }
  if c.run = .off then { c with run := .vault } else c

/-- RTC_WRITE: once per hour while LOCKED (R528). -/
def Core.hourlyRtc (c : Core) : Core :=
  if c.clk.running && c.clk.state == TimeState.locked then c.writeRtc else c

/-! ## Supply events (R521, R538) -/

/-- LOGIC_SUPPLY_LOW: L+ below the threshold for 1 ms, and again above the start threshold for 1 ms. -/
def Core.supplyLow (c : Core) (low : Bool) : Core :=
  if !c.alive || c.pwr.low == low then c else { c with pwr := { c.pwr with low := low } }.log 0x1001

/-- LOGIC_SUPPLY_OVERVOLTAGE, set and cleared. -/
def Core.supplyOver (c : Core) (high : Bool) : Core :=
  if !c.alive || c.pwr.overV == high then c else { c with pwr := { c.pwr with overV := high } }.log 0x1002

/-- DIE_OVERTEMPERATURE: an L4 reaction. -/
def Core.dieHot (c : Core) : Core := if c.alive then c.fault' 0x1005 0 else c

/-! ## The power-fail sequence (R522) and RESET_N (R533) -/

/-- POWER_FAIL: the hold-up rail has reached the reserved energy. `n` mirror entries are programmed before the reset level;
`rtc` is the vault's counter at the changeover. Without VBAT the station is OFF. -/
def Core.powerFail (c : Core) (r : Recorder) (n rtc : Nat) : Core × Recorder :=
  if !c.pwr.supply then (c, r)
  else
    let up := c.alive
    let q : Request := ⟨0x1003, codeSev 0x1003, c.fresh 32, Config.freeNat (c.free + 1) % 2 ^ 32, none⟩
    let r := if up then (r.direct c.writer q).powerFail n else r
    let c := c.used 2
    let last := c.run.code
    let c := if up && c.ply.unvoted.isNone then c.vaultWrite fun v => { v with lastState := last } else c
    let seq := if up && c.ply.unvoted.isNone then r.lastSeq else c.vault.skeinSeq
    let c := c.lose (if c.pwr.vbat then .vault else .off)
    let c := { c with
      pwr := { c.pwr with supply := false, failed := true }
      vault := { c.vault with offStamp := rtc, rtc := rtc, skeinSeq := seq, vstatus := putBit c.vault.vstatus 3 true } }
    (if c.pwr.vbat then c else c.vaultTrip, r.clearRam)

/-- RESET_N_ASSERT: 10 µs or longer resets the die at once, without a power-fail sequence. -/
def Core.resetAssert (c : Core) (r : Recorder) : Core × Recorder :=
  let c := { c with pwr := { c.pwr with resetLow := true } }
  if c.pwr.supply then (c.lose .boot, r.clearRam) else (c, r)

/-! ## Start-up: steps 1 to 3, VAULT to BOOT -/

/-- VBAT_USED grows by the time off at 30 nA, as the vault counter measures it (R512): 3 mAh in 100,000 h. -/
def Core.drawVbat (c : Core) : Core :=
  let v := c.vault
  if v.vstatus.testBit 3 && v.vstatus.testBit 0 then
    c.wr Od.HEALTH_VBAT_USED_MAH (F32.add (c.rd Od.HEALTH_VBAT_USED_MAH)
      (F32.ofFrac (3 * (v.rtc - v.offStamp)) (32768 * 360000000)))
  else c

/-- The boot ROM verifies the selected bank, then the other one once; each failure is recorded (R488). Answers the bank
booted from, none if both fail. -/
def Core.selectBank (c : Core) (ok : List Bool) (bank : Nat) : Core × Option Nat :=
  if ok.getD bank false then (c, some bank)
  else
    let c := c.log 0x0E01
    if ok.getD (1 - bank) false then ({ c with pwr := { c.pwr with bankFallback := true } }, some (1 - bank))
    else (c.log 0x0E01, none)

/-- The newest copy whose CRC is correct (R524). -/
def newestCopy (l : List (Option CfgCopy)) (ok : List Bool) : Option CfgCopy :=
  l.zipIdx.foldl (fun (best : Option CfgCopy) p =>
    match p.1, best with
    | some x, none => if ok.getD p.2 false then some x else none
    | some x, some b => if ok.getD p.2 false && decide (b.serial < x.serial) then some x else some b
    | none, b => b) none

/-- SEC.EXEC_MIN_VERSION as the configuration record holds it, which is restored only after the boot ROM's work. -/
def Core.leastVersion (c : Core) (ok : List Bool) : Nat :=
  match newestCopy c.srv.copies ok with
  | some x => (x.vals.get? Od.SEC_EXEC_MIN_VERSION).getD (odDefault Od.SEC_EXEC_MIN_VERSION)
  | none => odDefault Od.SEC_EXEC_MIN_VERSION

/-- Steps 1 to 3 of Table 16.6 for a reset cause. Answers the bank booted from and VSTATUS as latched. -/
def Core.bootRom (c : Core) (x : StartUp) (cause : Nat) : Core × Option Nat × Nat :=
  let v := { c.vault with rtc := x.rtc }
  let c := { c with vault := v, run := .boot, monitor := { c.monitor with rtcBad := !v.vstatus.testBit 0 } }
  let c := (c.measureVbat x.vbat).drawVbat
  let c := { c with vault := { c.vault with
    bootCount := (v.bootCount + 1) % 2 ^ 32, resetCause := cause, vstatus := putBit v.vstatus 3 false } }
  let c := { c with pwr := { c.pwr with failed := false, prevState := v.lastState } }
  let home := if v.vstatus.testBit 2 then v.bootBank % 2 else 0
  let (c, bank) : Core × Nat := if cause = 3 then (c.log 0x1007, 1 - home) else (c, home)
  let (c, found) := c.selectBank ((List.range 2).map fun b => c.verifies 1 (c.leastVersion x.copies) (c.bank b).execImage) bank
  (c, found, v.vstatus)

/-! ## Step 4, SELFTEST -/

/-- A strand's BIST at start-up: 1 passes (R88). -/
def Core.startBist (c : Core) (s result : Nat) : Core :=
  let c := c.wr (Od.STRAND_BIST_RESULT s) result
  if result = 1 then c.setStrandBit s 0 true else (c.retireStrand s 5).faultPart 0x0203 1

/-- LBIST of the strands; fewer than two leave FAILED. -/
def Core.selfTest (c : Core) (x : StartUp) : Core :=
  let c := c.setRun .selftest
  ([0, 1, 2].foldl (fun (c : Core) s => c.startBist s (x.strands.getD s 1)) c).afterRetire

/-! ## Step 5, INIT -/

/-- Entries of the configuration record (R463, R477). -/
def recordKey (k : Nat) : Bool :=
  match odRow? k with
  | some r => r.acc == .rws || protectedKey k r
  | none => false

/-- The entries of a rejected record that are kept (R502). -/
def keptKey (k : Nat) : Bool := between 0x2900 (k / 256) 0x29FF || between 0x2E00 (k / 256) 0x2EFF

/-- A copy's values take their place, those of `p`. -/
def Core.restoreFrom (c : Core) (x : CfgCopy) (p : Nat → Bool) : Core :=
  let c := (x.vals.filter fun v => p v.1).foldl (fun (c : Core) v => c.wr v.1 v.2) c
  (x.doms.filter fun v => p v.1).foldl (fun (c : Core) v => c.setDom v.1 v.2) c

/-- The record is discarded: CFG_REJECTED, STATE.LAST_REJECT and the 0x0F03 record (R502). -/
def Core.rejectRecord (c : Core) (code : Nat) : Core :=
  ((c.updSrv fun s => { s with cfgRejected := true }).wr Od.STATE_LAST_REJECT code).logSev 0x0F03 6
    (c.fresh 32) (Config.freeNat (c.free + 1)) |>.used 2

/-- The reject codes that a restored configuration meets, with the program image that start-up loads beside it where that image
verifies (R502). -/
def Core.startRejects (c : Core) : List Nat :=
  let b := c.activeBank
  match (if c.verifies 2 0 b.progImage then b.content else none) with
  | some im =>
    let after := c.withImage im
    after.configRejects ++ after.mapRejects im ++ after.loopRejects ++ rejectIf (after.recordBad? im) 0x0901
  | none => c.configRejects

/-- The configuration record is restored (R463, R502). Answers the copy restored. A module that has never written one starts
with the Defaults. -/
def Core.restoreConfig (c : Core) (ok : List Bool) : Core × Option CfgCopy :=
  match newestCopy c.srv.copies ok with
  | some x =>
    let full := c.restoreFrom x fun _ => true
    match lowest full.startRejects with
    | none => (full, some x)
    | some code => ((c.restoreFrom x keptKey).rejectRecord code, some x)
  | none =>
    if c.srv.copies.all Option.isNone then (c, none)
    else
      let any := (c.srv.copies.filterMap id).head?
      let c := match any with | some x => c.restoreFrom x keptKey | none => c
      ((c.rejectRecord (c.fresh 16)).used 1, none)

/-- What configuration does at once at start-up: the channels' modes, the controllers, the CRC of the safety parameters, the
staging map, COMMISSIONING. -/
def Core.configure (c : Core) : Core :=
  let c := c.applyDioCfg.applyUioCfgs
  let c : Core := { c with can := c.can.map fun k => { k with cfgDue := true } }
  let c : Core := if c.safetyFuse = 0 then c
    else (c.updSafety fun x => { x with crcAt := c.clk.cyc }).wr Od.SAFE_CFG_CRC c.safetyCrc
  let c := c.updSrv fun s => { s with
    commissionEnd := if c.rd Od.SEC_COMMISSIONING = 1 then c.monoMs + 1000 * c.rd Od.SEC_COMMISSION_MAX_S else 0 }
  c.setBlockMap.outputsRestart

/-- Every slot starts in the MODE that the image gives it (R169). -/
def Core.imageModes (c : Core) (im : ImageSet) : Core :=
  c.validSlots.foldl (fun (c : Core) k =>
    let m := match im.slots.find? (·.1 == k) with | some p => field (leAt p.2 0 4) 26 2 | none => 0
    c.setSlotWord k 0 (setField (c.slotWord k 0) 26 2 m)) c

/-- The program image of the bank booted from is verified and loaded (R169, R209, R488); `kept` are the changes that the
configuration record holds for it. A remote I/O station and the witness run no program (R499). -/
def Core.loadProgram (c : Core) (kept : List LoopChange) : Core :=
  let b := c.activeBank
  let runs := c.roleFuse = 0 ∨ c.roleFuse = 2
  if !c.verifies 2 0 b.progImage then (c.updSrv fun s => { s with noProgram := true }).log 0x0E01
  else match b.content with
  | none => c
  | some im =>
    if !runs then c
    else
      let c := c.useImage im
      let c := (kept.foldl Core.makeChange c).imageModes im
      { c with loops := { c.loops with kept := kept } }.loadRetained

/-- The retained block: its slot ID is compared, DEBUG_SPLITS restored, and the block rewritten (R86, R528, R535). -/
def Core.restoreBlock (c : Core) (valid : Bool) (slot splits : Nat) : Core :=
  let v := c.vault
  let n := max (if valid then v.debugSplits else 0) splits
  let c := if valid && v.slotId != slot then c.log 0x1008 else c
  let c := if valid then c else c.log 0x1006
  let c := { c.wr Od.PLY_DEBUG_SPLITS n with pwr := { c.pwr with slotId := slot } }
  c.vaultWrite fun v => { v with
    slotId := slot, debugSplits := n, bootBank := if valid then v.bootBank else 0 }

/-- The tick number agreed by the strands at start-up, source 3 of the agreement exchange, gives the first boundary (R34,
Table 02.4). Each strand's sample is what its tick generator holds, and these are alike (log entry 172). -/
def Core.agreeStart (c : Core) : Core :=
  let n := c.clk.nextB / c.period
  let c := c.agreeRun 3 [n, n, n]
  let b := (c.ply.agreehi * 2 ^ 32 + c.ply.agreelo) * c.period
  { c with clk := { c.clk with nextB := b, schedEnd := b } }

/-- Step 5, but for its duration: the tick generator, the configuration, the program. -/
def Core.enterInit (c : Core) (x : StartUp) (bank vstatus : Nat) : Core :=
  let c := (c.atCyc x.bootNs).setRun .init
  let valid := vstatus.testBit 2
  let home := if valid then c.vault.bootBank % 2 else 0
  let c := c.wr Od.PROG_ACTIVE_BANK bank
  let (c, copy) := c.restoreConfig x.copies
  let c := (c.startTicks (if vstatus.testBit 0 then some (c.vault.rtc / 32768) else none)).agreeStart
  let c := c.restoreBlock valid (x.slot % 64) (match copy with | some y => y.splits | none => 0)
  let c := c.configure
  let c := { c with pwr := { c.pwr with execVersion := (imageHeader (c.bank bank).execImage).version } }
  let c := c.loadProgram (match copy with | some y => if bank = home then y.kept else [] | none => [])
  let c := c.wr Od.PROG_INACTIVE_ID (c.bank (1 - bank)).imageId
  c.updSrv fun s => { s with changed := none }

/-- The last sequence number goes to the vault, while the voter releases its stores (R450, R461). -/
def Core.noteSeq (c : Core) (r : Recorder) : Core :=
  if c.ply.unvoted.isSome || c.run == .failed then c
  else { c with vault := { c.vault with skeinSeq := r.lastSeq, vstatus := putBit c.vault.vstatus 1 true } }

/-- Start-up from t0 through the actions of step 5 (Table 16.6). The Skein writer starts in SELFTEST; the requests made so
far follow its first record (R458). -/
def Core.startUp (c : Core) (r : Recorder) (x : StartUp) (cause : Nat) : Core × Recorder :=
  let (c, bank, vstatus) := c.bootRom x cause
  match bank with
  | none => ({ c with run := .failed, out := [] }, r)
  | some b =>
    let v := if vstatus.testBit 1 then some c.vault.skeinSeq else none
    let c := c.selfTest x
    let r := r.clearRam.startWriter c.writer v c.vault.bootCount
    if c.run = .failed then (c, r) else ((c.noteSeq r).enterInit x b vstatus, r)

/-- LOGIC_SUPPLY_RISE: L+ above the start threshold, from VAULT or OFF; `recovered`: it rose while the power-fail sequence
ran (R523). The die stays in reset while RESET_N is low. -/
def Core.supplyRise (c : Core) (r : Recorder) (x : StartUp) (recovered : Bool) : Core × Recorder :=
  if c.pwr.supply then (c, r)
  else
    let c := { c with pwr := { c.pwr with supply := true } }
    if c.pwr.resetLow then ({ c with run := .boot }, r)
    else c.startUp r x (if recovered && c.pwr.failed then 4 else 1)

/-- RESET_N_RELEASE after `held` ns low: start-up begins; 2.0 s to 10.0 s is a long reset (R534). -/
def Core.resetRelease (c : Core) (r : Recorder) (x : StartUp) (held : Nat) : Core × Recorder :=
  if !c.pwr.resetLow then (c, r)
  else
    let c := { c with pwr := { c.pwr with resetLow := false } }
    if !c.pwr.supply then (c, r)
    else c.startUp r x (if 2000000000 ≤ held ∧ held ≤ 10000000000 then 3 else 2)

/-! ## The end of start-up (Table 16.6, steps 6 to 8) -/

/-- Time acquisition is over (R38, R39), or skipped with TIME.SOURCE 0. -/
def Core.timeDone (c : Core) : Bool := c.pwr.acqOver || c.clk.locked || c.clk.source == 0

/-- START_UP_COMPLETE at a tick boundary: step 5 has ended, time acquisition is over, the role is decided. In a variant
without PAIR_EN, and with PAIR.ENABLE FALSE, partner detection takes no time. -/
def Core.startComplete (c : Core) : Core :=
  if c.run != .init || !c.react.startDone || !c.timeDone then c
  else
    let c := if !c.pair.detected && !c.pairMember then c.detectRole else c
    if !c.pair.detected || c.role == .syncing || c.pair.startWait.isSome then c
    else
      let mode := match c.react.initCmd with | some run => b2n run | none => c.rd Od.STATE_START_MODE
      let c := { c with react := { c.react with initCmd := none } }
      let go := mode == 1 && !c.srv.noProgram && !c.srv.cfgRejected
      let c := if go then c.enterRun false else c.enterStop
      let ms := (c.clk.cyc - c.pwr.t0) / 1000000
      let c := c.logA 0x1004 ms (c.vault.resetCause + c.pwr.prevState * 256 + c.pwr.slotId * 65536)
      c.vaultWrite fun v => { v with bootBank := c.rd Od.PROG_ACTIVE_BANK }

/-! ## The configuration record (R463, R524) -/

/-- CONFIG_RECORD_WRITE: both copies, one after the other. -/
def Core.writeRecord (c : Core) : Core :=
  if c.srv.changed.isNone || !c.alive || c.run == .failed || c.ply.unvoted.isSome then c
  else
    let serial := c.srv.copies.foldl (fun n x => match x with | some y => max n y.serial | none => n) 0 + 1
    let copy : CfgCopy := ⟨serial, c.od.filter fun p => recordKey p.1, c.doms.filter fun p => recordKey p.1, c.loops.kept,
      c.rd Od.PLY_DEBUG_SPLITS⟩
    c.updSrv fun s => { s with changed := none, copies := [some copy, some copy] }

end Sys2Proof.Machine
end

