-- ==== Sys2Proof/Machine/Boundary.lean ====
section
/-! DEFINITION. One tick: the boundary with its latch and its executive work, the release of the bobbins, and the commit
of a group (R23 to R32; the work of the other chapters at those instants). -/

namespace Sys2Proof.Machine

/-! ## The boundary -/

/-- The executive's busy time: of the last second in PLY.LOAD, and the highest of any tick in PLY.LOAD_PEAK. What a tick
took is measured, so it is open (log entry 17). -/
def Core.noteLoad (c : Core) : Core :=
  let tick := Config.plyLoad c.free % 101
  let last := Config.plyLoad (c.free + 1) % 101
  ((c.used 2).peak Od.PLY_LOAD_PEAK tick).wr Od.PLY_LOAD last

/-- The registers and marks of the tick that ends. -/
def Core.closeTick (c : Core) : Core :=
  let c := (c.noteLoad.wr Od.STAGE_FINAL_LAST c.arr.finals.length).wr Od.COMMIT_STATUS (maskOf c.arr.copies)
  (c.updArr fun a => { a with
    finals := [], copies := [], committed := [], released := false
    sp := a.sp.map fun s => { s with batchWord := 0 } }).evPulse 450

/-- A controller's bit-timing, filter or buffer configuration has changed: it is set up anew at this boundary, which ends
its SDO transfer (R401). -/
def canKey (k : Nat) : Option Nat :=
  let idx := k / 256
  let sub := k % 256
  if between 0x2B01 idx 0x2B04 then some (idx - 0x2B01)
  else if between 0x2B08 idx 0x2B0B then some (idx - 0x2B08)
  else if idx = 0x2B10 ∨ idx = 0x2B20 then some (sub - 1)
  else if idx = 0x2B34 then some ((sub - 1) / 4)
  else none

/-- Accepted configuration that waited for this boundary takes effect (R260, R401). -/
def Core.applyDue (c : Core) : Core :=
  let due := c.srv.due
  let doms := c.srv.dueDoms
  if due.isEmpty && doms.isEmpty then c
  else
    let c := due.foldl (fun (c : Core) x => (c.wr x.1 x.2).valueTaken x.1 x.2) c
    let c := doms.foldl (fun (c : Core) x => c.setDom x.1 x.2) c
    let ctls := ((due.map (·.1) ++ doms.map (·.1)).filterMap canKey).eraseDups
    let c := ctls.foldl (fun (c : Core) k => (c.updCtl k fun x => { x with cfgDue := true }).setSdo k none) c
    (c.updSrv fun s => { s with due := [], dueDoms := [] }).cfgChanged

/-- The counters with a count error in the tick that ends. -/
def Core.countErrors (c : Core) : Nat := maskOf ((List.range 8).filter fun k => c.bit (Od.COUNT_STATUS k) 1)

/-- The keys of the process image inputs with their quality words. -/
def inputKey (k : Nat) : Bool := decide (0x600000 ≤ k) && decide (k < 0x700000)

/-- The input latch (R25), with the pair states as captured at it. A STANDBY module keeps the snapshot it is given and holds
its own latch for the comparison (R342, R348). Answers the captured fields and the count errors. -/
def Core.latch (c : Core) (sar : List Nat) (weak : Nat) : Core × List (Nat × Nat) × Nat :=
  let errs := c.countErrors
  let c := (List.range 24).foldl Core.sinRun c
  let captured := [0, 1, 2].map c.fieldWords
  let before := c.od.filter fun p => inputKey p.1
  let c := (c.latchDio.latchCounters).latchUio c.clk.tickCyc sar weak
  let c := (c.remoteLatches c.clk.tickStart).scrimSnaps
  let c := (c.objectLatches c.clk.tickStart).canLatches c.clk.tickStart
  (c, captured, errs) |> fun x =>
    if c.role != .standby then x
    else
      let own := c.ownLatch
      let od := (c.od.filter fun p => !inputKey p.1)
      let c := before.foldl (fun (c : Core) p => c.wr p.1 p.2) { c with od := od }
      (c.updPair fun p => { p with latch := own }, captured, errs)

/-- The keep-alive of the executive is back: an ACTIVE that had stopped takes SYNCING (R353). -/
def Core.keepAlive (c : Core) : Core :=
  if !c.pair.stopped || !c.tickWork then c
  else
    let c := c.updPair fun p => { p with stopped := false }
    if c.pairMember && c.role == .active then c.becomeSyncing else c

/-- The step of the tick that begins (R342, R344, R347). `own` is the latch of the boundary before. -/
def Core.beginStep (c : Core) (own : List (Nat × Nat)) : Core × Option StepRecord :=
  if c.role == .standby && c.mayTake then
    match c.recordDue with
    | some r =>
      let latch := c.pair.latch
      let c := (c.updPair fun p => { p with latch := own }).compareInputs r
      let c := (c.updPair fun p => { p with latch := latch }).applySnapshot r
      let c := (c.updPair fun p => { p with stepNow := some r.step, idle := false }).skipSteps
      let c := (r.changes.foldl Core.applyStepChange c).wr Od.PAIR_STEP r.step
      (c, some r)
    | none =>
      let c := c.updPair fun p => { p with
        stepNow := none, idle := true, skipped := p.skipped ++ [c.rd Od.TICK_NUMBER - 1] }
      ((c.inc32 Od.PAIR_RECORDS_MISSED).log 0x0909, none)
  else
    let c := c.updPair fun p => { p with stepNow := none, idle := false }
    if c.drivingRole && c.tickWork then
      let c := c.skipSteps
      (if c.pairEn then c.wr Od.PAIR_STEP (c.rd Od.TICK_NUMBER) else c, none)
    else (c, none)

/-- The changes that the executive makes between the latch and the release (R483, R485, R495). -/
def Core.boundaryChanges (c : Core) : Core :=
  let c : Core := if c.tickWork then c.csCommit.commissionBoundary.closePlain else c
  let c := c.applyStateCmd.startComplete
  if c.run != .safe && c.ply.unvoted.isNone then { c with ply := { c.ply with holdWork := false } } else c

/-- The tasks that the boundary releases, and whether the releases of a record could not be made (R179, R344). -/
def Core.boundaryReleases (c : Core) (r : Option StepRecord) : Core × List Nat :=
  if c.changeoverDue then (c, [])
  else match c.role, r with
    | .standby, some x =>
      let (c, released, diverged) := c.recordReleases x
      (if diverged then c.hashMismatch else c, released)
    | .standby, none => (c, [])
    | .syncing, _ => (c, [])
    | _, _ => c.tasksStep

/-- The bobbins are loaded for the release: run-ahead records first (R127), then the job lists (R102). -/
def Core.loadBobbins (c : Core) (service : List (Nat × Nat)) (released : List Nat) : Core :=
  let all := c.run != .run || c.role == .syncing || c.ply.holdWork || c.pair.idle
  let (c, handled) := c.aheadCheck released all
  let c : Core := if c.ply.holdWork then c else service.zipIdx.foldl (fun (c : Core) p => c.loadService p.2 p.1) c
  let c := (released.foldl (fun (c : Core) t => c.loadTask t handled) c).settleLoads
  released.foldl Core.checkComplete c

/-- TICK_BOUNDARY: the clock's work, the latch, and the executive's work between the latch and the release (R23, R33). -/
def Core.tickBoundary (c : Core) (x : BoundaryFacts) : Core :=
  if !c.clk.running then c
  else
    let c := ((c.endReactions.missTests (c.rd Od.TICK_COUNT + 1)).clockBoundary.followNow).closeTick.exchangeEnd.applyDue
    let c := c.applyDioCfg.applyUioCfgs
    let c : Core := if x.ready && !c.react.startDone then
        { c with react := { c.react with startDone := true }, pwr := { c.pwr with acqStart := c.clk.cyc } }
      else c
    let own := c.pair.latch
    let (c, captured, errs) := c.latch x.sar x.weak
    let c := c.planFrames.canBoundary.watchTick
    let c := c.coldBoundary.keepAlive.orderBoundary.witnessRole
    let (c, r) := c.beginStep own
    let c := c.rejoinAll.boundaryChanges.boundaryInterrupts.changeoverCheck
    let (c, released) := c.boundaryReleases r
    let c := c.loadBobbins x.service released
    let c := (if c.tickWork then c.loopBoundary else c).evCfgApply
    (c.agreeFields captured).sfEvaluate errs (if c.role == .standby then r.map (·.fields) else none)

/-- PROG_CHANGEOVER: between the latch and the release of the changeover boundary; then the tasks of the new program
(R206). -/
def Core.progChangeover (c : Core) : Core :=
  let (c, made) := c.changeover
  if !made then c
  else
    let (c, released) := c.boundaryReleases (if c.role == .standby then c.recordDue else none)
    c.loadBobbins [] released

/-! ## The release -/

/-- The step record of an ACTIVE pair member goes out with the release (R343); its length is a free value, since no rule
lays out every section. -/
def Core.sendRecord (c : Core) : Core :=
  let c := if c.pairMember && c.role == .active && (c.run == .stop || c.run == .run) then
      (c.emit (.stepRecord (c.stepRecord (c.fresh 32)))).wr Od.PAIR_REC_BYTES (c.fresh 32) |>.used 1
    else c
  c.updPair fun p => { p with outcomes := [], changes := [] }

/-- JOB_RELEASE, at phase 0 + 1,000 cycles (R23, R102, R141). From an un-votable event or SAFE until the first boundary
after it no bobbin is loaded and no batch starts; entries already loaded wait (R73, R75). -/
def Core.jobRelease (c : Core) : Core :=
  if !c.clk.running || c.rd Od.TICK_COUNT == 0 || c.arr.released then c
  else
    let c := c.atCyc (c.clk.tickCyc + 1000)
    let c := (if c.ply.holdWork then c else c.releaseLoads c.clk.cyc).updArr fun a => { a with released := true }
    let c := (List.range 32).foldl Core.wakeRelease c
    let c := if c.ply.holdWork then c else c.startBatches c.clk.cyc
    (c.endLoopWaits.evPulse 449).sendRecord

/-! ## Commits -/

/-- The word's destination among the built-in ones: the DIO and UIO channels with their place in the process image, and the
safe-output request (R192, R232, R275, R309). -/
def Core.commitBuiltIn (c : Core) (w v : Nat) : Core :=
  if w = 0x3E40 then c.updSafety fun s => { s with request := v % 2 ^ 8 }
  else
    match (List.range c.dioCount).find? fun i => dioStage i == w with
    | some i => (c.commitDio i (v.testBit 0)).imageOut (odKey 0x7000 (i + 1)) 1 (v % 2)
    | none =>
      match (List.range c.uioCount).find? fun i => uioStage i == w with
      | some i => (c.commitUio i v).imageOut (odKey 0x7010 (i + 1)) 4 v
      | none => c

/-- An output map entry's value goes to the process image and to its destination (R192, R193). -/
def Core.commitEntry (c : Core) (e : OutEntry) : Core :=
  let v := c.outValue e
  let c := (c.wr e.key v).imageOut e.key ((typeBits e.type + 7) / 8) v
  match e.kind with
  | 2 => c.copyToImage e.dest e.ofs e.type v
  | 3 => c.copyToFrame e.dest e.ofs e.type v
  | 4 => c.copyToCan e.dest e.ofs e.type v
  | _ => c

/-- The words that a group copies now: made final before its commit cycle (R29, R122). -/
def Core.commitWords (c : Core) (g : Nat) : List Nat :=
  (c.arr.marks.filter fun m => decide (m.cyc < c.commitCycle c.clk.tickCyc g) && c.wordGroup m.word == g).map (·.word)

/-- The words are copied to their destinations and are no longer marked (R29). -/
def Core.copyWords (c : Core) (g : Nat) : Core :=
  let ws := c.commitWords g
  let c := ws.foldl (fun (c : Core) w =>
    let v := c.stageWord w
    let c := c.commitBuiltIn w v
    if c.pairMember then c.noteWord g w v else c) c
  let c := (c.outEntries.filter fun e => ws.any e.owns).foldl Core.commitEntry c
  c.updArr fun a => { a with
    marks := a.marks.filter fun m => !ws.contains m.word
    copies := if ws.isEmpty then a.copies else a.copies ++ [g] }

/-- The outputs of a remote station's field groups as the image, in RUN (R499), or the reactions give them, at a commit of
their group (R199, R200, Table 05.6). -/
def Core.applyOutputs (c : Core) (g : Nat) : Core :=
  let o := c.prog.outputs
  if c.roleFuse != 1 || !o.todo.contains g then c
  else
    let dios := (List.range c.dioCount).filter fun i => c.rd (Od.FG_OUT_CG (i / 8)) == g
    let uios := (List.range c.uioCount).filter fun i => c.rd (Od.UG_OUT_CG (i / 8)) == g
    let done (c : Core) : Core := c.updProg fun p => { p with outputs := { p.outputs with todo := p.outputs.todo.filter (· != g) } }
    match o.image with
    | some (stamp, img) =>
      if c.run != .run || decide (c.clk.now ≤ stamp) then c
      else
        let bits := beAt img 0x18 8
        let c := dios.foldl (fun (c : Core) i => c.commitDio i (bits.testBit i)) c
        let c := uios.foldl (fun (c : Core) i => c.commitUio i (beAt img (0x20 + 4 * i) 4)) c
        done ((c.wr Od.RSTA_STATE 1).wr Od.RSTA_OUT_LAST_TICK (c.rd Od.TICK_NUMBER))
    | none =>
      if !o.reactDue then c
      else
        let c := dios.foldl (fun (c : Core) i => match c.rd (Od.RSTA_DIO_REACT i) with
          | 0 => c.commitDio i false
          | 2 => c.commitDio i true
          | _ => c) c
        let c := uios.foldl (fun (c : Core) i => match c.rd (Od.RSTA_UIO_REACT i) with
          | 0 => if c.uioIsOut i then c.updAch i fun a => { a with off := true } else c
          | 2 => c.commitUio i (c.rd (Od.RSTA_UIO_SUBST i))
          | _ => c) c
        let c : Core := if c.rd Od.RSTA_STATE = 1
          then (c.wr Od.RSTA_STATE 2).fault' 0x0508 (unitRemote (c.rd Od.RSTA_NUMBER)) else c
        done c

/-- The groups and units whose outputs follow a commit: what ends at it, and the stages (R242, R243, R276, R284). -/
def Core.commitUnits (c : Core) (g : Nat) : Core :=
  let c := ((List.range c.fgCount).filter fun u => c.rd (Od.FG_OUT_CG u) == g).foldl
    (fun (c : Core) u => (c.commitFg u).driveGroup u) c
  ((List.range 3).filter fun u => decide (8 * u < c.uioCount) && c.rd (Od.UG_OUT_CG u) == g).foldl Core.commitUg c

/-- COMMIT_GROUP_COPY at a group's commit phase (R28, R29). While the executive stands still the groups copy nothing, and
only the safe-output voter acts (R73, R508). -/
def Core.commitGroup (c : Core) (g : Nat) : Core :=
  if !c.clk.running || c.rd Od.TICK_COUNT == 0 || 8 ≤ g || c.arr.committed.contains g then c
  else
    let c := c.atCyc (c.commitCycle c.clk.tickCyc g)
    let so (c : Core) : Core := if c.rd Od.SO_CG = g then c.soCommit else c
    let pass (c : Core) : Core := c.updArr fun a => { a with committed := a.committed ++ [g] }
    if c.ply.holdWork then pass (so c)
    else
      let c := ((c.copyWords g).applyOutputs g).commitUnits g
      let c := ((so c).scrimTxGroup g).imageTxGroup g
      let c := (pass (c.markLate g)).evPulse (441 + g)
      if c.slack then c.hashEnd else c

end Sys2Proof.Machine
end

