-- ==== Sys2Proof/Machine/Settle.lean ====
section
/-! DEFINITION. What follows every command, whatever it is: the executive serves what has waited, the hardware that depends on
roles, states and gates follows them, and the record requests of the command reach the recorder (R311, R338, R449, R461,
R497, R498). -/

namespace Sys2Proof.Machine

/-- A command begins: nothing sent, no record requested. -/
def Core.starting (c : Core) : Core := { c with out := [], sent := [] }

/-- The output stages, the HART requests that need a drive and the CAN buffers follow a change of the gating (R290, R406,
R498). -/
def Core.followGates (c before : Core) : Core :=
  if c.gateKey = before.gateKey then c else c.driveDios.driveSos.driveUios.hartDrives.canGate

/-- The hold of the outputs by hardware ends with the first enable (R253). -/
def Core.endHoldOff (c : Core) : Core :=
  if c.pwr.holdOff && c.fieldGate && c.interlock then { c with pwr := { c.pwr with holdOff := false } } else c

/-- A change of TIME.STATE is a pulse of source 493 (Table 12.1). -/
def Core.followTime (c before : Core) : Core := if c.clk.state = before.clk.state then c else c.evPulse 493

/-- A change of SCRIM.STATE of connection r is a pulse of source 425 + r (Table 12.1). -/
def Core.followScrim (c before : Core) : Core :=
  (List.range 16).foldl (fun c r => if c.scrimShown r = before.scrimShown r then c else c.evPulse (425 + r)) c

/-- What ends with the command, whatever it is: a register transfer of a strand that has lasted 400 cycles (R69), a forced-off
condition (R311), the copies that wait for a comparison slot (R114), level-0
cycles (R186), and the request for a re-step of a station that has left STOP (R48). -/
def Core.endConditions (c : Core) : Core :=
  let c := c.endTransfers.endForced.parkWaiting.refillLevel0
  if c.run = .stop then c else c.cancelReStep

/-- What a command leaves to be done at once: where time has passed, draft requests that wait are decided anew (R109). Nothing
while the logic is without power or in reset. -/
def Core.settle (c before : Core) (r : Recorder) : Core :=
  if !c.alive then c
  else
    let c : Core := if c.clk.cyc = before.clk.cyc then c else c.drafted
    let c := ((c.serveAll r).endConditions).judgeAvailable.settlePair.endHoldOff
    (((c.followGates before).followTime before).followScrim before).egressAll

/-- The requests of a command reach the queue; in FAILED the queue is programmed at once (R449, R461). -/
def Core.report (c : Core) (qs : List Request) (r : Recorder) : Recorder :=
  let r := r.requests qs
  if c.run = .failed then r.flushFailed c.writer else r

end Sys2Proof.Machine
end

