-- ==== Sys2Proof/Machine/SpindleEvents.lean ====
section
/-! DEFINITION. The event router as a spindle sees it: ev.claim, ev.done, and the machine external interrupt (R99, R126,
R433, R435, R436). -/

namespace Sys2Proof.Machine

/-- EV_CLAIM: ev.claim on SPn; a tentative job stalls before it. -/
def Core.spinClaim (c : Core) (n w : Nat) : Core :=
  c.xdraft n .evClaim w fun c =>
    if (c.tentativeJob n).isSome then c.stall n .evClaim
    else
      let (c, id) := c.evClaim (n + 1)
      c.setRd n id

/-- EV_DONE: ev.done on SPn with the identifier in rs1. -/
def Core.spinDone (c : Core) (n w rs1 : Nat) : Core :=
  c.xdraft n .evDone w fun c =>
    if (c.tentativeJob n).isSome then c.stall n (.evDone rs1) else c.evComplete (n + 1) rs1

/-- EV_INTERRUPT_TAKE: the offer to SPn asserts MEIP. A spindle asleep in tick.wait, or in WFI (`wfi`), wakes and counts; the
interrupt is taken where external interrupts are enabled (`mie`), with the sleeping tick.wait to be executed again; else
tick.wait returns to sleep. A tentative job stalls before the trap entry. -/
def Core.interruptTake (c : Core) (n : Nat) (mie wfi : Bool) : Core :=
  if !c.spinRuns n || c.offerNow (n + 1) == 0 then c
  else
    let c : Core := if (c.spin n).waiting || wfi then c.inc32 (Od.EV_T_WAKES (n + 1)) else c
    if !mie then c
    else if (c.tentativeJob n).isSome then c.stall n .interrupt
    else (c.updSpin n fun s => { s with waiting := false, wake := none }).interrupted n 11

end Sys2Proof.Machine
end

