-- ==== Sys2Proof/Machine/Rows.lean ====
section
/-! DEFINITION. What a few commands do over the operations of the chapters: writes on a path with the facts of their chapter,
frames of the station EtherType, the window rows, the control of event sources, and the recorder's own work. -/

namespace Sys2Proof.Machine

/-! ## Frames of NET.ETHERTYPE (R386) -/

/-- A received frame of a KIND: its header is checked and removed; one that is wrong is discarded and counted. -/
def Core.kindRx (c : Core) (kind n : Nat) (frame : Bytes) (take : Core → Bytes → Core) : Core :=
  if !c.clk.running then c
  else if beAt frame 0 1 == kind && beAt frame 1 1 == 1 && beAt frame 2 2 + 4 == frame.length && 4 ≤ frame.length then
    take c (frame.drop 4)
  else c.inc32 (Od.NET_RX_ERRORS n)

/-- RELEASE_ORDER_RX: a frame of a network, or the bare message relayed over J3. -/
def Core.releaseRow (c : Core) (relay : Bool) (n : Nat) (m : Bytes) : Core :=
  if relay then c.releaseOrderRx true n m else c.kindRx 4 n m fun c m => c.releaseOrderRx false n m

/-! ## Writes on a path -/

/-- A descriptor word, an attribute or the data of a table, or a whole table (R168). -/
def loopKey (k : Nat) : Bool :=
  (k / 256 == 0x2312 && k != Od.LOOP_W_OUT && k != Od.LOOP_W_CLEAR) || k == Od.COMP_SCALE || k == Od.COMP_OFFSET ||
    k == Od.COMP_MODE || k == Od.COMP_DATA || k == Od.LOOP_TABLE || k == Od.COMP_TABLES

/-- A write on a path that no fact of the field decides. -/
def Core.pathData (c : Core) (p : Path) (k : Nat) (data : Bytes) : Core := (c.used 3).pathWrite p k data c.freeFacts

def Core.pathLoop (c : Core) (p : Path) (k : Nat) (data : Bytes) : Core := if loopKey k then c.pathData p k data else c

/-- A write to a protected entry (R477, R478). -/
def Core.pathStage (c : Core) (p : Path) (k : Nat) (data : Bytes) : Core :=
  match c.entry? k with
  | some r => if protectedKey k r then c.pathData p k data else c
  | none => c

/-- PROG.CMD = 3 with the partner's state (R344). -/
def Core.pathArm (c : Core) (p : Path) (partner : Bool) : Core :=
  (c.used 3).pathWrite p Od.PROG_CMD (pathBytes p Od.PROG_CMD 3) { c.freeFacts with partner := partner }

/-- FG.ACK with what LPg is (R243). -/
def Core.pathAckGroup (c : Core) (p : Path) (g v : Nat) (above : Bool) : Core :=
  (c.used 3).pathWrite p (Od.FG_ACK g) (pathBytes p (Od.FG_ACK g) v) { c.freeFacts with above := above }

/-- SO.ACK with the conditions that persist (R251). -/
def Core.pathAckSafe (c : Core) (p : Path) (v persist : Nat) : Core :=
  (c.used 3).pathWrite p Od.SO_ACK (pathBytes p Od.SO_ACK v) { c.freeFacts with persist := persist }

/-! ## Event sources (Table 12.4) -/

/-- A write of EV.S.CTRL: a master stores to the router region, the other paths write the entry. -/
def Core.evControl (c : Core) (r : Recorder) (p : Path) (s v : Nat) : Core :=
  match p.master with
  | some m => c.access r m (0x60000004 + 16 * s) 4 (.store v)
  | none => c.pathNumber p (srcKey 0x2C14 s) v

/-- A write of EV.S.CFG. -/
def Core.evConfig (c : Core) (r : Recorder) (p : Path) (s v : Nat) : Core :=
  match p.master with
  | some m => c.access r m (0x60000000 + 16 * s) 4 (.store v)
  | none => c.pathNumber p (srcKey 0x2C10 s) v

/-! ## The window rows (R468, R469) -/

/-- A window access of the word of a wide entry, or of a DOMAIN or string entry (`domain`). -/
def Core.winRow (c : Core) (r : Recorder) (m k : Nat) (domain : Bool) (store : Option Nat) : Core :=
  match c.entry? k with
  | none => c
  | some row =>
    if row.isDomain != domain || !(domain || row.type.width == 64) then c
    else c.access r m (winAddr k) 4 (match store with | some v => .store v | none => .load)

/-! ## The recorder (R450, R453 to R455) -/

/-- The Skein writer can store: the executive runs and the voter releases (R461). -/
def Core.skeinWrites (c : Core) : Bool := c.ply.unvoted.isNone && c.run != .failed

/-- What a written entry does beside the ring: source 490 and the vault's sequence number (R450). -/
def Core.skeinWritten (c : Core) (r r' : Recorder) (sev : Nat) : Core :=
  let c : Core := if sev != 0 && decide (c.rd Od.EV_SKEIN_SEV ≤ sev) then c.evPulse 490 else c
  if r'.lastSeq = r.lastSeq then c else c.noteSeq r'

/-- SKEIN_WRITE. -/
def Core.skeinWrite (c : Core) (r : Recorder) : Core × Recorder :=
  if !c.skeinWrites then (c, r)
  else
    let (r', sev) := r.writeNext c.writer
    (c.skeinWritten r r' sev, r')

/-- SKEIN_REFILL of one code, at its next refill instant. -/
def Core.skeinRefill (c : Core) (r : Recorder) (code : Nat) : Core × Recorder :=
  let period := c.rd (Od.SKEIN_REFILL_MS (codeSevMax code - 1))
  if period = 0 || (skeinCode? code).isNone || c.run == .failed then (c, r)
  else
    let t := r.refillInstant c.writer code period c.clk.cyc
    let c := c.atCyc (ms t)
    let (r', sev) := r.refill c.writer code t c.skeinWrites
    (c.skeinWritten r r' sev, r')

/-- SKEIN_MIRROR_PROGRAM. -/
def Core.skeinMirror (c : Core) (r : Recorder) (ok : Bool) : Core × Recorder := (c, r.mirrorProgram ok)

/-- SKEIN_FLASH_ERASE. -/
def Core.skeinErase (c : Core) (r : Recorder) (ok : Bool) : Core × Recorder := (c, r.erase ok)

end Sys2Proof.Machine
end

