-- ==== Sys2Proof/Machine/State.lean ====
section
/-! DEFINITION. The state of the block: the queue of waiting commands, everything the spec gives the module (`Core`), and the
event recorder. -/

namespace Sys2Proof.Machine

/-- The state. -/
structure State where
  /-- The commands that wait, first in, first out. -/
  pending : List Instr
  core : Core
  /-- Skein (chapter 13). -/
  skein : Recorder
deriving DecidableEq, Repr

/-- What stops the block. Its faults are states of its own (FAILED, SAFE), so no command raises one: the type has no
constructor. -/
inductive Fault where
deriving DecidableEq, Repr

/-- A command without a meaning. No command of this model is refused. -/
inductive Refusal where
  /-- Raised by an arm of the dispatch that has no meaning yet; safe: nothing is claimed of what the command does. -/
  | notModelled (mnemonic : String)
deriving DecidableEq, Repr

/-- The recorder of a module that has recorded nothing: every sector of the flash ring but the first is still to be used, the
first one is erased. -/
def Recorder.blank : Recorder :=
  { queue := [], dropRun := 0, ring := [], lastSeq := 0, buckets := [], mirror := [], mirrorRun := 0, flash := [],
    erased := List.range 256, retired := [], overwritten := 0, suppressed := 0, summaries := 0, bootSeq := 0,
    mirrorLost := 0, flashErases := 0, lost := List.replicate 7 0 }

/-- The module in reset: supplied, RESET_N low, BOOT (R533; log entry 3). -/
def State.reset : State where
  pending := []
  core := { Core.blank with
    run := .boot, pwr := { Core.blank.pwr with supply := true, resetLow := true, vbat := true } }
  skein := Recorder.blank

end Sys2Proof.Machine
end

