-- ==== Sys2Proof/Machine/Glue.lean ====
section
/-! DEFINITION. How a command acts on the state: on the core, on the recorder, or on the supplies, with what follows every
command. -/

namespace Sys2Proof.Machine

abbrev Outcome := Host.Outcome State Fault Refusal

/-- What a command has done is settled, and its record requests reach the recorder; those of one command are of one core
cycle, in ascending code, unless the command takes time (`sorted`) (R449). -/
def State.finish (st : State) (sorted : Bool) (x : Core × Recorder) : State :=
  let c := x.1.settle st.core x.2
  { st with core := { c with out := [] }, skein := c.report (if sorted then sortByCode c.out else c.out) x.2 }

/-- A command on the recorder and the core: the draft requests of the present cycle are decided before it (R109). Without
power and in reset nothing happens. -/
def State.record (st : State) (f : Core → Recorder → Core × Recorder) : Outcome :=
  .next (st.finish true (if st.core.alive then f st.core.starting.drafted st.skein else (st.core.starting, st.skein)))

/-- A command on the core, which may read the recorder. -/
def State.act (st : State) (f : Core → Recorder → Core) : Outcome := st.record fun c r => (f c r, r)

/-- A job.pop: requests of one cycle are decided together, so it decides none that came before it (R109). -/
def State.pop (st : State) (f : Core → Core) : Outcome :=
  .next (st.finish true (if st.core.alive then (f st.core.starting, st.skein) else (st.core.starting, st.skein)))

/-- An event of the supplies, of RESET_N or of the vault domain. -/
def State.power (st : State) (f : Core → Recorder → Core × Recorder) : Outcome :=
  .next (st.finish false (f st.core.starting st.skein))

/-- With nothing commanded one core cycle passes while the logic is powered and out of reset (log entry 1). -/
def State.idle (st : State) : State :=
  st.finish true (if st.core.alive then st.core.starting.drafted.pass 1 else st.core.starting, st.skein)

end Sys2Proof.Machine
end

