-- ==== Sys2Proof/Machine/CanCmd.lean ====
section
/-! DEFINITION. The meanings of the commands of the CAN controllers (chapter 11). -/

namespace Sys2Proof.Machine

/-- CAN_LAUNCH (R403): at a buffer's launch instant its shadow is loaded, replaced or deferred. -/
def execCanLaunch (k : Fin 4) (busy : Bool) (st : State) : Outcome := st.act fun c _ => c.canLaunch k busy

/-- CAN_FRAME_TX_END (R406): A transmitted CAN frame ends in success or failure and the buffer is retried or returned
to IDLE. -/
def execCanFrameTxEnd (k : Fin 4) (ok : Bool) (st : State) : Outcome := st.act fun c _ => c.frameTxEnd k ok

/-- CAN_ARBITRATION_LOST (R405): A buffer on the bus loses arbitration and is re-offered, or becomes CANCELLED if a
cancel is pending. -/
def execCanArbitrationLost (k : Fin 4) (st : State) : Outcome := st.act fun c _ => c.arbitrationLost k

/-- CAN_BUS_ERROR (R413): A detected bus error updates the error counters and states. -/
def execCanBusError (k : Fin 4) (kind : Fin 8) (tx first : Bool) (st : State) : Outcome :=
  st.act fun c _ => c.canBusError k kind tx first

/-- CAN_BUSOFF_RECOVERY (R413): after 128 occurrences of 11 recessive bits the controller leaves bus-off. -/
def execCanBusoffRecovery (k : Fin 4) (st : State) : Outcome := st.act fun c _ => c.busOffRecovery k

/-- CAN_INTEGRATION_COMPLETE (R401): after 11 consecutive recessive bits the controller leaves INTEGRATING and takes
part on the bus. -/
def execCanIntegrationComplete (k : Fin 4) (st : State) : Outcome := st.act fun c _ => c.integrated k

/-- CAN_TXB_CANCEL (R407): writing 0x01 to CAN.TXB_CMD cancels a buffer's request. -/
def execCanTxbCancel (p : Path) (b : Fin 12) (v : Nat) (st : State) : Outcome :=
  st.act fun c _ => c.pathNumber p (Od.CAN_TXB_CMD b) v

/-- CAN_FRAME_RX (R409): A received CAN frame is taken by the SDO server or the lowest matching filter. -/
def execCanFrameRx (k : Fin 4) (x : CanFrame) (sof : Nat) (st : State) : Outcome :=
  st.act fun c r => c.canFrameRx r k x sof

/-- CAN_RX_OBJECT_AGED (R410): A CAN receive object without a frame for MAX_AGE ticks sets AGED. -/
def execCanRxObjectAged (o : Fin 128) (st : State) : Outcome := st.act fun c _ => c.canObjectAged o

/-- CAN_Q_ACK (R411): writing n to CAN.Q_ACK releases the n oldest queue entries. -/
def execCanQAck (p : Path) (q : Fin 16) (v : Nat) (st : State) : Outcome :=
  st.act fun c _ => c.pathNumber p (Od.CAN_Q_ACK q) v

/-- TT_REFERENCE_LAUNCH (R416): A time master offers the reference message at its reference instant. -/
def execTtReferenceLaunch (k : Fin 4) (busy : Bool) (st : State) : Outcome :=
  st.act fun c _ => c.ttRefLaunch k busy

/-- TT_REFERENCE_RX (R417): A follower takes a reference message as the cycle's sync mark. -/
def execTtReferenceRx (k : Fin 4) (x : CanFrame) (sof : Nat) (st : State) : Outcome :=
  st.act fun c _ => c.ttRefRx k x sof

/-- TT_REFERENCE_MISSED (R417): no reference for 1.5 basic cycles puts the follower in MISSED. -/
def execTtReferenceMissed (k : Fin 4) (st : State) : Outcome := st.act fun c _ => c.ttMissed k

/-- TT_FOLLOWER_LOST (R417): TT.LOSS_LIMIT cycles without a reference put the follower in LOST. -/
def execTtFollowerLost (k : Fin 4) (st : State) : Outcome := st.act fun c _ => c.ttLost k

/-- CAN_CMD_SLEEP (R418): CAN.CMD = 0x01 ends pending requests and puts the controller to sleep. -/
def execCanCmdSleep (p : Path) (k : Fin 4) (st : State) : Outcome :=
  st.act fun c _ => c.pathNumber p (Od.CAN_CMD k) 1

/-- CAN_SLEEP_ENTERED (R418): the transceiver enters low-power mode and ASLEEP is set. -/
def execCanSleepEntered (k : Fin 4) (st : State) : Outcome := st.act fun c _ => c.sleepEntered k

/-- CAN_CMD_WAKE (R419): CAN.CMD = 0x02 wakes an asleep controller. -/
def execCanCmdWake (p : Path) (k : Fin 4) (st : State) : Outcome :=
  st.act fun c _ => c.pathNumber p (Od.CAN_CMD k) 2

/-- CAN_BUS_WAKE (R419): the selected bus wake event wakes the controller. -/
def execCanBusWake (k : Fin 4) (e : WakeEvent) (st : State) : Outcome := st.act fun c _ => c.canBusWake k e

/-- CAN_CMD_RECOVER (R413): CAN.CMD = 0x03 starts bus-off recovery. -/
def execCanCmdRecover (p : Path) (k : Fin 4) (st : State) : Outcome :=
  st.act fun c _ => c.pathNumber p (Od.CAN_CMD k) 3

end Sys2Proof.Machine
end

