-- ==== Sys2Proof/Machine/DictionaryCmd.lean ====
section
/-! DEFINITION. The meanings of the commands of the dictionary, the memory window, Countersign and security (chapter
  14). -/

namespace Sys2Proof.Machine

/-- DICTIONARY_WRITE (R465): A write to an entry without its own row is checked in order and applied or aborted. -/
def execDictionaryWrite (p : Path) (key : Nat) (data : Bytes) (st : State) : Outcome :=
  st.act fun c _ => c.pathData p key data

/-- WIN_WIDE_LOAD (R468): A window load of a wide entry returns bits 31:0 and copies bits 63:32 to WIN.HI. -/
def execWinWideLoad (m : Fin 33) (key : Nat) (st : State) : Outcome :=
  st.act fun c r => c.winRow r m key false none

/-- WIN_WIDE_STORE (R468): A window store to a wide entry writes {WIN.HI, word} as one request. -/
def execWinWideStore (m : Fin 33) (key v : Nat) (st : State) : Outcome :=
  st.act fun c r => c.winRow r m key false (some v)

/-- WIN_DOMAIN_LOAD (R469): A window load of a DOMAIN entry copies a segment into WIN.BUF. -/
def execWinDomainLoad (m : Fin 33) (key : Nat) (st : State) : Outcome :=
  st.act fun c r => c.winRow r m key true none

/-- WIN_DOMAIN_STORE (R469): A window store to a DOMAIN entry writes a segment from WIN.BUF. -/
def execWinDomainStore (m : Fin 33) (key v : Nat) (st : State) : Outcome :=
  st.act fun c r => c.winRow r m key true (some v)

/-- DOMAIN_LOCK_TIMEOUT (R471): A DOMAIN write lock ends after 5 s without a segment, leaving the entry unchanged. -/
def execDomainLockTimeout (p : Path) (key : Nat) (st : State) : Outcome := st.act fun c _ => c.domainTimeout p key

/-- CONFIG_RECORD_WRITE (R463): the configuration record is written to both flash banks after a change. -/
def execConfigRecordWrite (st : State) : Outcome := st.act fun c _ => c.writeRecord

/-- CS_STAGE_WRITE (R478): A write to a protected entry opens or extends the change set. -/
def execCsStageWrite (p : Path) (key : Nat) (data : Bytes) (st : State) : Outcome :=
  st.act fun c _ => c.pathStage p key data

/-- CS_CMD_SEAL (R480): CS.CMD = 1 seals the set, drawing NONCE and fixing CS.CONTENT and CS.DIGEST. -/
def execCsCmdSeal (p : Path) (st : State) : Outcome := st.act fun c _ => c.pathNumber p Od.CS_CMD 1

/-- CS_CMD_ABANDON (R480): CS.CMD = 2 abandons the change set. -/
def execCsCmdAbandon (p : Path) (st : State) : Outcome := st.act fun c _ => c.pathNumber p Od.CS_CMD 2

/-- CS_SIGN (R481): A signature written to CS.SIGN is checked and accepted or refused. -/
def execCsSign (p : Path) (sig : Bytes) (st : State) : Outcome := st.act fun c _ => c.pathData p Od.CS_SIGN sig

/-- CS_WINDOW_EXPIRY (R480): A SEALED set without its second signature within CS.WINDOW_S expires. -/
def execCsWindowExpiry (st : State) : Outcome := st.act fun c _ => c.csExpiry

/-- CS_IDLE_ABANDON (R478): an OPEN set without a staging write for 600 s is abandoned. -/
def execCsIdleAbandon (st : State) : Outcome := st.act fun c _ => c.csIdle

/-- CREDENTIAL_LOCK_EXPIRY (R475): A credential locked for 300 s is unlocked. -/
def execCredentialLockExpiry (i : Fin 16) (st : State) : Outcome := st.act fun c _ => c.lockExpiry i

/-- SEC_CMD_END_COMMISSIONING (R485): SEC.CMD = 0x01 clears COMMISSIONING at the next boundary. -/
def execSecCmdEndCommissioning (p : Path) (st : State) : Outcome := st.act fun c _ => c.pathNumber p Od.SEC_CMD 1

/-- COMMISSIONING_EXPIRY (R485): COMMISSIONING clears when SEC.COMMISSION_LEFT_S reaches 0. -/
def execCommissioningExpiry (st : State) : Outcome := st.act fun c _ => c.commissionExpiry

end Sys2Proof.Machine
end

