-- ==== Sys2Proof/Machine/DigitalCmd.lean ====
section
/-! DEFINITION. The meanings of the commands of digital channels, field groups, test-pulse sources and safe outputs
  (chapter 06). -/

namespace Sys2Proof.Machine

/-- DIO_LEVEL_ACCEPTED (R221): A new input level sampled continuously for the filter time is accepted. -/
def execDioLevelAccepted (i : Fin 48) (level : Bool) (st : State) : Outcome :=
  st.act fun c _ => c.levelAccepted i level

/-- CHATTER_CLEAR (R224): A chattering channel without an edge for the window leaves chatter. -/
def execChatterClear (i : Fin 48) (st : State) : Outcome := st.act fun c _ => c.chatterClear i

/-- DIO_OPEN_WIRE (R223): the sink current below or above threshold for 100 ms sets or clears OPEN_WIRE. -/
def execDioOpenWire (i : Fin 48) (below : Bool) (st : State) : Outcome := st.act fun c _ => c.openWire i below

/-- STUCK_ACTIVE (R225): an accepted level 1 held longer than DIO.MAX_ON sets STUCK_ACTIVE. -/
def execStuckActive (i : Fin 48) (st : State) : Outcome := st.act fun c _ => c.stuckActive i

/-- TEST_PULSE_START (R245): A pulsed test-pulse source goes low for 300 µs at its staggered instant. -/
def execTestPulseStart (k : Fin 8) (st : State) : Outcome := st.act fun c _ => c.testPulse k

/-- PULSE_LOW_SAMPLE (R222): at 280 µs into a pulse the raw comparator level sets PULSE_LOW. -/
def execPulseLowSample (i : Fin 48) (low : Bool) (st : State) : Outcome := st.act fun c _ => c.pulseSample i low

/-- COUNTER_EDGE (R227): an accepted counter input edge changes the count by the counter mode. -/
def execCounterEdge (k : Fin 8) (a b : Bool) (st : State) : Outcome := st.act fun c _ => c.counterEdge k a b

/-- COUNT_CMD_PRESET (R230): writing 0x01 to COUNT.CMD sets PRESET_PENDING. -/
def execCountCmdPreset (p : Path) (k : Fin 8) (v : Nat) (st : State) : Outcome :=
  st.act fun c _ => c.pathNumber p (Od.COUNT_CMD k) v

/-- OUTPUT_SHORT (R234): the current limit active for 2 ms sets SHORT on a DIO output. -/
def execOutputShort (i : Fin 48) (st : State) : Outcome := st.act fun c _ => c.outputShort i

/-- THERMAL_SHUTDOWN (R234): an output stage at its shutdown temperature turns off and sets THERMAL. -/
def execThermalShutdown (x : Stage) (st : State) : Outcome := st.act fun c _ => c.thermalShutdown x

/-- THERMAL_RETRY (R234): A cooled stage turns on again after at least 10 ms as one retry. -/
def execThermalRetry (x : Stage) (st : State) : Outcome := st.act fun c _ => c.thermalRetry x

/-- SHORT_CLEAR (R234): SHORT clears after 100 ms on without the current limit. -/
def execShortClear (x : Stage) (st : State) : Outcome := st.act fun c _ => c.shortClear x

/-- OPEN_LOAD (R236): an on stage below the open-load threshold for 100 ms sets OPEN_LOAD. -/
def execOpenLoad (i : Fin 48) (below : Bool) (st : State) : Outcome := st.act fun c _ => c.openLoad i below

/-- EXTERNAL_DRIVE (R237): an off stage's pin held high for 4 ms sets EXTERNAL_DRIVE or PARTNER_DRIVE. -/
def execExternalDrive (i : Fin 48) (high : Bool) (st : State) : Outcome := st.act fun c _ => c.externalDrive i high

/-- FG_LOW (R240): LPg crossing FG.LOW_V sets or clears LOW. -/
def execFgLow (g : Fin 6) (low : Bool) (st : State) : Outcome := st.act fun c _ => c.fgLow g low

/-- FG_CUT (R241): LPg below the cut threshold turns every stage of the group off and sets CUT. -/
def execFgCut (g : Fin 6) (st : State) : Outcome := st.act fun c _ => c.fgCut g

/-- FG_RECOVERY (R242): LPg above the recovery threshold clears CUT and starts HOLDING or WAIT_ACK. -/
def execFgRecovery (g : Fin 6) (st : State) : Outcome := st.act fun c _ => c.fgRecovery g

/-- FG_HOLD_END (R242): after the 100 ms hold HOLDING clears at the next commit and outputs return. -/
def execFgHoldEnd (g : Fin 6) (st : State) : Outcome := st.act fun c _ => c.fgHoldEnd g

/-- FG_ACK (R243): writing 0x01 to FG.ACK clears WAIT_ACK and TRIP at the next group commit. -/
def execFgAck (p : Path) (g : Fin 6) (v : Nat) (above : Bool) (st : State) : Outcome :=
  st.act fun c _ => c.pathAckGroup p g v above

/-- FG_TRIP (R244): the group current above the trip level for 5 ms turns the group off and sets TRIP. -/
def execFgTrip (g : Fin 6) (st : State) : Outcome := st.act fun c _ => c.fgTrip g

/-- FG_MISSING (R240): LPg crossing the missing or over-voltage threshold, or reversing, sets or clears MISSING and
OVER, with reversal turning the group off. -/
def execFgMissing (g : Fin 6) (x : SupplyChange) (st : State) : Outcome := st.act fun c _ => c.fgMissing g x

/-- TP_OVERLOAD (R247): A test-pulse source in current limit for 2 ms sets OVERLOAD and turns off. -/
def execTpOverload (k : Fin 8) (st : State) : Outcome := st.act fun c _ => c.tpOverload k

/-- TP_EXT_VOLTAGE (R247): A pulsed source pin not below 5 V within 60 µs of the pulse start sets EXT_VOLTAGE. -/
def execTpExtVoltage (k : Fin 8) (st : State) : Outcome := st.act fun c _ => c.tpExtVoltage k

/-- SO_DARK_TEST (R249): A switch of an on SO is opened for a dark test and fails if its pin does not reach the off
level. -/
def execSoDarkTest (k : Fin 8) (m reached : Bool) (openNs : Nat) (st : State) : Outcome :=
  st.act fun c _ => c.darkTest k m reached openNs

/-- SO_READBACK_MISMATCH (R250): A readback disagreeing with the voted state for 1 ms latches the SO off. -/
def execSoReadbackMismatch (k : Fin 8) (m : Bool) (st : State) : Outcome := st.act fun c _ => c.soReadback k m

/-- SO_EXT_VOLTAGE (R250): A pin of an off SO above 8 V for 4 ms latches it off. -/
def execSoExtVoltage (k : Fin 8) (st : State) : Outcome := st.act fun c _ => c.soExtVoltage k

/-- SO_OVERLOAD (R250): the SO current limit active for the overload time latches it off. -/
def execSoOverload (k : Fin 8) (st : State) : Outcome := st.act fun c _ => c.soOverload k

/-- SO_ACK (R251): writing 0x01 to SO.ACK clears FAULT_LATCHED on every SO whose condition has ended. -/
def execSoAck (p : Path) (v persist : Nat) (st : State) : Outcome := st.act fun c _ => c.pathAckSafe p v persist

end Sys2Proof.Machine
end

