-- ==== Sys2Proof/Machine/EventCmd.lean ====
section
/-! DEFINITION. The meanings of the commands of the event router (chapter 12). -/

namespace Sys2Proof.Machine

/-- EV_SOURCE_CHANGE (R430): A source level or edge makes the source pending, coalescing or merged. -/
def execEvSourceChange (s : Fin 494) (on : Bool) (st : State) : Outcome := st.act fun c _ => c.evSourceChange s on

/-- EV_COAL_WINDOW_END (R431): A coalescing window ends and the source becomes pending. -/
def execEvCoalWindowEnd (s : Fin 494) (st : State) : Outcome := st.act fun c _ => c.evWindowEnd s

/-- EV_RAISE (R428): writing RAISE produces one edge on a software source, or is refused and recorded. -/
def execEvRaise (p : Path) (s : Fin 494) (v : Nat) (st : State) : Outcome := st.act fun c r => c.evControl r p s v

/-- EV_CLEAR (R428): writing CLEAR clears PENDING and the count and stops a window. -/
def execEvClear (p : Path) (s : Fin 494) (v : Nat) (st : State) : Outcome := st.act fun c r => c.evControl r p s v

/-- EV_MASK_WRITE (R435): A MASK write withdraws or allows offers of the source. -/
def execEvMaskWrite (p : Path) (s : Fin 494) (v : Nat) (st : State) : Outcome :=
  st.act fun c r => c.evControl r p s v

/-- EV_RETARGET (R437): A TARGET write reroutes the source, withdrawing an offer at the old target. -/
def execEvRetarget (p : Path) (s : Fin 494) (v : Nat) (st : State) : Outcome :=
  st.act fun c r => c.evControl r p s v

/-- EV_CFG_WRITE (R427): an EV.S.CFG write is checked and takes effect at the next boundary, clearing source state. -/
def execEvCfgWrite (p : Path) (s : Fin 494) (v : Nat) (st : State) : Outcome :=
  st.act fun c r => c.evConfig r p s v

/-- EV_INTERRUPT_TAKE (R433): an offer asserts MEIP on a spindle, waking it and taking the interrupt if enabled. -/
def execEvInterruptTake (n : Fin 32) (mie wfi : Bool) (st : State) : Outcome :=
  st.act fun c _ => c.interruptTake n mie wfi

/-- EV_PLY_CLAIM (R434): A Ply load of CLAIM claims the offered event or returns the spurious identifier. -/
def execEvPlyClaim (st : State) : Outcome := st.act fun c r => c.access r 0 0x60004008 4 .load

/-- EV_PLY_COMPLETE (R436): A Ply store to COMPLETE completes an event in service. -/
def execEvPlyComplete (id : Nat) (st : State) : Outcome := st.act fun c r => c.access r 0 0x6000400C 4 (.store id)

end Sys2Proof.Machine
end

