-- ==== Sys2Proof/Machine/LoopCmd.lean ====
section
/-! DEFINITION. The meanings of the commands of the loop units (chapter 04). -/

namespace Sys2Proof.Machine

/-- LOOP_EVALUATION (R152): the loop unit evaluates one due descriptor in 64 cycles and writes output, view word and
state. -/
def execLoopEvaluation (n : Fin 32) (waits : Nat) (errs : List Nat) (piErr : Option Nat) (check : Bool) (st : State) : Outcome :=
  st.act fun c _ => c.loopEvaluation n waits errs piErr check

/-- LOOP_LATE_DISCARD (R161): accumulated creel waits push an evaluation's output past its deadline and it is
discarded as late. -/
def execLoopLateDiscard (n : Fin 32) (cyc : Nat) (st : State) : Outcome :=
  st.act fun c _ => c.loopLateDiscard n cyc

/-- LOOP_DESCRIPTOR_WRITE (R168): A dictionary write to a descriptor, table or attribute is checked and staged for a
boundary. -/
def execLoopDescriptorWrite (p : Path) (key : Nat) (data : Bytes) (st : State) : Outcome :=
  st.act fun c _ => c.pathLoop p key data

/-- LOOP_W_OUT_WRITE (R154): A write of LOOP.W.OUT sets the MANUAL output, or is refused outside MANUAL. -/
def execLoopWOutWrite (p : Path) (v : Nat) (st : State) : Outcome :=
  st.act fun c _ => c.pathNumber p Od.LOOP_W_OUT v

/-- LOOP_W_CLEAR (R150): writing 0x01 to LOOP.W.CLEAR clears the latches and counts of the selected slot. -/
def execLoopWClear (p : Path) (v : Nat) (st : State) : Outcome :=
  st.act fun c _ => c.pathNumber p Od.LOOP_W_CLEAR v

/-- LOOP_CLEAR_ALL (R150): writing 0x01 to LOOP.CLEAR_ALL clears the latches and counts of every slot. -/
def execLoopClearAll (p : Path) (v : Nat) (st : State) : Outcome :=
  st.act fun c _ => c.pathNumber p Od.LOOP_CLEAR_ALL v

end Sys2Proof.Machine
end

