-- ==== Sys2Proof/Machine/NetCmd.lean ====
section
/-! DEFINITION. The meanings of the commands of the station networks and PTP (chapter 10). -/

namespace Sys2Proof.Machine

/-- PORT_LINK_CHANGE (R377): A network port goes down or comes up. -/
def execPortLinkChange (n p : Fin 2) (speed : Nat) (st : State) : Outcome := st.act fun c _ => c.portLink n p speed

/-- FRAME_FORWARD (R367): A received frame is forwarded between ports or to the host under the switch rules. -/
def execFrameForward (n p : Fin 2) (frame : Bytes) (fcsOk : Bool) (residence : Nat) (st : State) : Outcome :=
  st.act fun c _ => c.frameForward n p frame fcsOk residence

/-- PTP_ANNOUNCE_RX (R373): an Announce message feeds the best-master selection and may move the followed network. -/
def execPtpAnnounceRx (n : Fin 2) (domain : Nat) (a : Announce) (st : State) : Outcome :=
  st.act fun c _ => c.announceRx n domain a

/-- PTP_DELAY_RESP_RX (R372): A delay response yields the path delay used for offset measurements. -/
def execPtpDelayRespRx (n : Fin 2) (m : DelayMsg) (st : State) : Outcome := st.act fun c _ => c.delayRespRx n m

/-- PTP_DELAY_REQ_SEND (R372): A Delay_Req or Pdelay_Req is sent at its interval. -/
def execPtpDelayReqSend (n : Fin 2) (st : State) : Outcome := st.act fun c _ => c.delayReqSend n

/-- PTP_FOLLOW_TIMEOUT (R373): no valid measurement on the followed network for 500 ms moves to the other network. -/
def execPtpFollowTimeout (st : State) : Outcome := st.act fun c _ => c.followTimeout

/-- PTP_MASTER_SYNC (R374): A winning master-capable station sends Sync at each Sync interval with a Follow_Up. -/
def execPtpMasterSync (n : Fin 2) (st : State) : Outcome := st.act fun c _ => c.masterSync n

/-- PTP_ANNOUNCE_RECEIPT_TIMEOUT (R38): announce messages from the best master stop for the receipt time-out, the
master is lost and the acquisition count restarts. -/
def execPtpAnnounceReceiptTimeout (n : Fin 2) (st : State) : Outcome := st.act fun c _ => c.announceTimeout n

/-- PTP_DELAY_REQ_RX (R370): A received Delay_Req or Pdelay_Req is answered as the E2E master or P2P peer the station
acts as. -/
def execPtpDelayReqRx (n p : Fin 2) (domain seq : Nat) (stamp : Int) (peer : Bool) (st : State) : Outcome :=
  st.act fun c _ => c.delayReqRx n p domain seq stamp peer

/-- PTP_MASTER_ANNOUNCE (R374): A master-capable station sends Announce at its announce interval to take part in the
best-master selection. -/
def execPtpMasterAnnounce (n : Fin 2) (st : State) : Outcome := st.act fun c _ => c.masterAnnounce n

/-- MRP_TOPOLOGY_CHANGE_RX (R376): an MRP_TopologyChange frame schedules a forwarding database flush. -/
def execMrpTopologyChangeRx (n : Fin 2) (interval : Nat) (st : State) : Outcome :=
  st.act fun c _ => c.mrpTopology n interval

/-- MRP_FLUSH (R376): the forwarding database is flushed after the stated interval. -/
def execMrpFlush (n : Fin 2) (st : State) : Outcome := st.act fun c _ => c.mrpFlush n

/-- ARP_REQUEST_RX (R368): an ARP request for the station's address is answered. -/
def execArpRequestRx (n : Fin 2) (mac ip target : Nat) (st : State) : Outcome :=
  st.act fun c _ => c.arpRequest n mac ip target

/-- ICMP_ECHO_RX (R368): an ICMP echo request is answered. -/
def execIcmpEchoRx (n : Fin 2) (mac ip target : Nat) (body : Bytes) (fragment : Bool) (st : State) : Outcome :=
  st.act fun c _ => c.icmpEcho n mac ip target body fragment

/-- FRAME_READY (R382): A committed frame becomes ready 2,000 ns after its commit and is queued, late or gated. -/
def execFrameReady (st : State) : Outcome := st.act fun c _ => c.frameReady

/-- LAUNCH (R378): A launch-queue entry's instant arrives and its frame leaves the MDI. -/
def execLaunch (n : Fin 2) (st : State) : Outcome := st.act fun c _ => c.launchNext n

/-- APP_FRAME_RX (R385): A received application frame is taken by the lowest matching receive object. -/
def execAppFrameRx (n : Fin 2) (src ethertype : Nat) (body : Bytes) (st : State) : Outcome :=
  st.act fun c _ => c.appFrameRx n src ethertype body

/-- RX_OBJECT_AGED (R385): A receive object without a frame for MAX_AGE ticks sets AGED. -/
def execRxObjectAged (o : Fin 128) (st : State) : Outcome := st.act fun c _ => c.objectAged o

/-- FDB_ENTRY_AGEING (R367): A forwarding-database entry not refreshed for 300 s ages out, so its address is flooded
again. -/
def execFdbEntryAgeing (n : Fin 2) (mac : Nat) (st : State) : Outcome := st.act fun c _ => c.fdbAge n mac

end Sys2Proof.Machine
end

