-- ==== Sys2Proof/Machine/PairCmd.lean ====
section
/-! DEFINITION. The meanings of the commands of the redundant pair and the witness (chapter 09). -/

namespace Sys2Proof.Machine

/-- PAIRING_IDENTITY_EXCHANGE (R334): on partner presence the modules exchange identities and pairing is accepted or
refused. -/
def execPairingIdentityExchange (x : Identity) (st : State) : Outcome := st.act fun c _ => c.identityExchange x

/-- ACTIVE_TOGGLE_STOP (R336): A missing executive keep-alive stops ACTIVE toggling. -/
def execActiveToggleStop (st : State) : Outcome := st.act fun c _ => c.toggleStop

/-- TAKEOVER_ON_LOSS (R340): A standby whose partner's ACTIVE stops toggling confirms the loss and becomes ACTIVE. -/
def execTakeoverOnLoss (gap : Nat) (st : State) : Outcome := st.act fun c _ => c.takeoverOnLoss gap

/-- TIEBREAK (R339): both modules toggling for 20 µs make the secondary stop toggling and become SYNCING. -/
def execTiebreak (st : State) : Outcome := st.act fun c _ => c.tiebreak

/-- LANE_DOWN (R335): A J3 lane without a valid symbol for 10 µs is down. -/
def execLaneDown (l : Fin 2) (st : State) : Outcome := st.act fun c _ => c.laneChange l false

/-- LANE_UP (R335): A J3 lane that was down shows valid symbols again and is up, with a 0x090C record. -/
def execLaneUp (l : Fin 2) (st : State) : Outcome := st.act fun c _ => c.laneChange l true

/-- PARTNER_TOGGLING_DETECTED (R337): four consecutive partner ACTIVE edges spaced 4 µs to 6 µs make the detector
report TOGGLING, dropping the own interlock. -/
def execPartnerTogglingDetected (st : State) : Outcome := st.act fun c _ => c.togglingDetected

/-- RELEASE_RX (R341): A taking module receiving RELEASE sets its role register to ACTIVE and starts toggling. -/
def execReleaseRx (gap : Nat) (st : State) : Outcome := st.act fun c _ => c.releaseRx gap

/-- STEP_RECORD_RX (R344): A standby receives a complete step record and runs the step from it one tick late. -/
def execStepRecordRx (x : StepRecord) (st : State) : Outcome := st.act fun c _ => c.stepRecordRx x

/-- RECORD_WAIT_EXPIRY (R347): no complete record for PAIR.RECORD_WAIT_MS demotes the standby to SYNCING. -/
def execRecordWaitExpiry (st : State) : Outcome := st.act fun c _ => c.recordWaitExpiry

/-- RESYNC_ADOPT (R346): the standby adopts the re-synchronised copy at a step boundary and rebases tick counts. -/
def execResyncAdopt (x : PairCopy) (st : State) : Outcome := st.act fun c _ => c.resyncAdopt x

/-- PARTNER_DETECTION (R350): at the start-up partner-detection step the module takes ACTIVE, SYNCING or ALONE. -/
def execPartnerDetection (st : State) : Outcome := st.act fun c _ => c.partnerDetection

/-- START_WAIT_EXPIRY (R350): A secondary's PAIR.START_WAIT_MS ends and it becomes ACTIVE or SYNCING. -/
def execStartWaitExpiry (st : State) : Outcome := st.act fun c _ => c.startWaitExpiry

/-- CREEL_TRANSFER_ADOPT (R351): A SYNCING module adopts the creel transfer and becomes STANDBY. -/
def execCreelTransferAdopt (x : PairCopy) (st : State) : Outcome := st.act fun c _ => c.creelAdopt x

/-- MODULE_HEARTBEAT_SEND (R356): A pair module sends its heartbeat on each network every PAIR.HB_MS. -/
def execModuleHeartbeatSend (st : State) : Outcome := st.act fun c _ => c.moduleBeat

/-- WITNESS_HEARTBEAT_SEND (R356): the witness sends a heartbeat to each served module every WIT.HB_MS. -/
def execWitnessHeartbeatSend (st : State) : Outcome := st.act fun c _ => c.witnessBeat

/-- MODULE_HEARTBEAT_RX (R358): the witness receives a module heartbeat and judges the pair, possibly ordering a
handover. -/
def execModuleHeartbeatRx (n : Fin 2) (frame : Bytes) (st : State) : Outcome :=
  st.act fun c _ => c.kindRx 4 n frame fun c m => c.moduleBeatRx n m

/-- WITNESS_HEARTBEAT_RX (R357): A module receives a witness heartbeat that forms its witness state word. -/
def execWitnessHeartbeatRx (n : Fin 2) (frame : Bytes) (st : State) : Outcome :=
  st.act fun c _ => c.kindRx 4 n frame fun c m => c.witnessBeatRx n m

/-- TAKE_ORDER_RX (R359): A standby receives a TAKE order and answers TAKE_ACK or TAKE_NAK over J3. -/
def execTakeOrderRx (n : Fin 2) (frame : Bytes) (st : State) : Outcome :=
  st.act fun c _ => c.kindRx 4 n frame fun c m => c.takeOrderRx n m

/-- RELEASE_ORDER_RX (R359): an active receives a RELEASE order from the network or the J3 relay. -/
def execReleaseOrderRx (relay : Bool) (n : Fin 2) (frame : Bytes) (st : State) : Outcome :=
  st.act fun c _ => c.releaseRow relay n frame

/-- ORDER_ACK_RX (R359): the witness receives a module's order acknowledgement. -/
def execOrderAckRx (n : Fin 2) (frame : Bytes) (st : State) : Outcome :=
  st.act fun c _ => c.kindRx 4 n frame fun c m => c.orderAckRx n m

/-- TAKE_ACK_RX (R359): the active receives TAKE_ACK for the pending order. -/
def execTakeAckRx (st : State) : Outcome := st.act fun c _ => c.takeSymbol true

/-- TAKE_NAK_RX (R359): the active receives TAKE_NAK and will not release for the order. -/
def execTakeNakRx (st : State) : Outcome := st.act fun c _ => c.takeSymbol false

/-- WITNESS_LOST (R360): no valid witness heartbeat for PAIR.WIT_LOSS_MS sets WITNESS_LOST. -/
def execWitnessLost (st : State) : Outcome := st.act fun c _ => c.witnessLost

/-- RETURN_REQUEST (R361): A primary STANDBY fit for PAIR.RETURN_HOLD_S sets RETURN_REQ. -/
def execReturnRequest (st : State) : Outcome := st.act fun c _ => c.returnRequest

/-- HANDOVER_REQ_LAPSE (R363): HANDOVER_REQ clears after WIT.JUDGE_MS without a grant. -/
def execHandoverReqLapse (st : State) : Outcome := st.act fun c _ => c.requestLapse

/-- PAIR_CMD_HANDOVER (R363): PAIR.CMD = 1 requests an ordered handover by setting HANDOVER_REQ. -/
def execPairCmdHandover (p : Path) (st : State) : Outcome := st.act fun c _ => c.pathNumber p Od.PAIR_CMD 1

/-- PAIR_CMD_RESYNC (R363): PAIR.CMD = 2 restarts synchronisation. -/
def execPairCmdResync (p : Path) (st : State) : Outcome := st.act fun c _ => c.pathNumber p Od.PAIR_CMD 2

/-- PAIR_CMD_CLEAR_UNFIT (R363): PAIR.CMD = 3 clears UNFIT. -/
def execPairCmdClearUnfit (p : Path) (st : State) : Outcome := st.act fun c _ => c.pathNumber p Od.PAIR_CMD 3

end Sys2Proof.Machine
end

