-- ==== Sys2Proof/Machine/Voter.lean ====
section
/-! DEFINITION. The voter (R60, R61): what an item that is released does at its destination (Table 02.1), the decision for one
item, and the run of the lead strand in a split (R83). -/

namespace Sys2Proof.Machine

/-! ## Release -/

/-- A store of the executive reaches the creel; in the Ply region it writes both copies (R97). -/
def Core.plyCreelStore (c : Core) (i : ItemCopy) : Core :=
  let put (c : Core) (i : ItemCopy) : Core :=
    (({ c with creel := c.creel.store i }).unpoison (i.addr / 4 * 4) 4).snoop (i.addr / 4 * 4) 4
  if inPlyRegion i.addr then put (put c i) { i with addr := plyMirror i.addr } else put c i

/-- The size of a store, from its byte enables. -/
def ItemCopy.size (i : ItemCopy) : Nat := ((List.range 4).filter i.be.testBit).length

/-- An item is released to its destination (Table 02.1): a store reaches the creel, staging (final at once, R122), the vault,
the dictionary window or the router; a load request is answered by its target; a CSR write reaches the CSR. Write-backs are
compared only. A store to Skein RAM is the writer's, the command SKEIN_WRITE (log entry 175). -/
def Core.release (c : Core) (r : Recorder) (kind : Nat) (i : ItemCopy) : Core :=
  let c := { c with ply := { c.ply with released := some (kind, i) } }
  match kind with
  | 0 =>
    if inCreel i.addr then c.plyCreelStore i
    else if inStaging i.addr then c.finalWord c.clk.cyc 64 ⟨(i.addr - 0x14000000) / 4, i.be, i.data⟩
    else if inVault i.addr then { c with vault := c.vault.store i }
    else c.access r 0 i.addr i.size (.store i.data)
  | 1 => c.access r 0 i.addr i.be .load
  | 4 => c.csrWrite i.addr i.data
  | _ => c

/-! ## The decision -/

/-- The voter's decision for one item (R61). `copies` holds the copies of X, Y, Z. A strand whose register transfer is in
progress is fenced again if its copy is the odd one (R88). VOTER.LAST_ADDR takes the majority's address, and the first
strand's in an un-votable event (log entry 163). -/
def Core.voteItem (c : Core) (r : Recorder) (kind : Nat) (copies : List ItemCopy) : Core :=
  let get (s : Nat) : ItemCopy := copies.getD s ⟨0, 0, 0⟩
  let c0 := c.tcmStores kind copies
  let free (c : Core) (i : ItemCopy) : Core := if kind = 0 ∧ inTcm i.addr then c else c.release r kind i
  match c.stepping with
  | [x, y, z] =>
    if get x = get y then
      let c := free c0 (get x)
      if get z = get x then c else c.minorityFence z kind (maskOf [x, y]) (get x).addr
    else if get z = get x then (free c0 (get x)).minorityFence y kind (maskOf [x, z]) (get x).addr
    else if get z = get y then (free c0 (get y)).minorityFence x kind (maskOf [y, z]) (get y).addr
    else c0.unvotable kind 0 (get x).addr
  | [x, y] =>
    if get x = get y then
      let c := free c0 (get x)
      match [0, 1, 2].find? fun s => (c.strand s).xfer.isSome with
      | some z => if get z = get x then c else c.minorityFence z kind (maskOf [x, y]) (get x).addr
      | none => c
    else c0.unvotable kind 0 (get x).addr
  | _ => c

/-- The lead's item in a split: released without comparison; a store to its own TCM is written there (R60, R83). -/
def Core.leadItem (c : Core) (r : Recorder) (lead kind : Nat) (i : ItemCopy) : Core :=
  if kind = 0 ∧ inTcm i.addr then c.updStrand lead fun x => { x with tcm := x.tcm.store i } else c.release r kind i

/-- VOTER_ITEM_COMPARE. While an un-votable reaction is in progress and in FAILED nothing is released (R73). -/
def Core.voterCompare (c : Core) (r : Recorder) (kind : Nat) (copies : List ItemCopy) : Core :=
  if c.run = .failed || c.ply.unvoted.isSome then c
  else if c.ply.split then
    let lead := c.rd Od.PLY_DEBUG_LEAD
    if c.strandBit lead 8 then c.leadItem r lead kind (copies.getD lead ⟨0, 0, 0⟩) else c
  else c.voteItem r kind copies

end Sys2Proof.Machine
end

