-- ==== Sys2Proof/Machine/PlyCmd.lean ====
section
/-! DEFINITION. The meanings of the commands of the Ply (chapter 02). -/

namespace Sys2Proof.Machine

/-- VOTER_ITEM_COMPARE (R61): the voter compares the strands' copies of one outward item and releases, fences a
minority or declares it un-votable. -/
def execVoterItemCompare (kind : Nat) (copies : List ItemCopy) (st : State) : Outcome :=
  st.act fun c r => c.voterCompare r kind copies

/-- STRAND_BIST_DONE (R69): A fenced strand's 6 ms BIST ends, retiring it on failure or starting the TCM copy on a
pass. -/
def execStrandBistDone (s : Fin 3) (result : Nat) (st : State) : Outcome := st.act fun c _ => c.bistDone s result

/-- TCM_COPY_DONE (R69): the copy of both TCMs to a rejoining strand completes and the strand waits for its rejoin
boundary. -/
def execTcmCopyDone (s : Fin 3) (st : State) : Outcome := st.act fun c _ => c.tcmCopyDone s

/-- UNVOTED_RESUME (R74): after the BIST of an un-votable event the Ply resumes with two or three strands or enters
FAILED. -/
def execUnvotedResume (results : List Nat) (st : State) : Outcome := st.act fun c _ => c.unvotedResume results

/-- TCM_SCRUB (R55): the hardware scrubber reads and corrects every TCM word once per second. -/
def execTcmScrub (mask : Nat) (code uncorr : Bool) (addr : Nat) (st : State) : Outcome :=
  st.act fun c _ => c.tcmScrub mask code uncorr addr

/-- AGREESEL_WRITE (R64): A write to agreesel makes each strand sample the selected source and starts an agreement
exchange. -/
def execAgreeselWrite (sel : Nat) (samples : List Nat) (st : State) : Outcome :=
  st.act fun c _ => c.agreeWrite sel samples

/-- AGREE_EXCHANGE_END (R66): an agreement exchange completes with the combined value, a retry, or the safe default.
-/
def execAgreeExchangeEnd (st : State) : Outcome := st.act fun c _ => c.agreeEnd

/-- SOCMD_WRITE (R77): A strand writes its safe-output command and token to the safe-output voter. -/
def execSocmdWrite (s : Fin 3) (v : Nat) (st : State) : Outcome := st.act fun c _ => c.socmdWrite s v

/-- DEBUG_HALT (R82): A halt request to a strand splits the lock-step, forces safe outputs off and enters HOLD, or is
refused. -/
def execDebugHalt (s : Fin 3) (st : State) : Outcome := st.act fun c _ => c.debugRequest s false

/-- DEBUG_STEP (R82): A step request to a strand splits the lock-step like a halt, or is refused. -/
def execDebugStep (s : Fin 3) (st : State) : Outcome := st.act fun c _ => c.debugRequest s true

/-- DEBUG_ABSTRACT_COMMAND (R81): an abstract-command request to a strand is served while PLY.DEBUG_EN is TRUE, or
refused and recorded. -/
def execDebugAbstractCommand (x : Fin 3 × Nat) (st : State) : Outcome :=
  st.act fun c _ => c.debugAbstract x.1 x.2

/-- DEBUG_RESUME_LEAD (R83): resuming the lead strand in a split runs the executive on it alone without comparison. -/
def execDebugResumeLead (st : State) : Outcome := st.act fun c _ => c.resumeLead

/-- DEBUG_HELD_REQUEST (R82): A halt or step request held during SAFE takes effect when the station leaves SAFE. -/
def execDebugHeldRequest (st : State) : Outcome := st.act fun c _ => c.heldRequest

end Sys2Proof.Machine
end

