-- ==== Sys2Proof/Machine/PowerCmd.lean ====
section
/-! DEFINITION. The meanings of the commands of power, reset and the vault (chapter 16). -/

namespace Sys2Proof.Machine

/-- LOGIC_SUPPLY_LOW (R521): L+ below the input-low threshold for 1 ms, or back above start, writes 0x1001. -/
def execLogicSupplyLow (low : Bool) (st : State) : Outcome := st.act fun c _ => c.supplyLow low

/-- LOGIC_SUPPLY_OVERVOLTAGE (R521): L+ crossing the over-voltage threshold writes 0x1002. -/
def execLogicSupplyOvervoltage (high : Bool) (st : State) : Outcome := st.act fun c _ => c.supplyOver high

/-- POWER_FAIL (R522): the hold-up rail reaching the reserve level runs the power-fail sequence into VAULT. -/
def execPowerFail (programmed rtc : Nat) (st : State) : Outcome := st.power fun c r => c.powerFail r programmed rtc

/-- LOGIC_SUPPLY_RISE (R523): L+ rising through the start threshold enters BOOT and runs the start-up sequence. -/
def execLogicSupplyRise (x : StartUp) (recovered : Bool) (st : State) : Outcome :=
  st.power fun c r => c.supplyRise r x recovered

/-- RESET_N_ASSERT (R533): RESET_N low for 10 µs resets the die at once and holds outputs off. -/
def execResetNAssert (st : State) : Outcome := st.power fun c r => c.resetAssert r

/-- RESET_N_RELEASE (R533): release of RESET_N starts start-up. -/
def execResetNRelease (x : StartUp) (held : Nat) (st : State) : Outcome :=
  st.power fun c r => c.resetRelease r x held

/-- VBAT_SUPERVISOR_TRIP (R526): VBAT below the supervisor threshold clears the vault validity bits. -/
def execVbatSupervisorTrip (st : State) : Outcome := st.power fun c r => (c.vbatTrip, r)

/-- VBAT_RESTORE (R526): VBAT rising above the supervisor threshold while the logic supply is down powers the vault
domain, moving OFF to VAULT. -/
def execVbatRestore (st : State) : Outcome := st.power fun c r => (c.vbatRestore, r)

/-- RTC_WRITE (R528): the executive writes the vault RTC from station time hourly while locked, setting RTC_VALID. -/
def execRtcWrite (st : State) : Outcome := st.act fun c _ => c.hourlyRtc

/-- DIE_OVERTEMPERATURE (R538): A die junction above 135 °C causes an L4 reaction. -/
def execDieOvertemperature (st : State) : Outcome := st.act fun c _ => c.dieHot

end Sys2Proof.Machine
end

