-- ==== Sys2Proof/Machine/ProgramCmd.lean ====
section
/-! DEFINITION. The meanings of the commands of remote stations, program images and retained variables (chapter 05).
  -/

namespace Sys2Proof.Machine

/-- REMOTE_INPUT_IMAGE_RX (R196): A remote input image is received, checked, and enters the snapshot or is discarded.
-/
def execRemoteInputImageRx (n : Fin 2) (frame : Bytes) (st : State) : Outcome :=
  st.act fun c _ => c.remoteInputRx (n + 1) frame

/-- REMOTE_MISS_LIMIT (R196): RIO.MISS_LIMIT missed cycles make an ONLINE remote station OFFLINE at a boundary. -/
def execRemoteMissLimit (s : Fin 64) (st : State) : Outcome := st.act fun c _ => c.remoteMissLimit s

/-- REMOTE_OUTPUT_IMAGE_RX (R199): A remote station receives an output image and applies it at its next output commit.
-/
def execRemoteOutputImageRx (n : Fin 2) (frame : Bytes) (st : State) : Outcome :=
  st.act fun c _ => c.remoteOutputRx (n + 1) frame

/-- RSTA_WATCHDOG_EXPIRY (R199): A remote station without a valid output image for RSTA.WATCHDOG ticks applies its
fault reactions. -/
def execRstaWatchdogExpiry (st : State) : Outcome := st.act fun c _ => c.watchdogExpiry

/-- PROG_IMAGE_WRITE (R202): A segment of PROG.IMAGE is written to the inactive bank, moving PROG.STATE to LOADING or
LOADED. -/
def execProgImageWrite (p : Path) (ofs : Nat) (data : Bytes) (last : Bool) (st : State) : Outcome :=
  st.act fun c _ => c.pathSegment p Od.PROG_IMAGE ofs data last

/-- PROG_CMD_VERIFY (R202): PROG.CMD = 1 verifies the loaded image. -/
def execProgCmdVerify (p : Path) (st : State) : Outcome := st.act fun c _ => c.pathNumber p Od.PROG_CMD 1

/-- PROG_CMD_PREPARE (R202): PROG.CMD = 2 builds the new program area and checks admission and transfer fit. -/
def execProgCmdPrepare (p : Path) (st : State) : Outcome := st.act fun c _ => c.pathNumber p Od.PROG_CMD 2

/-- PROG_CMD_ARM (R204): PROG.CMD = 3 fixes the changeover tick. -/
def execProgCmdArm (p : Path) (partner : Bool) (st : State) : Outcome := st.act fun c _ => c.pathArm p partner

/-- PROG_CMD_CANCEL (R202): PROG.CMD = 4 cancels the exchange and returns to IDLE. -/
def execProgCmdCancel (p : Path) (st : State) : Outcome := st.act fun c _ => c.pathNumber p Od.PROG_CMD 4

/-- PROG_CMD_ERASE (R202): PROG.CMD = 5 erases the inactive bank. -/
def execProgCmdErase (p : Path) (st : State) : Outcome := st.act fun c _ => c.pathNumber p Od.PROG_CMD 5

/-- VARIABLE_TRANSFER (R205): the variable transfer runs in the slack of tick c − 1. -/
def execVariableTransfer (st : State) : Outcome := st.act fun c _ => c.variableTransfer

/-- PROG_CHANGEOVER (R206): at the changeover boundary the bank and program area switch, loops are matched and new
tasks released. -/
def execProgChangeover (st : State) : Outcome := st.act fun c _ => c.progChangeover

/-- RETAIN_COPY (R209): retained variables are copied and written to the retain log every PROG.RETAIN_PERIOD and on
entry to STOP. -/
def execRetainCopy (fails : Bool) (st : State) : Outcome := st.act fun c _ => c.retainCopy fails

end Sys2Proof.Machine
end

