-- ==== Sys2Proof/Machine/SafetyCmd.lean ====
section
/-! DEFINITION. The meanings of the commands of safety functions and Scrim (chapter 08). -/

namespace Sys2Proof.Machine

/-- SIN_DISCREPANCY (R302): A pair in CLOSING or OPENING for SIN.DISC_MS goes to FAULT. -/
def execSinDiscrepancy (p : Fin 24) (st : State) : Outcome := st.act fun c _ => c.sinDiscrepancy p

/-- SAFETY_CRC_CHECK (R310): SAFE.CFG_CRC is recomputed once per second and availability follows its match with
SAFE.CFG_REF. -/
def execSafetyCrcCheck (st : State) : Outcome := st.act fun c _ => c.crcCheck

/-- AXIS_FAULT (R313): A speed-source mismatch or invalidity lasting AXIS.SRC_TOL_MS raises or clears an axis fault.
-/
def execAxisFault (k : Fin 4) (st : State) : Outcome := st.act fun c _ => c.axisDeadline k

/-- SCRIM_COPY_RX (R319): A received Scrim copy is validated and paired with its twin or held. -/
def execScrimCopyRx (n : Fin 2) (frame : Bytes) (st : State) : Outcome :=
  st.act fun c _ => c.kindRx 3 n frame fun c x => c.scrimCopyRx n x

/-- SCRIM_SKEW_EXPIRY (R319): A held copy whose twin has not arrived within SCRIM.SKEW_US is decided alone. -/
def execScrimSkewExpiry (r : Fin 16) (st : State) : Outcome := st.act fun c _ => c.scrimSkew r

/-- SCRIM_WATCHDOG (R321): an RX connection without an accepted telegram for SCRIM.WD_MS becomes TIMED_OUT. -/
def execScrimWatchdog (r : Fin 16) (st : State) : Outcome := st.act fun c _ => c.scrimWatchdog r

end Sys2Proof.Machine
end

