-- ==== Sys2Proof/Machine/SdoCmd.lean ====
section
/-! DEFINITION. The meanings of the commands of the SDO server (R420, R466). -/

namespace Sys2Proof.Machine

/-- SDO_INITIATE_DOWNLOAD (R466): an SDO initiate download writes an expedited value or starts a segmented write. -/
def execSdoInitiateDownload (k : Fin 4) (data : Bytes) (st : State) : Outcome :=
  st.act fun c r => c.sdoRow r [1] k data

/-- SDO_DOWNLOAD_SEGMENT (R466): an SDO download segment continues a segmented write. -/
def execSdoDownloadSegment (k : Fin 4) (data : Bytes) (st : State) : Outcome :=
  st.act fun c r => c.sdoRow r [0] k data

/-- SDO_INITIATE_UPLOAD (R466): an SDO initiate upload reads an expedited value or starts a segmented read. -/
def execSdoInitiateUpload (k : Fin 4) (data : Bytes) (st : State) : Outcome :=
  st.act fun c r => c.sdoRow r [2] k data

/-- SDO_UPLOAD_SEGMENT (R466): an SDO upload segment request returns the next segment. -/
def execSdoUploadSegment (k : Fin 4) (data : Bytes) (st : State) : Outcome :=
  st.act fun c r => c.sdoRow r [3] k data

/-- SDO_ABORT (R466): an SDO abort ends the transfer in progress. -/
def execSdoAbort (k : Fin 4) (data : Bytes) (st : State) : Outcome := st.act fun c r => c.sdoRow r [4] k data

/-- SDO_BLOCK_REQUEST (R466): A block-transfer request is answered with abort 0x0504_0001. -/
def execSdoBlockRequest (k : Fin 4) (data : Bytes) (st : State) : Outcome :=
  st.act fun c r => c.sdoRow r [5, 6] k data

/-- SDO_SEGMENT_TIMEOUT (R466): A segmented transfer without a segment for 1,000 ms is aborted. -/
def execSdoSegmentTimeout (k : Fin 4) (st : State) : Outcome := st.act fun c _ => c.sdoTimeout k

end Sys2Proof.Machine
end

