-- ==== Sys2Proof/Machine/SessionCmd.lean ====
section
/-! DEFINITION. The meanings of the commands of the dictionary service: sessions and messages (R391 to R393, R476). -/

namespace Sys2Proof.Machine

/-- DS_OPEN (R391): A dictionary-service OPEN datagram opens a session or is answered with CLOSE. -/
def execDsOpen (n : Fin 2) (mac : Nat) (datagram : Bytes) (st : State) : Outcome :=
  st.act fun c _ => c.dsOpen n mac datagram

/-- DS_CLOSE (R391): A CLOSE datagram closes a dictionary-service session. -/
def execDsClose (n : Fin 2) (datagram : Bytes) (st : State) : Outcome := st.act fun c _ => c.dsCloseRx n datagram

/-- DS_ACK_ONLY (R392): an acknowledgement-only datagram releases outstanding datagrams. -/
def execDsAckOnly (n : Fin 2) (datagram : Bytes) (st : State) : Outcome := st.act fun c _ => c.dsAck n datagram

/-- DS_DATAGRAM (R392): A payload datagram is delivered in SEQ order, acknowledged or discarded. -/
def execDsDatagram (n : Fin 2) (datagram : Bytes) (tls : Handshake) (st : State) : Outcome :=
  st.act fun c r => c.dsDatagram r n datagram tls

/-- DS_RETRANSMIT_TIMEOUT (R392): an unacknowledged datagram is repeated after 200 ms, and the session closes after
five repeats. -/
def execDsRetransmitTimeout (session : Nat) (st : State) : Outcome := st.act fun c _ => c.dsRetransmit session

/-- DS_IDLE_TIMEOUT (R392): A session idle for 60 s is closed. -/
def execDsIdleTimeout (session : Nat) (st : State) : Outcome := st.act fun c _ => c.dsIdle session

/-- TLS_HANDSHAKE_TIMEOUT (R476): A secure session whose handshake is not complete within 10 s is closed. -/
def execTlsHandshakeTimeout (session : Nat) (st : State) : Outcome := st.act fun c _ => c.tlsTimeout session

/-- DS_READ (R393): A dictionary-service read message returns the entry value or an abort. -/
def execDsRead (session : Nat) (msg : Bytes) (st : State) : Outcome := st.act fun c r => c.dsRow r 1 session msg

/-- DS_WRITE (R393): A dictionary-service write message writes the entry or returns an abort. -/
def execDsWrite (session : Nat) (msg : Bytes) (st : State) : Outcome := st.act fun c r => c.dsRow r 2 session msg

/-- DS_READ_SEGMENT (R393): A read-segment message returns up to 1,024 bytes of a DOMAIN entry. -/
def execDsReadSegment (session : Nat) (msg : Bytes) (st : State) : Outcome :=
  st.act fun c r => c.dsRow r 3 session msg

/-- DS_WRITE_SEGMENT (R393): A write-segment message writes a DOMAIN segment. -/
def execDsWriteSegment (session : Nat) (msg : Bytes) (st : State) : Outcome :=
  st.act fun c r => c.dsRow r 4 session msg

end Sys2Proof.Machine
end

