-- ==== Sys2Proof/Machine/SkeinCmd.lean ====
section
/-! DEFINITION. The meanings of the commands of the event recorder (chapter 13). -/

namespace Sys2Proof.Machine

/-- SKEIN_REQUEST (R449): A record request enters the Skein request queue or is dropped when full. -/
def execSkeinRequest (code sev arg0 arg1 : Nat) (st : State) : Outcome :=
  st.act fun c _ => c.logSev code sev arg0 arg1

/-- SKEIN_WRITE (R450): the Skein writer assigns SEQ and STAMP and stores an entry in the RAM ring. -/
def execSkeinWrite (st : State) : Outcome := st.record fun c r => c.skeinWrite r

/-- SKEIN_REFILL (R453): at a refill instant a bucket gains a token and may write a summary. -/
def execSkeinRefill (code : Nat) (st : State) : Outcome := st.record fun c r => c.skeinRefill r code

/-- SKEIN_MIRROR_PROGRAM (R454): A mirrored entry of severity 4 or higher is programmed to the flash ring. -/
def execSkeinMirrorProgram (ok : Bool) (st : State) : Outcome := st.record fun c r => c.skeinMirror r ok

/-- SKEIN_FLASH_ERASE (R455): A flash-ring sector is erased ahead of the writer, removing its oldest entries. -/
def execSkeinFlashErase (ok : Bool) (st : State) : Outcome := st.record fun c r => c.skeinErase r ok

/-- SKEIN_READ (R457): A read of SKEIN.READ returns up to 32 matching entries in ascending SEQ. -/
def execSkeinRead (p : Path) (st : State) : Outcome := st.act fun c r => c.pathRead r p Od.SKEIN_READ

end Sys2Proof.Machine
end

