-- ==== Sys2Proof/Machine/SpindleCmd.lean ====
section
/-! DEFINITION. The meanings of the commands of the spindles: Xdraft, pairs, run-ahead, errors and debug requests
  (chapter 03). -/

namespace Sys2Proof.Machine

/-- TICK_WAIT (R99): tick.wait sleeps until the next release or returns 0 at once if another entry is present. -/
def execTickWait (n : Fin 32) (w : Nat) (st : State) : Outcome := st.act fun c _ => c.tickWait n w

/-- TICK_WAIT_WAKE (R99): A sleeping spindle wakes at the release or on arrival of another entry on its bobbin. -/
def execTickWaitWake (n : Fin 32) (st : State) : Outcome := st.act fun c _ => c.tickWaitWake n

/-- JOB_POP (R104): job.pop opens the head entry of the own bobbin or requests a draft. -/
def execJobPop (n : Fin 32) (w : Nat) (st : State) : Outcome := st.pop fun c => c.jobPop n w

/-- DRAFT_PAIR_WAIT_EXPIRY (R109): A draft request waiting for a pair partner for DRAFT.PAIR_WAIT cycles returns
empty. -/
def execDraftPairWaitExpiry (n : Fin 32) (st : State) : Outcome := st.act fun c _ => c.draftWaitExpiry n

/-- JOB_PUSH (R99): job.push appends an entry at the tail of the own bobbin, or returns 0 if full. -/
def execJobPush (n : Fin 32) (w lo hi : Nat) (st : State) : Outcome := st.act fun c _ => c.jobPush n w lo hi false

/-- JOB_PAIR (R99): job.pair appends an entry with AFF forced to paired. -/
def execJobPair (n : Fin 32) (w lo hi : Nat) (st : State) : Outcome := st.act fun c _ => c.jobPush n w lo hi true

/-- JOB_DONE_FINISH (R122): job.done with rs1 = 0 finalises, makes tentative or parks the job's stage buffer. -/
def execJobDoneFinish (n : Fin 32) (w : Nat) (st : State) : Outcome := st.act fun c _ => c.jobFinish n w

/-- JOB_DONE_ABANDON (R108): job.done with rs1 = 1 abandons the job and drops its stage buffer. -/
def execJobDoneAbandon (n : Fin 32) (w : Nat) (st : State) : Outcome := st.act fun c _ => c.jobAbandon n w

/-- JOB_DONE_SUSPEND (R106): job.done with rs1 = 2 suspends a level-0 job and returns its entry for later placement.
-/
def execJobDoneSuspend (n : Fin 32) (w : Nat) (st : State) : Outcome := st.act fun c _ => c.jobSuspend n w

/-- STAGE_B (R121): stage.b writes a byte into the spindle's stage buffer. -/
def execStageB (n : Fin 32) (w rs1 rs2 : Nat) (st : State) : Outcome :=
  st.act fun c _ => c.stageStore n 1 rs1 rs2 w

/-- STAGE_H (R121): stage.h writes a halfword into the spindle's stage buffer. -/
def execStageH (n : Fin 32) (w rs1 rs2 : Nat) (st : State) : Outcome :=
  st.act fun c _ => c.stageStore n 2 rs1 rs2 w

/-- STAGE_W (R121): stage.w writes a word into the spindle's stage buffer. -/
def execStageW (n : Fin 32) (w rs1 rs2 : Nat) (st : State) : Outcome :=
  st.act fun c _ => c.stageStore n 4 rs1 rs2 w

/-- LOOP_GO (R99): loop.go arms or disarms the spindle's loop unit with a batch list from the next release. -/
def execLoopGo (n : Fin 32) (w : Nat) (machine : Bool) (addr count : Nat) (st : State) : Outcome :=
  st.act fun c _ => c.loopGo n w machine addr count

/-- LOOP_WAIT (R141): loop.wait stalls until the current batch ends and returns the batch status word. -/
def execLoopWait (n : Fin 32) (w : Nat) (st : State) : Outcome := st.act fun c _ => c.loopWait n w

/-- EV_CLAIM (R435): ev.claim claims the event offered to the spindle or returns the spurious identifier. -/
def execEvClaim (n : Fin 32) (w : Nat) (st : State) : Outcome := st.act fun c _ => c.spinClaim n w

/-- EV_DONE (R436): ev.done completes an event in service at the spindle. -/
def execEvDone (n : Fin 32) (w rs1 : Nat) (st : State) : Outcome := st.act fun c _ => c.spinDone n w rs1

/-- RAH_MARK (R124): rah.mark adds a range to the declared inputs of a tentative job's record. -/
def execRahMark (n : Fin 32) (w rs1 rs2 : Nat) (st : State) : Outcome := st.act fun c _ => c.rahMark n w rs1 rs2

/-- FENCE_I (R90): A fence.i instruction on a spindle raises the illegal-instruction exception. -/
def execFenceI (n : Fin 32) (st : State) : Outcome := st.act fun c _ => c.fenceI n

/-- OVERFLOW_APPEND (R102): A kept overflow entry is appended to a bobbin once a place has become free. -/
def execOverflowAppend (n : Fin 32) (st : State) : Outcome := st.act fun c _ => c.overflowAppend n

/-- PAIR_COMPARISON_END (R114): the comparison of a pair's two stage buffers ends and the matching buffer is finalised
or made tentative. -/
def execPairComparisonEnd (st : State) : Outcome := st.act fun c _ => c.comparisonEnd

/-- RUN_AHEAD_PLACE (R123): after the last commit the executive places eligible next-tick jobs as tentative run-ahead
entries. -/
def execRunAheadPlace (t : Fin 64) (i : Nat) (r : Fin 64) (st : State) : Outcome := st.act fun c _ => c.placeAhead t i r

/-- LEVEL0_PLACE (R186): A level-0 task's next cycle entry is placed in slack. -/
def execLevel0Place (t : Fin 8) (st : State) : Outcome := st.act fun c _ => c.placeLevel0 (64 + t)

/-- SRAM_UNCORRECTABLE (R91): an uncorrectable local-SRAM error is a counted fault and abandons the open job. -/
def execSramUncorrectable (n : Fin 32) (st : State) : Outcome := st.act fun c _ => c.sramUncorrectable n

/-- SPINDLE_SCRUB (R91): the scrubber corrects every spindle local-SRAM word once per second. -/
def execSpindleScrub (n : Fin 32) (count : Nat) (st : State) : Outcome := st.act fun c _ => c.spinCorrected n count

/-- CREEL_UNCORRECTABLE (R96): an uncorrectable creel error faults the requester and poisons the word. -/
def execCreelUncorrectable (spindle : Option (Fin 32)) (addr : Nat) (both : Bool) (st : State) : Outcome :=
  st.act fun c _ => c.creelUncorrectable (spindle.map Fin.val) addr both

/-- CREEL_SCRUB (R96): the scrubber corrects every creel word once per second. -/
def execCreelScrub (count : Nat) (st : State) : Outcome := st.act fun c _ => c.creelScrub count

/-- ICACHE_PARITY_ERROR (R92): an instruction-cache parity error invalidates the line and repeats the fetch. -/
def execIcacheParityError (x : Fin 32 × Nat) (st : State) : Outcome := st.act fun c _ => c.icacheParity x.1 x.2

/-- SPINDLE_DEBUG_HALT (R130): A spindle halt request is accepted or refused; an accepted halt debug-holds the tasks
with open jobs there. -/
def execSpindleDebugHalt (n : Fin 32) (st : State) : Outcome := st.act fun c _ => c.spinHalt n

/-- SPINDLE_DEBUG_STEP (R129): A step request to a spindle is accepted or refused under SPIN.DEBUG_EN and
COMMISSIONING. -/
def execSpindleDebugStep (n : Fin 32) (st : State) : Outcome := st.act fun c _ => c.spinDebug n

/-- SPINDLE_DEBUG_ABSTRACT (R129): an abstract-command request to a spindle is accepted or refused. -/
def execSpindleDebugAbstract (x : Fin 32 × Nat) (st : State) : Outcome :=
  st.act fun c _ => c.spinAbstract x.1 x.2

/-- SPINDLE_DEBUG_RESUME (R130): A halted spindle resumes and its tasks leave debug-held at their next release. -/
def execSpindleDebugResume (n : Fin 32) (st : State) : Outcome := st.act fun c _ => c.spinResume n

/-- LOAD_STORE_ACCESS_FAULT (R18): A spindle or strand load, store or fetch to an unreachable address, or a plain
store to staging or the loop tables, raises the access fault. -/
def execLoadStoreAccessFault (m : Fin 33) (addr size : Nat) (kind : AccessKind) (st : State) : Outcome :=
  st.act fun c r => c.access r m addr size kind

end Sys2Proof.Machine
end

