-- ==== Sys2Proof/Machine/StateCmd.lean ====
section
/-! DEFINITION. The meanings of the commands of run states, queued reactions and health (chapter 15). -/

namespace Sys2Proof.Machine

/-- STATE_CMD_STOP (R495): STATE.CMD = 0x01 requests STOP at the next boundary. -/
def execStateCmdStop (p : Path) (st : State) : Outcome := st.act fun c _ => c.pathNumber p Od.STATE_CMD 1

/-- STATE_CMD_RUN (R495): STATE.CMD = 0x02 requests RUN at the next boundary. -/
def execStateCmdRun (p : Path) (st : State) : Outcome := st.act fun c _ => c.pathNumber p Od.STATE_CMD 2

/-- REACTION_QUEUED_START (R504): A queued reaction starts once no reaction of its level or higher is in progress. -/
def execReactionQueuedStart (st : State) : Outcome := st.act fun c _ => c.queuedStart

/-- SAFE_RESUME (R508): after STATE.SAFE_HOLD_MS without a further fault the station leaves escalation SAFE. -/
def execSafeResume (st : State) : Outcome := st.act fun c _ => c.safeResume

/-- HEALTH_EVALUATION (R510): once per powered hour the health terms, ageing sensors and VBAT are evaluated. -/
def execHealthEvaluation (x : HealthReading) (st : State) : Outcome := st.act fun c r => c.healthEvaluate r x

end Sys2Proof.Machine
end

