-- ==== Sys2Proof/Machine/TickCmd.lean ====
section
/-! DEFINITION. The meanings of the commands of the tick and station time (chapter 01; R547). -/

namespace Sys2Proof.Machine

/-- TICK_BOUNDARY (R23): A tick boundary of the station-time grid is reached and the per-tick boundary work begins. -/
def execTickBoundary (x : BoundaryFacts) (st : State) : Outcome := st.act fun c _ => c.tickBoundary x

/-- JOB_RELEASE (R102): at phase 0 + 1,000 cycles the loaded bobbin entries are released, spindles start their jobs
and armed loop units start their batches. -/
def execJobRelease (st : State) : Outcome := st.act fun c _ => c.jobRelease

/-- COMMIT_GROUP_COPY (R29): at its commit phase a commit group copies every staging word written final since its
previous commit to its destinations. -/
def execCommitGroupCopy (g : Fin 8) (st : State) : Outcome := st.act fun c _ => c.commitGroup g

/-- PTP_SYNC_RX (R372): A Sync with its Follow_Up from the current best master yields a valid or invalid offset
measurement. -/
def execPtpSyncRx (n p : Fin 2) (m : SyncMsg) (st : State) : Outcome := st.act fun c _ => c.syncRx n p m

/-- FIRST_LOCK (R40): on completed acquisition station time is stepped once by the median offset at a tick boundary
and TIME.STATE becomes LOCKED. -/
def execFirstLock (st : State) : Outcome := st.act fun c _ => c.cmdFirstLock

/-- TIME_ACQ_WAIT_EXPIRY (R39): the start-up acquisition wait ends without a step and start-up continues free-running
with UNSYNC_TIME set. -/
def execTimeAcqWaitExpiry (st : State) : Outcome := st.act fun c _ => c.acqWaitExpiry

/-- HOLDOVER_ENTRY (R46): A locked station without a valid offset for 1 s enters HOLDOVER with its averaged rate
correction. -/
def execHoldoverEntry (st : State) : Outcome := st.act fun c _ => c.holdoverEntry

/-- TIME_SOURCE_WRITE (R547): A write of TIME.SOURCE in STOP changes the time source at the next boundary with the
effects on acquisition or lock state. -/
def execTimeSourceWrite (p : Path) (v : Nat) (st : State) : Outcome :=
  st.act fun c _ => c.pathNumber p Od.TIME_SOURCE v

/-- TIME_RESTEP (R48): writing 0x01 to TIME.RESTEP in STOP requests a re-step and sets RESTEP_PENDING. -/
def execTimeRestep (p : Path) (v : Nat) (st : State) : Outcome := st.act fun c _ => c.pathNumber p Od.TIME_RESTEP v

/-- RESTEP_PERFORM (R48): A pending re-step is made at a tick boundary after a fresh acquisition or to
TIME.RESTEP_VALUE. -/
def execRestepPerform (st : State) : Outcome := st.act fun c _ => c.cmdReStep

/-- TICK_PERIOD_WRITE (R53): A write of TICK.PERIOD in STOP changes the period from the first boundary of the new grid
after the current tick. -/
def execTickPeriodWrite (p : Path) (v : Nat) (st : State) : Outcome :=
  st.act fun c _ => c.pathNumber p Od.TICK_PERIOD v

end Sys2Proof.Machine
end

