-- ==== Sys2Proof/Machine/UniversalCmd.lean ====
section
/-! DEFINITION. The meanings of the commands of universal channels and HART (chapter 07). -/

namespace Sys2Proof.Machine

/-- SD_RESULT (R265): A sigma-delta conversion completes with its conversion-end stamp. -/
def execSdResult (i : Fin 24) (raw int ext extStat : Nat) (st : State) : Outcome :=
  st.act fun c _ => c.sdResult i raw int ext extStat

/-- UIO_OPEN_WIRE_CHECK (R271): once per second an RTD, RES or TC channel runs its open-wire check. -/
def execUioOpenWireCheck (i : Fin 24) (failed : Bool) (st : State) : Outcome :=
  st.act fun c _ => c.uioOpenCheck i failed

/-- TRANSMITTER_SHORT (R272): the transmitter supply in current limit for 100 ms sets SHORT. -/
def execTransmitterShort (i : Fin 24) (on : Bool) (st : State) : Outcome :=
  st.act fun c _ => c.transmitterShort i on

/-- NAMUR_FAULT (R273): A NAMUR current beyond the open-wire or short threshold for 10 ms sets the flag. -/
def execNamurFault (i : Fin 24) (short on : Bool) (st : State) : Outcome :=
  st.act fun c _ => c.namurFault i short on

/-- COMPLIANCE (R279): headroom below 1.0 V for 1 ms sets COMPLIANCE. -/
def execCompliance (i : Fin 24) (low : Bool) (st : State) : Outcome := st.act fun c _ => c.complianceChange i low

/-- FAIL_ACTIVE (R279): headroom below 1.0 V for 100 ms drives the fail value and sets FAIL_ACTIVE. -/
def execFailActive (i : Fin 24) (st : State) : Outcome := st.act fun c _ => c.failActive i

/-- UIO_ACK (R280): writing 0x01 to UIO.ACK clears FAIL_ACTIVE at the next group commit. -/
def execUioAck (p : Path) (i : Fin 24) (v : Nat) (st : State) : Outcome :=
  st.act fun c _ => c.pathNumber p (Od.UIO_ACK i) v

/-- PASSIVE_CONTACT_LOSS (R281): an IOUT_PASSIVE front end without update for 10 ms applies its stored off state. -/
def execPassiveContactLoss (i : Fin 24) (loopLost : Bool) (st : State) : Outcome :=
  st.act fun c _ => c.contactLoss i loopLost

/-- PASSIVE_START_UP (R281): an IOUT_PASSIVE front end starts once the loop voltage reaches 7.5 V. -/
def execPassiveStartUp (i : Fin 24) (st : State) : Outcome := st.act fun c _ => c.passiveStart i

/-- THERMAL_LIMIT (R282): A junction above 140 °C limits the output current and sets THERMAL_LIMIT. -/
def execThermalLimit (i : Fin 24) (tj : Nat) (st : State) : Outcome := st.act fun c _ => c.thermalLimited i tj

/-- THERMAL_OFF (R282): A junction at 155 °C sends the channel to its off state with THERMAL_OFF. -/
def execThermalOff (i : Fin 24) (st : State) : Outcome := st.act fun c _ => c.thermalOff i

/-- UIO_THERMAL_RESTART (R282): A channel in THERMAL_OFF returns when its junction falls below 135 °C, and the thermal
limit ends when Tj falls. -/
def execUioThermalRestart (i : Fin 24) (tj : Nat) (st : State) : Outcome := st.act fun c _ => c.thermalRestart i tj

/-- VOUT_SHORT (R283): A VOUT current limit active for 100 ms sets SHORT. -/
def execVoutShort (i : Fin 24) (on : Bool) (st : State) : Outcome := st.act fun c _ => c.voutShort i on

/-- UG_SUPPLY_LOW (R284): A group supply below 90 % for 1 ms sets SUPPLY_LOW and turns the group outputs off. -/
def execUgSupplyLow (u : Fin 3) (st : State) : Outcome := st.act fun c _ => c.ugSupplyLow u

/-- UG_SUPPLY_RECOVERED (R284): after 100 ms of regulation SUPPLY_LOW clears and outputs return at the next commit. -/
def execUgSupplyRecovered (u : Fin 3) (done : Bool) (st : State) : Outcome :=
  st.act fun c _ => c.ugRecovered u done

/-- HART_REQ (R291): A write to HART.REQ starts one HART transaction. -/
def execHartReq (p : Path) (i : Fin 24) (req : Bytes) (st : State) : Outcome :=
  st.act fun c _ => c.pathData p (Od.HART_REQ i) req

/-- HART_CANCEL (R291): writing 0x01 to HART.CANCEL ends a transaction with RESULT 4. -/
def execHartCancel (p : Path) (i : Fin 24) (v : Nat) (st : State) : Outcome :=
  st.act fun c _ => c.pathNumber p (Od.HART_CANCEL i) v

/-- HART_RESPONSE_RX (R289): A HART response is received and checked, completing the transaction or causing a retry.
-/
def execHartResponseRx (i : Fin 24) (frame : Bytes) (parityOk : Bool) (st : State) : Outcome :=
  st.act fun c _ => c.hartResponse i frame parityOk

/-- HART_TIMEOUT (R289): no response begun 256 ms after a request is a time-out and the request is repeated or ended.
-/
def execHartTimeout (i : Fin 24) (st : State) : Outcome := st.act fun c _ => c.hartTimeout i

/-- HART_BURST_RX (R292): A burst frame from the configured device is stored and its status byte updates DEVICE. -/
def execHartBurstRx (i : Fin 24) (frame : Bytes) (st : State) : Outcome := st.act fun c _ => c.hartBurst i frame

/-- HART_IDENTIFY_POLL (R290): in IDENTIFYING command 0 is sent every 5 s until a valid response gives the unique ID.
-/
def execHartIdentifyPoll (i : Fin 24) (st : State) : Outcome := st.act fun c _ => c.hartPoll i

/-- HART_OTHER_MASTER_FRAME_RX (R292): A frame of the configured device answering the other master is heard and
updates HART.DEV_STATUS and DEVICE. -/
def execHartOtherMasterFrameRx (i : Fin 24) (frame : Bytes) (st : State) : Outcome :=
  st.act fun c _ => c.hartOther i frame

end Sys2Proof.Machine
end

