-- ==== Sys2Proof/Machine/Dispatch.lean ====
section
/-! DEFINITION. The dispatch: one arm for each command, each a direct call of its meaning. -/

namespace Sys2Proof.Machine

def exec (i : Instr) (s : State) : Host.Outcome State Fault Refusal :=
  match i with
  -- The tick and station time (chapter 01; R547)
  | .tickBoundary a0 => Sys2Proof.Machine.execTickBoundary a0 s
  | .jobRelease => Sys2Proof.Machine.execJobRelease s
  | .commitGroupCopy a0 => Sys2Proof.Machine.execCommitGroupCopy a0 s
  | .ptpSyncRx a0 a1 a2 => Sys2Proof.Machine.execPtpSyncRx a0 a1 a2 s
  | .firstLock => Sys2Proof.Machine.execFirstLock s
  | .timeAcqWaitExpiry => Sys2Proof.Machine.execTimeAcqWaitExpiry s
  | .holdoverEntry => Sys2Proof.Machine.execHoldoverEntry s
  | .timeSourceWrite a0 a1 => Sys2Proof.Machine.execTimeSourceWrite a0 a1 s
  | .timeRestep a0 a1 => Sys2Proof.Machine.execTimeRestep a0 a1 s
  | .restepPerform => Sys2Proof.Machine.execRestepPerform s
  | .tickPeriodWrite a0 a1 => Sys2Proof.Machine.execTickPeriodWrite a0 a1 s
  -- The Ply (chapter 02)
  | .voterItemCompare a0 a1 => Sys2Proof.Machine.execVoterItemCompare a0 a1 s
  | .strandBistDone a0 a1 => Sys2Proof.Machine.execStrandBistDone a0 a1 s
  | .tcmCopyDone a0 => Sys2Proof.Machine.execTcmCopyDone a0 s
  | .unvotedResume a0 => Sys2Proof.Machine.execUnvotedResume a0 s
  | .tcmScrub a0 a1 a2 a3 => Sys2Proof.Machine.execTcmScrub a0 a1 a2 a3 s
  | .agreeselWrite a0 a1 => Sys2Proof.Machine.execAgreeselWrite a0 a1 s
  | .agreeExchangeEnd => Sys2Proof.Machine.execAgreeExchangeEnd s
  | .socmdWrite a0 a1 => Sys2Proof.Machine.execSocmdWrite a0 a1 s
  | .debugHalt a0 => Sys2Proof.Machine.execDebugHalt a0 s
  | .debugStep a0 => Sys2Proof.Machine.execDebugStep a0 s
  | .debugAbstractCommand a0 => Sys2Proof.Machine.execDebugAbstractCommand a0 s
  | .debugResumeLead => Sys2Proof.Machine.execDebugResumeLead s
  | .debugHeldRequest => Sys2Proof.Machine.execDebugHeldRequest s
  -- The spindles: Xdraft, pairs, run-ahead, errors and debug requests (chapter 03)
  | .tickWait a0 a1 => Sys2Proof.Machine.execTickWait a0 a1 s
  | .tickWaitWake a0 => Sys2Proof.Machine.execTickWaitWake a0 s
  | .jobPop a0 a1 => Sys2Proof.Machine.execJobPop a0 a1 s
  | .draftPairWaitExpiry a0 => Sys2Proof.Machine.execDraftPairWaitExpiry a0 s
  | .jobPush a0 a1 a2 a3 => Sys2Proof.Machine.execJobPush a0 a1 a2 a3 s
  | .jobPair a0 a1 a2 a3 => Sys2Proof.Machine.execJobPair a0 a1 a2 a3 s
  | .jobDoneFinish a0 a1 => Sys2Proof.Machine.execJobDoneFinish a0 a1 s
  | .jobDoneAbandon a0 a1 => Sys2Proof.Machine.execJobDoneAbandon a0 a1 s
  | .jobDoneSuspend a0 a1 => Sys2Proof.Machine.execJobDoneSuspend a0 a1 s
  | .stageB a0 a1 a2 a3 => Sys2Proof.Machine.execStageB a0 a1 a2 a3 s
  | .stageH a0 a1 a2 a3 => Sys2Proof.Machine.execStageH a0 a1 a2 a3 s
  | .stageW a0 a1 a2 a3 => Sys2Proof.Machine.execStageW a0 a1 a2 a3 s
  | .loopGo a0 a1 a2 a3 a4 => Sys2Proof.Machine.execLoopGo a0 a1 a2 a3 a4 s
  | .loopWait a0 a1 => Sys2Proof.Machine.execLoopWait a0 a1 s
  | .evClaim a0 a1 => Sys2Proof.Machine.execEvClaim a0 a1 s
  | .evDone a0 a1 a2 => Sys2Proof.Machine.execEvDone a0 a1 a2 s
  | .rahMark a0 a1 a2 a3 => Sys2Proof.Machine.execRahMark a0 a1 a2 a3 s
  | .fenceI a0 => Sys2Proof.Machine.execFenceI a0 s
  | .overflowAppend a0 => Sys2Proof.Machine.execOverflowAppend a0 s
  | .pairComparisonEnd => Sys2Proof.Machine.execPairComparisonEnd s
  | .runAheadPlace a0 a1 a2 => Sys2Proof.Machine.execRunAheadPlace a0 a1 a2 s
  | .level0Place a0 => Sys2Proof.Machine.execLevel0Place a0 s
  | .sramUncorrectable a0 => Sys2Proof.Machine.execSramUncorrectable a0 s
  | .spindleScrub a0 a1 => Sys2Proof.Machine.execSpindleScrub a0 a1 s
  | .creelUncorrectable a0 a1 a2 => Sys2Proof.Machine.execCreelUncorrectable a0 a1 a2 s
  | .creelScrub a0 => Sys2Proof.Machine.execCreelScrub a0 s
  | .icacheParityError a0 => Sys2Proof.Machine.execIcacheParityError a0 s
  | .spindleDebugHalt a0 => Sys2Proof.Machine.execSpindleDebugHalt a0 s
  | .spindleDebugStep a0 => Sys2Proof.Machine.execSpindleDebugStep a0 s
  | .spindleDebugAbstract a0 => Sys2Proof.Machine.execSpindleDebugAbstract a0 s
  | .spindleDebugResume a0 => Sys2Proof.Machine.execSpindleDebugResume a0 s
  | .loadStoreAccessFault a0 a1 a2 a3 => Sys2Proof.Machine.execLoadStoreAccessFault a0 a1 a2 a3 s
  -- The loop units (chapter 04)
  | .loopEvaluation a0 a1 a2 a3 a4 => Sys2Proof.Machine.execLoopEvaluation a0 a1 a2 a3 a4 s
  | .loopLateDiscard a0 a1 => Sys2Proof.Machine.execLoopLateDiscard a0 a1 s
  | .loopDescriptorWrite a0 a1 a2 => Sys2Proof.Machine.execLoopDescriptorWrite a0 a1 a2 s
  | .loopWOutWrite a0 a1 => Sys2Proof.Machine.execLoopWOutWrite a0 a1 s
  | .loopWClear a0 a1 => Sys2Proof.Machine.execLoopWClear a0 a1 s
  | .loopClearAll a0 a1 => Sys2Proof.Machine.execLoopClearAll a0 a1 s
  -- Remote stations, program images and retained variables (chapter 05)
  | .remoteInputImageRx a0 a1 => Sys2Proof.Machine.execRemoteInputImageRx a0 a1 s
  | .remoteMissLimit a0 => Sys2Proof.Machine.execRemoteMissLimit a0 s
  | .remoteOutputImageRx a0 a1 => Sys2Proof.Machine.execRemoteOutputImageRx a0 a1 s
  | .rstaWatchdogExpiry => Sys2Proof.Machine.execRstaWatchdogExpiry s
  | .progImageWrite a0 a1 a2 a3 => Sys2Proof.Machine.execProgImageWrite a0 a1 a2 a3 s
  | .progCmdVerify a0 => Sys2Proof.Machine.execProgCmdVerify a0 s
  | .progCmdPrepare a0 => Sys2Proof.Machine.execProgCmdPrepare a0 s
  | .progCmdArm a0 a1 => Sys2Proof.Machine.execProgCmdArm a0 a1 s
  | .progCmdCancel a0 => Sys2Proof.Machine.execProgCmdCancel a0 s
  | .progCmdErase a0 => Sys2Proof.Machine.execProgCmdErase a0 s
  | .variableTransfer => Sys2Proof.Machine.execVariableTransfer s
  | .progChangeover => Sys2Proof.Machine.execProgChangeover s
  | .retainCopy a0 => Sys2Proof.Machine.execRetainCopy a0 s
  -- Digital channels, field groups, test-pulse sources and safe outputs (chapter 06)
  | .dioLevelAccepted a0 a1 => Sys2Proof.Machine.execDioLevelAccepted a0 a1 s
  | .chatterClear a0 => Sys2Proof.Machine.execChatterClear a0 s
  | .dioOpenWire a0 a1 => Sys2Proof.Machine.execDioOpenWire a0 a1 s
  | .stuckActive a0 => Sys2Proof.Machine.execStuckActive a0 s
  | .testPulseStart a0 => Sys2Proof.Machine.execTestPulseStart a0 s
  | .pulseLowSample a0 a1 => Sys2Proof.Machine.execPulseLowSample a0 a1 s
  | .counterEdge a0 a1 a2 => Sys2Proof.Machine.execCounterEdge a0 a1 a2 s
  | .countCmdPreset a0 a1 a2 => Sys2Proof.Machine.execCountCmdPreset a0 a1 a2 s
  | .outputShort a0 => Sys2Proof.Machine.execOutputShort a0 s
  | .thermalShutdown a0 => Sys2Proof.Machine.execThermalShutdown a0 s
  | .thermalRetry a0 => Sys2Proof.Machine.execThermalRetry a0 s
  | .shortClear a0 => Sys2Proof.Machine.execShortClear a0 s
  | .openLoad a0 a1 => Sys2Proof.Machine.execOpenLoad a0 a1 s
  | .externalDrive a0 a1 => Sys2Proof.Machine.execExternalDrive a0 a1 s
  | .fgLow a0 a1 => Sys2Proof.Machine.execFgLow a0 a1 s
  | .fgCut a0 => Sys2Proof.Machine.execFgCut a0 s
  | .fgRecovery a0 => Sys2Proof.Machine.execFgRecovery a0 s
  | .fgHoldEnd a0 => Sys2Proof.Machine.execFgHoldEnd a0 s
  | .fgAck a0 a1 a2 a3 => Sys2Proof.Machine.execFgAck a0 a1 a2 a3 s
  | .fgTrip a0 => Sys2Proof.Machine.execFgTrip a0 s
  | .fgMissing a0 a1 => Sys2Proof.Machine.execFgMissing a0 a1 s
  | .tpOverload a0 => Sys2Proof.Machine.execTpOverload a0 s
  | .tpExtVoltage a0 => Sys2Proof.Machine.execTpExtVoltage a0 s
  | .soDarkTest a0 a1 a2 a3 => Sys2Proof.Machine.execSoDarkTest a0 a1 a2 a3 s
  | .soReadbackMismatch a0 a1 => Sys2Proof.Machine.execSoReadbackMismatch a0 a1 s
  | .soExtVoltage a0 => Sys2Proof.Machine.execSoExtVoltage a0 s
  | .soOverload a0 => Sys2Proof.Machine.execSoOverload a0 s
  | .soAck a0 a1 a2 => Sys2Proof.Machine.execSoAck a0 a1 a2 s
  -- Universal channels and HART (chapter 07)
  | .sdResult a0 a1 a2 a3 a4 => Sys2Proof.Machine.execSdResult a0 a1 a2 a3 a4 s
  | .uioOpenWireCheck a0 a1 => Sys2Proof.Machine.execUioOpenWireCheck a0 a1 s
  | .transmitterShort a0 a1 => Sys2Proof.Machine.execTransmitterShort a0 a1 s
  | .namurFault a0 a1 a2 => Sys2Proof.Machine.execNamurFault a0 a1 a2 s
  | .compliance a0 a1 => Sys2Proof.Machine.execCompliance a0 a1 s
  | .failActive a0 => Sys2Proof.Machine.execFailActive a0 s
  | .uioAck a0 a1 a2 => Sys2Proof.Machine.execUioAck a0 a1 a2 s
  | .passiveContactLoss a0 a1 => Sys2Proof.Machine.execPassiveContactLoss a0 a1 s
  | .passiveStartUp a0 => Sys2Proof.Machine.execPassiveStartUp a0 s
  | .thermalLimit a0 a1 => Sys2Proof.Machine.execThermalLimit a0 a1 s
  | .thermalOff a0 => Sys2Proof.Machine.execThermalOff a0 s
  | .uioThermalRestart a0 a1 => Sys2Proof.Machine.execUioThermalRestart a0 a1 s
  | .voutShort a0 a1 => Sys2Proof.Machine.execVoutShort a0 a1 s
  | .ugSupplyLow a0 => Sys2Proof.Machine.execUgSupplyLow a0 s
  | .ugSupplyRecovered a0 a1 => Sys2Proof.Machine.execUgSupplyRecovered a0 a1 s
  | .hartReq a0 a1 a2 => Sys2Proof.Machine.execHartReq a0 a1 a2 s
  | .hartCancel a0 a1 a2 => Sys2Proof.Machine.execHartCancel a0 a1 a2 s
  | .hartResponseRx a0 a1 a2 => Sys2Proof.Machine.execHartResponseRx a0 a1 a2 s
  | .hartTimeout a0 => Sys2Proof.Machine.execHartTimeout a0 s
  | .hartBurstRx a0 a1 => Sys2Proof.Machine.execHartBurstRx a0 a1 s
  | .hartIdentifyPoll a0 => Sys2Proof.Machine.execHartIdentifyPoll a0 s
  | .hartOtherMasterFrameRx a0 a1 => Sys2Proof.Machine.execHartOtherMasterFrameRx a0 a1 s
  -- Safety functions and Scrim (chapter 08)
  | .sinDiscrepancy a0 => Sys2Proof.Machine.execSinDiscrepancy a0 s
  | .safetyCrcCheck => Sys2Proof.Machine.execSafetyCrcCheck s
  | .axisFault a0 => Sys2Proof.Machine.execAxisFault a0 s
  | .scrimCopyRx a0 a1 => Sys2Proof.Machine.execScrimCopyRx a0 a1 s
  | .scrimSkewExpiry a0 => Sys2Proof.Machine.execScrimSkewExpiry a0 s
  | .scrimWatchdog a0 => Sys2Proof.Machine.execScrimWatchdog a0 s
  -- The redundant pair and the witness (chapter 09)
  | .pairingIdentityExchange a0 => Sys2Proof.Machine.execPairingIdentityExchange a0 s
  | .activeToggleStop => Sys2Proof.Machine.execActiveToggleStop s
  | .takeoverOnLoss a0 => Sys2Proof.Machine.execTakeoverOnLoss a0 s
  | .tiebreak => Sys2Proof.Machine.execTiebreak s
  | .laneDown a0 => Sys2Proof.Machine.execLaneDown a0 s
  | .laneUp a0 => Sys2Proof.Machine.execLaneUp a0 s
  | .partnerTogglingDetected => Sys2Proof.Machine.execPartnerTogglingDetected s
  | .releaseRx a0 => Sys2Proof.Machine.execReleaseRx a0 s
  | .stepRecordRx a0 => Sys2Proof.Machine.execStepRecordRx a0 s
  | .recordWaitExpiry => Sys2Proof.Machine.execRecordWaitExpiry s
  | .resyncAdopt a0 => Sys2Proof.Machine.execResyncAdopt a0 s
  | .partnerDetection => Sys2Proof.Machine.execPartnerDetection s
  | .startWaitExpiry => Sys2Proof.Machine.execStartWaitExpiry s
  | .creelTransferAdopt a0 => Sys2Proof.Machine.execCreelTransferAdopt a0 s
  | .moduleHeartbeatSend => Sys2Proof.Machine.execModuleHeartbeatSend s
  | .witnessHeartbeatSend => Sys2Proof.Machine.execWitnessHeartbeatSend s
  | .moduleHeartbeatRx a0 a1 => Sys2Proof.Machine.execModuleHeartbeatRx a0 a1 s
  | .witnessHeartbeatRx a0 a1 => Sys2Proof.Machine.execWitnessHeartbeatRx a0 a1 s
  | .takeOrderRx a0 a1 => Sys2Proof.Machine.execTakeOrderRx a0 a1 s
  | .releaseOrderRx a0 a1 a2 => Sys2Proof.Machine.execReleaseOrderRx a0 a1 a2 s
  | .orderAckRx a0 a1 => Sys2Proof.Machine.execOrderAckRx a0 a1 s
  | .takeAckRx => Sys2Proof.Machine.execTakeAckRx s
  | .takeNakRx => Sys2Proof.Machine.execTakeNakRx s
  | .witnessLost => Sys2Proof.Machine.execWitnessLost s
  | .returnRequest => Sys2Proof.Machine.execReturnRequest s
  | .handoverReqLapse => Sys2Proof.Machine.execHandoverReqLapse s
  | .pairCmdHandover a0 => Sys2Proof.Machine.execPairCmdHandover a0 s
  | .pairCmdResync a0 => Sys2Proof.Machine.execPairCmdResync a0 s
  | .pairCmdClearUnfit a0 => Sys2Proof.Machine.execPairCmdClearUnfit a0 s
  -- The station networks and PTP (chapter 10)
  | .portLinkChange a0 a1 a2 => Sys2Proof.Machine.execPortLinkChange a0 a1 a2 s
  | .frameForward a0 a1 a2 a3 a4 => Sys2Proof.Machine.execFrameForward a0 a1 a2 a3 a4 s
  | .ptpAnnounceRx a0 a1 a2 => Sys2Proof.Machine.execPtpAnnounceRx a0 a1 a2 s
  | .ptpDelayRespRx a0 a1 => Sys2Proof.Machine.execPtpDelayRespRx a0 a1 s
  | .ptpDelayReqSend a0 => Sys2Proof.Machine.execPtpDelayReqSend a0 s
  | .ptpFollowTimeout => Sys2Proof.Machine.execPtpFollowTimeout s
  | .ptpMasterSync a0 => Sys2Proof.Machine.execPtpMasterSync a0 s
  | .ptpAnnounceReceiptTimeout a0 => Sys2Proof.Machine.execPtpAnnounceReceiptTimeout a0 s
  | .ptpDelayReqRx a0 a1 a2 a3 a4 a5 => Sys2Proof.Machine.execPtpDelayReqRx a0 a1 a2 a3 a4 a5 s
  | .ptpMasterAnnounce a0 => Sys2Proof.Machine.execPtpMasterAnnounce a0 s
  | .mrpTopologyChangeRx a0 a1 => Sys2Proof.Machine.execMrpTopologyChangeRx a0 a1 s
  | .mrpFlush a0 => Sys2Proof.Machine.execMrpFlush a0 s
  | .arpRequestRx a0 a1 a2 a3 => Sys2Proof.Machine.execArpRequestRx a0 a1 a2 a3 s
  | .icmpEchoRx a0 a1 a2 a3 a4 a5 => Sys2Proof.Machine.execIcmpEchoRx a0 a1 a2 a3 a4 a5 s
  | .frameReady => Sys2Proof.Machine.execFrameReady s
  | .launch a0 => Sys2Proof.Machine.execLaunch a0 s
  | .appFrameRx a0 a1 a2 a3 => Sys2Proof.Machine.execAppFrameRx a0 a1 a2 a3 s
  | .rxObjectAged a0 => Sys2Proof.Machine.execRxObjectAged a0 s
  | .fdbEntryAgeing a0 a1 => Sys2Proof.Machine.execFdbEntryAgeing a0 a1 s
  -- The dictionary service: sessions and messages (R391 to R393, R476)
  | .dsOpen a0 a1 a2 => Sys2Proof.Machine.execDsOpen a0 a1 a2 s
  | .dsClose a0 a1 => Sys2Proof.Machine.execDsClose a0 a1 s
  | .dsAckOnly a0 a1 => Sys2Proof.Machine.execDsAckOnly a0 a1 s
  | .dsDatagram a0 a1 a2 => Sys2Proof.Machine.execDsDatagram a0 a1 a2 s
  | .dsRetransmitTimeout a0 => Sys2Proof.Machine.execDsRetransmitTimeout a0 s
  | .dsIdleTimeout a0 => Sys2Proof.Machine.execDsIdleTimeout a0 s
  | .tlsHandshakeTimeout a0 => Sys2Proof.Machine.execTlsHandshakeTimeout a0 s
  | .dsRead a0 a1 => Sys2Proof.Machine.execDsRead a0 a1 s
  | .dsWrite a0 a1 => Sys2Proof.Machine.execDsWrite a0 a1 s
  | .dsReadSegment a0 a1 => Sys2Proof.Machine.execDsReadSegment a0 a1 s
  | .dsWriteSegment a0 a1 => Sys2Proof.Machine.execDsWriteSegment a0 a1 s
  -- The CAN controllers (chapter 11)
  | .canLaunch a0 a1 => Sys2Proof.Machine.execCanLaunch a0 a1 s
  | .canFrameTxEnd a0 a1 => Sys2Proof.Machine.execCanFrameTxEnd a0 a1 s
  | .canArbitrationLost a0 => Sys2Proof.Machine.execCanArbitrationLost a0 s
  | .canBusError a0 a1 a2 a3 => Sys2Proof.Machine.execCanBusError a0 a1 a2 a3 s
  | .canBusoffRecovery a0 => Sys2Proof.Machine.execCanBusoffRecovery a0 s
  | .canIntegrationComplete a0 => Sys2Proof.Machine.execCanIntegrationComplete a0 s
  | .canTxbCancel a0 a1 a2 => Sys2Proof.Machine.execCanTxbCancel a0 a1 a2 s
  | .canFrameRx a0 a1 a2 => Sys2Proof.Machine.execCanFrameRx a0 a1 a2 s
  | .canRxObjectAged a0 => Sys2Proof.Machine.execCanRxObjectAged a0 s
  | .canQAck a0 a1 a2 => Sys2Proof.Machine.execCanQAck a0 a1 a2 s
  | .ttReferenceLaunch a0 a1 => Sys2Proof.Machine.execTtReferenceLaunch a0 a1 s
  | .ttReferenceRx a0 a1 a2 => Sys2Proof.Machine.execTtReferenceRx a0 a1 a2 s
  | .ttReferenceMissed a0 => Sys2Proof.Machine.execTtReferenceMissed a0 s
  | .ttFollowerLost a0 => Sys2Proof.Machine.execTtFollowerLost a0 s
  | .canCmdSleep a0 a1 => Sys2Proof.Machine.execCanCmdSleep a0 a1 s
  | .canSleepEntered a0 => Sys2Proof.Machine.execCanSleepEntered a0 s
  | .canCmdWake a0 a1 => Sys2Proof.Machine.execCanCmdWake a0 a1 s
  | .canBusWake a0 a1 => Sys2Proof.Machine.execCanBusWake a0 a1 s
  | .canCmdRecover a0 a1 => Sys2Proof.Machine.execCanCmdRecover a0 a1 s
  -- The SDO server (R420, R466)
  | .sdoInitiateDownload a0 a1 => Sys2Proof.Machine.execSdoInitiateDownload a0 a1 s
  | .sdoDownloadSegment a0 a1 => Sys2Proof.Machine.execSdoDownloadSegment a0 a1 s
  | .sdoInitiateUpload a0 a1 => Sys2Proof.Machine.execSdoInitiateUpload a0 a1 s
  | .sdoUploadSegment a0 a1 => Sys2Proof.Machine.execSdoUploadSegment a0 a1 s
  | .sdoAbort a0 a1 => Sys2Proof.Machine.execSdoAbort a0 a1 s
  | .sdoBlockRequest a0 a1 => Sys2Proof.Machine.execSdoBlockRequest a0 a1 s
  | .sdoSegmentTimeout a0 => Sys2Proof.Machine.execSdoSegmentTimeout a0 s
  -- The event router (chapter 12)
  | .evSourceChange a0 a1 => Sys2Proof.Machine.execEvSourceChange a0 a1 s
  | .evCoalWindowEnd a0 => Sys2Proof.Machine.execEvCoalWindowEnd a0 s
  | .evRaise a0 a1 a2 => Sys2Proof.Machine.execEvRaise a0 a1 a2 s
  | .evClear a0 a1 a2 => Sys2Proof.Machine.execEvClear a0 a1 a2 s
  | .evMaskWrite a0 a1 a2 => Sys2Proof.Machine.execEvMaskWrite a0 a1 a2 s
  | .evRetarget a0 a1 a2 => Sys2Proof.Machine.execEvRetarget a0 a1 a2 s
  | .evCfgWrite a0 a1 a2 => Sys2Proof.Machine.execEvCfgWrite a0 a1 a2 s
  | .evInterruptTake a0 a1 a2 => Sys2Proof.Machine.execEvInterruptTake a0 a1 a2 s
  | .evPlyClaim => Sys2Proof.Machine.execEvPlyClaim s
  | .evPlyComplete a0 => Sys2Proof.Machine.execEvPlyComplete a0 s
  -- The event recorder (chapter 13)
  | .skeinRequest a0 a1 a2 a3 => Sys2Proof.Machine.execSkeinRequest a0 a1 a2 a3 s
  | .skeinWrite => Sys2Proof.Machine.execSkeinWrite s
  | .skeinRefill a0 => Sys2Proof.Machine.execSkeinRefill a0 s
  | .skeinMirrorProgram a0 => Sys2Proof.Machine.execSkeinMirrorProgram a0 s
  | .skeinFlashErase a0 => Sys2Proof.Machine.execSkeinFlashErase a0 s
  | .skeinRead a0 => Sys2Proof.Machine.execSkeinRead a0 s
  -- The dictionary, the memory window, Countersign and security (chapter 14)
  | .dictionaryWrite a0 a1 a2 => Sys2Proof.Machine.execDictionaryWrite a0 a1 a2 s
  | .winWideLoad a0 a1 => Sys2Proof.Machine.execWinWideLoad a0 a1 s
  | .winWideStore a0 a1 a2 => Sys2Proof.Machine.execWinWideStore a0 a1 a2 s
  | .winDomainLoad a0 a1 => Sys2Proof.Machine.execWinDomainLoad a0 a1 s
  | .winDomainStore a0 a1 a2 => Sys2Proof.Machine.execWinDomainStore a0 a1 a2 s
  | .domainLockTimeout a0 a1 => Sys2Proof.Machine.execDomainLockTimeout a0 a1 s
  | .configRecordWrite => Sys2Proof.Machine.execConfigRecordWrite s
  | .csStageWrite a0 a1 a2 => Sys2Proof.Machine.execCsStageWrite a0 a1 a2 s
  | .csCmdSeal a0 => Sys2Proof.Machine.execCsCmdSeal a0 s
  | .csCmdAbandon a0 => Sys2Proof.Machine.execCsCmdAbandon a0 s
  | .csSign a0 a1 => Sys2Proof.Machine.execCsSign a0 a1 s
  | .csWindowExpiry => Sys2Proof.Machine.execCsWindowExpiry s
  | .csIdleAbandon => Sys2Proof.Machine.execCsIdleAbandon s
  | .credentialLockExpiry a0 => Sys2Proof.Machine.execCredentialLockExpiry a0 s
  | .secCmdEndCommissioning a0 => Sys2Proof.Machine.execSecCmdEndCommissioning a0 s
  | .commissioningExpiry => Sys2Proof.Machine.execCommissioningExpiry s
  -- Run states, queued reactions and health (chapter 15)
  | .stateCmdStop a0 => Sys2Proof.Machine.execStateCmdStop a0 s
  | .stateCmdRun a0 => Sys2Proof.Machine.execStateCmdRun a0 s
  | .reactionQueuedStart => Sys2Proof.Machine.execReactionQueuedStart s
  | .safeResume => Sys2Proof.Machine.execSafeResume s
  | .healthEvaluation a0 => Sys2Proof.Machine.execHealthEvaluation a0 s
  -- Power, reset and the vault (chapter 16)
  | .logicSupplyLow a0 => Sys2Proof.Machine.execLogicSupplyLow a0 s
  | .logicSupplyOvervoltage a0 => Sys2Proof.Machine.execLogicSupplyOvervoltage a0 s
  | .powerFail a0 a1 => Sys2Proof.Machine.execPowerFail a0 a1 s
  | .logicSupplyRise a0 a1 => Sys2Proof.Machine.execLogicSupplyRise a0 a1 s
  | .resetNAssert => Sys2Proof.Machine.execResetNAssert s
  | .resetNRelease a0 a1 => Sys2Proof.Machine.execResetNRelease a0 a1 s
  | .vbatSupervisorTrip => Sys2Proof.Machine.execVbatSupervisorTrip s
  | .vbatRestore => Sys2Proof.Machine.execVbatRestore s
  | .rtcWrite => Sys2Proof.Machine.execRtcWrite s
  | .dieOvertemperature => Sys2Proof.Machine.execDieOvertemperature s

end Sys2Proof.Machine
end

