-- ==== Sys2Proof/Safety.lean ====
section
/-! DEFINITION. The terms in which statements speak of a command and of what may be relied on: the state after a command's own
effect, a request that its path and the checks of R465 let through, and the recorder's bounds (R449 to R455). -/

namespace Sys2Proof.Machine

/-! ## The state after a command -/

/-- The state after a command whose own effect leaves the core `d`: what follows every command is done, and the command's
record requests are in the recorder's queue (R449, R497, R498). -/
def State.finishing (s : State) (d : Core) : State := s.finish true (d, s.skein)

/-- The same for a command of the recorder, whose own effect leaves the recorder `r` beside the core. -/
def State.finishingWith (s : State) (d : Core) (r : Recorder) : State := s.finish true (d, r)

/-- The same for an event of the supplies or of RESET_N, whose requests keep the order in which they were made. -/
def State.powering (s : State) (d : Core) (r : Recorder) : State := s.finish false (d, r)

/-- `c` is the core as a command of the state finds it, powered and out of reset: nothing recorded nor sent by it yet, the
draft requests that came before it decided (R109). -/
def State.finds (s : State) (c : Core) : Prop := c = s.core.starting.drafted ∧ c.alive = true

/-- The same for a job.pop, whose request is decided together with those of its core cycle (R109). -/
def State.requests (s : State) (c : Core) : Prop := c = s.core.starting ∧ c.alive = true

/-! ## Requests (R464 to R473) -/

/-- A request of a path is served at once: the dictionary serves, the path is open and not stalled, the executive runs. -/
def Core.serves (c : Core) (p : Path) : Bool :=
  c.dictServes && c.pathOpen p && (c.pathStalls p).isNone && c.ply.unvoted.isNone

/-- A write of the number `v` by a path passes every check of R465. -/
def Core.mayWrite (c : Core) (p : Path) (k v : Nat) : Bool :=
  c.serves p && (match c.checkWrite p k v with | .ok r => c.valueOk k r v | .error _ => false)

/-- The configuration with the value `v` of entry `k` meets no rule of Table 15.3. -/
def Core.acceptsConfig (c : Core) (k v : Nat) : Prop :=
  lowest (c.valueRejects k v ++ ((c.merged.wr k v).valueTaken k v).rejectsFor k) = none

/-- A write of a whole content by a path passes the checks of R465. -/
def Core.mayWriteBytes (c : Core) (p : Path) (k : Nat) : Bool :=
  c.serves p && (match c.checkWrite p k 0 with | .ok r => r.isDomain | .error _ => false)

/-- What a path shows of a request served: a memory window shows it in WIN.STATUS (R467). -/
def Core.shown (c : Core) (p : Path) : Core :=
  match p.master with
  | none => c
  | some m => c.winStatus m c.replyCode

/-- The protection entries of master `m` (0 the strands, n + 1 SPn) permit an access: `right` 0 load, 1 store, 2 fetch (R54,
R90). -/
def Core.pmpOk (c : Core) (m a size right : Nat) : Bool :=
  if m = 0 then c.plyPmp a size right else c.spinPmp (m - 1) a size right

/-- The core as an access of master `m` begins: its last exception is no longer shown. -/
def Core.accessing (c : Core) (m : Nat) : Core :=
  if m = 0 then { c with ply := { c.ply with trap := none } } else c.updSpin (m - 1) fun s => { s with trap := none }

/-! ## Spindles (R98, R99) -/

/-- SPn executes its next instruction: enabled, neither retired nor halted, and waiting inside none. -/
def Core.canExecute (c : Core) (n : Nat) : Bool := c.spinRuns n && !(c.spin n).blocked

/-- The core with no exception shown on SPn, as an instruction of SPn begins. -/
def Core.untrapped (c : Core) (n : Nat) : Core := c.updSpin n fun s => { s with trap := none }

/-- The word is an encoding of the operation, with every unused register field 0 (Table 03.4). -/
def Xop.encodes (o : Xop) (w : Nat) : Bool := o.names w && o.unusedZero w

/-- The open job of SPn is closed with a result of job.done, and counted. -/
def Core.closing (c : Core) (n rd : Nat) : Core :=
  (c.updSpin n fun s => { s with job := none, buf := [], stalled := none, rd := rd }).inc64 (Od.SP_JOBS n)

/-! ## The recorder (R449 to R455) -/

/-- Sequence numbers rise strictly from above `lo`. -/
def seqRising : Nat → List Entry → Prop
  | _, [] => True
  | lo, e :: l => lo < e.seq ∧ seqRising e.seq l

/-- No entry lies above the last sequence number assigned. -/
def seqUpTo (n : Nat) (l : List Entry) : Prop := ∀ e ∈ l, e.seq ≤ n

/-- The recorder within the bounds the spec gives it: the request queue, the mirror queue and the RAM ring with their places;
the entries of the ring and of the mirror queue in strictly rising SEQ, none above the last SEQ assigned; the slots of the
ring distinct and in use from slot 0 on; the sectors of the flash ring within their size; a lost-counter for each
severity. -/
structure Recorder.Ok (r : Recorder) : Prop where
  queueBound : r.queue.length ≤ 256
  mirrorBound : r.mirror.length ≤ 1024
  ringBound : r.ring.length ≤ ringSlots
  ringRising : seqRising 0 (r.ring.map Prod.snd)
  ringUpTo : seqUpTo r.lastSeq (r.ring.map Prod.snd)
  mirrorRising : seqRising 0 r.mirror
  mirrorUpTo : seqUpTo r.lastSeq r.mirror
  slotsDistinct : (r.ring.map Prod.fst).Nodup
  slotsInUse : ∀ i ∈ r.ring.map Prod.fst, i < r.ring.length
  sectorBound : ∀ s ∈ r.flash, s.entries.length ≤ sectorEntries
  lostLength : r.lost.length = 7

/-! ## Commands that act without the logic being alive -/

/-- The events of the supplies, of RESET_N and of the vault domain, which act in every run state (Table 15.1). -/
def powerCommand : Instr → Bool
  | .powerFail _ _ => true
  | .logicSupplyRise _ _ => true
  | .resetNAssert => true
  | .resetNRelease _ _ => true
  | .vbatSupervisorTrip => true
  | .vbatRestore => true
  | _ => false

/-- The commands of the recorder's writer (R450, R453). -/
def writerCommand : Instr → Bool
  | .skeinWrite => true
  | .skeinRefill _ => true
  | _ => false

end Sys2Proof.Machine
end

