-- ==== Sys2Proof/Certificates/Slice0/Obligations.lean ====
section
/-! DEFINITION. The statements for the provers, each a proposition about the model and the rules of spec/ it comes from. -/

section

open Sys2Proof Sys2Proof.Machine

/-- A write by any path of TIME.RESTEP, TIME.SOURCE or TICK.PERIOD that passes the checks of R465, and with which the
configuration meets no reject code, is made. TIME.RESTEP sets RESTEP_PENDING and, after the first lock, begins a fresh
acquisition. TIME.SOURCE is stored, to take effect at the next boundary. TICK.PERIOD is stored, and the tick in
progress ends at the first boundary of the new grid at or after its scheduled end. The path shows the write done, and
nothing else of the core changes but the count of free values. (01_tick_and_station_time.md R48, R53, R547;
14_dictionary_and_countersign.md R465) -/
def Obligations.TimeWritesTakeEffect : Prop :=
  ∀ (s : State) (c : Core) (p : Path) (v : Nat), s.finds c →
    (c.mayWrite p Od.TIME_RESTEP v = true →
      exec (.timeRestep p v) s = .next (s.finishing (Core.shown
        { (c.used 3).setBit Od.TIME_FLAGS 6 true with
          clk := if c.clk.locked then { c.clk with acq := [], acqNet := 0 } else c.clk, reply := .done } p))) ∧
    (c.mayWrite p Od.TIME_SOURCE v = true →
      exec (.timeSourceWrite p v) s = .next (s.finishing ((((c.used 3).wr Od.TIME_SOURCE v).cfgChanged.answer .done).shown p))) ∧
    (c.mayWrite p Od.TICK_PERIOD v = true → (c.used 3).acceptsConfig Od.TICK_PERIOD v →
      exec (.tickPeriodWrite p v) s = .next (s.finishing (Core.shown
        { ((c.used 3).wr Od.TICK_PERIOD v).cfgChanged with
          clk := { c.clk with nextB := ceilMul c.clk.schedEnd (tickNs v) }, reply := .done } p)))

/-- A Sync of the best master, in time and with a usable path delay on the followed network, counts in PTP.VALID, notes
its instant, and its offset, t1 + correction + delay + asymmetry - t2, is taken as a valid measurement. A completed
acquisition steps station time at once at a boundary by the median of its four offsets; elsewhere the step waits for
the next boundary. After the step station time is moved by the median and the clock is locked. A re-step that can be
made behaves alike, to TIME.RESTEP_VALUE with TIME.SOURCE 0. The acquisition wait that ends in INIT without a step
lets start-up go on. A locked station that has had no valid offset for 1 s enters HOLDOVER with an average of the
corrections of the last 8 s, between the smallest and the largest of them (which value between these is left open, log
entry 9). (01_tick_and_station_time.md R38, R39, R40, R46, R48; 10_ethernet_and_time_stamping.md R372) -/
def Obligations.StationTimeCommandsComplete : Prop :=
  ∀ (s : State) (c : Core), s.finds c →
    (∀ (n p : Fin 2) (m : SyncMsg) (b : Announce) (d : Int), c.ptpOn n = true → m.domain = c.rd (Od.PTP_DOMAIN n) →
      (c.ptp n).best = some b → b.source = m.source → m.inTime = true → c.pathDelay n p = some d →
      c.rd Od.PTP_FOLLOWED = n + 1 →
      exec (.ptpSyncRx n p m) s = .next (s.finishing (((c.inc32 (Od.PTP_VALID n)).updPtp n fun x =>
        { x with sync := some (m.t1 + m.correction, m.t2), lastValid := some c.clk.cyc }).validOffset (n + 1)
          (m.t1 + m.correction + d + toInt 32 (c.rd (Od.PTP_ASYM_NS n)) - m.t2)))) ∧
    (c.clk.running = true → c.lockReady = true →
      (c.atBoundary = false → exec .firstLock s = .next (s.finishing { c with clk := { c.clk with stepDue := true } })) ∧
      (c.atBoundary = true → exec .firstLock s = .next (s.finishing c.firstLock) ∧
        c.firstLock.clk.now = ((c.clk.now : Int) + acqMedian c.clk.acq).toNat ∧ c.firstLock.clk.locked = true ∧
        c.firstLock.clk.state = .locked)) ∧
    (c.clk.running = true → c.reStepReady = true →
      (c.atBoundary = false → exec .restepPerform s = .next (s.finishing { c with clk := { c.clk with stepDue := true } })) ∧
      (c.atBoundary = true → exec .restepPerform s = .next (s.finishing c.reStep) ∧
        c.reStep.clk.now = ((c.clk.now : Int) + (if c.clk.source = 0 then (c.rd Od.TIME_RESTEP_VALUE : Int) - c.clk.now
          else acqMedian c.clk.acq)).toNat)) ∧
    (c.run = .init → c.react.startDone = true → c.pwr.acqOver = false → c.clk.locked = false →
      exec .timeAcqWaitExpiry s = .next (s.finishing
        { c.atCyc (c.pwr.acqStart + ms (c.rd Od.TIME_ACQ_WAIT)) with pwr := { c.pwr with acqOver := true } })) ∧
    (c.clk.state = .locked → exec .holdoverEntry s = .next (s.finishing
      ((c.atCyc (c.clk.lastValid + 1000000000)).enterHoldover
        (averageRate (ratesSince c.clk.lastValid c.clk.rates)))))

/-- With the tick generator running, TICK_BOUNDARY ends the reactions of the tick before, advances the clock to the
boundary, closes the tick, ends a synchronisation exchange that is due, applies the configuration that waited, latches
the inputs, plans the frames, begins the step, makes the executive's changes, releases the tasks, loads the bobbins,
steps the loop table and evaluates the safety functions, in this order. JOB_RELEASE, once per tick, is made at phase 0
+ 1,000 cycles: the loaded entries are released and batches start unless work is held back after an un-votable event,
sleeping spindles wake, and the step record goes out. COMMIT_GROUP_COPY, once per tick and group, is made at the
group's commit cycle: its words are copied, its outputs follow, and the safe-output voter acts in the group of SO.CG;
while the executive stands still only the voter acts. (01_tick_and_station_time.md R20, R23, R29, R33;
03_spindles_and_drafting.md R102) -/
def Obligations.TickSequenceRunsInOrder : Prop :=
  ∀ (s : State) (c : Core), s.finds c → c.clk.running = true →
    (∀ x : BoundaryFacts,
      exec (.tickBoundary x) s = .next (s.finishing (
        let a := (((c.endReactions.missTests (c.rd Od.TICK_COUNT + 1)).clockBoundary.followNow).closeTick.exchangeEnd.applyDue).applyDioCfg.applyUioCfgs
        let b : Core := if x.ready && !a.react.startDone then
            { a with react := { a.react with startDone := true }, pwr := { a.pwr with acqStart := a.clk.cyc } }
          else a
        let l := b.latch x.sar x.weak
        let e := (l.1.planFrames.canBoundary.watchTick.coldBoundary.keepAlive.orderBoundary.witnessRole).beginStep b.pair.latch
        let f := (e.1.rejoinAll.boundaryChanges.boundaryInterrupts.changeoverCheck).boundaryReleases e.2
        let g := f.1.loadBobbins x.service f.2
        let h := (if g.tickWork then g.loopBoundary else g).evCfgApply
        (h.agreeFields l.2.1).sfEvaluate l.2.2 (if h.role == .standby then e.2.map (·.fields) else none)))) ∧
    (c.rd Od.TICK_COUNT ≠ 0 →
      (c.arr.released = false →
        exec .jobRelease s = .next (s.finishing (
          let a := c.atCyc (c.clk.tickCyc + 1000)
          let b := (if a.ply.holdWork then a else a.releaseLoads a.clk.cyc).updArr fun y => { y with released := true }
          let d := (List.range 32).foldl Core.wakeRelease b
          ((if d.ply.holdWork then d else d.startBatches d.clk.cyc).endLoopWaits.evPulse 449).sendRecord))) ∧
      (∀ g : Fin 8, (g : Nat) ∉ c.arr.committed →
        (c.ply.holdWork = true →
          exec (.commitGroupCopy g) s = .next (s.finishing (
            let a := c.atCyc (c.commitCycle c.clk.tickCyc g)
            (if a.rd Od.SO_CG = g then a.soCommit else a).updArr fun y => { y with committed := y.committed ++ [g.val] }))) ∧
        (c.ply.holdWork = false →
          exec (.commitGroupCopy g) s = .next (s.finishing (
            let a := (((c.atCyc (c.commitCycle c.clk.tickCyc g)).copyWords g).applyOutputs g).commitUnits g
            let b := ((if a.rd Od.SO_CG = g then a.soCommit else a).scrimTxGroup g).imageTxGroup g
            let d := ((b.markLate g).updArr fun y => { y with committed := y.committed ++ [g.val] }).evPulse (441 + g)
            if d.slack then d.hashEnd else d)))))

/-- While the Ply runs in lock-step with three strands in step, an item whose three copies agree and which goes to no TCM
of a strand is released to its destination; an item that is no store and of which one copy differs is released as the
two others have it, and that strand is judged a minority. A fenced strand whose BIST ends 6 ms after it was fenced
starts its copy on a pass and is retired on a failure. A strand whose TCM copy ends takes the TCMs of the strands in
step and waits for a boundary, no longer REJOINING. After the BIST of an un-votable event the Ply resumes with the
strands that passed, their data TCMs rebuilt from the creel and the image, where two or three of them are left, and
fails otherwise. A corrected TCM error is counted and recorded for each strand of its mask.
(02_ply_triplex_executive.md R55, R60, R61, R62, R68, R69, R74) -/
def Obligations.VoterAndReadmissionComplete : Prop :=
  ∀ (s : State) (c : Core), s.finds c →
    (c.run ≠ .failed → c.ply.unvoted = none → c.ply.split = false → c.stepping = [0, 1, 2] →
      (∀ (kind : Nat) (i : ItemCopy), kind ≠ 0 ∨ inTcm i.addr = false →
        exec (.voterItemCompare kind [i, i, i]) s = .next (s.finishing (c.release s.skein kind i))) ∧
      (∀ (kind : Nat) (i j : ItemCopy), kind ≠ 0 → j ≠ i →
        exec (.voterItemCompare kind [i, i, j]) s = .next (s.finishing ((c.release s.skein kind i).minorityFence 2 kind 3 i.addr)) ∧
        exec (.voterItemCompare kind [i, j, i]) s = .next (s.finishing ((c.release s.skein kind i).minorityFence 1 kind 5 i.addr)) ∧
        exec (.voterItemCompare kind [j, i, i]) s = .next (s.finishing ((c.release s.skein kind i).minorityFence 0 kind 6 i.addr)))) ∧
    (∀ (x : Fin 3), c.strandBit x 2 = true → c.ply.unvoted = none →
      exec (.strandBistDone x 1) s = .next (s.finishing
        ((((c.atCyc ((c.strand x).fenceCyc + ms 6)).wr (Od.STRAND_BIST_RESULT x) 1).setStrandBit x 2 false).setStrandBit x 3 true)) ∧
      (∀ result : Nat, result ≠ 1 → exec (.strandBistDone x result) s = .next (s.finishing
        (((((c.atCyc ((c.strand x).fenceCyc + ms 6)).wr (Od.STRAND_BIST_RESULT x) result).retireStrand x 5).faultPart 0x0203 1).afterRetire)))) ∧
    (∀ (x : Fin 3) (m : Nat) (l : List Nat), c.strandBit x 3 = true → (c.strand x).rejoinWait = false → c.stepping = m :: l →
      exec (.tcmCopyDone x) s = .next (s.finishing
        ((c.setStrandBit x 3 false).updStrand x fun y => { y with rejoinWait := true, tcm := (c.strand m).tcm }))) ∧
    (∀ (u : Nat) (results : List Nat), c.ply.unvoted = some u → c.run = .safe →
      let d := (bitsSet 3 u).foldl (fun (c : Core) x =>
        if c.strandRetired x then c
        else if results.getD x 1 = 1 then c.wr (Od.STRAND_BIST_RESULT x) (results.getD x 1)
        else ((c.wr (Od.STRAND_BIST_RESULT x) (results.getD x 1)).retireStrand x 5).log 0x0203) (c.atCyc (c.react.safeQuiet + ms 6))
      let good := (bitsSet 3 u).filter fun x => !d.strandRetired x
      (2 ≤ good.length →
        let e := good.foldl (fun (c : Core) x =>
          (c.wr (Od.STRAND_STATUS x) (putBit (c.rd (Od.STRAND_STATUS x) &&& 0x0300) 0 true)).updStrand x fun y =>
            { y with rejoinWait := false, xfer := none, written := false, tokenKnown := false, firstEval := true,
                     tcm := c.rebuildTcm y.tcm, cpu := (d.strand (good.headD 0)).cpu }) d
        let f := ({ e with ply := { e.ply with unvoted := none } }).log 0x0206
        exec (.unvotedResume results) s = .next (s.finishing
          (if good.length = 2 ∧ (bitsSet 3 u).length = 3 then f.log 0x020C else f).leaveSafe)) ∧
      (good.length < 2 →
        exec (.unvotedResume results) s = .next (s.finishing
          ((({ d with ply := { d.ply with unvoted := none } }).logA 0x0207 (d.fresh 32) (Config.freeNat (d.free + 1))).used 2
            |>.startReaction ⟨4, 4, 0x0207, 1⟩ false)))) ∧
    (∀ (mask addr : Nat) (code : Bool),
      exec (.tcmScrub mask code false addr) s = .next (s.finishing
        ((bitsSet 3 mask).foldl (fun (c : Core) x => (c.inc32 (Od.STRAND_ECC_CORR x)).log1 0x0208 x) c)))

/-- A write of agreesel that selects a source of Table 02.4 starts a first try with the strands' samples and sets BUSY;
one that selects another value starts no exchange, sets DEFAULTED and leaves agreelo and agreehi 0. An exchange in
progress is combined 40 cycles after the write. In a variant with safe outputs a write of socmd stores the strand's
command and token. A debug request that PLY.DEBUG_EN refuses is recorded under 0x020A at severity 4 and answered with
the strands as unavailable; a halt or step request that it lets through splits the lock-step in INIT, STOP and RUN,
halts the strand in HOLD, and is held in SAFE; an abstract command is served outside FAILED: it answers the CSR it
names, or for another register a free value, since the block holds none (log entry 179). The lead strand resumes in a
split. A request held in SAFE takes effect after it. (02_ply_triplex_executive.md R64, R65, R66, R77, R81, R82, R83) -/
def Obligations.AgreementAndDebugComplete : Prop :=
  ∀ (s : State) (c : Core), s.finds c →
    (∀ (sel : Nat) (samples : List Nat),
      (5 < sel % 16 → exec (.agreeselWrite sel samples) s = .next (s.finishing
        { c with ply := { c.ply with agreesel := agreeselWord false true 0 (sel % 16), agreelo := 0, agreehi := 0 } })) ∧
      (sel % 16 ≤ 5 → c.ply.agreesel.testBit 31 = false → exec (.agreeselWrite sel samples) s = .next (s.finishing
        { c with ply := { c.ply with agreesel := agreeselWord true false 1 (sel % 16), samples := samples, agreeAt := c.clk.cyc } }))) ∧
    (c.ply.agreesel.testBit 31 = true → c.ply.samples ≠ [] →
      exec .agreeExchangeEnd s = .next (s.finishing (c.atCyc (c.ply.agreeAt + 40)).agreeCombine)) ∧
    (∀ (x : Fin 3) (v : Nat), c.safetyFuse ≠ 0 →
      exec (.socmdWrite x v) s = .next (s.finishing (c.updStrand x fun y =>
        { y with socmd := v % 512, written := true, tokenOk := !y.tokenKnown || (y.token != v.testBit 8) }))) ∧
    (∀ x : Fin 3,
      (c.rd Od.PLY_DEBUG_EN = 0 →
        exec (.debugHalt x) s = .next (s.finishing (((c.logSev 0x020A 4 x (c.fresh 32)).used 1).answer .unavailable)) ∧
        exec (.debugStep x) s = .next (s.finishing (((c.logSev 0x020A 4 x (c.fresh 32)).used 1).answer .unavailable)) ∧
        (∀ reg : Nat, exec (.debugAbstractCommand (x, reg)) s =
          .next (s.finishing (((c.logSev 0x020A 4 x (c.fresh 32)).used 1).answer .unavailable)))) ∧
      (c.rd Od.PLY_DEBUG_EN ≠ 0 →
        (c.run = .init ∨ c.run = .stop ∨ c.run = .run →
          exec (.debugHalt x) s = .next (s.finishing (c.debugSplit x)) ∧
          exec (.debugStep x) s = .next (s.finishing (c.debugSplit x))) ∧
        (c.run = .hold →
          exec (.debugHalt x) s = .next (s.finishing ((c.setStrandBit x 9 true).setStrandBit x 8 false)) ∧
          exec (.debugStep x) s = .next (s.finishing ((c.setStrandBit x 9 true).setStrandBit x 8 false))) ∧
        (c.run = .safe →
          exec (.debugHalt x) s = .next (s.finishing { c with ply := { c.ply with heldReq := some (x.val, false) } }) ∧
          exec (.debugStep x) s = .next (s.finishing { c with ply := { c.ply with heldReq := some (x.val, true) } })) ∧
        (∀ (n v : Nat), c.run ≠ .failed → n < 0x1000 → c.strandCsr x n = some v →
          exec (.debugAbstractCommand (x, n)) s = .next (s.finishing (c.answer (.value v)))) ∧
        (∀ n : Nat, c.run ≠ .failed → 0x1000 ≤ n →
          exec (.debugAbstractCommand (x, n)) s = .next (s.finishing ((c.answer (.value (c.fresh 32))).used 1))))) ∧
    (c.ply.split = true → c.run ≠ .failed →
      exec .debugResumeLead s = .next (s.finishing
        ((c.setStrandBit (c.rd Od.PLY_DEBUG_LEAD) 9 false).setStrandBit (c.rd Od.PLY_DEBUG_LEAD) 8 true))) ∧
    (∀ (x : Nat) (step : Bool), c.ply.heldReq = some (x, step) → c.run ≠ .safe →
      exec .debugHeldRequest s = .next (s.finishing (({ c with ply := { c.ply with heldReq := none } }).debugRequest x step)))

/-- On a spindle that executes, with an encoding of the instruction: tick.wait without an open job answers 0 where an
entry is on the bobbin and sleeps otherwise, and a sleeping spindle wakes with the value that its arrival fixed.
job.pop without an open job opens the first visible entry of the own bobbin and otherwise asks for a draft, which the
port decides together with the other requests of its core cycle, and again when a pair wait ends. job.push and
job.pair of a job that is not tentative answer 0 with 64 entries on the bobbin and else append one entry and answer 1.
job.done finishes an unpaired job that is not held with its words final and rd 0, abandons a job with rd 3, and
suspends a level-0 job. A kept overflow entry is appended once a place is free. (03_spindles_and_drafting.md R98, R99,
R102, R104, R106, R108, R109, R113, R122) -/
def Obligations.XdraftJobInstructionsComplete : Prop :=
  ∀ (s : State) (c : Core) (n : Fin 32) (w : Nat),
    (s.requests c → ∀ d : Core, c.canExecute n = true → d = c.untrapped n → Xop.jobPop.encodes w = true → (d.spin n).job = none →
      (∀ j : Job, firstVisible d.clk.cyc (d.spin n).bobbin = some j →
        exec (.jobPop n w) s = .next (s.finishing ((d.updSpin n fun x => x.without d.clk.cyc j).openOwn n j))) ∧
      (firstVisible d.clk.cyc (d.spin n).bobbin = none →
        exec (.jobPop n w) s = .next (s.finishing (d.updSpin n fun x => { x with draft := some d.clk.cyc })))) ∧
    (s.finds c →
    (∀ (v t : Nat), (c.spin n).waiting = true → (c.spin n).wake = some (v, t) →
      exec (.tickWaitWake n) s = .next (s.finishing (c.updSpin n fun x => { x with waiting := false, wake := none, rd := v }))) ∧
    (∀ since : Nat, (c.spin n).draft = some since →
      exec (.draftPairWaitExpiry n) s = .next (s.finishing (c.atCyc (since + c.rd Od.DRAFT_PAIR_WAIT)).draftRound)) ∧
    (∀ (j : Job) (l : List Job), (c.spin n).overflow = j :: l → (c.spin n).count c.clk.cyc < 64 → c.arr.released = true →
      exec (.overflowAppend n) s = .next (s.finishing
        ((c.updSpin n fun x => { x with bobbin := x.bobbin ++ [{ j with visible := c.clk.cyc + 1 }], overflow := l }).arrived
          n))) ∧
    (∀ d : Core, c.canExecute n = true → d = c.untrapped n →
      (Xop.tickWait.encodes w = true → (d.spin n).job = none →
        ((d.spin n).bobbin ≠ [] → exec (.tickWait n w) s = .next (s.finishing (d.setRd n 0))) ∧
        ((d.spin n).bobbin = [] →
          exec (.tickWait n w) s = .next (s.finishing (d.updSpin n fun x => { x with waiting := true, wake := none })))) ∧
      (∀ lo hi : Nat, d.tentativeJob n = none →
        (64 ≤ (d.spin n).count d.clk.cyc →
          (Xop.jobPush.encodes w = true → field hi 14 2 ≤ 1 → exec (.jobPush n w lo hi) s = .next (s.finishing (d.setRd n 0))) ∧
          (Xop.jobPair.encodes w = true → exec (.jobPair n w lo hi) s = .next (s.finishing (d.setRd n 0)))) ∧
        ((d.spin n).count d.clk.cyc < 64 →
          let word := hi % 2 ^ 32 * 2 ^ 32 + lo % 2 ^ 32
          let inst := match (d.spin n).job with | some j => j.inst | none => none
          let append (v : Nat) : Core :=
            ((d.updArr fun a => { a with uid := a.uid + 1 }).updSpin n fun x =>
              { x with bobbin := x.bobbin ++ [⟨v, d.arr.uid + 1, n, 2 ^ 40, inst, none, d.clk.cyc + 1, false⟩], rd := 1 }).peak
                (Od.SP_BOBBIN_PEAK n) (min 64 ((d.spin n).count d.clk.cyc + 1))
          (Xop.jobPush.encodes w = true → field hi 14 2 ≤ 1 →
            exec (.jobPush n w lo hi) s = .next (s.finishing (append word))) ∧
          (Xop.jobPair.encodes w = true →
            exec (.jobPair n w lo hi) s = .next (s.finishing (append (setField word 46 2 2)))))) ∧
      (∀ j : Job, Xop.jobDone.encodes w = true → (d.spin n).job = some j →
        (j.paired = false → d.jobHeld j = false → j.ahead = none →
          exec (.jobDoneFinish n w) s = .next (s.finishing
            (((d.closing n 0).finalise (d.closing n 0).clk.cyc (2 * n) (d.spin n).buf).closed j))) ∧
        exec (.jobDoneAbandon n w) s = .next (s.finishing ((d.abandon n).setRd n 3)) ∧
        (j.level = 0 →
          exec (.jobDoneSuspend n w) s = .next (s.finishing
            (((d.updArr fun a => { a with
                suspended := a.suspended ++ [j.setAff 0], saves := a.saves ++ [(j.uid, (d.spin n).buf)] }).updSpin n
              fun x => { x with job := none, buf := [], stalled := none, rd := d.fresh 32 }).used 1))))))

/-- On a spindle that executes, with an encoding of the instruction: a stage store with an open job, to an aligned address
of the staging range, writes its bytes into the stage buffer while the buffer holds at most 256 words. loop.go in
machine mode, of a job that is not tentative, arms the unit. loop.wait answers 0 where no unit is armed, waits while
the batch is to come or runs, and answers the batch status word after it. ev.claim and ev.done of a job that is not
tentative claim and complete. rah.mark outside a tentative job answers 0, and in one adds a range that fits the limits
of R124 with its shadow and answers 1. fence.i of a job that is not tentative raises the illegal-instruction
exception. A comparison that ends with equal buffers of a pair that is neither held, nor a re-run, nor tentative makes
the words final as of the higher-numbered spindle and closes the pair. (03_spindles_and_drafting.md R90, R99, R114,
R121, R124; 04_loop_unit.md R141; 12_event_router.md R435, R436) -/
def Obligations.XdraftStagingAndUnitInstructionsComplete : Prop :=
  ∀ (s : State) (c d : Core) (n : Fin 32) (w : Nat), s.finds c →
    (c.canExecute n = true → d = c.untrapped n →
      (∀ (rs1 rs2 a : Nat), (d.spin n).job ≠ none → a = ofInt 32 ((rs1 : Int) + sImm w) → 0x14000000 ≤ a → a ≤ 0x1400FFFF →
        let buf (size : Nat) := bufWrite (d.spin n).buf ⟨(a - 0x14000000) / 4, (2 ^ size - 1) * 2 ^ ((a - 0x14000000) % 4),
          mergeBytes 0 ((2 ^ size - 1) * 2 ^ ((a - 0x14000000) % 4)) (rs2 * 2 ^ (8 * ((a - 0x14000000) % 4)) % 2 ^ 32)⟩
        (Xop.stageB.encodes w = true → (buf 1).length ≤ 256 →
          exec (.stageB n w rs1 rs2) s = .next (s.finishing (d.updSpin n fun x => { x with buf := buf 1 }))) ∧
        (Xop.stageH.encodes w = true → a % 2 = 0 → (buf 2).length ≤ 256 →
          exec (.stageH n w rs1 rs2) s = .next (s.finishing (d.updSpin n fun x => { x with buf := buf 2 }))) ∧
        (Xop.stageW.encodes w = true → a % 4 = 0 → (buf 4).length ≤ 256 →
          exec (.stageW n w rs1 rs2) s = .next (s.finishing (d.updSpin n fun x => { x with buf := buf 4 })))) ∧
      (∀ addr count : Nat, Xop.loopGo.encodes w = true → d.tentativeJob n = none →
        exec (.loopGo n w true addr count) s = .next (s.finishing (d.armUnit n addr count))) ∧
      (Xop.loopWait.encodes w = true →
        (d.unitArmed n = false → exec (.loopWait n w) s = .next (s.finishing (d.setRd n 0))) ∧
        (d.unitArmed n = true → (d.spin n).batch ≠ none ∨ d.arr.released = false →
          exec (.loopWait n w) s = .next (s.finishing (d.updSpin n fun x => { x with loopWait := true }))) ∧
        (d.unitArmed n = true → (d.spin n).batch = none → d.arr.released = true → (d.spin n).batchWord ≠ 0 →
          exec (.loopWait n w) s = .next (s.finishing (d.setRd n (d.spin n).batchWord)))) ∧
      (d.tentativeJob n = none →
        (Xop.evClaim.encodes w = true →
          exec (.evClaim n w) s = .next (s.finishing ((d.evClaim (n + 1)).1.setRd n (d.evClaim (n + 1)).2))) ∧
        (∀ id : Nat, Xop.evDone.encodes w = true →
          exec (.evDone n w id) s = .next (s.finishing (d.evComplete (n + 1) id))) ∧
        (∀ rs1 rs2 : Nat, Xop.rahMark.encodes w = true →
          exec (.rahMark n w rs1 rs2) s = .next (s.finishing (d.setRd n 0)))) ∧
      (∀ (rs1 rs2 r : Nat) (x : Ahead), Xop.rahMark.encodes w = true → d.tentativeJob n = some r → d.record r = some x →
        x.ranges.length < 6 → 1 ≤ field rs2 0 16 → totalLen x.ranges + field rs2 0 16 ≤ 256 → field rs2 24 8 ≤ 3 →
        d.arr.records.foldl (fun t y => t + totalLen y.ranges) 0 + field rs2 0 16 ≤ 8192 →
        exec (.rahMark n w rs1 rs2) s = .next (s.finishing ((d.updRecord r fun y =>
          { y with ranges := y.ranges ++ [⟨rs1, field rs2 0 16, field rs2 24 8, some (d.readRange rs1 (field rs2 0 16))⟩] }).setRd
            n 1)))) ∧
    (c.spinRuns n = true → c.tentativeJob n = none →
      exec (.fenceI n) s = .next (s.finishing (c.updSpin n fun x =>
        { x with trap := some .illegalInstruction, cpu := x.cpu.trap 2 c.clk.cyc }))) ∧
    (∀ (x : Comparison) (l : List Comparison), c.arr.compares = x :: l →
      d = ((c.atCyc x.ends).updArr fun a => { a with compares := l }).inc64 Od.PAIR_COMPARED →
      d.jobHeld x.a.job = false → sameWords x.a.buf x.b.buf = true → x.a.job.rerun = false → x.a.job.ahead = none →
      exec .pairComparisonEnd s = .next (s.finishing
        ((d.finalise x.ends (2 * max x.a.sp x.b.sp) x.a.buf).closed x.a.job)))

/-- An entry that meets R123 is placed as a tentative entry with its record. In slack, the level-0 tasks up to the one
named have an entry placed, in ascending number: a suspended one, or that of a new cycle. An uncorrectable SRAM error
is recorded, abandons the open job and counts a fault. Corrected errors of a spindle and of the creel are counted and
recorded under 0x0309; so is a parity error of an instruction cache, whose line is invalidated and brought in anew. An
uncorrectable creel error of a spindle's read is counted and recorded; outside the Ply region it raises the load
access fault and abandons the open job, in it the other copy serves and repairs it, and with both copies bad it is an
L4 reaction too. A halt that is accepted is recorded and shown, an accepted step is served with nothing changed, an
accepted abstract command answers the CSR it names, or for another register a free value, since the block holds none
(log entry 179), and a resume ends the halt and the holds of its tasks. A load or store of a spindle that reaches its
range, that the spindle's protection entries permit and that meets no poisoned word is made; one that its range or its
protection entries forbid raises its access exception, and so does a fetch. (03_spindles_and_drafting.md R91, R92,
R96, R97, R117, R123, R129, R130; 05_program_execution.md R186; 00_scope.md R18) -/
def Obligations.SpindleServicesComplete : Prop :=
  ∀ (s : State) (c : Core) (n : Fin 32), s.finds c →
    (∀ (t r : Fin 64) (i h word home : Nat) (d : TaskDef), c.taskDef t = some d → d.jobs[i]? = some (h, word) →
      c.homeOf h (putBit word 45 true) = some home →
      ∀ j : Job, j = ⟨putBit word 45 true, c.arr.uid + 1, h, jobKey (c.rd (Od.TASK_PRIO t)) t i, none, some r,
          c.clk.cyc + 1, false⟩ → c.mayRunAhead t j = true → c.record r = none →
        ∀ e : Core, e = c.updArr (fun a => { a with
            uid := a.uid + 1, records := a.records ++ [⟨r, j, c.declared j, false, [], false, false⟩] }) →
        exec (.runAheadPlace t i r) s = .next (s.finishing
          ((e.peak Od.RA_RECORDS_PEAK e.arr.records.length).insertTail home { j with owner := home }))) ∧
    (∀ t : Fin 8, c.l0Slack = true →
      exec (.level0Place t) s = .next (s.finishing
        (((List.range (t + 1)).map (64 + ·)).foldl Core.placeOne c |>.updProg fun p => { p with
          l0Mark := (c.rd Od.TICK_COUNT, max (65 + t) (if c.prog.l0Mark.1 = c.rd Od.TICK_COUNT then c.prog.l0Mark.2 else 0)) })) ∧
      ∀ (e : Core) (u : Nat) (d : L0Def) (home : Nat), e.l0Def u = some d → e.homeOf d.home d.word = some home →
        (∀ j : Job, e.suspendedJob u = some j →
          e.placeOne u =
            (e.updArr fun a => { a with suspended := a.suspended.erase j }).insertTail home { j with owner := home }) ∧
        (e.suspendedJob u = none → e.prog.cycles.any (·.task == u) = false →
          e.placeOne u = ((e.updArr fun a => { a with uid := a.uid + 1 }).updProg fun p =>
            { p with cycles := p.cycles ++ [⟨u, e.clk.cyc⟩] }).insertTail home
              ⟨setField d.word 46 2 0, e.arr.uid + 1, home, 2 ^ 41 + u, none, none, e.clk.cyc + 1, false⟩)) ∧
    (c.spinUsable n = true → exec (.sramUncorrectable n) s = .next (s.finishing (((c.log1 0x0304 n).abandon n).spinFault n 2))) ∧
    ((n : Nat) < c.spindles →
      (∀ a : Nat, exec (.icacheParityError (n, a)) s = .next (s.finishing
        ((((c.updSpin n fun x => { x with icache := x.icache.filter fun l => l.1 != a / 64 }).updSpin n fun x =>
          x.fill (a / 64) (c.creel.read (a / 64 * 64) 64) c.clk.cyc).addW 32 (Od.SP_ECC_CORR n) 1).log 0x0309))) ∧
      ∀ k : Nat, 0 < k → exec (.spindleScrub n k) s = .next (s.finishing ((c.addW 32 (Od.SP_ECC_CORR n) k).log 0x0309))) ∧
    (∀ k : Nat, 0 < k → exec (.creelScrub k) s = .next (s.finishing ((c.addW 32 Od.CREEL_ECC_CORR k).log 0x0309))) ∧
    (∀ (a : Nat) (both : Bool) (d : Core),
      d = (((c.addPoison a).inc32 Od.CREEL_ECC_UNCORR).wr Od.CREEL_LAST_UNCORR_ADDR a).log1 0x0305 a →
      (inPlyRegion a = false → exec (.creelUncorrectable (some n) a both) s = .next (s.finishing ((d.raise n .loadAccess).abandon n))) ∧
      (inPlyRegion a = true → c.poisoned (plyMirror a) = false →
        exec (.creelUncorrectable (some n) a false) s = .next (s.finishing (d.mirrorFix a)) ∧
        exec (.creelUncorrectable (some n) a true) s = .next (s.finishing
          (((d.raise n .loadAccess).abandon n).nest 0x0305 4 unitCreel)))) ∧
    (c.spinUsable n = true → c.spinDebugOk = true →
      exec (.spindleDebugHalt n) s = .next (s.finishing
        ((c.tasksOn n).foldl (fun (d : Core) t =>
          ((d.updArr fun a => { a with holds := if a.holds.contains (t, n.val) then a.holds else a.holds ++ [(t, n.val)] }).setBit
            Od.SPIN_HELD_TASKS t true).setBit (Od.TASK_STATUS t) 4 true) ((c.setBit Od.SPIN_HALTED n true).log1 0x0308 n))) ∧
      exec (.spindleDebugStep n) s = .next (s.finishing c) ∧
      (∀ (reg v : Nat), reg < 0x1000 → c.spindleCsr n reg = some v →
        exec (.spindleDebugAbstract (n, reg)) s = .next (s.finishing (c.answer (.value v)))) ∧
      ∀ reg : Nat, 0x1000 ≤ reg → exec (.spindleDebugAbstract (n, reg)) s = .next (s.finishing ((c.answer (.value (c.fresh 32))).used 1))) ∧
    (c.spinUsable n = true → c.spinHalted n = true →
      exec (.spindleDebugResume n) s = .next (s.finishing
        (((c.setBit Od.SPIN_HALTED n false).log1 0x0308 n).updArr fun a => { a with holds := a.holds.filter (·.2 != n.val) }))) ∧
    (∀ (m : Fin 33) (a size : Nat), m.val = n.val + 1 → c.dictServes = true → c.canExecute n = true →
      (c.untrapped n).tentativeJob n = none →
      (mayLoad m a = true → c.pmpOk m a size 0 = true → inCreel a = true → c.poisonIn a size = none →
        exec (.loadStoreAccessFault m a size .load) s = .next (s.finishing ((c.untrapped n).setRd n (c.creel.word a size)))) ∧
      (∀ v : Nat, mayStore m a = true → c.pmpOk m a size 1 = true → inCreel a = true →
        exec (.loadStoreAccessFault m a size (.store v)) s = .next (s.finishing ((c.untrapped n).putCreel a (leBytes size v)))) ∧
      (mayLoad m a = false ∨ c.pmpOk m a size 0 = false →
        exec (.loadStoreAccessFault m a size .load) s = .next (s.finishing ((c.untrapped n).raise n .loadAccess))) ∧
      (mayFetch m a = false ∨ c.pmpOk m a size 2 = false →
        exec (.loadStoreAccessFault m a size .fetch) s = .next (s.finishing ((c.untrapped n).raise n .instructionAccess))) ∧
      (∀ v : Nat, mayStore m a = false ∨ c.pmpOk m a size 1 = false →
        exec (.loadStoreAccessFault m a size (.store v)) s = .next (s.finishing ((c.untrapped n).raise n .storeAccess))))

/-- The unit whose batch has an entry before it, and whose output cycle lies before the slot's deadline, takes 64 cycles
and the waits for it and evaluates the slot; then the batch goes on with the next entry that is due, or ends. An entry
whose waits reach its deadline is discarded and counted late, and STATUS and COUNTS take 7 cycles more; the cycle at
which the waits reach it lies within the 56 cycles of the evaluation after the waits, which one is open where the
command does not state it (log entry 189). A write that passes the checks is staged for the boundary: of a word of the
selected slot or an attribute of the selected table with which the configuration meets no reject code, of a MANUAL
output, and of the clears of the selected slot and of every slot. (04_loop_unit.md R140, R150, R152, R154, R161, R168;
14_dictionary_and_countersign.md R465) -/
def Obligations.LoopUnitCommandsComplete : Prop :=
  ∀ (s : State) (c : Core), s.finds c →
    (∀ (n : Fin 32) (b : Batch) (k waits : Nat) (l : List (Option Nat)), (c.spin n).batch = some b → b.todo = some k :: l →
      (∀ (errs : List Nat) (piErr : Option Nat) (check : Bool) (d e : Core), b.cyc + 56 + waits < c.slotDeadline k →
        d = ((c.atCyc (b.cyc + 64 + waits)).updSpin n fun x => { x with batch := x.batch.map fun y =>
          { y with todo := l, cyc := b.cyc + 64 + waits, waits := y.waits + waits } }) →
        e = d.evalSlot n k (b.cyc + waits) errs piErr check →
        exec (.loopEvaluation n waits errs piErr check) s = .next (s.finishing
          ((e.updSpin n fun x => { x with batch := x.batch.map fun y =>
            { y with done := y.done + b2n (e.slotWord k 0x7C != c.slotWord k 0x7C) } }).skipEntries n l))) ∧
      (∀ ov t : Nat, ov = c.slotDeadline k - (b.cyc + 56) →
        let discarded (x : Core) (t : Nat) : Core :=
          ((((x.atCyc (b.cyc + t)).updSpin n fun x => { x with batch := x.batch.map fun y =>
            { y with todo := l, cyc := b.cyc + t + 7, waits := y.waits + ov } }).lateSlot n k).skipEntries n l)
        (ov ≤ t → t ≤ ov + 55 →
          exec (.loopLateDiscard n t) s = .next (s.finishing (discarded c t))) ∧
        (c.slotDeadline k ≤ b.cyc + 56 + waits → ∀ (errs : List Nat) (piErr : Option Nat) (check : Bool),
          exec (.loopEvaluation n waits errs piErr check) s = .next (s.finishing (discarded (c.used 1) (ov + c.fresh 32 % 56)))))) ∧
    (∀ (p : Path) (v k : Nat), c.mayWrite p k v = true → v < 2 ^ 32 →
      (Od.LOOP_W_CTRL ≤ k → k < Od.LOOP_W_OUT →
        ∀ (d : Core) (slot : Nat), d = c.used 3 → slot = c.sel p Od.LOOP_SEL →
          lowest ((d.merged.setSlotWord slot (d.slotOffset slot (k % 256)) v).rejectsFor k) = none →
          exec (.loopDescriptorWrite p k (pathBytes p k v)) s = .next (s.finishing
            (((d.stageChange (.word slot (d.slotOffset slot (k % 256)) v)).answer .done).shown p)))) ∧
    (∀ (p : Path) (v : Nat),
      (c.mayWrite p Od.LOOP_W_OUT v = true → v < 2 ^ 32 →
        exec (.loopWOutWrite p v) s = .next (s.finishing
          ((((c.used 3).stageChange (.out (c.sel p Od.LOOP_SEL) v)).answer .done).shown p))) ∧
      (c.mayWrite p Od.LOOP_W_CLEAR v = true →
        exec (.loopWClear p v) s = .next (s.finishing
          ((((c.used 3).stageClears [c.sel p Od.LOOP_SEL]).answer .done).shown p))) ∧
      (c.mayWrite p Od.LOOP_CLEAR_ALL v = true →
        exec (.loopClearAll p v) s = .next (s.finishing
          ((((c.used 3).stageClears (List.range 4096)).answer .done).shown p))))

/-- At a controller, an input image of a configured station on one of its networks, with a right header, CRC and identity
and not seen before, is taken as valid. A test at the coming boundary that completes a cycle of an ONLINE station
without an image, and with it reaches RIO.MISS_LIMIT, counts RS.MISSED and makes the station OFFLINE. At a remote
station, an output image of its controller that is right and not seen before waits for the output commits, all eight
of them, and ends the quiet time. RSTA.WATCHDOG quiet ticks while SERVING make the reactions due at the commits and
count RSTA.WD_EXPIRIES. (05_program_execution.md R196, R197, R199, R200; 10_ethernet_and_time_stamping.md R386, R387,
R388, R389) -/
def Obligations.RemoteStationCommandsComplete : Prop :=
  ∀ (s : State) (c : Core), s.finds c → c.clk.running = true →
    (∀ (n : Fin 2) (img : Bytes) (r : Remote), c.roleFuse ≠ 1 → c.roleFuse ≠ 3 → headerOk 1 img 0x200 = true →
      c.remote? (beAt img 8 1) = some r → (c.rd (Od.RS_NETWORK (beAt img 8 1))).testBit n = true → imageCrcOk img = true →
      beAt img 4 4 = c.rd (Od.RS_IDENT (beAt img 8 1)) → r.seen ≠ some (beAt img 0xC 8) →
      exec (.remoteInputImageRx n img) s = .next (s.finishing (c.remoteValid (beAt img 8 1) (n + 1) img))) ∧
    (∀ (i : Fin 64) (r : Remote), c.remote? i = some r → c.rsOnline i = true →
      r.cycleFrom + c.rd (Od.RS_CYCLE i) ≤ c.rd Od.TICK_COUNT + 1 → r.got = false → c.rd Od.RIO_MISS_LIMIT ≤ r.misses + 1 →
      exec (.remoteMissLimit i) s = .next (s.finishing
        ((((c.atTime c.clk.nextB).updRemote i fun x =>
          { x with cycleFrom := c.rd Od.TICK_COUNT + 1, got := false, misses := if x.got then 0 else x.misses + 1 }).inc32
            (Od.RS_MISSED i)).remoteOffline i))) ∧
    (c.roleFuse = 1 →
      (∀ (n : Fin 2) (img : Bytes), c.rd Od.RSTA_NUMBER ≠ 0xFF → headerOk 2 img 0x80 = true → c.outputImageOk img = true →
        c.prog.outputs.seen ≠ some (beAt img 4 4, beAt img 0xC 8) →
        exec (.remoteOutputImageRx n img) s = .next (s.finishing (c.updProg fun x => { x with
          outputs := { image := some (c.clk.now, img), seen := some (beAt img 4 4, beAt img 0xC 8), quiet := 0,
                       todo := List.range 8, reactDue := false } }))) ∧
      (c.rd Od.RSTA_STATE = 1 → c.prog.outputs.reactDue = false → c.rd Od.RSTA_WATCHDOG ≤ c.prog.outputs.quiet →
        exec .rstaWatchdogExpiry s = .next (s.finishing ((c.updProg fun x => { x with
          outputs := { x.outputs with image := none, todo := List.range 8, reactDue := true } }).inc32 Od.RSTA_WD_EXPIRIES))))

/-- A segment of PROG.IMAGE that passes the checks goes to the inactive bank. A PROG.CMD that passes them verifies an
image in LOADED without a reject code, prepares one in VERIFIED for which admission, creel and slack suffice, arms one
in PREPARED at the commanded tick or 64 steps ahead (in a pair with its partner's consent), cancels an exchange up to
ARMED, and erases the inactive bank in IDLE and ABORTED. In the slack of the step before the changeover, with no
instance open, the variable transfer is made. At the changeover boundary, before the release, the switch is made and
the new tasks released and loaded. A copy of the retained variables that is due in a slack without open instances is
written to the active bank's log, or its failure recorded. (05_program_execution.md R202, R204, R205, R206, R209;
14_dictionary_and_countersign.md R465, R471) -/
def Obligations.ProgramExchangeCommandsComplete : Prop :=
  ∀ (s : State) (c : Core), s.finds c →
    (∀ (p : Path) (ofs : Nat) (data old : Bytes) (last : Bool) (d : Core), c.mayWriteBytes p Od.PROG_IMAGE = true →
      (old = match c.srv.writes.find? (fun w => w.key == Od.PROG_IMAGE && w.path == p) with | some w => w.data | none => []) →
      (splice old ofs data).length ≤ 0x1000000 →
      d = (if last then c.unlock p Od.PROG_IMAGE else (c.unlock p Od.PROG_IMAGE).updSrv fun x =>
        { x with writes := x.writes ++ [⟨Od.PROG_IMAGE, p, splice old ofs data, c.clk.cyc⟩] }) →
      exec (.progImageWrite p ofs data last) s = .next (s.finishing (((d.writeImage ofs data last).answer .done).shown p))) ∧
    (∀ (p : Path) (d : Core), d = c.used 3 →
      (c.mayWrite p Od.PROG_CMD 1 = true → d.rd Od.PROG_STATE = 2 → d.verifyCodes = [] →
        exec (.progCmdVerify p) s = .next (s.finishing ((((d.wr Od.PROG_STATE 3).wr Od.PROG_RESULT 0).answer .done).shown p))) ∧
      (∀ im : ImageSet, c.mayWrite p Od.PROG_CMD 2 = true → d.rd Od.PROG_STATE = 3 → d.exchangeOk = true →
        (d.bank d.inactiveBank).content = some im → d.prepareCodes = [] →
        (match d.prog.image with | some o => o.area.length | none => 0) + im.area.length ≤ 0x5C0000 →
        transferCycles (d.transferBytes im) ≤ d.slackCycles →
        exec (.progCmdPrepare p) s = .next (s.finishing (((((d.wr Od.PROG_STATE 4).wr Od.PROG_XFER_BYTES
          (d.transferBytes im)).wr Od.PROG_POSTPONED 0).answer .done).shown p))) ∧
      (∀ partner : Bool, c.mayWrite p Od.PROG_CMD 3 = true → d.rd Od.PROG_STATE = 4 → d.exchangeOk = true →
        d.pairMember = false ∨ d.role = .alone ∨ partner = true →
        d.rd Od.PROG_CHANGEOVER = 0 ∨ d.stepNumber + 16 ≤ d.rd Od.PROG_CHANGEOVER →
        exec (.progCmdArm p partner) s = .next (s.finishing (((((d.updProg fun x => { x with
          changeAt := if d.rd Od.PROG_CHANGEOVER = 0 then d.stepNumber + 64 else d.rd Od.PROG_CHANGEOVER,
          transferred := false }).carry (.armed (if d.rd Od.PROG_CHANGEOVER = 0 then d.stepNumber + 64 else
            d.rd Od.PROG_CHANGEOVER))).wr Od.PROG_STATE 5).answer .done).shown p))) ∧
      (c.mayWrite p Od.PROG_CMD 4 = true → d.rd Od.PROG_STATE ≤ 5 →
        exec (.progCmdCancel p) s = .next (s.finishing
          ((((d.updProg fun x => { x with transferred := false }).wr Od.PROG_STATE 0).answer .done).shown p))) ∧
      (c.mayWrite p Od.PROG_CMD 5 = true → d.rd Od.PROG_STATE = 0 ∨ d.rd Od.PROG_STATE = 7 →
        exec (.progCmdErase p) s = .next (s.finishing
          ((((d.setBank d.inactiveBank ⟨[], none, []⟩).wr Od.PROG_INACTIVE_ID 0).answer .done).shown p)))) ∧
    (c.rd Od.PROG_STATE = 5 → c.stepNumber + 1 = c.prog.changeAt → c.slack = true → c.anyOpen = false →
      exec .variableTransfer s = .next (s.finishing (c.updProg fun x => { x with
        transferred := true, transferEnd := c.clk.cyc + transferCycles (c.rd Od.PROG_XFER_BYTES) }))) ∧
    (∀ (im : ImageSet) (d : Core), c.changeoverDue = true → c.arr.released = false → (c.bank c.inactiveBank).content = some im →
      d = c.changeover.1 →
      exec .progChangeover s = .next (s.finishing
        ((d.boundaryReleases (if d.role == .standby then d.recordDue else none)).1.loadBobbins []
          (d.boundaryReleases (if d.role == .standby then d.recordDue else none)).2))) ∧
    (∀ (im : ImageSet) (fails : Bool), c.prog.retainWant = true ∨ c.prog.retainDue ≤ c.clk.cyc → c.slack = true →
      c.anyOpen = false → c.transferSlack = false → c.prog.image = some im →
      ∀ d : Core, d = c.updProg (fun x => { x with
          retainWant := false, retainDue := c.clk.cyc + ms (c.rd Od.PROG_RETAIN_PERIOD) }) →
        exec (.retainCopy fails) s = .next (s.finishing (if fails then d.log 0x050C else
          d.setBank (d.rd Od.PROG_ACTIVE_BANK) { d.bank (d.rd Od.PROG_ACTIVE_BANK) with
            retained := (im.vars.filter (·.retained)).map fun v => (v.hash, c.creel.read v.addr v.init.length) })))

/-- A level that began within a masking window of the channel's source is not accepted. Any other new accepted level of a
channel in use is shown and counted as an edge, counts for chatter on an input, starts or ends the time of
STUCK_ACTIVE, passes its value to the event router and is sampled for its pair; a 0 after 100 ms to 5 s of 1 on a
reset channel is kept for the reset. CHATTER ends one window after the last edge with record 0x0604 and OPEN_WIRE
follows its condition, its start with record 0x060A. An input whose accepted level is 1 sets STUCK_ACTIVE when
DIO.MAX_ON seconds are over, with record 0x0605. The sample of a pulse sets PULSE_LOW by the level 280 µs into the
pulse; for a channel that was 1 as the pulse began it also counts or ends the failures of the pulse check, and the
second failure in succession is a fault of the pair. (06_digital_channels.md R221, R222, R223, R224, R225;
08_safety_functions.md R302, R303) -/
def Obligations.DigitalInputEventsComplete : Prop :=
  ∀ (s : State) (c : Core) (i : Fin 48), s.finds c →
    (∀ (lvl : Bool) (d e : Core), d = c.sinElapse (i / 2) true → d.dioLive i = true → d.dioMode i ≠ 0 → d.dioBit i dsLevel ≠ lvl →
      c.pulseMasked i (c.clk.cyc - filterTime (field (c.chan i).cfg 4 3)) = false →
      e = (let a := (d.setDioBit i dsLevel lvl).inc32 (Od.DIO_EDGES i)
           let b := if a.dioIsInput i then a.countChatter i (d.dioBit i dsLevel) else a
           let g := if lvl then b.updChan i fun x => { x with since := b.clk.cyc } else b.setDioBit i dsStuck false
           (g.evLevel (65 + i) (g.dioValue i)).sinSample (i / 2)) →
      exec (.dioLevelAccepted i lvl) s = .next (s.finishing
        (if c.dioBit i dsLevel && !e.dioBit i dsLevel && e.resetChannel i && ms 100 ≤ e.clk.cyc - (c.chan i).since &&
            e.clk.cyc - (c.chan i).since ≤ ms 5000
         then e.updSafety fun x => { x with resets := x.resets.filter (· != i.val) ++ [i.val] } else e))) ∧
    (∀ lvl : Bool, c.pulseMasked i (c.clk.cyc - filterTime (field (c.chan i).cfg 4 3)) = true →
      exec (.dioLevelAccepted i lvl) s = .next (s.finishing c)) ∧
    (c.dioLive i = true →
      (∀ d : Core, c.dioBit i dsChatter = true →
        d = ((c.atCyc ((c.chan i).lastEdge + c.chatterWin i)).setDioBit i dsChatter false).log 0x0604 →
        exec (.chatterClear i) s = .next (s.finishing (d.evLevel (65 + i) (d.dioValue i)))) ∧
      (∀ below : Bool, c.dioIsInput i = true → (c.chan i).cfg.testBit 7 = true → c.dioBit i dsOpenWire ≠ below →
        exec (.dioOpenWire i below) s = .next (s.finishing
          (if below then (c.setDioBit i dsOpenWire true).log 0x060A else c.setDioBit i dsOpenWire false))) ∧
      (c.rd (Od.DIO_MAX_ON i) ≠ 0 → c.dioIsInput i = true → c.dioBit i dsLevel = true → c.dioBit i dsStuck = false →
        exec (.stuckActive i) s = .next (s.finishing
          (((c.atCyc ((c.chan i).since + c.rd (Od.DIO_MAX_ON i) * 1000000000 + 1)).setDioBit i dsStuck true).log 0x0605))) ∧
      (∀ (k t : Nat) (low : Bool) (d : Core), k = field (c.chan i).cfg 8 3 → (c.chan i).cfg.testBit 11 = true →
        c.tpPulsing k = true → (c.tpSource k).pulse = some t →
        d = (c.atCyc (t + us 280)).setDioBit i dsPulseLow low →
        exec (.pulseLowSample i low) s = .next (s.finishing
          (if d.safetyFuse = 0 ∨ d.safety.atPulse.testBit i = false then d
           else if low then (d.updSafety fun x => { x with pulseFails := setAt x.pulseFails i 0 }).pulsePend (i / 2)
           else
             let n := min 2 (d.safety.pulseFails.getD i 0 + 1)
             let e := ((d.updSafety fun x => { x with pulseFails := setAt x.pulseFails i n }).pulsePend (i / 2)).inc32
               (Od.SIN_PULSE_FAILS (i / 2))
             if n = 2 then (e.sinElapse (i / 2) false).sinFault (i / 2) (2 + i % 2) else e))))

/-- New levels of A and B are kept, but for one that began within a masking window of its channel's source. In a mode that
uses both, a change of both at once counts an encoder error with record 0x060B and no step. Any other change counts
one up or down as Table 06.3 says, or not at all: modulo COUNT.MODULO if that is not 0, else within the range of a
signed 32-bit number, whose end sets the overflow bit with record 0x060B and stops the count. COUNT.CMD = 1 sets
PRESET_PENDING. (06_digital_channels.md R227, R228, R229, R230, R231) -/
def Obligations.CounterCommandsComplete : Prop :=
  ∀ (s : State) (c : Core) (k : Fin 8), s.finds c →
    (c.clk.running = true → c.dioCount ≠ 0 → ∀ (a b x y a' b' : Bool) (d : Core),
      c.io.inputs.getD k (false, false) = (a, b) →
      a' = (if c.pulseMasked (2 * k) (c.clk.cyc - countFilterTime (c.rd (Od.COUNT_FILTER k))) then a else x) →
      b' = (if c.pulseMasked (2 * k + 1) (c.clk.cyc - countFilterTime (c.rd (Od.COUNT_FILTER k))) then b else y) →
      d = c.updField (fun x => { x with inputs := setAt x.inputs k (a', b') }) →
      (3 ≤ c.rd (Od.COUNT_MODE k) → a ≠ a' → b ≠ b' →
        exec (.counterEdge k x y) s = .next (s.finishing
          (((d.inc32 (Od.COUNT_ENC_ERRORS k)).setBit (Od.COUNT_STATUS k) 1 true).log 0x060B))) ∧
      (c.rd (Od.COUNT_MODE k) < 3 ∨ a = a' ∨ b = b' →
        (countDir (c.rd (Od.COUNT_MODE k)) a b a' b' = none →
          exec (.counterEdge k x y) s = .next (s.finishing d)) ∧
        (∀ (upward : Bool) (v m : Int), countDir (c.rd (Od.COUNT_MODE k)) a b a' b' = some upward →
          v = c.io.counts.getD k 0 + (if upward then 1 else -1) → m = c.rd (Od.COUNT_MODULO k) →
          exec (.counterEdge k x y) s = .next (s.finishing
            (if m ≠ 0 then
              (d.updField fun x => { x with counts := setAt x.counts k (v % m) }).setBit (Od.COUNT_STATUS k) 2 (!upward)
             else if d.bit (Od.COUNT_STATUS k) 0 then d
             else if v < -2147483648 ∨ 2147483647 < v then
              ((d.setBit (Od.COUNT_STATUS k) 0 true).log 0x060B).evLevel (137 + k) true
             else (d.updField fun x => { x with counts := setAt x.counts k v }).setBit (Od.COUNT_STATUS k) 2 (!upward)))))) ∧
    (∀ p : Path, c.mayWrite p (Od.COUNT_CMD k) 1 = true →
      exec (.countCmdPreset p k 1) s = .next (s.finishing
        ((((c.used 3).setBit (Od.COUNT_STATUS k) 3 true).answer .done).shown p)))

/-- The current limit of a DIO stage that is on sets SHORT, counts it and writes 0x0601. A thermal shutdown does the same
and sets THERMAL with record 0x060E; after DIO.RETRY_MAX retries in succession it latches, a fault of the unit with
code 0x0602, and the stage is driven anew. A retry comes 10 ms after the shutdown or later; one under a command that
is still on counts. The test-pulse source shuts down and retries in the same way on its own flags. SHORT ends with the
count of retries, and a source's OVERLOAD ends alike. OPEN_LOAD follows its condition with record 0x060A at its start.
A pin that stays high while the stage is off sets PARTNER_DRIVE in mode OUT_PAR while the partner toggles, else
EXTERNAL_DRIVE with record 0x0603; a low pin clears both. (06_digital_channels.md R234, R236, R237, R238, R245, R247) -/
def Obligations.DigitalOutputProtectionsComplete : Prop :=
  ∀ (s : State) (c : Core), s.finds c →
    (∀ i : Fin 48, c.dioLive i = true →
      (c.stageOn i = true →
        exec (.outputShort i) s = .next (s.finishing
          (if c.dioBit i dsShort then c else ((c.setDioBit i dsShort true).inc32 (Od.DIO_SHORTS i)).log 0x0601)) ∧
        (∀ x d : Core, x = ((c.setShort i).setDioBit i dsThermal true).log 0x060E →
          d = x.updChan i (fun y => { y with shutAt := x.clk.cyc }) →
          exec (.thermalShutdown (.dio i)) s = .next (s.finishing
            (if d.rd Od.DIO_RETRY_MAX ≤ (d.chan i).retries then ((d.setDioBit i dsLatched true).driveDio i).fault' 0x0602 (unitDio i)
             else d.driveDio i))) ∧
        (c.dioBit i dsShort = true →
          exec (.shortClear (.dio i)) s = .next (s.finishing
            ((c.setDioBit i dsShort false).updChan i fun x => { x with retries := 0 }))) ∧
        (∀ below : Bool, c.dioIsOutput i = true → (c.chan i).cfg.testBit 12 = true → c.dioBit i dsOpenLoad ≠ below →
          exec (.openLoad i below) s = .next (s.finishing
            (if below then (c.setDioBit i dsOpenLoad true).log 0x060A else c.setDioBit i dsOpenLoad false)))) ∧
      (∀ d : Core, c.dioBit i dsThermal = true → d = (c.atCyc ((c.chan i).shutAt + ms 10)).setDioBit i dsThermal false →
        exec (.thermalRetry (.dio i)) s = .next (s.finishing
          ((if d.dioBit i dsCmd && !d.dioBit i dsLatched then d.updChan i fun x => { x with retries := x.retries + 1 }
            else d).driveDio i))) ∧
      (∀ high : Bool, c.dioIsOutput i = true → c.stageOn i = false →
        exec (.externalDrive i high) s = .next (s.finishing
          (if high = false then (c.setDioBit i dsExternal false).setDioBit i dsPartner false
           else if c.dioMode i = 9 ∧ c.partnerToggling = true then c.setDioBit i dsPartner true
           else if c.dioBit i dsExternal then c
           else (c.setDioBit i dsExternal true).log 0x0603)))) ∧
    (∀ k : Fin 8, c.clk.running = true →
      (c.tpActive k = true →
        exec (.thermalShutdown (.tp k)) s = .next (s.finishing
          ((c.setTpBit k 5 true).updTp k fun x => { x with shutAt := c.clk.cyc })) ∧
        (c.tpBit k 2 = true → exec (.shortClear (.tp k)) s = .next (s.finishing (c.setTpBit k 2 false)))) ∧
      (c.tpBit k 5 = true →
        exec (.thermalRetry (.tp k)) s = .next (s.finishing
          ((c.atCyc ((c.tpSource k).shutAt + ms 10)).setTpBit k 5 false))))

/-- LOW follows its condition with record 0x0606 at its start; MISSING and OVER follow theirs, and a supply with reversed
polarity is shown MISSING and its stages are driven anew. A cut sets CUT, ends a hold in progress, is counted and
turns the group's stages off, a fault of the group with code 0x0607 that the sources and safe outputs fed from it see;
one of a group that is cut already reaches those sources and safe outputs again and nothing else. Recovery clears CUT
and sets HOLDING with its hold where FG.RECOVERY is 0, else WAIT_ACK; the hold ends 100 ms later and waits for the
commit. A trip sets TRIP, is counted and turns the group off, a fault with code 0x0609. FG.ACK with the supply above
the recovery threshold and not cut waits for the commit; otherwise it is answered with 0x08000022.
(06_digital_channels.md R239, R240, R241, R242, R243, R244) -/
def Obligations.FieldGroupSupplyCommandsComplete : Prop :=
  ∀ (s : State) (c : Core) (g : Fin 6), s.finds c →
    (c.fgLive g = true →
      (∀ low : Bool, exec (.fgLow g low) s = .next (s.finishing
        (if c.fgBit g 0 = low then c else if low then (c.setFgBit g 0 true).log 0x0606 else c.setFgBit g 0 false))) ∧
      (∀ (x y : Bool), exec (.fgMissing g (.missing x)) s = .next (s.finishing (c.setFgBit g 2 (x || c.io.reversed.contains g.val))) ∧
        exec (.fgMissing g (.overload y)) s = .next (s.finishing (c.setFgBit g 3 y))) ∧
      exec (.fgMissing g (.reversed true)) s = .next (s.finishing
        (((c.updField fun x => { x with
          reversed := if x.reversed.contains g.val then x.reversed else x.reversed ++ [g.val] }).setFgBit g 2 true).driveGroup g)) ∧
      exec (.fgMissing g (.reversed false)) s = .next (s.finishing
        ((c.updField fun x => { x with reversed := x.reversed.filter (· != g.val) }).driveGroup g)) ∧
      (∀ d : Core, d = c.updField (fun x => { x with lpUp := x.lpUp.filter (· != g.val) }) →
        (c.fgBit g 1 = false →
          exec (.fgCut g) s = .next (s.finishing
            ((((((((d.setFgBit g 1 true).setFgBit g 4 false).updField fun x => { x with
              holds := x.holds.filter (·.1 != g.val), holdOver := x.holdOver.filter (· != g.val) }).inc32
                (Od.FG_CUTS g)).driveGroup g).fault' 0x0607 (unitFg g)).cutFed g).driveSos))) ∧
        (c.fgBit g 1 = true → exec (.fgCut g) s = .next (s.finishing (d.cutFed g).driveSos))) ∧
      (∀ x d : Core, c.fgBit g 1 = true → x = c.setFgBit g 1 false →
        d = (if x.rd (Od.FG_RECOVERY g) = 0 then
              ((x.setFgBit g 4 true).updField fun y => { y with
                holds := y.holds.filter (·.1 != g.val) ++ [(g.val, x.clk.cyc)] })
             else x.setFgBit g 5 true) →
        exec (.fgRecovery g) s = .next (s.finishing
          ((if 2 ≤ g.val then d else [0, 1, 2, 3].foldl (fun c i => c.setTpBit (2 * i + g) 4 false) d).driveSos))) ∧
      (∀ t : Nat, c.io.holds.find? (·.1 == g.val) = some (g.val, t) →
        exec (.fgHoldEnd g) s = .next (s.finishing
          ((c.atCyc (t + ms 100)).updField fun x => { x with
            holds := x.holds.filter (·.1 != g.val), holdOver := x.holdOver ++ [g.val] }))) ∧
      (c.fgBit g 6 = false →
        exec (.fgTrip g) s = .next (s.finishing
          ((((c.setFgBit g 6 true).inc32 (Od.FG_TRIPS g)).driveGroup g).fault' 0x0609 (unitFg g))))) ∧
    (∀ (p : Path) (above : Bool), c.mayWrite p (Od.FG_ACK g) 1 = true →
      exec (.fgAck p g 1 above) s = .next (s.finishing
        ((if above && !(c.used 3).fgBit g 1 then
            (((c.used 3).updField fun x => { x with acks := x.acks.filter (· != g.val) ++ [g.val] }).answer .done)
          else (c.used 3).abort 0x08000022).shown p)))

/-- The next pulse of a pulsing source begins at its staggered instant, at least 5 ms after the end of the last;
EXT_VOLTAGE ends with it unless the last pulse showed it, and the levels of the channels fed from the source are kept.
A source in its current limit sets OVERLOAD with record 0x060C and turns off; a pin not below 5 V 60 µs into a pulse
sets EXT_VOLTAGE. A dark test of a safe output that is on begins at the switch's next instant and lasts its open time;
one whose pin does not reach the off level 250 µs later latches the output off with the switch's stuck flag. A
readback mismatch outside a dark test, an external voltage on an output that is off and an overload of one that is on
latch it with their flags. SO.ACK is kept, with the conditions that persist, until the next boundary.
(06_digital_channels.md R245, R246, R247, R248, R249, R250, R251; 08_safety_functions.md R303) -/
def Obligations.TestPulseAndSafeOutputCommandsComplete : Prop :=
  ∀ (s : State) (c : Core), s.finds c →
    (∀ (k : Fin 8), c.clk.running = true →
      (∀ (gap : Nat) (d : Core), c.tpPulsing k = true →
        gap = (match (c.tpSource k).pulse with | some t => t + us 300 + us 5000 - c.clk.cyc | none => 0) →
        (c.tpSource k).pulse ≠ some (c.atTime (tpInstant k (c.clk.now + gap))).clk.cyc → k.val < c.io.tp.length →
        d = (if (c.tpSource k).ext then c.atTime (tpInstant k (c.clk.now + gap))
             else (c.atTime (tpInstant k (c.clk.now + gap))).setTpBit k 3 false).updTp k (fun x => { x with
              pulse := some (c.atTime (tpInstant k (c.clk.now + gap))).clk.cyc,
              before := (x.pulse.toList ++ x.before).take 3, ext := false }) →
        exec (.testPulseStart k) s = .next (s.finishing ((d.fedFrom k).foldl (fun c i =>
          c.updSafety fun x => { x with atPulse := putBit x.atPulse i (c.dioBit i dsLevel) }) d))) ∧
      (c.tpActive k = true →
        exec (.tpOverload k) s = .next (s.finishing
          (((c.setTpFault k 2).setTpBit k 5 true).updTp k fun x => { x with shutAt := c.clk.cyc }))) ∧
      (∀ t : Nat, c.tpPulsing k = true → (c.tpSource k).pulse = some t →
        exec (.tpExtVoltage k) s = .next (s.finishing
          (((c.atCyc (t + us 60)).setTpFault k 3).updTp k fun x => { x with ext := true }))) ∧
      (∀ (m reached : Bool) (openNs : Nat) (d : Core), c.rd (Od.SO_DARK_EN k) ≠ 0 → c.soBit k 1 = true →
        d = c.atTime (darkInstant (ms (c.rd Od.SO_DARK_PERIOD)) k
          (c.clk.now + b2n (c.io.dark.any fun x => x.so == k.val && x.m == m && decide (c.clk.cyc < x.stop))) m) →
        exec (.soDarkTest k m reached openNs) s = .next (s.finishing
          (let e := d.updField fun x => { x with
            dark := x.dark.filter (fun y => decide (d.clk.cyc < y.stop)) ++ [⟨k, m, d.clk.cyc, d.clk.cyc + openNs⟩] }
           if reached then e else (e.atCyc (d.clk.cyc + us 250)).latchSo k (if m then 5 else 4)))) ∧
      (c.safetyFuse ≠ 0 →
        (∀ m : Bool, c.darkNow k = false →
          exec (.soReadbackMismatch k m) s = .next (s.finishing (c.latchSo k (if m then 5 else 4)))) ∧
        (c.soBit k 1 = false → exec (.soExtVoltage k) s = .next (s.finishing (c.latchSo k 6))) ∧
        (c.soBit k 1 = true → exec (.soOverload k) s = .next (s.finishing (c.latchSo k 7))))) ∧
    (∀ (p : Path) (persist : Nat), c.mayWrite p Od.SO_ACK 1 = true →
      exec (.soAck p 1 persist) s = .next (s.finishing
        ((((c.used 3).updField fun x => { x with soAck := some persist }).answer .done).shown p)))

/-- A sigma-delta result is converted with the channel's flags, linearisation, characteristic and filter, and waits with
its stamp and the flags of its own for the latch. On a thermocouple the cold junction comes from its source, with
CJ_FALLBACK and record 0x0709 while the internal sensor replaces it. A value that must hold keeps the last delivered
one. A failed open-wire check sets OPEN_WIRE with record 0x0701 and two passed in succession clear it. A transmitter
short sets SHORT with record 0x0702, and so does a NAMUR short; a NAMUR open wire sets OPEN_WIRE. Each flag ends with
its condition. (07_universal_channels.md R261, R264, R265, R266, R267, R269, R270, R271, R272, R273) -/
def Obligations.UniversalInputEventsComplete : Prop :=
  ∀ (s : State) (c : Core) (i : Fin 24), s.finds c → c.uioLive i = true →
    (∀ (raw int ext stat cj p y : Nat) (fb : Bool) (d e : Core), c.uioSd i = true →
      c.coldJunction i int ext (stat == 1) = (cj, fb) →
      d = (if c.uioMode i = 9 then
            (if c.rd (Od.UIO_CJ_SRC i) = 1 then (c.wr Od.UIO_CJ_EXT_TEMP ext).wr Od.UIO_CJ_EXT_STATUS stat else c).flagUio i
              usCjFallback fb 0x0709
           else c) →
      d.uioConvert i (match d.uioMode i with
        | 7 => rtdTemp (d.uioRange i) (d.leadFree i raw)
        | 8 => d.leadFree i raw
        | 9 => tcTemp (d.uioRange i) raw cj
        | _ => raw) (d.sdSpacing i) = (e, p, y) →
      exec (.sdResult i raw int ext stat) s = .next (s.finishing (e.updAch i fun a => { a with
        sd := a.sd ++ [⟨e.clk.cyc, e.clk.now, p, if e.uioHolds i then e.rd (Od.PI_UIO_IN i) else y,
          e.uioFlags i &&& e.sdOwn i⟩] }))) ∧
    (c.uioOpenEn i = true → 7 ≤ c.uioMode i → c.uioMode i ≤ 9 →
      exec (.uioOpenWireCheck i true) s = .next (s.finishing
        ((c.updAch i fun a => { a with passes := 0 }).flagUio i usOpenWire true 0x0701)) ∧
      (∀ d : Core, d = c.updAch i (fun a => { a with passes := a.passes + 1 }) →
        exec (.uioOpenWireCheck i false) s = .next (s.finishing
          (if 2 ≤ (d.ach i).passes then d.flagUio i usOpenWire false 0x0701 else d)))) ∧
    (∀ present : Bool,
      (c.uioMode i = 2 → exec (.transmitterShort i present) s = .next (s.finishing (c.flagUio i usShort present 0x0702))) ∧
      (c.uioMode i = 10 → c.uioOpenEn i = true →
        exec (.namurFault i true present) s = .next (s.finishing (c.flagUio i usShort present 0x0702)) ∧
        exec (.namurFault i false present) s = .next (s.finishing (c.flagUio i usOpenWire present 0x0701))))

/-- Lost headroom of a driving current output sets COMPLIANCE with record 0x0703 and its return clears it; 100 ms of it
sets FAIL_ACTIVE, counts, drives the fail value and is a fault with code 0x0704. UIO.ACK waits for the commit.
IOUT_PASSIVE drops to its stored off state when the updates or the loop are lost, the loop with OPEN_WIRE, and starts
up there. Above 140 °C the current is limited by the junction temperature. At 155 °C the channel is off, a fault with
code 0x0707, and below 135 °C it returns; the limit ends at 140 °C. A short of a voltage output sets SHORT with record
0x0702. A low group supply turns its channels off, a fault with code 0x0708, until 100 ms after its return and the
commit after that, with record 0x070C; one that is low again ends the recovery in progress. (07_universal_channels.md
R277, R279, R280, R281, R282, R283, R284) -/
def Obligations.UniversalOutputEventsComplete : Prop :=
  ∀ (s : State) (c : Core), s.finds c →
    (∀ i : Fin 24, c.uioLive i = true →
      (c.uioDriving i = true →
        (∀ d : Core, d = (if (c.ach i).headLow then c else c.log1 0x0703 i) →
          exec (.compliance i true) s = .next (s.finishing ((d.updAch i fun a => { a with headLow := true }).setCompliance i))) ∧
        (c.uioBit i usFail = false →
          exec (.failActive i) s = .next (s.finishing
            ((((((c.updAch i fun a => { a with headLow := true }).setCompliance i).setUioBit i usFail true).inc32
              (Od.UIO_FAILS i)).driveUio i).uioFaulted 0x0704 i)))) ∧
      (c.uioIsCurrentOut i = true →
        exec (.compliance i false) s = .next (s.finishing ((c.updAch i fun a => { a with headLow := false }).setCompliance i))) ∧
      (c.uioMode i = 6 → ∀ d : Core, d = c.updAch i (fun a => { a with contact := false, looped := false }) →
        exec (.passiveContactLoss i true) s = .next (s.finishing ((d.flagUio i usOpenWire true 0x0701).driveUio i)) ∧
        exec (.passiveContactLoss i false) s = .next (s.finishing
          ((c.updAch i fun a => { a with contact := false, looped := a.looped && true }).driveUio i)) ∧
        exec (.passiveStartUp i) s = .next (s.finishing
          (((c.updAch i fun a => { a with looped := true, contact := false }).flagUio i usOpenWire false 0x0701).driveUio i))) ∧
      (∀ tj : Nat, c.uioMode i = 2 ∨ c.uioIsCurrentOut i = true → F32.lt (F32.ofNat 140) tj = true →
        exec (.thermalLimit i tj) s = .next (s.finishing
          ((c.updAch i fun a => { a with
            limit := some (F32.div (F32.mul (F32.ofNat 24) (F32.sub (F32.ofNat 155) tj)) (F32.ofNat 15)) }).driveUio i))) ∧
      (c.uioMode i ≠ 0 → c.uioBit i usThermOff = false →
        exec (.thermalOff i) s = .next (s.finishing (((c.setUioBit i usThermOff true).driveUio i).uioFaulted 0x0707 i))) ∧
      (∀ (tj : Nat) (d : Core), d = (if F32.lt tj (F32.ofNat 135) then c.setUioBit i usThermOff false else c) →
        exec (.uioThermalRestart i tj) s = .next (s.finishing
          ((d.updAch i fun a => { a with
            limit := if a.limit.isNone then none else if F32.lt (F32.ofNat 140) tj then some (thermalLimit tj) else none }).driveUio i))) ∧
      (∀ short : Bool, c.uioMode i = 4 →
        exec (.voutShort i short) s = .next (s.finishing (c.flagUio i usShort short 0x0702)))) ∧
    (∀ (p : Path) (i : Fin 24), c.mayWrite p (Od.UIO_ACK i) 1 = true →
      exec (.uioAck p i 1) s = .next (s.finishing
        ((((c.used 3).updUio fun x => { x with acks := x.acks.filter (· != i.val) ++ [i.val] }).answer .done).shown p))) ∧
    (∀ u : Fin 3, c.clk.running = true →
      (8 * u < c.uioCount → c.ugLow u = false →
        exec (.ugSupplyLow u) s = .next (s.finishing
          ((((ugChans u).foldl Core.driveUio (((c.setBit (Od.UG_STATUS u) 0 true).setBit (Od.UG_STATUS u) 1 false).updUio fun x =>
            { x with ugWait := x.ugWait.filter (· != u.val) ++ [u.val], ugStart := x.ugStart.filter (·.1 != u.val) })).fault
              0x0708 (unitUg u) u (c.fresh 32)).used 1))) ∧
      (8 * u < c.uioCount → c.ugLow u = true →
        exec (.ugSupplyLow u) s = .next (s.finishing
          (((c.setBit (Od.UG_STATUS u) 0 true).setBit (Od.UG_STATUS u) 1 false).updUio fun x =>
            { x with ugWait := x.ugWait.filter (· != u.val) ++ [u.val], ugStart := x.ugStart.filter (·.1 != u.val) }))) ∧
      (∀ (t : Nat) (d : Core), c.ugLow u = true → t = ((c.uio.ugStart.find? (·.1 == u.val)).map (·.2)).getD c.clk.cyc →
        d = (c.setBit (Od.UG_STATUS u) 1 true).updUio (fun x => { x with
          ugStart := x.ugStart.filter (·.1 != u.val) ++ [(u.val, t)] }) →
        exec (.ugSupplyRecovered u false) s = .next (s.finishing d) ∧
        exec (.ugSupplyRecovered u true) s = .next (s.finishing
          (((((d.atCyc (t + ms 100)).updUio fun x => { x with ugStart := x.ugStart.filter (·.1 != u.val) }).setBit
            (Od.UG_STATUS u) 0 false).setBit (Od.UG_STATUS u) 1 false).log1 0x070C u))))

/-- An accepted HART.REQ starts a transaction, BUSY, whose frame goes out behind its preambles; a long frame without a
device address ends it at once with RESULT 5. HART.CANCEL ends one in progress with RESULT 4, and changes nothing
where none is. A response heard with HART on a channel that can transact, while a request is in progress: one with a
parity or check error is a failed attempt; a right one that answers the request goes to HART.RSP, is counted and ends
the transaction, and that of an identification sets HART.UNIQUE_ID; either shows the device status and ends the
failures. A right frame of the configured device that answers no request shows the device status. A time-out is a
failed attempt. A burst frame of the device goes to HART.BURST and is counted, and shows the device status, as a frame
to another master does; a frame of another device changes nothing. While IDENTIFYING the poll, command 0 as a short
frame, comes every 5 s. (07_universal_channels.md R288, R289, R290, R291, R292, R296) -/
def Obligations.HartCommandsComplete : Prop :=
  ∀ (s : State) (c : Core) (i : Fin 24), s.finds c →
    (∀ (p : Path) (req : Bytes), c.mayWriteBytes p (Od.HART_REQ i) = true → 3 ≤ req.length → req.length = 3 + leAt req 2 1 →
      req.length ≤ 253 → Core.domOk (Od.HART_REQ i) req = true →
      ∀ d : Core, d = (c.used 3).unlock p (Od.HART_REQ i) →
      ((leAt req 0 1).testBit 0 = false → d.rd (Od.HART_UNIQUE_ID i) = 0 →
        exec (.hartReq p i req) s = .next (s.finishing
          ((((((d.updHart i fun h => { h with req := some req, ident := false, attempts := 1 }).setHart i 3).hartEnd i 5).answer
            .done).shown p)))) ∧
      ((leAt req 0 1).testBit 0 = true ∨ d.rd (Od.HART_UNIQUE_ID i) ≠ 0 →
        ∀ e : Core, e = d.updHart i (fun h => { h with
          req := some req, ident := false, attempts := 1, frame := d.hartBuild i req,
          preambles := d.rd (Od.HART_PREAMBLES i), retries := d.rd (Od.HART_RETRY_MAX i) }) →
        exec (.hartReq p i req) s = .next (s.finishing
          (((((e.emit (.hart i (List.replicate (e.hart i).preambles 0xFF ++ (e.hart i).frame))).setHart i 3).answer
            .done).shown p))))) ∧
    (∀ p : Path, c.mayWrite p (Od.HART_CANCEL i) 1 = true →
      exec (.hartCancel p i 1) s = .next (s.finishing
        (((if (c.used 3).rd (Od.HART_STATE i) = 3 then (c.used 3).hartEnd i 4 else c.used 3).answer .done).shown p))) ∧
    (∀ (bytes : Bytes) (f : HartFrame), f = hartParse bytes →
      (c.hartCan i = true → (c.hart i).req.isSome = true →
        (∀ parity : Bool, parity = false ∨ f.checkOk = false ∨ f.count < 2 →
          exec (.hartResponseRx i bytes parity) s = .next (s.finishing (c.hartFailed i 3))) ∧
        (f.checkOk = true → 2 ≤ f.count → hartAnswers (hartParse (c.hart i).frame) f = true →
          ((c.hart i).ident = true →
            exec (.hartResponseRx i bytes true) s = .next (s.finishing
              ((((((c.wr (Od.HART_UNIQUE_ID i) (Config.hartAddress (f.data.drop 2) % 2 ^ 40)).deviceStatus i f).updHart i fun h =>
                { h with req := none, ident := false, attempts := 0 }).hartHeard i).setHart i 2)))) ∧
          ((c.hart i).ident = false →
            exec (.hartResponseRx i bytes true) s = .next (s.finishing
              ((((((c.setDom (Od.HART_RSP i) (c.hartValid f (c.hart i).attempts)).inc32 (Od.HART_TRANSACTIONS i)).deviceStatus
                i f).hartHeard i).updHart i fun h => { h with req := none, attempts := 0 }).setHart i 2))))) ∧
      (c.hartOn i = true →
        (c.hartHears i f = true →
          c.hartCan i = false ∨ (c.hart i).req = none ∨ hartAnswers (hartParse (c.hart i).frame) f = false →
          exec (.hartResponseRx i bytes true) s = .next (s.finishing (c.deviceStatus i f))) ∧
        ((c.hart i).req.isSome = true → exec (.hartTimeout i) s = .next (s.finishing (c.hartFailed i 2))) ∧
        (c.hartHears i f = true →
          exec (.hartBurstRx i bytes) s = .next (s.finishing
            ((((c.setDom (Od.HART_BURST i) (c.hartValid f (c.fresh 8))).used 1).inc32 (Od.HART_BURST_COUNT i)).deviceStatus i f)) ∧
          exec (.hartOtherMasterFrameRx i bytes) s = .next (s.finishing (c.deviceStatus i f))) ∧
        (c.hartHears i f = false →
          exec (.hartBurstRx i bytes) s = .next (s.finishing c) ∧
          exec (.hartOtherMasterFrameRx i bytes) s = .next (s.finishing c)))) ∧
    (∀ d e : Core, c.hartCan i = true → c.rd (Od.HART_STATE i) = 1 →
      d = (match (c.hart i).polled with | some t => c.atCyc (t + ms 5000) | none => c) →
      e = d.updHart i (fun h => { h with
        req := some [1, 0, 0], ident := true, attempts := 1, frame := d.hartBuild i [1, 0, 0],
        preambles := d.rd (Od.HART_PREAMBLES i), retries := d.rd (Od.HART_RETRY_MAX i) }) →
      exec (.hartIdentifyPoll i) s = .next (s.finishing
        ((e.emit (.hart i (List.replicate (e.hart i).preambles 0xFF ++ (e.hart i).frame))).updHart i fun h =>
          { h with polled := some d.clk.cyc })))

/-- A pair in CLOSING or OPENING reaches its discrepancy time: each copy whose time has passed goes to FAULT, and the
pair's entry to FAULT is counted and reported with cause DISCREPANCY. The check one second after the last recomputes
SAFE.CFG_CRC, and availability is judged. When the sources of an axis have differed, or one has been invalid, for
AXIS.SRC_TOL_MS, the axis sets FAULT, a fault with code 0x0806 of its function's unit; when they have agreed for that
time, FAULT clears. (08_safety_functions.md R302, R310, R311, R313) -/
def Obligations.SafetyInputAndAxisTimersComplete : Prop :=
  ∀ (s : State) (c : Core), s.finds c →
    (∀ (p : Fin 24) (t : Nat) (d : Core), c.sinRuns p = true → c.sinEval p = 1 ∨ c.sinEval p = 3 →
      t = ((c.safety.evals.getD 0 []).getD p PairEval.fresh).t →
      d = (let x := c.atCyc (t + ms (c.rd (Od.SIN_DISC_MS p)))
           x.updEvals p (PairEval.elapse (ms (x.rd (Od.SIN_DISC_MS p))) x.clk.cyc false
             (!(x.sinLevels p).1 && !(x.sinLevels p).2) (x.sinTpFault p))) →
      exec (.sinDiscrepancy p) s = .next (s.finishing (if d.sinEval p = 4 then d.sinFaulted p 1 else d))) ∧
    (c.safetyFuse ≠ 0 → c.tickWork = true → ∀ d : Core, d = c.atCyc (c.safety.crcAt + ms 1000) →
      exec .safetyCrcCheck s = .next (s.finishing
        (((d.updSafety fun x => { x with crcAt := d.clk.cyc }).wr Od.SAFE_CFG_CRC
          d.safetyCrc).judgeAvailable))) ∧
    (∀ (k : Fin 4) (t : Nat) (d : Core), c.rd (Od.AXIS_CNT k) ≠ 0xFF → c.tickWork = true →
      d = c.atCyc (t + ms (c.rd (Od.AXIS_SRC_TOL_MS k))) →
      (c.axisFault k = true → (c.axis k).good = some t → lasted (d.axis k).good (ms (d.rd (Od.AXIS_SRC_TOL_MS k))) d.clk.cyc = true →
        exec (.axisFault k) s = .next (s.finishing (d.setBit (Od.AXIS_STATUS k) 4 false))) ∧
      (c.axisFault k = false → (c.axis k).apart = some t ∧ (c.axis k).invalid = none ∨
          (c.axis k).apart = none ∧ (c.axis k).invalid = some t →
        lasted (d.axis k).apart (ms (d.rd (Od.AXIS_SRC_TOL_MS k))) d.clk.cyc = true ∨
          lasted (d.axis k).invalid (ms (d.rd (Od.AXIS_SRC_TOL_MS k))) d.clk.cyc = true →
        exec (.axisFault k) s = .next (s.finishing
          ((d.setBit (Od.AXIS_STATUS k) 4 true).fault' 0x0806 (unitSf ((d.axisFn k).getD k))))))

/-- A copy in a frame with a right header that names an RX connection and passes the checks of its network goes to the
connection: with a copy of the other network and the same SEQ held and equal it is decided with both, with the held
one different SCRIM.DISAGREE counts with record 0x0807, and otherwise it is held, a copy held before it being decided
alone. A copy that fails the checks counts as invalid on its network. A held copy is decided alone when its wait ends.
A live connection without a new telegram at the boundary that ends its watchdog time counts a time-out, is TIMED_OUT
and shows no telegram. (08_safety_functions.md R317, R319, R320, R321) -/
def Obligations.ScrimCommandsComplete : Prop :=
  ∀ (s : State) (c : Core) (r : Fin 16), s.finds c →
    (∀ (n : Fin 2) (frame x : Bytes), c.clk.running = true → c.timed = true → c.safetyFuse ≠ 0 → 4 ≤ frame.length →
      beAt frame 0 1 = 3 → beAt frame 1 1 = 1 → beAt frame 2 2 + 4 = frame.length → x = frame.drop 4 →
      c.rxConn (beAt x 2 2) = some r.val →
      (c.copyValid r n x = false →
        exec (.scrimCopyRx n frame) s = .next (s.finishing
          (c.inc32 (if n.val = 0 then Od.SCRIM_INVALID_A r else Od.SCRIM_INVALID_B r)))) ∧
      (∀ (d : Core) (y : ScrimCopy), c.copyValid r n x = true → d = c.scrimExpire r → y = ⟨n, c.clk.now, beAt x 0xC 8, x⟩ →
        ((d.conn r).pend = none →
          exec (.scrimCopyRx n frame) s = .next (s.finishing (d.updConn r fun k => { k with pend := some y }))) ∧
        (∀ q : ScrimCopy, (d.conn r).pend = some q →
          (beAt q.bytes 8 4 = beAt x 8 4 → q.path ≠ n →
            exec (.scrimCopyRx n frame) s = .next (s.finishing
              (let e := d.updConn r fun k => { k with pend := none }
               if samePart q.bytes = samePart x then e.scrimDecide r y 2
               else (e.inc32 (Od.SCRIM_DISAGREE r)).log1 0x0807 r))) ∧
          (beAt q.bytes 8 4 ≠ beAt x 8 4 ∨ q.path = n →
            exec (.scrimCopyRx n frame) s = .next (s.finishing
              ((d.scrimAlone r q).updConn r fun k => { k with pend := some y })))))) ∧
    (∀ q : ScrimCopy, (c.conn r).pend = some q →
      exec (.scrimSkewExpiry r) s = .next (s.finishing
        (((c.atTime (q.arrival + us (c.rd (Od.SCRIM_SKEW_US r)))).updConn r fun k => { k with pend := none }).scrimAlone r q))) ∧
    (∀ d : Core, c.rd (Od.SCRIM_DIR r) = 2 → c.clk.running = true → c.scrimLive r = true → d = c.atTime c.clk.nextB →
      d.period ≠ 0 → (d.conn r).waiting = [] →
      (d.conn r).tick + (ms (d.rd (Od.SCRIM_WD_MS r)) + d.period - 1) / d.period < c.rd Od.TICK_COUNT + 1 →
      exec (.scrimWatchdog r) s = .next (s.finishing (((d.inc32 (Od.SCRIM_TIMEOUTS r)).updConn r fun k => { k with snap := none }).setScrim r 4)))

/-- A partner's identity sets the presence and the reason of refusal, and UNFIT clears; a refusal makes a module ALONE
with a fault of code 0x0902, but an ACTIVE module only shows PARTNER_REFUSED. A lane going down counts and records
0x090C, and one coming up records it. The missing keep-alive stops the toggling. The partner's toggling is shown when
detected. Its loss makes a STANDBY that may take the field ACTIVE, counted, a fault with code 0x0903 (an order not
executed is counted as ignored), and a SYNCING module that does not wait at its start begins cold. Both lines toggling
for 20 µs make the secondary SYNCING, counted, a fault with code 0x090D. RELEASE ends the partner's toggling at once,
and a STANDBY that took the order becomes ACTIVE, with record 0x0904. (09_redundant_pair.md R334, R335, R336, R337,
R339, R340, R341, R352, R354) -/
def Obligations.PairPresenceCommandsComplete : Prop :=
  ∀ (s : State) (c : Core), s.finds c →
    (∀ (x : Identity) (why : Nat) (d : Core), c.pairMember = true → why = c.refuseReason x →
      d = (((c.updPair fun p => { p with present := true, announced := x.role }).wr Od.PAIR_REFUSE_REASON why).setPairBit
        psPartnerAbsent false).setPairBit psUnfit false →
      exec (.pairingIdentityExchange x) s = .next (s.finishing
        (if why = 0 then d.setPairBit psPartnerRefused false
         else if d.role = .active ∧ d.pair.detected = true then d.setPairBit psPartnerRefused true
         else ({ d with role := .alone }.setPairBit psRefused true).fault' 0x0902 unitPair))) ∧
    (c.pairEn = true →
      (∀ l : Fin 2,
        (c.pair.lanes.getD l true = true → l.val < c.pair.lanes.length →
          exec (.laneDown l) s = .next (s.finishing
            (((c.updPair fun p => { p with lanes := setAt p.lanes l false }).inc32 Od.PAIR_LANE_ERRORS).log 0x090C))) ∧
        (c.pair.lanes.getD l true = false →
          exec (.laneUp l) s = .next (s.finishing ((c.updPair fun p => { p with lanes := setAt p.lanes l true }).log 0x090C)))) ∧
      exec .partnerTogglingDetected s = .next (s.finishing (c.setPairBit psPartnerToggling true)) ∧
      (∀ (gap : Nat) (d : Core), c.partnerToggling = true → d = c.setPairBit psPartnerToggling false →
        (d.pairRole = .standby → d.roleMoves = true →
          exec (.takeoverOnLoss gap) s = .next (s.finishing
            ((((if d.pair.order.isSome then d.orderIgnored else d).takeField gap).inc32 Od.PAIR_TAKEOVERS_LOSS).fault' 0x0903
              unitPair))) ∧
        (d.pairRole = .syncing → d.coldMay = true →
          exec (.takeoverOnLoss gap) s = .next (s.finishing d.coldStart))) ∧
      (∀ (gap : Nat) (d : Core),
        d = (c.updPair fun p => { p with released := some (c.rd Od.TICK_COUNT) }).setPairBit psPartnerToggling false →
        (d.pairRole = .standby → d.pair.acked = true → d.pair.order.isSome = true → d.roleMoves = true →
          exec (.releaseRx gap) s = .next (s.finishing
            (((((d.updPair fun p => { p with order := none, acked := false }).takeField gap).inc32 Od.PAIR_HANDOVERS).log 0x0904)))) ∧
        (d.pairRole ≠ .standby ∨ d.pair.order = none → exec (.releaseRx gap) s = .next (s.finishing d)))) ∧
    (c.toggling = true →
      exec .activeToggleStop s = .next (s.finishing (c.updPair fun p => { p with stopped := true }))) ∧
    (∀ t : Nat, c.pair.both = some t → c.rd Od.PAIR_UNIT = 1 → c.pairMember = true →
      exec .tiebreak s = .next (s.finishing
        (((c.atCyc (t + us 20)).becomeSyncing.inc32 Od.PAIR_TIEBREAKS).fault' 0x090D unitPair)))

/-- Each copy of a record with a wrong CRC is a lane error; a complete record of which one copy has a right CRC is kept,
with its time, by a STANDBY or SYNCING module, and one without is not; without one for PAIR.RECORD_WAIT_MS a STANDBY
whose role is not held is demoted. A re-synchronising STANDBY adopts the copy at the next boundary, counted, with
record 0x0906; a SYNCING module that is locked adopts the transfer there and becomes STANDBY with record 0x0901.
Partner detection gives the role of R350, and the end of a secondary's wait makes it ACTIVE unless the partner
toggles. PAIR.CMD requests a handover, restarts synchronisation or clears UNFIT, or is answered with 0x08000022. The
handover request lapses after WIT.JUDGE_MS, and PAIR.RETURN_HOLD_S of fitness set RETURN_REQ with record 0x090E.
(09_redundant_pair.md R344, R346, R347, R350, R351, R361, R363) -/
def Obligations.PairStepAndRoleCommandsComplete : Prop :=
  ∀ (s : State) (c : Core), s.finds c →
    (∀ (x : StepRecord) (d : Core), c.pairMember = true → c.role = .standby ∨ c.role = .syncing →
      d = c.addW 32 Od.PAIR_LANE_ERRORS (x.lanes.filter not).length →
      exec (.stepRecordRx x) s = .next (s.finishing
        (if true ∈ x.lanes then
          (d.updPair fun p => { p with record := some x, recordAt := d.clk.cyc }).wr Od.PAIR_REC_BYTES x.size
        else d))) ∧
    (c.role = .standby → c.roleHeld = false →
      exec .recordWaitExpiry s = .next (s.finishing (c.atCyc (c.pair.recordAt + ms (c.rd Od.PAIR_RECORD_WAIT_MS))).demote)) ∧
    (∀ x : PairCopy, c.clk.running = true →
      (c.role = .standby → c.pairBit psResyncing = true →
        exec (.resyncAdopt x) s = .next (s.finishing
          (((((c.atTime c.clk.nextB).adopt x).setPairBit psResyncing false).inc32 Od.PAIR_RESYNCS).log 0x0906))) ∧
      (∀ d e : Core, c.pairMember = true → c.role = .syncing → c.pair.held = false → c.pair.startWait = none →
        c.clk.state = TimeState.locked → c.mayTake = true ∨ c.run = .init → d = (c.atTime c.clk.nextB).adopt x →
        e = (if d.run = .run then { d with role := .standby }.armRunning else { d with role := .standby }) →
        exec (.creelTransferAdopt x) s = .next (s.finishing
          ((e.updPair fun p => { p with recordAt := e.clk.cyc, runs := [], latch := [] }).log 0x0901)))) ∧
    (c.roleHeld = false →
      (∀ d : Core, c.run = .init → c.react.startDone = true →
        c.pwr.acqOver = true ∨ c.clk.locked = true ∨ c.clk.source = 0 → c.pair.detected = false →
        d = c.updPair (fun p => { p with startWait := none, detected := true }) →
        exec .partnerDetection s = .next (s.finishing
          (if d.pairMember = false then
            { d with role := if d.roleFuse = 3 ∨ d.rd Od.WIT_ENABLE = 1 then .witness else .alone }
           else if d.pairBit psRefused then { d with role := .alone }
           else if d.partnerToggling then { d with role := .syncing }
           else if d.rd Od.PAIR_UNIT = 0 then d.startActive
           else { d with role := .syncing }.updPair fun p => { p with startWait := some d.clk.cyc }))) ∧
      (∀ (t : Nat) (d : Core), c.pair.startWait = some t →
        d = (c.atCyc (t + ms (c.rd Od.PAIR_START_WAIT_MS))).updPair (fun p => { p with startWait := none }) →
        exec .startWaitExpiry s = .next (s.finishing
          (if d.partnerToggling then d else d.startActive)))) ∧
    (∀ (p : Path) (d : Core), d = c.used 3 →
      (c.mayWrite p Od.PAIR_CMD 1 = true →
        exec (.pairCmdHandover p) s = .next (s.finishing
          ((if d.role = .active ∨ d.role = .standby then
              ((d.setPairBit psRequest true).updPair fun x => { x with requestAt := some d.clk.cyc }).answer .done
            else d.abort 0x08000022).shown p))) ∧
      (c.mayWrite p Od.PAIR_CMD 2 = true →
        exec (.pairCmdResync p) s = .next (s.finishing
          ((if d.role = .standby ∨ d.role = .syncing then
              (d.becomeSyncing.updPair fun x => { x with held := false }).answer .done
            else d.abort 0x08000022).shown p))) ∧
      (c.mayWrite p Od.PAIR_CMD 3 = true →
        exec (.pairCmdClearUnfit p) s = .next (s.finishing
          (((d.setPairBit psUnfit false).answer .done).shown p)))) ∧
    (∀ t : Nat, c.pair.requestAt = some t →
      exec .handoverReqLapse s = .next (s.finishing
        (((c.atCyc (t + ms (c.rd Od.WIT_JUDGE_MS))).setPairBit psRequest false).updPair fun p => { p with requestAt := none }))) ∧
    (∀ t : Nat, c.pair.quiet = some t → c.pairBit psReturn = false →
      exec .returnRequest s = .next (s.finishing
        (((c.atCyc (t + ms (1000 * c.rd Od.PAIR_RETURN_HOLD_S))).setPairBit psReturn true).log 0x090E)))

/-- While the tick generator runs and the voter releases, a pair module sends its heartbeat PAIR.HB_MS after the last and
a witness one to each served module WIT.HB_MS after the last. A witness that hears a served module in a right message
keeps its words and its hearing, shows its health word and, unless SAFE, judges the pair; a partner keeps the health
word. A module that hears its witness keeps the state word, and WITNESS_LOST clears with record 0x090A.
PAIR.WIT_LOSS_MS after the last heartbeat WITNESS_LOST is set, with the same record. (09_redundant_pair.md R355, R356,
R358, R360) -/
def Obligations.HeartbeatCommandsComplete : Prop :=
  ∀ (s : State) (c : Core), s.finds c → c.clk.running = true → c.ply.unvoted = none →
    (∀ d : Core, c.pairMember = true → d = c.atCyc (c.pair.beatAt + ms (c.rd Od.PAIR_HB_MS)) →
      exec .moduleHeartbeatSend s = .next (s.finishing
        ((d.updPair fun p => { p with beatAt := d.clk.cyc }).sendPair 1 (d.rd Od.PAIR_PAIR_ID)
          (d.role.code + (d.pairStatus &&& 0xFFF8)) d.health (d.rd Od.PAIR_STEP)))) ∧
    (∀ d : Core, c.role = .witness → c.run ≠ .safe → d = c.atCyc (c.pair.beatAt + ms (c.rd Od.WIT_HB_MS)) →
      exec .witnessHeartbeatSend s = .next (s.finishing
        ((List.range 8).foldl (fun (c : Core) i =>
          if c.rd (Od.WIT_P_PAIR_ID i) = 0 then c
          else [0, 1].foldl (fun (c : Core) u =>
            if c.servedId i u = 0 then c else c.sendPair 2 (c.rd (Od.WIT_P_PAIR_ID i)) (c.stateWordFor i u) 0 0) c)
          (d.updPair fun p => { p with beatAt := d.clk.cyc })))) ∧
    (∀ (n : Fin 2) (frame m : Bytes), 4 ≤ frame.length → beAt frame 0 1 = 4 → beAt frame 1 1 = 1 →
      beAt frame 2 2 + 4 = frame.length → m = frame.drop 4 →
      (∀ (i u : Nat) (d e : Core), c.role = .witness → c.servedBy (msgPair m) = some i →
        [0, 1].find? (fun u => c.servedId i u == msgSrc m) = some u → c.pairValid n 1 (msgPair m) m = true →
        d = (c.updServed i fun p => { p with
              units := updAt (fun x => { x with
                heard := setAt x.heard n (some c.clk.cyc), role := field (msgWord1 m) 0 3, status := msgWord1 m,
                health := msgWord2 m }) p.units u }).wr
            (if u = 0 then Od.WIT_P_HEALTH_PRIMARY i else Od.WIT_P_HEALTH_SECONDARY i) (msgWord2 m) →
        e = (if field (msgWord1 m) 0 3 = 1 then d.wr (Od.WIT_P_ACTIVE_ID i) (msgSrc m) else d) →
        exec (.moduleHeartbeatRx n frame) s = .next (s.finishing (if e.run = .safe then e else e.judgePair i))) ∧
      (c.pairMember = true →
        (c.role ≠ .witness → msgSrc m = c.rd Od.PAIR_PARTNER_ID → c.pairValid n 1 (c.rd Od.PAIR_PAIR_ID) m = true →
          exec (.moduleHeartbeatRx n frame) s = .next (s.finishing
            ((c.wr Od.PAIR_PARTNER_HEALTH (msgWord2 m)).updPair fun p => { p with announced := field (msgWord1 m) 0 3 + 1 }))) ∧
        (∀ d : Core, msgSrc m = c.rd Od.PAIR_WITNESS_ID → c.pairValid n 2 (c.rd Od.PAIR_PAIR_ID) m = true →
          d = c.updPair (fun p => { p with witness := setAt p.witness n (some c.clk.cyc), witnessWord := msgWord1 m &&& 0xF4 }) →
          exec (.witnessHeartbeatRx n frame) s = .next (s.finishing
            (if d.pairBit psWitnessLost then (d.setPairBit psWitnessLost false).log 0x090A else d))))) ∧
    (c.pairMember = true → c.pairBit psWitnessLost = false →
      exec .witnessLost s = .next (s.finishing
        (((c.atCyc (c.pair.witness.foldl (fun m h => max m (h.getD 0)) 0 + ms (c.rd Od.PAIR_WIT_LOSS_MS))).setPairBit
          psWitnessLost true).log 0x090A)))

/-- A right TAKE order for this module that is not known is answered over J3 with TAKE_ACK in a synchronised STANDBY and
TAKE_NAK otherwise, relayed and acknowledged to the witness; a module that is not ACTIVE keeps it. A right RELEASE
order for this module, or the partner's order relayed, is kept with its instant unless it is known, and an order of
its own is acknowledged. The witness keeps an acknowledgement of its order by the module it concerns. The taker's
symbol is kept by an ACTIVE module. (09_redundant_pair.md R357, R359) -/
def Obligations.WitnessOrderCommandsComplete : Prop :=
  ∀ (s : State) (c : Core), s.finds c → c.clk.running = true → c.ply.unvoted = none →
    (∀ (n : Fin 2) (frame m : Bytes), 4 ≤ frame.length → beAt frame 0 1 = 4 → beAt frame 1 1 = 1 →
      beAt frame 2 2 + 4 = frame.length → m = frame.drop 4 →
      (∀ (ok : Bool) (d : Core), c.orderValid n m = true → msgWord1 m = 2 → msgWord2 m = c.rd Od.SERIAL → c.orderKnown m = false →
        ok = (c.role == .standby && c.syncedNow) →
        d = (c.emit (.symbol (if ok then 2 else 3))).emit (.relay m) →
        exec (.takeOrderRx n frame) s = .next (s.finishing
          ((if d.role = .active then d
            else d.updPair fun p => { p with order := some ⟨msgSeq m, msgTick m⟩, acked := ok }).ackOrder m ok))) ∧
      (∀ d : Core, c.orderValid n m = true → msgWord1 m = 1 → msgWord2 m = c.rd Od.SERIAL →
        (∀ o : PairOrder, c.pair.order = some o → o.due ≠ msgTick m) →
        d = c.updPair (fun p => { p with order := some ⟨msgSeq m, msgTick m⟩, acked := c.role == .active && p.acked }) →
        exec (.releaseOrderRx false n frame) s = .next (s.finishing (d.ackOrder m (c.role == .active)))) ∧
      (∀ (i u : Nat) (o : WitnessOrder), c.servedBy (msgPair m) = some i → c.role = .witness →
        c.pairValid n 4 (msgPair m) m = true → (c.servedPair i).order = some o →
        (msgWord2 m = o.seq ∧ u = 1 - o.taker ∨ msgWord2 m ≠ o.seq ∧ msgWord2 m = (o.seq + 1) % 2 ^ 32 ∧ u = o.taker) →
        c.servedId i u = msgSrc m → o.acks.contains (u, msgWord1 m == 1) = false →
        exec (.orderAckRx n frame) s = .next (s.finishing (c.updServed i fun p => { p with
          order := some { o with acks := o.acks ++ [(u, msgWord1 m == 1)] } })))) ∧
    (∀ (n : Fin 2) (m : Bytes), c.orderValid n m = true → msgWord1 m = 2 → msgWord2 m = c.rd Od.PAIR_PARTNER_ID →
      c.role = .active →
      (∀ o : PairOrder, c.pair.order = some o → o.due ≠ msgTick m) →
      exec (.releaseOrderRx true n m) s = .next (s.finishing (c.updPair fun p => { p with
        order := some ⟨msgSeq m, msgTick m⟩, acked := p.acked }))) ∧
    (c.pairMember = true → c.role = .active →
      exec .takeAckRx s = .next (s.finishing (c.updPair fun p => { p with acked := true })) ∧
      exec .takeNakRx s = .next (s.finishing (c.updPair fun p => { p with acked := false })))

/-- A new speed of a port is shown with record 0x0A01; a port that goes down counts a link loss and loses its queue, LOST
follows, and with media redundancy a change between up and down is announced. A frame received on a port that is up
teaches its source, is counted, and one whose destination the database places on the other port goes out there,
through the transparent clock. A topology change sets the flush after its interval, with record 0x0A05, and the flush
empties the database. An entry leaves it 300 s after its last refresh. An ARP request and an unfragmented echo request
for the station's address are counted and answered; a fragment is counted only. (10_ethernet_and_time_stamping.md
R366, R367, R368, R371, R376, R377) -/
def Obligations.SwitchCommandsComplete : Prop :=
  ∀ (s : State) (c : Core) (n : Fin 2), s.finds c →
    (∀ (p : Fin 2) (speed : Nat) (d e : Core), c.portSpeed n p ≠ speed → speed ≤ 2 →
      d = (c.setFld (Od.NET_STATUS n) (2 * p) 2 speed).logA 0x0A01 (2 * n + p) speed →
      e = ((if speed = 0 then (d.inc32 (Od.NET_LINK_LOSSES n)).updPort n p fun x => { x with queue := [] }
            else d.updPort n p fun x => { x with free := d.clk.now, launchEnd := d.clk.now }).updPort n p
              fun x => { x with linkAt := d.clk.cyc }).judgeLost n →
      exec (.portLinkChange n p speed) s = .next (s.finishing
        (if e.rd (Od.NET_MRP_EN n) = 1 ∧ (c.portSpeed n p = 0 ∨ speed = 0) then
          e.hostSend n 7 0x01154E000002 46 (.mrpLinkChange p (speed != 0)) else e))) ∧
    (c.clk.running = true →
      (∀ (p : Fin 2) (frame f : Bytes) (residence : Nat) (d e : Core), c.portUp n p = true →
        d = (if frameDst frame = c.rd (Od.NET_MAC n) ∨ isGroup (frameDst frame) = true then
              (c.learn n (frameSrc frame) p).inc64 (Od.NET_RX_FRAMES n) else c.learn n (frameSrc frame) p) →
        (frameDst frame = c.rd (Od.NET_MAC n) → exec (.frameForward n p frame true residence) s = .next (s.finishing d)) ∧
        (frameDst frame ≠ c.rd (Od.NET_MAC n) → d.peerMessage n frame = false →
          (d.outPorts n (frameDst frame)).contains (1 - p.val) = true → d.transparent n p frame residence = (e, f) →
          exec (.frameForward n p frame true residence) s = .next (s.finishing
            (e.hold n (1 - p) ⟨pcpQueue (framePcp f), e.clk.now, frameLen f.length, .forwarded f⟩).egressAll))) ∧
      (∀ interval : Nat, c.rd (Od.NET_MRP_EN n) = 1 →
        exec (.mrpTopologyChangeRx n interval) s = .next (s.finishing
          ((c.updSide n fun x => { x with flush := some (c.clk.cyc + ms interval) }).log1 0x0A05 n))) ∧
      (∀ (mac : Nat) (e : FdbEntry), (c.side n).fdb.find? (·.mac == mac) = some e →
        exec (.fdbEntryAgeing n mac) s = .next (s.finishing
          ((c.atCyc (e.cyc + ms 300000)).updSide n fun x => { x with fdb := x.fdb.filter (·.mac != mac) }))) ∧
      (∀ (mac ip : Nat) (body : Bytes), c.rd (Od.NET_IP_ADDR n) ≠ 0 → c.netLost n = false →
        exec (.arpRequestRx n mac ip (c.rd (Od.NET_IP_ADDR n))) s = .next (s.finishing
          (c.hostSend n 4 mac 42 (.arpReply mac ip))) ∧
        exec (.icmpEchoRx n mac ip (c.rd (Od.NET_IP_ADDR n)) body false) s = .next (s.finishing
          (c.hostSend n 4 mac (14 + 20 + 4 + body.length) (.icmpReply mac ip body))) ∧
        exec (.icmpEchoRx n mac ip (c.rd (Od.NET_IP_ADDR n)) body true) s = .next (s.finishing
          c))) ∧
    (∀ t : Nat, (c.side n).flush = some t →
      exec (.mrpFlush n) s = .next (s.finishing ((c.atCyc t).updSide n fun x => { x with fdb := [], flush := none })))

/-- An Announce of the configured domain takes its sender's place among the masters, the selection is made anew and, if
the best master sent it, a move is judged; without further ones that master is lost and the selection made anew. A
delay answer to the last request gives the path delay: halved, with the turnaround and correction removed. A request
goes out at its interval, a Pdelay_Req on each port in P2P and a Delay_Req otherwise, and one received is answered by
the peer or the master. Without a valid measurement on the followed network for 500 ms and one on the other since, the
other is followed. The master's Announce goes out at its interval and its Sync is queued for the next multiple of its.
(10_ethernet_and_time_stamping.md R370, R372, R373, R374; 01_tick_and_station_time.md R38) -/
def Obligations.PtpCommandsComplete : Prop :=
  ∀ (s : State) (c : Core) (n : Fin 2), s.finds c →
    (c.ptpOn n = true →
      (∀ (a : Announce) (d : Core),
        d = (c.updPtp n fun p => { p with masters := p.masters.filter (·.source != a.source) ++ [a] }).selectMaster n →
        exec (.ptpAnnounceRx n (c.rd (Od.PTP_DOMAIN n)) a) s = .next (s.finishing
          (if (d.ptp n).best.map (·.source) = some a.source then d.judgeMove n else d))) ∧
      (c.ptpMaster n = true →
        (∀ (i t seq : Nat) (frame : Bytes), i = logInterval (c.rd (Od.PTP_LOG_SYNC n)) →
          t = ceilMul (max c.clk.now ((c.ptp n).syncAt + 1)) i → seq = ((c.ptp n).syncSeq + 1) % 65536 →
          frame = c.syncFrame n seq →
          exec (.ptpMasterSync n) s = .next (s.finishing
            (((c.used 1).updPtp n fun p => { p with syncAt := t, syncSeq := seq }).queueLaunch n ⟨1, seq, t, true,
              if c.rd Od.NET_VLAN = 0 then frame
              else frame.take 12 ++ beBytes 2 0x8100 ++ beBytes 2 (7 * 8192 + c.rd Od.NET_VLAN) ++ frame.drop 12⟩))) ∧
        (∀ d : Core, d = c.atCyc ((c.ptp n).annAt + logInterval (c.rd (Od.PTP_LOG_ANNOUNCE n))) →
          exec (.ptpMasterAnnounce n) s = .next (s.finishing
            (let e := d.updPtp n fun p => { p with annAt := d.clk.cyc, annSeq := ((d.ptp n).annSeq + 1) % 65536 }
             e.hostSend n 4 ptpEventMac (e.ptpLen n 64)
               (.announce (((d.ptp n).annSeq + 1) % 65536) (e.ownClock n) 0xA0)))))) ∧
    (c.clk.running = true →
      (∀ a : Announce, (c.ptp n).best = some a →
        exec (.ptpAnnounceReceiptTimeout n) s = .next (s.finishing
          ((c.updPtp n fun p => { p with masters := p.masters.filter (·.source != a.source) }).selectMaster n))) ∧
      (∀ m : DelayMsg, c.netLost n = false → m.domain = c.rd (Od.PTP_DOMAIN n) → m.seq = (c.ptp n).reqSeq →
        (∀ d : Int, c.rd (Od.PTP_DELAY_MECH n) = 1 → d = halfTime (m.t4 - m.t1 - (m.t3 - m.t2) - m.correction) →
          exec (.ptpDelayRespRx n m) s = .next (s.finishing
            ((c.updPtp n fun p => { p with peer := setAt p.peer m.port (some (d, c.clk.cyc)) }).wr (Od.PTP_MEAN_DELAY n)
              (ofInt 32 d)))) ∧
        (∀ (d t1 t2 : Int) (b : Announce), c.rd (Od.PTP_DELAY_MECH n) ≠ 1 → c.ptpOn n = true → (c.ptp n).best = some b →
          b.source = m.source → (c.ptp n).sync = some (t1, t2) → d = halfTime (t2 - t1 + (m.t4 - m.t3) - m.correction) →
          exec (.ptpDelayRespRx n m) s = .next (s.finishing
            ((c.updPtp n fun p => { p with delay := some (d, c.clk.cyc) }).wr (Od.PTP_MEAN_DELAY n) (ofInt 32 d))))) ∧
      (∀ (d e : Core) (seq : Nat), c.netLost n = false →
        d = c.atCyc ((c.ptp n).reqAt + logInterval (c.rd (Od.PTP_LOG_DELAY n))) → seq = ((d.ptp n).reqSeq + 1) % 65536 →
        e = d.updPtp n (fun p => { p with reqAt := d.clk.cyc, reqSeq := seq }) →
        (c.rd (Od.PTP_DELAY_MECH n) = 1 →
          exec (.ptpDelayReqSend n) s = .next (s.finishing (e.hostSend n 7 0x0180C200000E (e.ptpLen n 54) (.ptp 2 seq 0)))) ∧
        (c.rd (Od.PTP_DELAY_MECH n) ≠ 1 → c.ptpOn n = true → (c.ptp n).best.isSome = true →
          exec (.ptpDelayReqSend n) s = .next (s.finishing (e.hostSend n 7 0x011B19000000 (e.ptpLen n 44) (.ptp 1 seq 0))))) ∧
      (∀ (p : Fin 2) (seq : Nat) (stamp : Int), c.portUp n p = true →
        (c.rd (Od.PTP_DELAY_MECH n) = 1 →
          exec (.ptpDelayReqRx n p (c.rd (Od.PTP_DOMAIN n)) seq stamp true) s = .next (s.finishing
            (((((c.hold n p ⟨3, c.clk.now, frameLen (c.ptpLen n 54), .ptp 3 seq stamp⟩).hold n p
              ⟨2, c.clk.now, frameLen (c.ptpLen n 54), .ptp 10 seq c.clk.now⟩).inc64 (Od.NET_TX_FRAMES n)).inc64
                (Od.NET_TX_FRAMES n)).egressAll))) ∧
        (c.rd (Od.PTP_DELAY_MECH n) = 0 → c.ptpOn n = true → c.ptpMaster n = true →
          exec (.ptpDelayReqRx n p (c.rd (Od.PTP_DOMAIN n)) seq stamp false) s = .next (s.finishing
            (c.hostSend n 4 0x011B19000000 (c.ptpLen n 54) (.ptp 9 seq stamp))))) ∧
      (∀ f last o : Nat, c.clk.source = 3 → c.rd Od.PTP_FOLLOWED = f → f = 1 ∨ f = 2 →
        last = (c.ptp (f - 1)).lastValid.getD 0 → (c.ptp (2 - f)).lastValid = some o → last < o →
        exec .ptpFollowTimeout s = .next (s.finishing ((c.atCyc (last + ms 500)).follow (3 - f)))))

/-- The frame that is ready next leaves the plan at its instant; one that the gating withholds, or for an input image or a
pair message the run state, is not queued, an application frame with GATED, and one with a payload goes to the launch
queue of each of its networks, an application frame whose buffer no commit filled with its flag. The next entry of a
launch queue is taken at its instant: without a link it is dropped, late it counts and goes only if it may be sent
late, and otherwise it is sent; one with no port left to go to is dropped. The lowest receive object that matches a
received application frame keeps it, shows the network and NEW, and makes its event; a second copy of a frame on both
networks changes nothing. At the boundary an object's age that reaches its limit sets AGED with record 0x0A06.
(10_ethernet_and_time_stamping.md R378, R379, R380, R381, R384, R385) -/
def Obligations.LaunchCommandsComplete : Prop :=
  ∀ (s : State) (c : Core), s.finds c → c.clk.running = true →
    (∀ (r : Ready) (d e : Core), firstReady c.net.ready = some r →
      d = (c.atTime r.ready).updNet (fun x => { x with ready := x.ready.erase r }) →
      e = (if r.cls = 5 then d.setFld (Od.FRAME_TX_STATUS r.num) 1 5 0 else d) →
      (d.netGate = false ∧ (r.cls = 2 ∨ r.cls = 3 ∨ r.cls = 5) ∨ d.pairSends = false ∧ (r.cls = 4 ∨ r.cls = 6) →
        exec .frameReady s = .next (s.finishing ((e.txBit r.cls r.num 5).txBit r.cls r.num 1))) ∧
      ((r.cls = 2 ∨ r.cls = 3 ∨ r.cls = 5 → d.netGate = true) → (r.cls = 4 ∨ r.cls = 6 → d.pairSends = true) → r.cls = 5 ∨ r.payload ≠ [] →
        exec .frameReady s = .next (s.finishing ([0, 1].foldl (fun c n => c.readyOn r n)
          (if r.cls = 5 ∧ r.num ∉ e.net.copied then e.txBit 5 r.num 4 else e))))) ∧
    (∀ (n : Fin 2) (x : Launch) (d : Core), firstLaunch (c.side n).launch = some x →
      d = (c.atTime x.time).updSide n (fun y => { y with launch := y.launch.erase x }) →
      (d.netLost n = true → exec (.launch n) s = .next (s.finishing ((d.inc32 Od.LQ_LINKDOWN).dropFrame n x.cls x.num))) ∧
      (d.netLost n = false →
        (c.clk.now ≤ x.time → exec (.launch n) s = .next (s.finishing
          (if d.outPorts n (beAt x.bytes 0 6) = [] then d.dropFrame n x.cls x.num else d.sendLaunch n x))) ∧
        (∀ e : Core, x.time < c.clk.now → e = d.lateFrame x.cls x.num →
          exec (.launch n) s = .next (s.finishing
            (if x.sendNow = false ∨ e.outPorts n (beAt x.bytes 0 6) = [] then e.dropFrame n x.cls x.num
             else e.sendLaunch n x))))) ∧
    (c.roleFuse ≠ 1 → c.roleFuse ≠ 3 → ∀ (n : Fin 2) (src ethertype o : Nat) (body : Bytes),
      (List.range 128).find? (c.objectTakes n src ethertype body) = some o →
      ((c.rxDesc o).net = 3 → (∀ t : TakenFrame, (c.net.taken.filter (·.obj == o)).getLast? = some t → t.payload = body) →
        (c.net.taken.filter (·.obj == o)) ≠ [] →
        exec (.appFrameRx n src ethertype body) s = .next (s.finishing c)) ∧
      ((c.rxDesc o).net ≠ 3 ∨ (∀ t : TakenFrame, (c.net.taken.filter (·.obj == o)).getLast? = some t → t.payload ≠ body) →
        exec (.appFrameRx n src ethertype body) s = .next (s.finishing
          ((((((c.updNet fun x => { x with taken := x.taken ++ [⟨o, c.clk.now, n, body⟩] }).setBit (Od.FRAME_RX_STATUS o) 1
            true).setBit (Od.FRAME_RX_STATUS o) 2 false).setBit (Od.FRAME_RX_STATUS o) 3 (n.val == 0)).setBit
              (Od.FRAME_RX_STATUS o) 4 (n.val == 1)).evPulse (169 + o))))) ∧
    (∀ (o : Fin 128) (d : Core), (∀ t ∈ c.net.taken, t.obj ≠ o.val) → d = c.atTime c.clk.nextB → (d.rxDesc o).net ≠ 0 →
      (d.rxDesc o).maxAge ≠ 0 → (d.rxDesc o).maxAge ≤ c.rd (Od.FRAME_RX_AGE o) + 1 → d.bit (Od.FRAME_RX_STATUS o) 2 = false →
      exec (.rxObjectAged o) s = .next (s.finishing ((d.setBit (Od.FRAME_RX_STATUS o) 2 true).log1 0x0A06 o)))

/-- An OPEN that keeps to the format opens a session with record 0x0A07 and an OPEN in answer, or is answered with CLOSE
where eight are open or an unsecured one is not allowed. A CLOSE ends its session with its record. An acknowledgement
releases the datagrams up to its number. A payload datagram acknowledges too; one already received is answered with an
acknowledgement, one that is next is taken: a handshake's content goes to the handshake, and otherwise its messages
are served in order, and if nothing was sent for it an acknowledgement goes out. 200 ms after its last sending the
oldest unacknowledged datagram is repeated, and after five repeats the session is closed, as it is 60 s after the
client's last datagram and where its handshake takes 10 s. (10_ethernet_and_time_stamping.md R391, R392;
14_dictionary_and_countersign.md R476) -/
def Obligations.SessionCommandsComplete : Prop :=
  ∀ (s : State) (c : Core), s.finds c →
    (∀ (n : Fin 2) (data : Bytes) (h : DsHeader), c.dsListens n = true → dsHeader data = some h →
      (∀ mac : Nat, h.flags.testBit 2 = true → h.session = 0 → h.seq = 0 →
        (8 ≤ c.srv.sessions.length ∨ (h.flags.testBit 0 = false ∧ c.rd Od.NET_DS_PLAIN = 0) →
          exec (.dsOpen n mac data) s = .next (s.finishing
            (c.sendDatagram n mac (b2n (h.flags.testBit 0) + 8) 0 0 0 []))) ∧
        (∀ (num : Nat) (x : Session), c.srv.sessions.length < 8 → h.flags.testBit 0 = true ∨ c.rd Od.NET_DS_PLAIN ≠ 0 →
          num = (if c.fresh 16 = 0 ∨ (c.session? (c.fresh 16)).isSome then c.unusedSession else c.fresh 16) →
          x = ⟨num, n, mac, h.flags.testBit 0, none, 0, 0, [], [], c.clk.cyc, c.clk.cyc⟩ →
          exec (.dsOpen n mac data) s = .next (s.finishing
            ((((c.used 1).updSrv fun y => { y with sessions := y.sessions ++ [x] }).log 0x0A07).sendPlain x 4)))) ∧
      (∀ x : Session, c.dsSession n h = some x →
        (h.flags.testBit 3 = true → exec (.dsClose n data) s = .next (s.finishing (c.endSession x.num false))) ∧
        (h.flags.testBit 1 = true → exec (.dsAckOnly n data) s = .next (s.finishing
          ((c.updSession x.num fun y => { y with heard := c.clk.cyc }).ackTo x.num h.ack))) ∧
        (∀ (tls : Handshake) (d : Core), h.flags ≤ 1 →
          d = (c.updSession x.num fun y => { y with heard := c.clk.cyc }).ackTo x.num h.ack → data.drop 16 ≠ [] →
          (h.seq ≤ x.rx → exec (.dsDatagram n data tls) s = .next (s.finishing
            (match d.session? x.num with | some y => d.sendPlain y dsAckOnly | none => d))) ∧
          (∀ e f : Core, h.seq = x.rx + 1 → e = d.updSession x.num (fun y => { y with rx := h.seq }) →
            f = (if x.secure = true ∧ x.cred = none then e.handshake x.num tls
                 else (dsMessages (data.drop 16) 80).foldl (fun (c : Core) m => c.dsRequest s.skein x.num m) e) →
            exec (.dsDatagram n data tls) s = .next (s.finishing
              (match f.session? x.num with
               | some y => if f.sent.length = e.sent.length then f.sendPlain y dsAckOnly else f
               | none => f)))))) ∧
    (∀ (num : Nat) (x : Session), c.clk.running = true → c.session? num = some x →
      (∀ (y : Datagram) (ys : List Datagram) (first : Datagram) (d : Core), x.out = y :: ys →
        first = ys.foldl (fun (m : Datagram) z => if z.cyc < m.cyc then z else m) y → d = c.atCyc (first.cyc + ms 200) →
        (5 ≤ first.repeats → exec (.dsRetransmitTimeout num) s = .next (s.finishing (d.endSession num true))) ∧
        (first.repeats < 5 → exec (.dsRetransmitTimeout num) s = .next (s.finishing
          ((d.updSession num fun z => { z with out := z.out.map fun q =>
              if q.seq = first.seq then { first with cyc := d.clk.cyc, repeats := first.repeats + 1 } else q }).sendDatagram
            x.net x.mac x.flags x.num first.seq x.rx first.payload)))) ∧
      exec (.dsIdleTimeout num) s = .next (s.finishing ((c.atCyc (x.heard + ms 60000)).endSession num true)) ∧
      (x.secure = true → x.cred = none →
        exec (.tlsHandshakeTimeout num) s = .next (s.finishing ((c.atCyc (x.opened + ms 10000)).endSession num true))))

/-- A whole message of a session, with no reserved bit set, is answered with its OP, TAG and entry. A read gives the value
in network order, and a read of a segment up to 1,024 bytes from its offset, LAST where the content ends; a write
changes the entry, and a segment is written at its offset with its LAST, both answered with the abort code of the
write or 0. A refused request is answered with its code. (10_ethernet_and_time_stamping.md R393;
14_dictionary_and_countersign.md R464, R465, R466; 15_modes_faults_health.md R497) -/
def Obligations.DictionaryMessagesComplete : Prop :=
  ∀ (s : State) (c : Core) (num : Nat) (msg : Bytes) (m : DsMessage) (row : OdRow), s.finds c → c.dictServes = true →
    (c.session? num).any Session.serves = true → c.ply.unvoted = none → m = dsMessage msg → msg.length = 16 + m.len → m.len ≤ 1024 →
    m.flags ≤ 1 → m.status = 0 → c.entry? m.key = some row →
    (m.op = 1 → row.type ≠ .domain →
      (∀ b : Bytes, c.readBytes s.skein (.session num) m.key .be = .ok b →
        exec (.dsRead num msg) s = .next (s.finishing ((c.used 1).dsStatus num m false 0 b))) ∧
      (∀ code : Nat, c.readBytes s.skein (.session num) m.key .be = .error code →
        exec (.dsRead num msg) s = .next (s.finishing (c.dsStatus num m false code [])))) ∧
    (m.op = 2 → row.type ≠ .domain → ∀ d : Core, d = c.writeFree (.session num) m.key .be m.data →
      exec (.dsWrite num msg) s = .next (s.finishing (d.dsStatus num m false d.replyCode []))) ∧
    (row.isDomain = true →
      (m.op = 3 →
        (∀ b : Bytes, c.readBytes s.skein (.session num) m.key .be = .ok b →
          exec (.dsReadSegment num msg) s = .next (s.finishing
            (c.dsStatus num m (decide (b.length ≤ m.offset + 1024)) 0 (slice b m.offset 1024)))) ∧
        (∀ code : Nat, c.readBytes s.skein (.session num) m.key .be = .error code →
          exec (.dsReadSegment num msg) s = .next (s.finishing (c.dsStatus num m false code [])))) ∧
      (m.op = 4 → ∀ d : Core, d = c.writeSegment (.session num) m.key m.offset m.data (m.flags.testBit 0) →
        exec (.dsWriteSegment num msg) s = .next (s.finishing (d.dsStatus num m false d.replyCode []))))

/-- The next launch leaves the plan at its instant and its buffer is launched, late or skipped as the gating and the sleep
say. The end of the frame on the bus counts a success or failure of its buffer, and a buffer that loses arbitration is
offered again, or is CANCELLED where a cancellation waits. An error is counted and kept with its kind, moves TEC or
REC, sets NOACK at its limit and ends in bus-off at 256. Recovery clears the counters and BUS_OFF with record 0x0B03;
CAN.CMD = 3 starts it in bus-off and is answered with 0x08000022 otherwise. Integration ends on the bus. CAN.TXB_CMD =
1 cancels a pending request at once, and one on the bus when its attempt ends. (11_can_fd_controllers.md R401, R403,
R404, R405, R406, R407, R408, R413) -/
def Obligations.CanTransmitCommandsComplete : Prop :=
  ∀ (s : State) (c : Core) (k : Fin 4), s.finds c →
    (∀ (busy : Bool) (b t : Nat) (d : Core), c.clk.running = true → firstPlan (c.ctl k).plan = some (b, t) →
      d = (c.atTime t).updCtl k (fun x => { x with plan := x.plan.erase (b, t), busy := busy }) → d.canMode k ≠ 0 →
      d.ttSilent k = false →
      (d.canBit k csAsleep = true → exec (.canLaunch k busy) s = .next (s.finishing (d.inc32 (Od.CAN_SLEEP_SKIPPED k)))) ∧
      (d.canBit k csAsleep = false → d.netGate = false →
        exec (.canLaunch k busy) s = .next (s.finishing ((d.txbClear k b).txbBit k b tbGated true))) ∧
      (d.canBit k csAsleep = false → d.netGate = true → ∀ e : Core, e = d.txbClear k b →
        (e.clk.now ≤ t → exec (.canLaunch k busy) s = .next (s.finishing (e.launchBuf k b))) ∧
        (∀ f : Core, t < e.clk.now → f = ((e.inc32 Od.CAN_LATE).canLog 0x0B07 k).txbBit k b tbLate true →
          exec (.canLaunch k busy) s = .next (s.finishing
            (if (f.canDesc k b).sendNow then f.launchBuf k b else f.txbBit k b tbDropped true))))) ∧
    (c.canOnBus k = true →
      (∀ b : Nat, c.onBusBuf k = some b →
        exec (.canFrameTxEnd k true) s = .next (s.finishing ((c.frameSent k b).canOffer k)) ∧
        exec (.canFrameTxEnd k false) s = .next (s.finishing ((c.frameFailed k b).canOffer k)) ∧
        exec (.canArbitrationLost k) s = .next (s.finishing
          ((if (c.buf k b).cancel then c.cancelBuf k b else c.afterFrame k b true).updCtl k fun x => { x with busy := true }))) ∧
      (∀ (kind : Fin 8) (tx first : Bool) (d e : Core),
        d = ((c.inc32 (Od.CAN_ERRORS k)).wr (Od.CAN_LAST_ERR k) kind).updCtl k (fun x => { x with
          tecCount := if tx && !(kind.val == 3 && c.canBit k csPassive) then x.tecCount + 8 else x.tecCount,
          recCount := if tx then x.recCount else x.recCount + (if first then 8 else 1),
          ackErrs := if tx then (if kind.val = 3 then x.ackErrs + 1 else 0) else x.ackErrs,
          busy := x.busy && tx }) →
        e = (if tx = true ∧ kind.val = 3 ∧ d.rd (Od.CAN_NOACK_LIMIT k) ≠ 0 ∧ d.rd (Od.CAN_NOACK_LIMIT k) ≤ (d.ctl k).ackErrs then
              d.setNoack k true else d) →
        exec (.canBusError k kind tx first) s = .next (s.finishing
          (((if 256 ≤ (e.ctl k).tecCount then e.busOff k else e).showErrors k).canOffer k)))) ∧
    (c.canMode k ≠ 0 →
      (c.canBit k csBusOff = true → (c.ctl k).recover = true → c.canBit k csAsleep = false →
        exec (.canBusoffRecovery k) s = .next (s.finishing
          ((((((c.updCtl k fun x => { x with tecCount := 0, recCount := 0, recover := false, ackErrs := 0 }).setCanBit k csBusOff
            false).setCanBit k csOnBus true).canLog 0x0B03 k).showErrors k).canOffer k))) ∧
      (c.canBit k csIntegrating = true →
        exec (.canIntegrationComplete k) s = .next (s.finishing
          (((c.setCanBit k csIntegrating false).setCanBit k csOnBus true).canOffer k)))) ∧
    (∀ p : Path,
      (c.mayWrite p (Od.CAN_CMD k) 3 = true →
        exec (.canCmdRecover p k) s = .next (s.finishing
          ((if (c.used 3).canMode k = 0 ∨ (c.used 3).canBit k csBusOff = false then (c.used 3).abort 0x08000022
            else ((c.used 3).updCtl k fun x => { x with recover := true }).answer .done).shown p))) ∧
      (∀ b : Fin 12, c.mayWrite p (Od.CAN_TXB_CMD b) 1 = true →
        exec (.canTxbCancel p b 1) s = .next (s.finishing
          ((match ((c.used 3).buf (b / 3) (b % 3)).st with
            | 0 => (c.used 3).answer .done
            | 1 => ((c.used 3).cancelBuf (b / 3) (b % 3)).answer .done
            | _ => ((c.used 3).updBuf (b / 3) (b % 3) fun x => { x with cancel := true, defer := false }).answer .done).shown p))))

/-- A frame that is not for the SDO server is counted at a controller on its bus, lowers REC, and if it is no remote frame
goes by the lowest filter that takes it to its receive object, with its event, or to its queue. At the boundary an
object's age that reaches its limit sets AGED with record 0x0B06. CAN.Q_ACK = n releases the n oldest entries of a
queue that holds as many. CAN.CMD = 1 ends the pending requests and lets the controller sleep, which it does with
record 0x0B0A when no frame of its own is on the bus; CAN.CMD = 2 and the selected event of the bus wake it, with the
record, the count and the event of a wake. (11_can_fd_controllers.md R409, R410, R411, R414, R418, R419) -/
def Obligations.CanReceiveCommandsComplete : Prop :=
  ∀ (s : State) (c : Core) (k : Fin 4), s.finds c →
    (∀ (x : CanFrame) (sof : Nat) (d : Core), c.sdoTakes k x = false → c.canOnBus k = true →
      x.idword.testBit 30 = false ∨ c.canMode k ≠ 1 → c.isReference k x = false →
      d = ((((c.updCtl k fun y => { y with
          busy := false, recCount := if 127 < y.recCount then 119 + c.fresh 32 % 9 else y.recCount - 1 }).used 1).showErrors k).inc64
            (Od.CAN_RX_FRAMES k)) → d.isReference k x = false →
      (x.remote = true → exec (.canFrameRx k x sof) s = .next (s.finishing (d.canOffer k))) ∧
      (x.remote = false →
        ((List.range 32).find? (fun g => (d.canFilter k g).takes x) = none →
          exec (.canFrameRx k x sof) s = .next (s.finishing (d.canOffer k))) ∧
        (∀ g : Nat, (List.range 32).find? (fun g => (d.canFilter k g).takes x) = some g →
          exec (.canFrameRx k x sof) s = .next (s.finishing
            ((if (d.canFilter k g).dest = 2 then d.toQueue k (d.canFilter k g).queue g x else d.toObject k g x).canOffer k))))) ∧
    (∀ (o : Fin 128) (d : Core), c.clk.running = true → o.val < 32 * c.canCount →
      (∀ x ∈ (c.ctl (o / 32)).taken, x.1 ≠ o.val % 32) → d = c.atTime c.clk.nextB → (d.canFilter (o / 32) (o % 32)).dest = 1 →
      (d.canFilter (o / 32) (o % 32)).maxAge ≠ 0 → (d.canFilter (o / 32) (o % 32)).maxAge ≤ c.rd (Od.CAN_RXO_AGE o) + 1 →
      d.bit (Od.CAN_RXO_STATUS o) 2 = false →
      exec (.canRxObjectAged o) s = .next (s.finishing ((d.setBit (Od.CAN_RXO_STATUS o) 2 true).canLog 0x0B06 (o / 32)))) ∧
    (∀ (p : Path) (q : Fin 16) (n : Nat) (l : List Bytes) (d : Core), c.mayWrite p (Od.CAN_Q_ACK q) n = true → 1 ≤ n → n ≤ 64 →
      l = ((c.used 3).ctl (q / 4)).queues.getD (q % 4) [] → n ≤ l.length →
      d = ((c.used 3).updCtl (q / 4) fun y => { y with queues := setAt y.queues (q % 4) (l.drop n) }).wr (Od.CAN_Q_COUNT q)
        (l.length - n) →
      exec (.canQAck p q n) s = .next (s.finishing
        (((if l.length = n then d.evLevel (145 + q) false else d).answer .done).shown p))) ∧
    (∀ (p : Path) (d : Core), d = c.used 3 →
      (∀ e : Core, c.mayWrite p (Od.CAN_CMD k) 1 = true → d.canMode k ≠ 0 → d.canBit k csAsleep = false → d.rd (Od.TT_ROLE k) ≠ 1 →
        e = (List.range 5).foldl (fun (c : Core) b =>
          if (c.buf k b).st = 1 then c.cancelBuf k b else c.updBuf k b fun x => { x with defer := false }) d →
        exec (.canCmdSleep p k) s = .next (s.finishing
          ((((e.updCtl k fun x => { x with sleeping := true }).setCanBit k csWoken false).answer .done).shown p))) ∧
      (c.mayWrite p (Od.CAN_CMD k) 2 = true →
        exec (.canCmdWake p k) s = .next (s.finishing
          ((if d.canMode k = 0 ∨ d.canBit k csAsleep = false then d.abort 0x08000022 else (d.canWoken k).answer .done).shown p)))) ∧
    (c.canMode k ≠ 0 →
      ((c.ctl k).sleeping = true → (∀ x ∈ (c.ctl k).bufs, x.st ≠ 2) →
        exec (.canSleepEntered k) s = .next (s.finishing
          (((((((List.range 5).foldl (fun (c : Core) b => if (c.buf k b).st = 1 then c.cancelBuf k b else c) c).updCtl k fun x =>
            { x with sleeping := false, busy := false }).setCanBit k csAsleep true).setCanBit k csOnBus false).setCanBit k csIntegrating
            false).canLog 0x0B0A k))) ∧
      (∀ e : WakeEvent, c.canBit k csAsleep = true → c.wakes k e = true →
        exec (.canBusWake k e) s = .next (s.finishing
          (match e with
           | .frame x => (c.canWoken k).wr (Od.CAN_LAST_WAKE_ID k) (putBit (frameId x.idword) 31 (x.idword.testBit 31))
           | _ => c.canWoken k))))

/-- At a reference instant of a time master a reference that has not started is dropped as missed; unless the outputs are
withheld or the controller sleeps, the reference of this basic cycle is offered with its count. A follower that
receives the reference takes its start of frame as the sync mark, counts and shows it, is in step and plans its cycle.
Without one for 1.5 cycles it is MISSED, counts it and plans on from the last mark. At the end of TT.LOSS_LIMIT cycles
more it is LOST and plans nothing. (11_can_fd_controllers.md R415, R416, R417) -/
def Obligations.TimeTriggeredCanCommandsComplete : Prop :=
  ∀ (s : State) (c : Core) (k : Fin 4), s.finds c →
    (c.canMode k ≠ 0 →
      (∀ (t : Nat) (rest : List Nat) (busy : Bool) (d e : Core), (c.ctl k).refs = t :: rest →
        d = (c.atTime t).updCtl k (fun x => { x with refs := rest, busy := busy }) →
        e = (if (d.buf k bufRef).st = 1 then (d.idleBuf k bufRef).refMissed k else d) →
        (e.netGate = false ∨ e.canBit k csAsleep = true → exec (.ttReferenceLaunch k busy) s = .next (s.finishing e)) ∧
        (e.netGate = true → e.canBit k csAsleep = false → e.rd (Od.TT_CYCLE_TICKS k) ≠ 0 →
          exec (.ttReferenceLaunch k busy) s = .next (s.finishing ((e.updBuf k bufRef fun x => { x with
            st := 1, idword := e.rd (Od.TT_REF_ID k),
            reg := leBytes 1 (e.rd Od.TICK_NUMBER / e.rd (Od.TT_CYCLE_TICKS k) % max 1 (e.rd (Od.TT_MATRIX_CYCLES k))),
            single := true, cancel := false, defer := false, asked := t }).canOffer k)))) ∧
      (c.rd (Od.TT_STATE k) = 1 → ∀ d : Core,
        d = (((c.atTime ((c.ctl k).mark + c.basicCycle k * 3 / 2)).setTt k 2).inc32 (Od.TT_REF_MISSED k)).updCtl k
          (fun x => { x with cycles := 1 }) →
        exec (.ttReferenceMissed k) s = .next (s.finishing (d.ttPlan k ((d.ctl k).mark + c.basicCycle k)
          ((d.rd (Od.TT_CYCLE_COUNT k) + 1) % max 1 (d.rd (Od.TT_MATRIX_CYCLES k))) true))) ∧
      (c.rd (Od.TT_STATE k) = 2 →
        exec (.ttFollowerLost k) s = .next (s.finishing
          (((c.atTime ((c.ctl k).mark + (c.rd (Od.TT_LOSS_LIMIT k) + 1) * c.basicCycle k)).setTt k 3).updCtl k fun x =>
            { x with plan := [] })))) ∧
    (∀ (x : CanFrame) (sof : Nat) (d e : Core), c.isReference k x = true → c.canOnBus k = true →
      d = ((((c.updCtl k fun y => { y with
          busy := false, recCount := if 127 < y.recCount then 119 + c.fresh 32 % 9 else y.recCount - 1 }).used 1).showErrors k).inc64
            (Od.CAN_RX_FRAMES k)) → d.isReference k x = true →
      e = (((d.updCtl k fun y => { y with mark := sof, cycles := 0 }).inc32 (Od.TT_REF_SENT k)).wr (Od.TT_CYCLE_COUNT k)
        (leAt x.data 0 1 % 64)).wr (Od.TT_REF_STAMP k) sof →
      exec (.ttReferenceRx k x sof) s = .next (s.finishing
        (((((e.setTt k 1).ttPlan k sof (leAt x.data 0 1 % 64) false).filterFrame k x).canOffer k))))

/-- A request frame of eight bytes is counted and served; a transfer in progress is aborted by a new request. An expedited
download writes the entry and a segmented one begins with its lock; a segment with the right toggle bit is kept or
written and the last one ends the transfer; each is confirmed, or ends with an abort frame that carries the code. An
upload of up to four bytes is answered with them, a longer one with its size, and its segments follow. An abort ends
the transfer, a block request is answered with 0x05040001, and 1,000 ms without a segment abort it with 0x05040000.
(11_can_fd_controllers.md R420; 14_dictionary_and_countersign.md R465, R466, R471) -/
def Obligations.SdoCommandsComplete : Prop :=
  ∀ (s : State) (c : Core) (k : Fin 4), s.finds c →
    (∀ (f : Bytes) (id key cmd : Nat) (d : Core), c.sdoNode k = some id → id < 128 → c.canOnBus k = true → f.length = 8 →
      d = ((((c.updCtl k fun y => { y with
          busy := false, recCount := if 127 < y.recCount then 119 + c.fresh 32 % 9 else y.recCount - 1 }).used 1).showErrors k).inc64
            (Od.CAN_RX_FRAMES k)) → d.dictServes = true → d.ply.unvoted = none →
      cmd = leAt f 0 1 → key = odKey (leAt f 1 2) (leAt f 3 1) →
      (cmd / 32 = 1 → ∀ e : Core, e = d.sdoFresh k →
        (∀ n : Nat, cmd.testBit 1 = true →
          n = (if cmd.testBit 0 then 4 - field cmd 2 2
               else match e.entry? key with | some r => if r.isDomain then 4 else r.type.bytes | none => 4) →
          exec (.sdoInitiateDownload k f) s = .next (s.finishing
            (((e.writeFree (.can k) key .le (slice f 4 n)).sdoConfirm k key (leBytes 1 0x60 ++ sdoMux key)).canOffer k))) ∧
        (∀ code : Nat, cmd.testBit 1 = false → e.checkWrite (.can k) key 0 = .error code →
          exec (.sdoInitiateDownload k f) s = .next (s.finishing ((e.sdoAbort k key code).canOffer k))) ∧
        (∀ r : OdRow, cmd.testBit 1 = false → e.checkWrite (.can k) key 0 = .ok r → r.isDomain = false →
          exec (.sdoInitiateDownload k f) s = .next (s.finishing
            ((((e.setSdo k (some ⟨key, false, false, [], e.clk.cyc⟩)).answer .done).sdoSend k
              (leBytes 1 0x60 ++ sdoMux key)).canOffer k)))) ∧
      (∀ t : SdoTransfer, d.sdoNow k = some t → cmd.testBit 4 = t.toggle →
        (cmd / 32 = 0 → t.up = false → ∀ (seg : Bytes) (r : OdRow), seg = slice f 1 (7 - field cmd 1 3) →
          d.entry? t.key = some r → r.isDomain = false →
          (cmd.testBit 0 = true →
            exec (.sdoDownloadSegment k f) s = .next (s.finishing
              ((((d.setSdo k none).writeFree (.can k) t.key .le (t.data ++ seg)).sdoConfirm k t.key
                (leBytes 1 (0x20 + 16 * b2n t.toggle))).canOffer k))) ∧
          (cmd.testBit 0 = false →
            exec (.sdoDownloadSegment k f) s = .next (s.finishing
              (((((d.setSdo k (some { t with toggle := !t.toggle, data := t.data ++ seg, cyc := d.clk.cyc })).answer
                .done).sdoSend k (leBytes 1 (0x20 + 16 * b2n t.toggle)))).canOffer k)))) ∧
        (cmd / 32 = 3 → t.up = true →
          exec (.sdoUploadSegment k f) s = .next (s.finishing
            ((((d.setSdo k (if t.data.length ≤ 7 then none
                else some { t with toggle := !t.toggle, data := t.data.drop 7, cyc := d.clk.cyc })).answer
              (.bytes (t.data.take 7))).sdoSend k (leBytes 1 (16 * b2n t.toggle + 2 * (7 - (t.data.take 7).length) +
                b2n (decide (t.data.length ≤ 7))) ++ t.data.take 7)).canOffer k)))) ∧
      (cmd / 32 = 2 → ∀ (b : Bytes) (e : Core), (d.sdoFresh k).readBytes s.skein (.can k) key .le = .ok b →
        e = ((d.sdoFresh k).used 1).answer (.bytes b) →
        exec (.sdoInitiateUpload k f) s = .next (s.finishing
          ((if 1 ≤ b.length ∧ b.length ≤ 4 then e.sdoSend k (leBytes 1 (0x43 + 4 * (4 - b.length)) ++ sdoMux key ++ b)
            else (e.setSdo k (some ⟨key, true, false, b, e.clk.cyc⟩)).sdoSend k
              (leBytes 1 0x41 ++ sdoMux key ++ leBytes 4 b.length)).canOffer k))) ∧
      (cmd / 32 = 4 → exec (.sdoAbort k f) s = .next (s.finishing ((d.sdoEnd k).canOffer k))) ∧
      (cmd / 32 = 5 ∨ cmd / 32 = 6 → exec (.sdoBlockRequest k f) s = .next (s.finishing
        (((d.sdoFresh k).sdoAbort k key 0x05040001).canOffer k)))) ∧
    (∀ t : SdoTransfer, c.sdoNow k = some t →
      exec (.sdoSegmentTimeout k) s = .next (s.finishing
        (((c.atCyc (t.cyc + ms 1000)).sdoEnd k).sdoAbort k t.key 0x05040000)))

/-- A level that changes at a source present is kept, makes an edge where the source takes its direction, and the targets
are arbitrated; an occurrence at a pulse source makes an edge. The end of a window makes the source pending. A store
to EV.S.CTRL, by the Ply with a target that may be named, by a spindle without a change of the target, or by another
path, sets MASK and TARGET, clears with CLEAR the pending state, count and window, and makes with RAISE an edge of a
software source; a RAISE of another source counts as refused with record 0x0C03. A source that becomes pending is
offered after 3 cycles, another change after 2. A configuration word in STOP that R427 accepts waits for the next
boundary. (12_event_router.md R427, R428, R430, R431, R432, R435, R437, R438) -/
def Obligations.EventSourceCommandsComplete : Prop :=
  ∀ (s : State) (c : Core) (e : Fin 494), s.finds c → c.clk.running = true →
    (∀ high : Bool, evLevelKind e = true → c.evPresent e = true → c.router.levels.contains e.val ≠ high → ∀ d : Core,
      d = c.updRouter (fun r => { r with
        levels := if high then r.levels ++ [e.val] else r.levels.filter (· != e.val) }) →
      exec (.evSourceChange e high) s = .next (s.finishing
        ((if d.evTakes e high then d.evEdge e else d).arbitrate 3))) ∧
    (evLevelKind e = false → c.evPresent e = true →
      exec (.evSourceChange e true) s = .next (s.finishing ((if c.evTakes e true then c.evEdge e else c).arbitrate 3))) ∧
    (∀ t : Nat, c.router.windows.find? (·.1 == e.val) = some (e.val, t) → c.evCoalT e ≠ 0 →
      exec (.evCoalWindowEnd e) s = .next (s.finishing
        (((c.atCyc (t + us (2 ^ (c.evCoalT e - 1)))).latchPending e).arbitrate 3))) ∧
    (e.val ≠ 0 → ∀ (v : Nat) (effect : Core → Bool → Core),
      (∀ (d : Core) (retarget : Bool), effect d retarget =
        (let x := d.setEvCtrl e ((if retarget then field v 16 6 else d.evTarget e) * 2 ^ 16 + v % 2)
         let y := if v.testBit 2 then x.evClear e else x
         let z := if v.testBit 1 then
            (if 1 ≤ e.val ∧ e.val ≤ 64 then (if y.evTakes e true then y.evEdge e else y)
             else (y.inc32 Od.EV_REFUSED_RAISES).log1 0x0C03 e)
          else y
         z.arbitrate (if z.evPending e = true ∧ y.evPending e = false then 3 else 2))) →
      (∀ d : Core, c.dictServes = true → c.ply.unvoted = none → c.pmpOk 0 (0x60000004 + 16 * e) 4 1 = true →
        v &&& 0x3F0007 = v → c.evTargetOk (field v 16 6) = true →
        (c.evTaskSource e = true → field v 16 6 = c.evTarget e) →
        d = { c with ply := { c.ply with trap := none } } →
        exec (.evRaise .ply e v) s = .next (s.finishing (effect d true)) ∧
        exec (.evClear .ply e v) s = .next (s.finishing (effect d true)) ∧
        exec (.evMaskWrite .ply e v) s = .next (s.finishing (effect d true)) ∧
        exec (.evRetarget .ply e v) s = .next (s.finishing (effect d true))) ∧
      (∀ (n : Fin 32), c.dictServes = true → c.canExecute n = true → (c.untrapped n).tentativeJob n = none →
        c.pmpOk (n + 1) (0x60000004 + 16 * e) 4 1 = true → v &&& 0x3F0007 = v →
        exec (.evRaise (.spindle n) e v) s = .next (s.finishing (effect (c.untrapped n) false)) ∧
        exec (.evClear (.spindle n) e v) s = .next (s.finishing (effect (c.untrapped n) false)) ∧
        exec (.evMaskWrite (.spindle n) e v) s = .next (s.finishing (effect (c.untrapped n) false)) ∧
        exec (.evRetarget (.spindle n) e v) s = .next (s.finishing (effect (c.untrapped n) false))) ∧
      (∀ p : Path, p.master = none → c.mayWrite p (srcKey 0x2C14 e) v = true → v < 2 ^ 32 →
        exec (.evRaise p e v) s = .next (s.finishing ((effect (c.used 3) true).answer .done)) ∧
        exec (.evClear p e v) s = .next (s.finishing ((effect (c.used 3) true).answer .done)) ∧
        exec (.evMaskWrite p e v) s = .next (s.finishing ((effect (c.used 3) true).answer .done)) ∧
        exec (.evRetarget p e v) s = .next (s.finishing ((effect (c.used 3) true).answer .done)))) ∧
    (∀ v : Nat, c.run = .stop → c.evCfgOk e v = true →
      (c.dictServes = true → c.ply.unvoted = none → c.pmpOk 0 (0x60000000 + 16 * e) 4 1 = true →
        exec (.evCfgWrite .ply e v) s = .next (s.finishing
          ({ c with ply := { c.ply with trap := none } }.evCfgStage e v))) ∧
      (∀ p : Path, e.val ≠ 0 → p.master = none → c.mayWrite p (srcKey 0x2C10 e) v = true → v < 2 ^ 32 →
        (c.used 3).acceptsConfig (srcKey 0x2C10 e) v →
        exec (.evCfgWrite p e v) s = .next (s.finishing ((((c.used 3).evCfgStage e v).cfgChanged).answer .done))))

/-- A spindle with an offer that is asleep or about to sleep wakes, counted; with interrupts enabled it takes the machine
external interrupt, with its trap entry, and waits no more, but a tentative job stalls before it. A claim of the Ply
whose offer still stands takes the source into service with its group, moves its count to the claimed field, counts,
answers with the identifier and sets it 10 cycles on; otherwise it counts as spurious, is remembered as withdrawn, and
answers 0. A completion of an event in service at the Ply ends the service; another counts with record 0x0C02.
(12_event_router.md R433, R434, R435, R436) -/
def Obligations.EventTargetCommandsComplete : Prop :=
  ∀ (s : State) (c : Core), s.finds c →
    (∀ (n : Fin 32) (mie wfi : Bool) (d : Core), c.spinRuns n = true → c.offerNow (n + 1) ≠ 0 →
      d = (if (c.spin n).waiting || wfi then c.inc32 (Od.EV_T_WAKES (n + 1)) else c) →
      exec (.evInterruptTake n mie wfi) s = .next (s.finishing
        (if mie = false then d
         else if (d.tentativeJob n).isSome then d.stall n .interrupt
         else d.updSpin n fun x => { x with
           waiting := false, wake := none, cause := 11, cpu := x.cpu.trap 0x8000000B d.clk.cyc }))) ∧
    (∀ d : Core, c.dictServes = true → c.ply.unvoted = none → d = { c with ply := { c.ply with trap := none } } →
      (∀ (id : Nat) (e : Core), c.pmpOk 0 0x60004008 4 0 = true → id = d.offerSeen 0 → id ≠ 0 → d.evEnable id = true → d.evMask id = false →
        d.evPending id = true → d.evRoute id = 0 →
        e = (((((d.updRouter fun r => { r with
          service := r.service ++ [⟨id, 0, d.evGroup id⟩], pending := r.pending.filter (· != id),
          withdrawn := r.withdrawn.filter (· != id) }).setEvCount id (field (d.evCount id) 0 16 * 2 ^ 16)).inc64
            (Od.EV_T_CLAIMS 0)).inc64 Od.EV_OFFERS).arbitrate 0) →
        exec .evPlyClaim s = .next (s.finishing ((e.eventClaimed id (e.clk.cyc + 10)).answer (.value id)))) ∧
      (∀ id : Nat, c.pmpOk 0 0x60004008 4 0 = true → id = d.offerSeen 0 → id ≠ 0 →
        ¬(d.evEnable id = true ∧ d.evMask id = false ∧ d.evPending id = true ∧ d.evRoute id = 0) →
        exec .evPlyClaim s = .next (s.finishing (((((d.updRouter fun r => { r with
          withdrawn := if id ∈ r.withdrawn then r.withdrawn else r.withdrawn ++ [id] }).inc32 (Od.EV_T_SPURIOUS 0)).arbitrate
            0)).answer (.value 0)))) ∧
      (c.pmpOk 0 0x60004008 4 0 = true → d.offerSeen 0 = 0 →
        exec .evPlyClaim s = .next (s.finishing (((d.inc32 (Od.EV_T_SPURIOUS 0)).arbitrate 0).answer (.value 0)))) ∧
      (∀ id : Nat, c.pmpOk 0 0x6000400C 4 1 = true → exec (.evPlyComplete id) s = .next (s.finishing
        (if d.router.service.any (fun x => x.src == id && x.target == 0) then
          (d.updRouter fun r => { r with service := r.service.filter fun x => !(x.src == id && x.target == 0) }).arbitrate 2
         else (d.inc32 (Od.EV_T_BAD_DONE 0)).log1 0x0C02 id))))

/-- A request enters the queue of requests. The writer takes the oldest one: with a token it gives it the next SEQ and
places it in the next empty slot, or in place of the oldest entry of at most its severity, or drops and counts it when
every held entry is more severe; with no token it is suppressed and remembered for a summary. A written entry pulses
source 490 from EV.SKEIN_SEV on, its number goes to the vault, and from severity 4 it enters the mirror queue. A
refill instant gives a token back, or spends it on the summary of what was suppressed. The oldest mirrored entry is
programmed; a failure retires the sector with 0x0D04. The oldest sector is erased while none is erased. A read returns
what its path selects, on a memory window as a segment in WIN.BUF. (13_skein_recorder.md R449, R450, R452, R453, R454,
R455, R457) -/
def Obligations.RecorderCommandsComplete : Prop :=
  ∀ (s : State) (c : Core) (r : Recorder), s.finds c → r = s.skein →
    (∀ code sev a0 a1 : Nat, exec (.skeinRequest code sev a0 a1) s = .next (s.finishing
      { c with out := c.out ++ [⟨code, sev, a0 % 2 ^ 32, a1 % 2 ^ 32, none⟩] })) ∧
    (c.skeinWrites = true →
      (∀ (q : Request) (rest : List Request) (b : Bucket) (r1 : Recorder) (e : Entry), r.queue = q :: rest →
        b = r.bucket c.writer q.code → r1 = { r with queue := rest }.setBucket { b with tokens := b.tokens - 1 } →
        e = ⟨r.lastSeq + 1, r1.stamp c.writer q, q.code, q.sev, c.writer.flags + 8 * b2n q.step.isSome, c.writer.tick, q.arg0, q.arg1⟩ →
        (∀ r2 : Recorder, 0 < b.tokens → r.ring.length < 65536 →
          r2 = (({ r1 with ring := r.ring ++ [(r.ring.length, e)], lastSeq := r.lastSeq + 1 }).toMirror e).reportDrops →
          exec .skeinWrite s = .next (s.finishingWith
            ((if q.sev ≠ 0 ∧ c.rd Od.EV_SKEIN_SEV ≤ q.sev then c.evPulse 490 else c).noteSeq r2) r2)) ∧
        (∀ (i : Nat) (ring : List (Nat × Entry)) (r2 : Recorder), 0 < b.tokens → 65536 ≤ r.ring.length →
          dropOldest q.sev r.ring = some (i, ring) →
          r2 = (({ r1 with ring := ring ++ [(i, e)], lastSeq := r.lastSeq + 1, overwritten := r.overwritten + 1 }).toMirror
            e).reportDrops →
          exec .skeinWrite s = .next (s.finishingWith
            ((if q.sev ≠ 0 ∧ c.rd Od.EV_SKEIN_SEV ≤ q.sev then c.evPulse 490 else c).noteSeq r2) r2)) ∧
        (0 < b.tokens → 65536 ≤ r.ring.length → dropOldest q.sev r.ring = none →
          exec .skeinWrite s = .next (s.finishingWith c (r1.lose q.sev).reportDrops)) ∧
        (b.tokens = 0 →
          exec .skeinWrite s = .next (s.finishingWith c
            ({ ({ r with queue := rest }.setBucket
                { b with suppressed := b.suppressed + 1, sevMax := max b.sevMax q.sev, lastArg := q.arg0 }) with
                suppressed := r.suppressed + 1 }).reportDrops))) ∧
      (r.queue = [] → exec .skeinWrite s = .next (s.finishingWith c r))) ∧
    (c.run ≠ .failed →
      (∀ (code period t : Nat) (d : Core) (b : Bucket), period = c.rd (Od.SKEIN_REFILL_MS (codeSevMax code - 1)) →
        period ≠ 0 → (skeinCode? code).isSome = true → t = r.refillInstant c.writer code period c.clk.cyc →
        d = c.atCyc (ms t) → b = { r.bucket d.writer code with refilled := t } →
        (d.writer.depthOf code ≤ b.tokens → exec (.skeinRefill code) s = .next (s.finishingWith d (r.setBucket b))) ∧
        (b.tokens < d.writer.depthOf code → b.suppressed = 0 →
          exec (.skeinRefill code) s = .next (s.finishingWith d (r.setBucket { b with tokens := b.tokens + 1 }))) ∧
        (b.tokens < d.writer.depthOf code → 0 < b.suppressed → d.skeinWrites = true →
          ∀ (r1 r2 : Recorder) (ok : Bool),
          (r.setBucket { b with suppressed := 0, sevMax := 0 }).place d.writer
            ⟨code, b.sevMax, min b.suppressed (2 ^ 32 - 1), b.lastArg, none⟩ true = (r1, ok) →
          r2 = { r1 with summaries := r1.summaries + 1 } →
          exec (.skeinRefill code) s = .next (s.finishingWith (d.skeinWritten r r2 (if ok then b.sevMax else 0)) r2)))) ∧
    (∀ (e : Entry) (rest : List Entry) (r1 : Recorder) (sec : Sector), r.mirror = e :: rest → r.openSector = some r1 →
      r1.flash.getLast? = some sec →
      exec (.skeinMirrorProgram true) s = .next (s.finishingWith c
        ({ r1 with mirror := rest, flash := appendEntry e r1.flash }).reportMirror) ∧
      exec (.skeinMirrorProgram false) s = .next (s.finishingWith c
        (({ r1 with retired := r1.retired ++ [sec.number] }).request ⟨0x0D04, 5, sec.number, 0, none⟩))) ∧
    (∀ (sec : Sector) (rest : List Sector), r.erased = [] → r.flash = sec :: rest → sec.number ∉ r.retired →
      exec (.skeinFlashErase true) s = .next (s.finishingWith c
        { r with flash := rest, erased := [sec.number], flashErases := r.flashErases + 1 }) ∧
      exec (.skeinFlashErase false) s = .next (s.finishingWith c
        (({ r with flash := rest, retired := r.retired ++ [sec.number] }).request ⟨0x0D04, 5, sec.number, 0, none⟩))) ∧
    (∀ (p : Path) (row : OdRow) (b : Bytes), c.serves p = true → c.checkRead p Od.SKEIN_READ = .ok row →
      b = r.read (c.sel p Od.SKEIN_READ_SRC) (c.sel p Od.SKEIN_READ_FROM) (c.sel p Od.SKEIN_READ_MIN_SEV) →
      p.master = none → exec (.skeinRead p) s = .next (s.finishing (c.answer (.bytes b)))) ∧
    (∀ (m : Nat) (row : OdRow) (d : Core) (b : Bytes), c.serves (masterPath m) = true →
      c.pmpOk m (winAddr Od.SKEIN_READ) 4 0 = true → d = c.accessing m →
      d.checkRead (masterPath m) Od.SKEIN_READ = .ok row →
      b = r.read (d.sel (masterPath m) Od.SKEIN_READ_SRC) (d.sel (masterPath m) Od.SKEIN_READ_FROM)
        (d.sel (masterPath m) Od.SKEIN_READ_MIN_SEV) →
      exec (.skeinRead (masterPath m)) s = .next (s.finishing ((d.used 1).winDomainLoad m b)))

/-- A write whose path is served and whose checks pass has its entry's effect, for a number that its bytes spell and for a
whole content of the length of its entry; a number that fails a check is answered with the code of the first that
fails, and changes nothing else. A window load of a wide entry returns bits 31:0 and leaves bits 63:32 in WIN.HI; a
store writes the value WIN.HI and the word make, at once. A load of a DOMAIN copies its next segment into WIN.BUF and
returns its length; a store of n bytes keeps them for the transfer, and with LAST ends it. A transfer ends 5 s after
its last segment. The record of the configuration is written to both banks. (14_dictionary_and_countersign.md R463,
R465, R467, R468, R469, R471) -/
def Obligations.DictionaryAndWindowCommandsComplete : Prop :=
  ∀ (s : State) (c : Core), s.finds c →
    (∀ (p : Path) (k v : Nat) (row : OdRow) (data : Bytes), c.entry? k = some row → row.isDomain = false →
      decodeValue row.type p.wire data = .ok v →
      (c.mayWrite p k v = true →
        exec (.dictionaryWrite p k data) s =
          .next (s.finishing (((c.used 3).applyNumber p k row v c.freeFacts).shown p))) ∧
      (∀ code : Nat, c.serves p = true → c.checkWrite p k v = .error code →
        exec (.dictionaryWrite p k data) s = .next (s.finishing (((c.used 3).abort code).shown p))) ∧
      (c.serves p = true → c.checkWrite p k v = .ok row → c.valueOk k row v = false →
        exec (.dictionaryWrite p k data) s = .next (s.finishing (((c.used 3).abort 0x06090030).shown p)))) ∧
    (∀ (p : Path) (i : Fin 7) (v : Nat), c.mayWrite p (Od.SKEIN_REFILL_MS i) v = true →
      (c.used 3).acceptsConfig (Od.SKEIN_REFILL_MS i) v →
      exec (.dictionaryWrite p (Od.SKEIN_REFILL_MS i) (pathBytes p (Od.SKEIN_REFILL_MS i) v)) s =
        .next (s.finishing (((((c.used 3).wr (Od.SKEIN_REFILL_MS i) v).cfgChanged).answer .done).shown p))) ∧
    (∀ (p : Path) (k : Nat) (row : OdRow) (b : Bytes), c.mayWriteBytes p k = true → odRow? k = some row →
      k / 256 < 0x6000 → k ≠ Od.PROG_IMAGE → (domLength k).1 ≤ b.length → b.length ≤ (domLength k).2 →
      hartLengthOk k b = true → Core.domOk k b = true →
      exec (.dictionaryWrite p k b) s = .next (s.finishing ((((c.used 3).unlock p k).applyDomain p k row b).shown p))) ∧
    (∀ (m : Fin 33) (k : Nat) (row : OdRow) (p : Path) (d : Core) (w : Window), p = masterPath m → c.serves p = true →
      k / 256 < 0x8000 → d = c.accessing m → d.entry? k = some row → w = d.window m →
      (row.isDomain = false → row.type.width = 64 →
        (∀ v : Nat, c.pmpOk m (winAddr k) 4 0 = true → d.checkRead p k = .ok row → v = d.number s.skein p k row →
          exec (.winWideLoad m k) s = .next (s.finishing
            (((d.used 1).updWindow m fun x => { x with hi := v / 2 ^ 32 % 2 ^ 32, status := 0 }).loaded m (v % 2 ^ 32)))) ∧
        (∀ v x : Nat, c.pmpOk m (winAddr k) 4 1 = true → v = w.hi * 2 ^ 32 + x → v < 2 ^ 64 → d.checkWrite p k v = .ok row → d.valueOk k row v = true →
          exec (.winWideStore m k x) s = .next (s.finishing (((d.used 3).applyNumber p k row v d.freeFacts).shown p)))) ∧
      (row.isDomain = true →
        (∀ seg : Bytes, c.pmpOk m (winAddr k) 4 0 = true → d.checkRead p k = .ok row → seg = slice (d.domValue s.skein p k row) w.domOfs 1024 →
          exec (.winDomainLoad m k) s = .next (s.finishing
            (((d.used 1).updWindow m fun x => { x with buf := splice x.buf 0 seg, status := 0 }).loaded m seg.length))) ∧
        (∀ (n : Nat) (data : Bytes) (e : Core), c.pmpOk m (winAddr k) 4 1 = true → 1 ≤ n → n ≤ 1024 →
          d.checkWrite p k 0 = .ok row →
          data = splice (((d.srv.writes.find? fun x => x.key == k && x.path == p).map DomWrite.data).getD []) w.domOfs
            (slice w.buf 0 n) →
          data.length ≤ (domLength k).2 → k ≠ Od.PROG_IMAGE → e = d.unlock p k →
          (w.last = false →
            exec (.winDomainStore m k n) s = .next (s.finishing
              (((e.updSrv fun x => { x with writes := x.writes ++ [⟨k, p, data, e.clk.cyc⟩] }).answer .done).shown p))) ∧
          (w.last = true → (domLength k).1 ≤ data.length → hartLengthOk k data = true → Core.domOk k data = true →
            exec (.winDomainStore m k n) s = .next (s.finishing ((e.applyDomain p k row data).shown p)))))) ∧
    (∀ (p : Path) (k : Nat) (w : DomWrite), c.srv.writes.find? (fun x => x.key == k && x.path == p) = some w →
      exec (.domainLockTimeout p k) s = .next (s.finishing ((c.atCyc (w.cyc + ms 5000)).unlock p k))) ∧
    (∀ copy : CfgCopy, c.srv.changed.isSome = true → c.run ≠ .failed → c.ply.unvoted = none →
      copy = ⟨c.srv.copies.foldl (fun n x => match x with | some y => max n y.serial | none => n) 0 + 1,
        c.od.filter fun x => recordKey x.1, c.doms.filter fun x => recordKey x.1, c.loops.kept, c.rd Od.PLY_DEBUG_SPLITS⟩ →
      exec .configRecordWrite s = .next (s.finishing
        (c.updSrv fun x => { x with changed := none, copies := [some copy, some copy] })))

/-- A write to a protected entry opens the set with its principal as author, or adds to it, up to 64 changes. CS.CMD = 1
seals it with a fresh NONCE, the time and record 0x0E04, and in an unprovisioned module passes it to the checks;
CS.CMD = 2 ends it with CS.RESULT 2. A signature whose MAC is right counts for its credential: the first is kept, the
second, of another credential and role, passes the set to the checks; one that is wrong counts as a failed
authentication. An OPEN set ends 600 s after its last staging write, a SEALED one CS.WINDOW_S after its sealing with
CS.RESULT 3. A lock of a credential ends after 300 s. SEC.CMD = 1 ends COMMISSIONING at the next boundary; its time
ends it with record 0x0E07. (14_dictionary_and_countersign.md R475, R478, R480, R481, R482, R484, R485) -/
def Obligations.CountersignCommandsComplete : Prop :=
  ∀ (s : State) (c : Core), s.finds c →
    (∀ (p : Path) (k v : Nat) (row : OdRow) (data : Bytes) (set : ChangeSet) (l : List Change), c.mayWrite p k v = true →
      c.entry? k = some row → row.isDomain = false → protectedKey k row = true → decodeValue row.type p.wire data = .ok v →
      set = c.srv.cset.getD ⟨c.authorOf (c.principal p), [], none, none, 0, none⟩ →
      l = insertChange ⟨k, beBytes row.type.bytes v⟩ set.changes → l.length ≤ 64 →
      exec (.csStageWrite p k data) s = .next (s.finishing ((((c.used 3).updSrv fun x =>
        { x with cset := some { set with changes := l, staged := c.clk.cyc } }).answer .done).shown p))) ∧
    (∀ (p : Path) (k : Nat) (row : OdRow) (b : Bytes) (set : ChangeSet) (l : List Change), c.mayWriteBytes p k = true →
      odRow? k = some row → protectedKey k row = true → k / 256 < 0x6000 → k ≠ Od.PROG_IMAGE → k ≠ Od.CS_SIGN →
      (domLength k).1 ≤ b.length → b.length ≤ (domLength k).2 → hartLengthOk k b = true → Core.domOk k b = true →
      set = c.srv.cset.getD ⟨c.authorOf (c.principal p), [], none, none, 0, none⟩ →
      l = insertChange ⟨k, b⟩ set.changes → l.length ≤ 64 →
      exec (.csStageWrite p k b) s = .next (s.finishing (((((c.used 3).unlock p k).updSrv fun x =>
        { x with cset := some { set with changes := l, staged := c.clk.cyc } }).answer .done).shown p))) ∧
    (∀ (p : Path) (set sealed : ChangeSet) (d e : Core), c.mayWrite p Od.CS_CMD 1 = true → c.srv.cset = some set →
      set.sealing = none → set.author = c.authorOf (c.principal p) →
      d = c.used 3 → sealed = { set with sealing := some (d.fresh 64, c.monoMs) } →
      e = ((((d.used 1).updSrv fun x => { x with cset := some sealed }).wr Od.CS_SEALED_MS c.monoMs).wr
        Od.CS_SIGNER1 0).log 0x0E04 →
      (c.twoSigners = true → exec (.csCmdSeal p) s = .next (s.finishing ((e.answer .done).shown p))) ∧
      (c.twoSigners = false → c.csBarred set = false →
        exec (.csCmdSeal p) s = .next (s.finishing (((e.csJudge sealed (0, 0)).answer .done).shown p)))) ∧
    (∀ p : Path, c.mayWrite p Od.CS_CMD 2 = true → c.srv.cset.isSome = true →
      exec (.csCmdAbandon p) s = .next (s.finishing
        ((((((c.used 3).updSrv fun x => { x with cset := none }).wr Od.CS_RESULT 2).log 0x0E06).answer .done).shown p))) ∧
    (∀ (p : Path) (sig : Bytes) (set : ChangeSet) (nonce t i : Nat) (d : Core), c.mayWriteBytes p Od.CS_SIGN = true →
      sig.length = 40 → c.srv.cset = some set → set.sealing = some (nonce, t) → set.accepted = none →
      c.monoMs < t + 1000 * c.rd Od.CS_WINDOW_S → beAt sig 4 4 = 0 →
      (List.range 16).find? (fun j => c.credEnabled j && c.rd (Od.CRED_ID j) == beAt sig 0 4) = some i →
      c.credLocked i = false → c.roleRight (c.credRole i) 5 = true → d = (c.used 3).unlock p Od.CS_SIGN →
      (Sha.hmac (c.dom (Od.CRED_SECRET i)) c.csContent ≠ slice sig 8 32 →
        exec (.csSign p sig) s = .next (s.finishing (((d.authFailed i).abort 0x08000020).shown p))) ∧
      (Sha.hmac (c.dom (Od.CRED_SECRET i)) c.csContent = slice sig 8 32 →
        (set.signer = none →
          exec (.csSign p sig) s = .next (s.finishing (((((d.authDone i).updSrv fun x =>
            { x with cset := some { set with signer := some i } }).wr Od.CS_SIGNER1 (beAt sig 0 4)).answer .done).shown p))) ∧
        (∀ j : Nat, set.signer = some j → i ≠ j → c.credRole i ≠ c.credRole j → c.csBarred set = false →
          exec (.csSign p sig) s = .next (s.finishing
            ((((d.authDone i).csJudge set (c.rd (Od.CRED_ID j), beAt sig 0 4)).answer .done).shown p))))) ∧
    (∀ (set : ChangeSet) (nonce t : Nat), c.srv.cset = some set → set.sealing = some (nonce, t) → set.accepted = none →
      exec .csWindowExpiry s = .next (s.finishing
        ((((c.atCyc (ms (t + 1000 * c.rd Od.CS_WINDOW_S))).updSrv fun x => { x with cset := none }).wr Od.CS_RESULT 3).log
          0x0E06))) ∧
    (∀ set : ChangeSet, c.srv.cset = some set → set.sealing = none →
      exec .csIdleAbandon s = .next (s.finishing
        ((((c.atCyc (set.staged + ms 600000)).updSrv fun x => { x with cset := none }).wr Od.CS_RESULT 2).log 0x0E06))) ∧
    (∀ (i : Fin 16) (t : Nat), c.srv.locks.getD i none = some t →
      exec (.credentialLockExpiry i) s = .next (s.finishing
        ((c.atCyc (ms (t + 300000))).updSrv fun x => { x with locks := setAt x.locks i none }))) ∧
    (∀ p : Path, c.mayWrite p Od.SEC_CMD 1 = true →
      exec (.secCmdEndCommissioning p) s = .next (s.finishing
        ((((c.used 3).updSrv fun x => { x with endCommission := true }).answer .done).shown p))) ∧
    (c.rd Od.SEC_COMMISSIONING = 1 →
      exec .commissioningExpiry s = .next (s.finishing
        ((((c.atCyc (ms c.srv.commissionEnd)).wr Od.SEC_COMMISSIONING 0).log 0x0E07).cfgChanged)))

/-- STATE.CMD is refused with 0x08000022 in SAFE and in HOLD, and 0x02 while NO_PROGRAM is set; in INIT it is kept for the
end of start-up; a request for the present state is accepted and does nothing; one for the other state is kept for the
next tick boundary. The first queued reaction that no reaction of its level or higher holds back leaves the queue and
starts, unless FAILED is in progress. SAFE entered by escalation is left STATE.SAFE_HOLD_MS after the last further
fault, once every queued reaction of L2 or lower has started, with record 0x0F06; a pair module that was ACTIVE or
STANDBY becomes SYNCING. (15_modes_faults_health.md R495, R496, R504, R508) -/
def Obligations.StateAndReactionCommandsComplete : Prop :=
  ∀ (s : State) (c : Core), s.finds c →
    (∀ (p : Path) (d : Core), d = c.used 3 →
      (c.mayWrite p Od.STATE_CMD 1 = true →
        ((c.run = .hold ∨ c.run = .safe) →
          exec (.stateCmdStop p) s = .next (s.finishing ((d.abort 0x08000022).shown p))) ∧
        (c.run = .init → exec (.stateCmdStop p) s = .next (s.finishing
          ((({ d with react := { d.react with initCmd := some false } } : Core).answer .done).shown p))) ∧
        (c.run = .stop → exec (.stateCmdStop p) s = .next (s.finishing ((d.answer .done).shown p))) ∧
        (c.run = .run → exec (.stateCmdStop p) s = .next (s.finishing
          ((({ d with react := { d.react with cmd := some false } } : Core).answer .done).shown p)))) ∧
      (c.mayWrite p Od.STATE_CMD 2 = true →
        ((c.run = .hold ∨ c.run = .safe ∨ c.srv.noProgram = true) →
          exec (.stateCmdRun p) s = .next (s.finishing ((d.abort 0x08000022).shown p))) ∧
        (c.srv.noProgram = false →
          (c.run = .init → exec (.stateCmdRun p) s = .next (s.finishing
            ((({ d with react := { d.react with initCmd := some true } } : Core).answer .done).shown p))) ∧
          (c.run = .run → exec (.stateCmdRun p) s = .next (s.finishing ((d.answer .done).shown p))) ∧
          (c.run = .stop → exec (.stateCmdRun p) s = .next (s.finishing
            ((({ d with react := { d.react with cmd := some true } } : Core).answer .done).shown p)))))) ∧
    (∀ f : Reaction, c.react.highest ≠ 4 → c.react.queue.find? (fun x => !c.react.holdsBack x) = some f →
      exec .reactionQueuedStart s = .next (s.finishing
        (({ c with react := { c.react with queue := c.react.queue.erase f } } : Core).startReaction f true))) ∧
    (∀ d e : Core, c.run = .safe → c.react.safeEsc = true → (∀ f ∈ c.react.queue, 2 < f.level) →
      d = c.atCyc (c.react.safeQuiet + ms (c.rd Od.STATE_SAFE_HOLD_MS)) →
      e = { d with react := { d.react with active := d.react.active.filter (fun a => a.level != 3), safeEsc := false } } →
      exec .safeResume s = .next (s.finishing
        (((if c.pairMember = true ∧ (c.role = .active ∨ c.role = .standby) then e.becomeSyncing else e).setRun
          c.react.safeFrom).log 0x0F06)))

/-- One powered hour after the last evaluation the hour is counted, the bank erases, the ageing of the sixteen sensors and
VBAT with its flags are shown. Every item present reports its consumed fraction and, from the 24th hour on, its life
by the window of HEALTH.WINDOW_H hours; an item that reaches 1.0 is recorded once, and its flag follows. The smallest
life and its item are shown from then on, and LIFE_WARN follows HEALTH.WARN_H with record 0x0F08 when it is set.
(15_modes_faults_health.md R509, R510, R511, R512, R513) -/
def Obligations.HealthEvaluationCompletes : Prop :=
  ∀ (s : State) (c d e f g : Core) (x : HealthReading) (hours w delta life item : Nat) (deltas now past : List Nat)
    (items : List (Nat × Figures)), s.finds c → c.tickWork = true →
    d = ({ c.atCyc (c.monitor.lastCyc + 3600000000000) with
      monitor := { c.monitor with
        lastCyc := (c.atCyc (c.monitor.lastCyc + 3600000000000)).clk.cyc } } : Core).inc32 Od.HEALTH_POWERED_H →
    hours = d.rd Od.HEALTH_POWERED_H → w = min (d.rd Od.HEALTH_WINDOW_H) hours →
    deltas = (List.range 16).map (fun i => F32.div (F32.sub (x.ages.getD i (0, 0)).1 (x.ages.getD i (0, 0)).2)
      (x.ages.getD i (0, 0)).1) →
    e = (deltas.zipIdx.foldl (fun (a : Core) p => a.wr (Od.HEALTH_AGE_DELTA p.2) p.1)
      ((d.wr Od.HEALTH_BANK_ERASES0 (x.banks.getD 0 0)).wr Od.HEALTH_BANK_ERASES1 (x.banks.getD 1 0))).measureVbat x.vbat →
    now = e.healthSample s.skein x → past = (e.monitor.samples[w - 1]?).getD [] →
    delta = (deltas.tail.foldl F32.max (deltas.headD 0)) →
    items = ((List.range 86).filter e.itemPresent).map (fun i => (i, e.itemFigures now past w delta i)) →
    f = items.foldl (fun (a : Core) p => a.reportItem p.1 p.2 (decide (24 ≤ hours)))
      { e.used 1 with monitor := { e.monitor with samples := (now :: e.monitor.samples).take 8760 } } →
    g = f.setBit Od.HEALTH_STATUS 1 (items.any fun p => p.2.worn) →
    (hours < 24 → exec (.healthEvaluation x) s = .next (s.finishing g)) ∧
    (24 ≤ hours → worstItem items = (life, item) →
      exec (.healthEvaluation x) s = .next (s.finishing
        (let h := (g.wr Od.HEALTH_MODULE_H life).wr Od.HEALTH_LIMIT_ITEM item
         (if life < h.rd Od.HEALTH_WARN_H ∧ h.bit Od.HEALTH_STATUS 0 = false then h.log 0x0F08 else h).setBit
           Od.HEALTH_STATUS 0 (decide (life < h.rd Od.HEALTH_WARN_H)))))

/-- A change of the low or over-voltage condition of L+ is kept and recorded with 0x1001 or 0x1002. While VBAT is the
vault's source, its fall below the supervisor threshold clears the validity bits, leaves the rest undefined and the
station OFF; while the logic supply is the source nothing is lost. With VBAT back in OFF the vault is powered. While
LOCKED the hourly write sets RTC from station time and RTC_VALID. A junction above 135 °C causes an L4 reaction with
record 0x1005. (16_power_startup_connectors.md R521, R526, R528, R538) -/
def Obligations.SupplyAndRtcCommandsComplete : Prop :=
  ∀ (s : State) (c : Core),
    (s.finds c →
      (∀ b : Bool, c.pwr.low ≠ b →
        exec (.logicSupplyLow b) s = .next (s.finishing (({ c with pwr := { c.pwr with low := b } } : Core).log 0x1001))) ∧
      (∀ b : Bool, c.pwr.overV ≠ b →
        exec (.logicSupplyOvervoltage b) s =
          .next (s.finishing (({ c with pwr := { c.pwr with overV := b } } : Core).log 0x1002))) ∧
      (c.clk.running = true → c.clk.state = .locked → c.ply.unvoted = none →
        exec .rtcWrite s = .next (s.finishing { c with vault := { c.vault with
          rtc := c.clk.now * 32768 / 1000000000, vstatus := putBit c.vault.vstatus 0 true } })) ∧
      exec .dieOvertemperature s = .next (s.finishing ((c.log 0x1005).nest 0x1005 4 0))) ∧
    (c = s.core.starting →
      (∀ d : Core, d = { c with pwr := { c.pwr with vbat := false } } →
        (c.run = .vault → exec .vbatSupervisorTrip s = .next (s.powering { d.vaultTrip with run := .off } s.skein) ∧
          d.vaultTrip.vault.vstatus = 0) ∧
        (c.run ≠ .vault → exec .vbatSupervisorTrip s = .next (s.powering d s.skein))) ∧
      (∀ d : Core, d = { c with pwr := { c.pwr with vbat := true } } →
        (c.run = .off → exec .vbatRestore s = .next (s.powering { d with run := .vault } s.skein)) ∧
        (c.run ≠ .off → exec .vbatRestore s = .next (s.powering d s.skein))))

/-- In a live station the power-fail sequence programs record 0x1003 and as many mirror entries as the reserve allows,
writes LAST_STATE, and leaves the die without state, the recorder without RAM, OFF_STAMP captured, and the station in
VAULT, or with an undefined vault in OFF without VBAT. RESET_N low resets a supplied die at once into BOOT, the vault
and flash kept. The rise of L+ starts the start-up, which counts BOOT_COUNT, with cause 1, or 4 if it rose during
power-fail, unless RESET_N is low; its release starts it with cause 3 after 2.0 s to 10.0 s, else 2. If neither
executive image verifies the station is FAILED; else the self-test and the recorder's first record follow, and INIT
unless the self-test left FAILED. (16_power_startup_connectors.md R522, R523, R526, R530, R532, R533, R534;
13_skein_recorder.md R458, R461; 14_dictionary_and_countersign.md R488) -/
def Obligations.PowerFailAndStartUpCommandsComplete : Prop :=
  ∀ (s : State) (c : Core), c = s.core.starting →
    (∀ (n rtc : Nat) (q : Request) (d e : Core), c.pwr.supply = true → c.alive = true → c.ply.unvoted = none →
      q = ⟨0x1003, 6, c.fresh 32, Config.freeNat (c.free + 1) % 2 ^ 32, none⟩ →
      d = { (c.used 2) with vault := ({ c.vault with lastState := c.run.code }).seal } →
      (c.pwr.vbat = true →
        e = { d.lose .vault with
          pwr := { (d.lose .vault).pwr with supply := false, failed := true }
          vault := { d.vault with offStamp := rtc, rtc := rtc, skeinSeq := ((s.skein.direct c.writer q).powerFail n).lastSeq,
                                  vstatus := putBit d.vault.vstatus 3 true } } →
        exec (.powerFail n rtc) s = .next (s.powering e ((s.skein.direct c.writer q).powerFail n).clearRam)) ∧
      (c.pwr.vbat = false → ∃ e : Core, e.run = .off ∧ e.vault.vstatus = 0 ∧ e.pwr.supply = false ∧
        exec (.powerFail n rtc) s = .next (s.powering e ((s.skein.direct c.writer q).powerFail n).clearRam))) ∧
    (∀ d : Core, d = { c with pwr := { c.pwr with resetLow := true } } →
      (c.pwr.supply = true → exec .resetNAssert s = .next (s.powering (d.lose .boot) s.skein.clearRam)) ∧
      (c.pwr.supply = false → exec .resetNAssert s = .next (s.powering d s.skein))) ∧
    (∀ (x : StartUp) (recovered : Bool) (d : Core), c.pwr.supply = false → d = { c with pwr := { c.pwr with supply := true } } →
      (c.pwr.resetLow = true → exec (.logicSupplyRise x recovered) s = .next (s.powering { d with run := .boot } s.skein)) ∧
      (c.pwr.resetLow = false → ∀ cause : Nat, cause = (if recovered = true ∧ c.pwr.failed = true then 4 else 1) →
        exec (.logicSupplyRise x recovered) s =
          .next (s.powering (d.startUp s.skein x cause).1 (d.startUp s.skein x cause).2))) ∧
    (∀ (x : StartUp) (held : Nat) (d : Core), c.pwr.resetLow = true → d = { c with pwr := { c.pwr with resetLow := false } } →
      (c.pwr.supply = false → exec (.resetNRelease x held) s = .next (s.powering d s.skein)) ∧
      (c.pwr.supply = true → ∀ cause : Nat, cause = (if 2000000000 ≤ held ∧ held ≤ 10000000000 then 3 else 2) →
        exec (.resetNRelease x held) s =
          .next (s.powering (d.startUp s.skein x cause).1 (d.startUp s.skein x cause).2))) ∧
    (∀ (d e f : Core) (r r' : Recorder) (x : StartUp) (cause bank vstatus : Nat),
      (∀ found : Option Nat, d.bootRom x cause = (e, found, vstatus) → e.run = .boot ∧ vstatus = d.vault.vstatus ∧
        e.vault.resetCause = cause ∧ e.vault.bootCount = (d.vault.bootCount + 1) % 2 ^ 32) ∧
      (d.bootRom x cause = (e, none, vstatus) →
        d.startUp r x cause = ({ e with run := .failed, out := [] }, r)) ∧
      (d.bootRom x cause = (e, some bank, vstatus) → f = e.selfTest x →
        r' = r.clearRam.startWriter f.writer (if vstatus.testBit 1 then some e.vault.skeinSeq else none) f.vault.bootCount →
        d.startUp r x cause = if f.run = .failed then (f, r') else ((f.noteSeq r').enterInit x bank vstatus, r')))

/-- The step of a state with a command in front of its queue is that command's execution on the state with the rest of the
queue. On an empty queue the draft requests of the present cycle are decided and one core cycle passes while the logic
is powered and out of reset, with what follows every command, and nothing happens otherwise (the model's choice, log
entry 1). (95_what_each_step_holds.md; 14_dictionary_and_countersign.md R470) -/
def Obligations.StepTakesTheFrontCommand : Prop :=
  ∀ (i : Instr) (s : State),
    step { s with pending := i :: s.pending } = exec i s ∧
    (s.pending = [] → s.core.alive = true → step s = .next (s.finishing (s.core.starting.drafted.pass 1))) ∧
    (s.pending = [] → s.core.alive = false → step s = .next { s with core := s.core.starting })

/-- Every command of the table, in every state of the block and on all operands, answers a next state, and leaves the
queue of waiting commands as it is: what the spec calls a fault is a state of the block, FAILED or SAFE among its run
states, and an exception is shown on its master. (00_scope.md R18; 15_modes_faults_health.md R494) -/
def Obligations.EveryCommandAnswersANextState : Prop :=
  ∀ (i : Instr) (s : State), ∃ t : State, exec i s = .next t ∧ t.pending = s.pending

/-- After reset the module is in BOOT and held there by RESET_N, station time does not run, every entry reads its Default,
among them TICK.PERIOD 4, TIME.SOURCE 3, PROG.STATE 0 (IDLE), STATE.START_MODE 0 and the depths and refill periods of
Table 13.8, nothing waits, the creel lists nothing, and the recorder holds no entry and no request and is within its
bounds. That it stands in BOOT with L+ up is the model's choice of the instant (log entry 3).
(16_power_startup_connectors.md R533; 15_modes_faults_health.md R494; 13_skein_recorder.md R451, R453;
01_tick_and_station_time.md R51; 14_dictionary_and_countersign.md R463) -/
def Obligations.ResetLeaves : Prop :=
  State.reset.pending = [] ∧ State.reset.core.run = .boot ∧ State.reset.core.pwr.resetLow = true ∧
    State.reset.core.clk.running = false ∧ (∀ k : Nat, State.reset.core.rd k = odDefault k) ∧
    State.reset.core.rd Od.TICK_PERIOD = 4 ∧ State.reset.core.rd Od.TIME_SOURCE = 3 ∧
    State.reset.core.rd Od.PROG_STATE = 0 ∧ State.reset.core.rd Od.STATE_START_MODE = 0 ∧
    (List.range 7).map (fun i => State.reset.core.rd (Od.SKEIN_BUCKET_DEPTH i)) = [4, 8, 8, 16, 16, 32, 32] ∧
    (List.range 7).map (fun i => State.reset.core.rd (Od.SKEIN_REFILL_MS i)) = [1000, 1000, 500, 250, 100, 10, 10] ∧
    State.reset.core.creel = [] ∧ Memory.wf State.reset.core.creel = true ∧ State.reset.skein.ring = [] ∧
    State.reset.skein.queue = [] ∧ State.reset.skein.mirror = [] ∧ State.reset.skein.Ok

/-- From every state whose recorder is within its bounds, every step that answers a next state keeps it so: at most 256
requests, 1,024 mirrored entries and 65,536 slots of RAM; the entries of the ring and of the mirror queue in strictly
rising SEQ, none above the last SEQ assigned; the slots of the ring distinct and in use from slot 0 on; no sector of
the flash ring beyond 2,048 entries; a lost-counter for each severity. (13_skein_recorder.md R449, R450, R451, R452,
R454, R455, R458, R461) -/
def Obligations.RecorderStaysWithinItsBounds : Prop :=
  ∀ s t : State, s.skein.Ok → step s = .next t → t.skein.Ok

/-- While the station is OFF, in VAULT or in BOOT, a command that is no event of the supplies, of RESET_N or of the
vault's supervisor changes nothing: what the last command sent is no longer shown, and no record is requested.
(15_modes_faults_health.md R494, R497; 16_power_startup_connectors.md R530, R533) -/
def Obligations.WithoutPowerNothingHappens : Prop :=
  ∀ (i : Instr) (s : State), s.core.alive = false → powerCommand i = false →
    exec i s = .next { s with core := { s.core with out := [], sent := [] } }

/-- Only the writer's own commands and the events of the supplies and of RESET_N change the RAM ring or the token buckets;
every other command leaves both as they are. No command but those events lowers the last sequence number assigned, and
unless the station fails the writer's commands raise it by at most one. (13_skein_recorder.md R449, R450, R451, R453,
R461) -/
def Obligations.OnlyTheWriterTouchesTheRing : Prop :=
  ∀ (i : Instr) (s t : State), exec i s = .next t → powerCommand i = false →
    (writerCommand i = false → t.skein.ring = s.skein.ring ∧ t.skein.buckets = s.skein.buckets) ∧
    s.skein.lastSeq ≤ t.skein.lastSeq ∧
    (t.core.run ≠ .failed → t.skein.lastSeq ≤ s.skein.lastSeq + 1 ∧
      (writerCommand i = false → t.skein.lastSeq = s.skein.lastSeq))

/-- While an empty slot exists, the entry goes to the lowest-numbered empty slot. When every slot holds an entry, the
entry replaces the entry with the lowest SEQ among those whose severity is equal to or lower than its own, and
SKEIN.OVERWRITTEN increments. If every held entry has a higher severity, the entry is dropped, its sequence number is
not assigned, and the lost-counter of its severity increments. (In every recorder within its bounds, an invariant
stated of its own.) (13_skein_recorder.md R452) -/
def Obligations.PlacementInTheRing : Prop :=
  ∀ (r r' : Recorder) (w : Writer) (q : Request) (summary written : Bool) (e : Entry), r.Ok → 1 ≤ q.sev → q.sev ≤ 7 →
    r.place w q summary = (r', written) →
    e = ⟨r.lastSeq + 1, r.stamp w q, q.code, q.sev, w.flags + 4 * b2n summary + 8 * b2n q.step.isSome, w.tick, q.arg0, q.arg1⟩ →
    (r.ring.length < 65536 → written = true ∧ r'.lastSeq = r.lastSeq + 1 ∧ r'.overwritten = r.overwritten ∧
      r'.lost = r.lost ∧ ∃ i : Nat, i < 65536 ∧ r'.ring = r.ring ++ [(i, e)] ∧ i ∉ r.ring.map Prod.fst ∧
        ∀ j < i, j ∈ r.ring.map Prod.fst) ∧
    (r.ring.length = 65536 → (∃ x ∈ r.ring, x.2.sev ≤ q.sev) → written = true ∧ r'.lastSeq = r.lastSeq + 1 ∧
      r'.overwritten = r.overwritten + 1 ∧ r'.lost = r.lost ∧
      ∃ x ∈ r.ring, x.2.sev ≤ q.sev ∧ (∀ y ∈ r.ring, y.2.sev ≤ q.sev → x.2.seq ≤ y.2.seq) ∧
        ∀ y : Nat × Entry, y ∈ r'.ring ↔ y = (x.1, e) ∨ y ∈ r.ring ∧ y ≠ x) ∧
    (r.ring.length = 65536 → (∀ x ∈ r.ring, q.sev < x.2.sev) → written = false ∧ r'.lastSeq = r.lastSeq ∧
      r'.overwritten = r.overwritten ∧ r'.ring = r.ring ∧
      ∀ k : Nat, r'.lost.getD k 0 = if k = q.sev - 1 then r.lost.getD k 0 + 1 else r.lost.getD k 0)

/-- On-die software, the Ply or a spindle, reaches entry Index:Sub at the 32-bit word address 0x40000000 + Index × 0x400 +
Sub × 4: a load or store of that word, by a master whose requests are served and whose protection entries allow it
(R54, R90), is the load or store of that entry, and no two entries share an address. (00_scope.md R17) -/
def Obligations.WindowAddressesOfEntries : Prop :=
  ∀ (c : Core) (r : Recorder) (m idx sub : Nat), m ≤ 32 → idx < 0x8000 → sub < 256 → c.serves (masterPath m) = true →
    (c.pmpOk m (0x40000000 + idx * 0x400 + sub * 4) 4 0 = true →
      c.access r m (0x40000000 + idx * 0x400 + sub * 4) 4 .load = (c.accessing m).winLoad r m (odKey idx sub)) ∧
    (c.pmpOk m (0x40000000 + idx * 0x400 + sub * 4) 4 1 = true →
      ∀ v : Nat, c.access r m (0x40000000 + idx * 0x400 + sub * 4) 4 (.store v) =
        (c.accessing m).winStore m (odKey idx sub) v) ∧
    (∀ idx' sub' : Nat, sub' < 256 → 0x40000000 + idx * 0x400 + sub * 4 = 0x40000000 + idx' * 0x400 + sub' * 4 →
      idx' = idx ∧ sub' = sub)

/-- A load from the word of a wide entry returns bits 31:0 of the value and, in the same request, copies bits 63:32 of
that same value into WIN.HI. A store to the word of a wide entry writes the 64-bit value {WIN.HI, stored word} as one
request, all of it or none. The value is therefore never torn between the two halves: WIN.HI and the word returned
make the whole value. (14_dictionary_and_countersign.md R468) -/
def Obligations.WideEntriesAreNeverTorn : Prop :=
  ∀ (s : State) (c d : Core) (m : Fin 33) (k : Nat) (row : OdRow) (p : Path), s.finds c → p = masterPath m →
    c.serves p = true → k / 256 < 0x8000 → d = c.accessing m → d.entry? k = some row → row.isDomain = false →
    row.type.width = 64 → d.srv.windows.length = 33 → c.arr.sp.length = 32 →
    (∀ v : Nat, c.pmpOk m (winAddr k) 4 0 = true → v < 2 ^ 64 → d.checkRead p k = .ok row → v = d.number s.skein p k row →
      ∃ e : Core, exec (.winWideLoad m k) s = .next (s.finishing e) ∧ e.reply = .value (v % 2 ^ 32) ∧
        (m ≠ 0 → (e.spin (m - 1)).rd = v % 2 ^ 32) ∧ (e.window m).hi = v / 2 ^ 32 ∧
        (e.window m).hi * 2 ^ 32 + v % 2 ^ 32 = v ∧ e.od = d.od) ∧
    (∀ v x : Nat, c.pmpOk m (winAddr k) 4 1 = true → v = (d.window m).hi * 2 ^ 32 + x → x < 2 ^ 32 → (d.window m).hi < 2 ^ 32 →
      (d.checkWrite p k v = .ok row → d.valueOk k row v = true →
        exec (.winWideStore m k x) s = .next (s.finishing (((d.used 3).applyNumber p k row v d.freeFacts).shown p))) ∧
      (∀ code : Nat, d.checkWrite p k v = .error code →
        ∃ e : Core, exec (.winWideStore m k x) s = .next (s.finishing e) ∧ e.od = d.od ∧ e.doms = d.doms ∧
          e.reply = .abort code))

/-- The reaction queue holds 64 reactions: judging a fault never makes it longer. A fault that finds the queue full, when
its reaction would have to wait, is an L4 reaction: the station is FAILED with a reaction of level 4 in progress, and
a Skein record of severity 7 under code 0x0F07 is requested. One that finds room waits behind the others, and the run
state stays as it is. (15_modes_faults_health.md R506) -/
def Obligations.FullReactionQueueIsAHardStop : Prop :=
  ∀ (c d : Core) (code l unit lvl : Nat) (again : Bool), d = c.nest code l unit → 1 ≤ l → l ≤ 4 → c.react.highest ≤ 4 →
    again = (decide (l ≤ c.react.highest) && c.react.active.any fun a =>
      decide (l ≤ a.level) && codeClass a.code == codeClass code && a.unit == unit) →
    lvl = (if again then min (l + 1) 4 else l) →
    (c.react.queue.length ≤ 64 → d.react.queue.length ≤ 64) ∧
    (c.react.highest ≤ 2 → l ≤ c.react.highest → lvl ≤ c.react.highest →
      (c.react.queue.length < 64 → d.react.queue = c.react.queue ++ [⟨lvl, l, code, unit⟩] ∧ d.run = c.run ∧
        d.react.active = c.react.active) ∧
      (64 ≤ c.react.queue.length → d.run = .failed ∧ d.react.queue = c.react.queue ∧
        (∃ a ∈ d.react.active, a.level = 4 ∧ a.unit = unit) ∧ ∃ q ∈ d.out, q.code = 0x0F07 ∧ q.sev = 7))

/-- A record of level L0 starts nothing, and nothing starts in FAILED. Any fault during an L3 reaction is an L4 reaction
and the station is FAILED. A fault above every level in progress starts at its own level. One at or below the highest
level, while a reaction of its class and unit at its level or higher is in progress, is raised by one level with
record 0x0F04, and starts if that is above the highest level. A start that reaches L3 in BOOT or SELFTEST is one of
L4. (15_modes_faults_health.md R503, R505; 02_ply_triplex_executive.md R88) -/
def Obligations.NestingOfReactions : Prop :=
  ∀ (c : Core) (code l unit hi : Nat), hi = c.react.highest → l ≤ 4 → hi ≤ 4 →
    (l = 0 ∨ hi = 4 → c.nest code l unit = c) ∧
    (hi = 3 → 1 ≤ l → c.nest code l unit = (c.inc32 Od.REACT_ESCALATIONS).startReaction ⟨4, l, code, unit⟩ false ∧
      (c.nest code l unit).run = .failed) ∧
    (hi < l → hi < 3 →
      (c.run ≠ .boot → c.run ≠ .selftest → c.nest code l unit = c.startReaction ⟨l, l, code, unit⟩ false) ∧
      (l = 3 → c.run = .boot ∨ c.run = .selftest → c.nest code l unit = c.startReaction ⟨4, l, code, unit⟩ false ∧
        (c.nest code l unit).run = .failed)) ∧
    (1 ≤ l → l = hi → hi < 3 → (∃ a ∈ c.react.active, l ≤ a.level ∧ codeClass a.code = codeClass code ∧ a.unit = unit) →
      c.run ≠ .boot → c.run ≠ .selftest →
      c.nest code l unit = ((c.logA 0x0F04 code (l + 1)).inc32 Od.REACT_ESCALATIONS).startReaction
        ⟨l + 1, l, code, unit⟩ false) ∧
    (1 ≤ l → l ≤ hi → hi < 3 → (∀ a ∈ c.react.active, l ≤ a.level → codeClass a.code = codeClass code → a.unit ≠ unit) →
      c.react.queue.length < 64 → (c.nest code l unit).react.queue = c.react.queue ++ [⟨l, l, code, unit⟩])

/-- Table 15.2 gates the field outputs, the safe outputs and the frames: all off up to INIT and in FAILED; in RUN open for
ALONE, ACTIVE and WITNESS, and in STOP so with STATE.STOP_FIELD 1; in HOLD the field and the frames for ALONE and
WITNESS, the safe outputs off; in SAFE the field alone, held with STATE.SAFE_FIELD 1. A stage is enabled only while
the interlock of R338 and the end of the hardware hold-off let it. The alarm contact is closed in INIT, STOP and RUN,
and open in every other state. (15_modes_faults_health.md R497, R498; 09_redundant_pair.md R338;
16_power_startup_connectors.md R536; 06_digital_channels.md R253) -/
def Obligations.GatingByStateAndRole : Prop :=
  ∀ (c : Core) (driving passing : Bool), driving = (c.role == .alone || c.role == .active || c.role == .witness) →
    passing = (c.role == .alone || c.role == .witness) →
    (c.run = .off ∨ c.run = .vault ∨ c.run = .boot ∨ c.run = .selftest ∨ c.run = .init ∨ c.run = .failed →
      c.fieldGate = false ∧ c.safeGate = false ∧ c.netGate = false) ∧
    (c.run = .stop → c.fieldGate = (driving && c.rd Od.STATE_STOP_FIELD == 1) ∧ c.safeGate = c.fieldGate ∧
      c.netGate = c.fieldGate) ∧
    (c.run = .run → c.fieldGate = driving ∧ c.safeGate = driving ∧ c.netGate = driving) ∧
    (c.run = .hold → c.fieldGate = passing ∧ c.safeGate = false ∧ c.netGate = passing) ∧
    (c.run = .safe → c.fieldGate = (c.rd Od.STATE_SAFE_FIELD == 1) ∧ c.safeGate = false ∧ c.netGate = false) ∧
    (c.fieldEnable = true ↔ c.fieldGate = true ∧ c.pwr.holdOff = false ∧
      (c.pairEn = false ∨ c.toggling = true ∧ c.bit Od.PAIR_STATUS 2 = false)) ∧
    (c.safeEnable = true ↔ c.safeGate = true ∧ c.pwr.holdOff = false ∧
      (c.pairEn = false ∨ c.toggling = true ∧ c.bit Od.PAIR_STATUS 2 = false)) ∧
    (c.alarmClosed = true ↔ c.run = .init ∨ c.run = .stop ∨ c.run = .run)

/-- Where no request waits, no draft is requested or no time has passed, no copy of a job waits for a comparison slot, no
level-0 entry has been placed in the tick, no register transfer of a strand runs, no forced-off condition has ended,
no re-step is pending outside STOP, the safety functions' availability, the toggling, the pair's timers, the gating,
TIME.STATE and the states of the Scrim connections stay as they are, the hold-off has ended or lasts, and no frame
waits at a port, the state after a command is the command's own effect, with its record requests, in ascending code,
in the recorder's queue. (15_modes_faults_health.md R497, R498; 13_skein_recorder.md R449; 09_redundant_pair.md R336,
R361; 02_ply_triplex_executive.md R69; 08_safety_functions.md R311) -/
def Obligations.NothingFollowsAQuietCommand : Prop :=
  ∀ (s : State) (d : Core) (r : Recorder), d.alive = true → d.run ≠ .failed → d.srv.waiting = [] →
    (d.clk.cyc = s.core.clk.cyc ∨ ∀ x ∈ d.arr.sp, x.draft = none) → (∀ n < 32, (d.spin n).stalled ≠ some .park) →
    (d.prog.l0Mark.2 = 0 ∨ d.prog.l0Mark.1 ≠ d.rd Od.TICK_COUNT) → (∀ i < 3, (d.strand i).xfer = none) → (d.ply.forced = true → d.soForced = true) →
    (d.run ≠ .stop → d.bit Od.TIME_FLAGS 6 = false) → d.sfAvailable = d.safety.avail → d.toggling = d.toggleWant →
    d.pair.both = sinceWhen (d.toggling && d.partnerToggling) d.pair.both d.clk.cyc →
    d.pair.quiet = sinceWhen d.returnFit d.pair.quiet d.clk.cyc → (d.returnFit = false → d.pairBit psReturn = false) →
    (d.pwr.holdOff = true → (d.fieldGate && d.interlock) = false) → d.gateKey = s.core.gateKey →
    d.clk.state = s.core.clk.state → (∀ i < 16, d.scrimShown i = s.core.scrimShown i) → (∀ n < 2, ∀ p < 2, (d.port n p).queue = []) →
    s.finishingWith d r = { s with core := { d with out := [] }, skein := r.requests (sortByCode d.out) }

/-- While no request waits for the executive, no draft is requested, no copy of a job waits for a comparison slot and no
level-0 entry has been placed in the tick, what follows every command leaves alone what the command's own effect made
of the creel, of the loop changes, of the program exchange and its banks, of the spindles, of the dictionary server
and its change set, and of the health monitors. (15_modes_faults_health.md R497, R498; 13_skein_recorder.md R449,
R461) -/
def Obligations.FollowUpLeavesAlone : Prop :=
  ∀ (s : State) (d : Core) (r : Recorder), d.srv.waiting = [] → (∀ x ∈ d.arr.sp, x.draft = none) →
    (∀ n < 32, (d.spin n).stalled ≠ some .park) →
    (d.prog.l0Mark.2 = 0 ∨ d.prog.l0Mark.1 ≠ d.rd Od.TICK_COUNT) →
    (s.finishingWith d r).core.creel = d.creel ∧
    (s.finishingWith d r).core.loops = d.loops ∧ (s.finishingWith d r).core.prog = d.prog ∧
    (s.finishingWith d r).core.arr = d.arr ∧ (s.finishingWith d r).core.srv = d.srv ∧
    (s.finishingWith d r).core.monitor = d.monitor

/-- Of a memory in its canonical form a byte written reads back, every other address reads as before, and the form is
kept; a word of n bytes stored at an address reads back, least significant byte first, and leaves every address
outside it alone. (00_scope.md R13, R18; 03_spindles_and_drafting.md R94) -/
def Obligations.MemoriesReadWhatWasWritten : Prop :=
  ∀ (m : Mem) (x : Nat), Memory.wf m = true →
    (∀ v : Byte, (m.put x v).get x = v ∧ (∀ y : Nat, y ≠ x → (m.put x v).get y = m.get y) ∧ Memory.wf (m.put x v) = true) ∧
    (∀ n v : Nat, v < 256 ^ n → (m.putWord x n v).word x n = v ∧
      (∀ y : Nat, y < x ∨ x + n ≤ y → (m.putWord x n v).get y = m.get y) ∧ Memory.wf (m.putWord x n v) = true)

/-- A write is answered by the first check it fails: 0x06020000 for an entry that does not exist, 0x06010002 for one that
is const or ro, 0x08000020 where its principal lacks the right of Table 14.3, 0x08000021 where the entry is locked to
another path or, being protected, a change set of another author exists, 0x08000022 where the present state does not
permit it; else it passes to the checks of its length and value. (14_dictionary_and_countersign.md R465, R471, R472,
R473, R478) -/
def Obligations.ChecksOfAWriteInOrder : Prop :=
  ∀ (c : Core) (p : Path) (k v : Nat),
    (c.entry? k = none → c.checkWrite p k v = .error 0x06020000) ∧
    (∀ row : OdRow, c.entry? k = some row →
      (row.acc = .const ∨ row.acc = .ro → c.checkWrite p k v = .error 0x06010002) ∧
      (row.acc ≠ .const → row.acc ≠ .ro →
        (∀ b : Nat, c.writeRight p k row v = some b → (c.rights (c.principal p)).testBit b = false →
          c.checkWrite p k v = .error 0x08000020) ∧
        ((∀ b : Nat, c.writeRight p k row v = some b → (c.rights (c.principal p)).testBit b = true) →
          ((∃ w ∈ c.srv.writes, w.key = k ∧ w.path ≠ p) ∨ c.otherAuthor p k row = true →
            c.checkWrite p k v = .error 0x08000021) ∧
          ((∀ w ∈ c.srv.writes, w.key = k → w.path = p) → c.otherAuthor p k row = false →
            (c.permits p k row v = false → c.checkWrite p k v = .error 0x08000022) ∧
            (c.permits p k row v = true → c.checkWrite p k v = .ok row)))))

/-- A spindle's debug module that accepts requests answers mhartid with 3 + n, time with the core cycles since the tick
generator started, and spjob, spjobhi and spstate with the open job's entry and its bits, 0 without one. mhartid reads
0 on every strand, and the identity CSRs, time, cycle and instret read alike on all three. The lowest-numbered
protection entry that meets an access and covers it decides it by its R, W or X bit, but for machine mode on an
unlocked entry; where none is set machine mode may and user mode may not (of the RISC-V privileged specification,
PRESUMED, log entry 160). (02_ply_triplex_executive.md R54, R57; 03_spindles_and_drafting.md R90, R93, R129) -/
def Obligations.CoreRegistersAndProtection : Prop :=
  ∀ (s : State) (c : Core) (n : Fin 32), s.finds c →
    (c.spinUsable n = true → c.spinDebugOk = true →
      exec (.spindleDebugAbstract (n, 0xF14)) s = .next (s.finishing (c.answer (.value (3 + n)))) ∧
      (∀ t : Nat, c.timed = true → t = (c.clk.cyc - c.clk.startCyc) % 2 ^ 64 →
        exec (.spindleDebugAbstract (n, 0xC01)) s = .next (s.finishing (c.answer (.value (t % 2 ^ 32)))) ∧
        exec (.spindleDebugAbstract (n, 0xC81)) s = .next (s.finishing (c.answer (.value (t / 2 ^ 32))))) ∧
      ((c.spin n).job = none → ∀ k ∈ [0x7D0, 0x7D1, 0x7D2],
        exec (.spindleDebugAbstract (n, k)) s = .next (s.finishing (c.answer (.value 0)))) ∧
      (∀ j : Job, (c.spin n).job = some j →
        exec (.spindleDebugAbstract (n, 0x7D0)) s = .next (s.finishing (c.answer (.value (j.word % 2 ^ 32)))) ∧
        exec (.spindleDebugAbstract (n, 0x7D1)) s = .next (s.finishing (c.answer (.value (j.word / 2 ^ 32)))) ∧
        exec (.spindleDebugAbstract (n, 0x7D2)) s = .next (s.finishing (c.answer (.value
          (1 + 2 * b2n j.ahead.isSome + 4 * b2n j.paired + 8 * b2n j.rerun + 16 * b2n (c.jobHeld j))))))) ∧
    (∀ x : Fin 3, c.rd Od.PLY_DEBUG_EN ≠ 0 → c.run ≠ .failed →
      exec (.debugAbstractCommand (x, 0xF14)) s = .next (s.finishing (c.answer (.value 0)))) ∧
    (∀ (x y : Fin 3) (k : Nat), k ∈ [0xF11, 0xF12, 0xF13, 0xF14, 0xC00, 0xC80, 0xC02, 0xC82, 0xC01, 0xC81] →
      c.strandCsr x k = c.strandCsr y k) ∧
    ∀ (q : Cpu) (m a size right : Nat), q.mode = .user ∨ right = 2 ∨ (q.csr 0x300).testBit 17 = false →
      ((∀ i < m, q.pmpRange i = none) → q.allows m a size right = (q.mode == .machine)) ∧
      (∀ i lo hi : Nat, i < m → q.pmpRange i = some (lo, hi) → 0 < size → lo ≤ a → a + size ≤ hi →
        (∀ k < i, ∀ l h : Nat, q.pmpRange k = some (l, h) → h ≤ a ∨ a + size ≤ l) →
        q.allows m a size right = ((q.mode == .machine && !(q.pmpCfg i).testBit 7) || (q.pmpCfg i).testBit right))

end
end

