-- ==== Sys2Proof/Laws/Bits.lean ====
section
/-! SUPPORT. One bit replaced: what it reads as, and that the others stay; the width of the CRC of R317. -/

namespace Sys2Proof.Machine

theorem putBit_eq (v i : Nat) (b : Bool) : putBit v i b = v / 2 ^ (i + 1) * 2 ^ (i + 1) + b2n b * 2 ^ i + v % 2 ^ i := by
  have h1 : v % 2 ^ (i + 1) = 2 ^ i * (v / 2 ^ i % 2) + v % 2 ^ i := by
    rw [pow_succ, Nat.mod_mul]; omega
  have h2 := Nat.div_add_mod v (2 ^ (i + 1))
  have h3 : 2 ^ (i + 1) * (v / 2 ^ (i + 1)) = v / 2 ^ (i + 1) * 2 ^ (i + 1) := Nat.mul_comm _ _
  have h4 : (v / 2 ^ i % 2) * 2 ^ i = 2 ^ i * (v / 2 ^ i % 2) := Nat.mul_comm _ _
  simp only [putBit, setField, field, b2n, Nat.shiftRight_eq_div_pow, Nat.shiftLeft_eq, pow_one]
  cases b <;> simp <;> omega

theorem b2n_lt (b : Bool) : b2n b < 2 := by cases b <;> decide

/-- The bit written is read. -/
@[simp] theorem putBit_testBit_same (v i : Nat) (b : Bool) : (putBit v i b).testBit i = b := by
  rw [putBit_eq, Nat.testBit_eq_decide_div_mod_eq]
  have hp : 0 < 2 ^ i := Nat.two_pow_pos i
  have hm : v % 2 ^ i < 2 ^ i := Nat.mod_lt _ hp
  have : (v / 2 ^ (i + 1) * 2 ^ (i + 1) + b2n b * 2 ^ i + v % 2 ^ i) / 2 ^ i = v / 2 ^ (i + 1) * 2 + b2n b := by
    have e : v / 2 ^ (i + 1) * 2 ^ (i + 1) + b2n b * 2 ^ i + v % 2 ^ i
        = v % 2 ^ i + (v / 2 ^ (i + 1) * 2 + b2n b) * 2 ^ i := by rw [pow_succ]; ring
    rw [e, Nat.add_mul_div_right _ _ hp, Nat.div_eq_of_lt hm, Nat.zero_add]
  rw [this]
  cases b <;> simp [b2n]

/-- The other bits stay. -/
theorem putBit_testBit_other (v : Nat) {i j : Nat} (b : Bool) (h : j ≠ i) : (putBit v i b).testBit j = v.testBit j := by
  rw [putBit_eq]
  rcases Nat.lt_or_gt_of_ne h with hj | hj
  · have e : v / 2 ^ (i + 1) * 2 ^ (i + 1) + b2n b * 2 ^ i + v % 2 ^ i
        = 2 ^ i * (v / 2 ^ (i + 1) * 2 + b2n b) + v % 2 ^ i := by rw [pow_succ]; ring
    rw [e, Nat.testBit_two_pow_mul_add _ (Nat.mod_lt _ (Nat.two_pow_pos i))]
    simp [hj, Nat.testBit_mod_two_pow]
  · have hm : b2n b * 2 ^ i + v % 2 ^ i < 2 ^ (i + 1) := by
      have h1 : v % 2 ^ i < 2 ^ i := Nat.mod_lt _ (Nat.two_pow_pos i)
      have h2 : b2n b * 2 ^ i ≤ 1 * 2 ^ i := Nat.mul_le_mul_right _ (by have := b2n_lt b; omega)
      rw [pow_succ]; omega
    have e : v / 2 ^ (i + 1) * 2 ^ (i + 1) + b2n b * 2 ^ i + v % 2 ^ i
        = 2 ^ (i + 1) * (v / 2 ^ (i + 1)) + (b2n b * 2 ^ i + v % 2 ^ i) := by ring
    rw [e, Nat.testBit_two_pow_mul_add _ hm]
    have : ¬ j < i + 1 := by omega
    simp only [this, if_false]
    rw [Nat.testBit_div_two_pow]
    congr 1
    omega

/-! ## The CRC of R317 -/

theorem crcByte_small {c : Nat} (h : c < 2 ^ 32) (b : Byte) : crcByte c b < 2 ^ 32 := by
  have hb : ∀ x : Nat, x < 2 ^ 32 → crcBit x < 2 ^ 32 := by
    intro x hx
    unfold crcBit
    split
    · exact Nat.xor_lt_two_pow (by omega) (by omega)
    · omega
  have h0 : c ^^^ b.toNat < 2 ^ 32 := Nat.xor_lt_two_pow h (by have := b.isLt; omega)
  exact hb _ (hb _ (hb _ (hb _ (hb _ (hb _ (hb _ (hb _ h0)))))))

theorem crc32c_small (bs : Bytes) : crc32c 0xFFFFFFFF bs < 2 ^ 32 := by
  have : ∀ (l : Bytes) (c : Nat), c < 2 ^ 32 → l.foldl crcByte c < 2 ^ 32 := by
    intro l
    induction l with
    | nil => intro c h; exact h
    | cons b l ih => intro c h; exact ih _ (crcByte_small h b)
  exact Nat.xor_lt_two_pow (this bs _ (by omega)) (by omega)

end Sys2Proof.Machine
end

