-- ==== Sys2Proof/Laws/State.lean ====
section
/-! SUPPORT. What each update of the state leaves and what it changes, field by field, each true by definition, so that no
proof unfolds a record update. -/

namespace Sys2Proof.Machine

/-! ## The state -/

@[simp] theorem State.finish_pending (s : State) (b : Bool) (x : Core × Recorder) : (s.finish b x).pending = s.pending := rfl
@[simp] theorem State.finishing_pending (s : State) (d : Core) : (s.finishing d).pending = s.pending := rfl
@[simp] theorem State.finishingWith_pending (s : State) (d : Core) (r : Recorder) :
    (s.finishingWith d r).pending = s.pending := rfl
@[simp] theorem State.powering_pending (s : State) (d : Core) (r : Recorder) : (s.powering d r).pending = s.pending := rfl
@[simp] theorem State.finish_core (s : State) (b : Bool) (d : Core) (r : Recorder) :
    (s.finish b (d, r)).core = { d.settle s.core r with out := [] } := rfl
@[simp] theorem State.finishing_core (s : State) (d : Core) :
    (s.finishing d).core = { d.settle s.core s.skein with out := [] } := rfl

/-! ## The core as a command finds it -/

@[simp] theorem Core.starting_out (c : Core) : c.starting.out = [] := rfl
@[simp] theorem Core.starting_sent (c : Core) : c.starting.sent = [] := rfl
@[simp] theorem Core.starting_rd (c : Core) (k : Nat) : c.starting.rd k = c.rd k := rfl
@[simp] theorem Core.starting_dom (c : Core) (k : Nat) : c.starting.dom k = c.dom k := rfl
@[simp] theorem Core.starting_alive (c : Core) : c.starting.alive = c.alive := rfl
@[simp] theorem Core.starting_od (c : Core) : c.starting.od = c.od := rfl
@[simp] theorem Core.starting_doms (c : Core) : c.starting.doms = c.doms := rfl
@[simp] theorem Core.starting_free (c : Core) : c.starting.free = c.free := rfl
@[simp] theorem Core.starting_reply (c : Core) : c.starting.reply = c.reply := rfl
@[simp] theorem Core.starting_clk (c : Core) : c.starting.clk = c.clk := rfl
@[simp] theorem Core.starting_run (c : Core) : c.starting.run = c.run := rfl
@[simp] theorem Core.starting_role (c : Core) : c.starting.role = c.role := rfl
@[simp] theorem Core.starting_toggling (c : Core) : c.starting.toggling = c.toggling := rfl
@[simp] theorem Core.starting_ply (c : Core) : c.starting.ply = c.ply := rfl
@[simp] theorem Core.starting_react (c : Core) : c.starting.react = c.react := rfl
@[simp] theorem Core.starting_pwr (c : Core) : c.starting.pwr = c.pwr := rfl
@[simp] theorem Core.starting_vault (c : Core) : c.starting.vault = c.vault := rfl
@[simp] theorem Core.starting_creel (c : Core) : c.starting.creel = c.creel := rfl
@[simp] theorem Core.starting_arr (c : Core) : c.starting.arr = c.arr := rfl
@[simp] theorem Core.starting_loops (c : Core) : c.starting.loops = c.loops := rfl
@[simp] theorem Core.starting_prog (c : Core) : c.starting.prog = c.prog := rfl
@[simp] theorem Core.starting_router (c : Core) : c.starting.router = c.router := rfl
@[simp] theorem Core.starting_io (c : Core) : c.starting.io = c.io := rfl
@[simp] theorem Core.starting_uio (c : Core) : c.starting.uio = c.uio := rfl
@[simp] theorem Core.starting_safety (c : Core) : c.starting.safety = c.safety := rfl
@[simp] theorem Core.starting_net (c : Core) : c.starting.net = c.net := rfl
@[simp] theorem Core.starting_pair (c : Core) : c.starting.pair = c.pair := rfl
@[simp] theorem Core.starting_can (c : Core) : c.starting.can = c.can := rfl
@[simp] theorem Core.starting_srv (c : Core) : c.starting.srv = c.srv := rfl
@[simp] theorem Core.starting_monitor (c : Core) : c.starting.monitor = c.monitor := rfl

/-! ## `wr` -/

@[simp] theorem Core.wr_od (c : Core) (k v : Nat) : (c.wr k v).od = c.od.ins k v := rfl
@[simp] theorem Core.wr_doms (c : Core) (k v : Nat) : (c.wr k v).doms = c.doms := rfl
@[simp] theorem Core.wr_free (c : Core) (k v : Nat) : (c.wr k v).free = c.free := rfl
@[simp] theorem Core.wr_out (c : Core) (k v : Nat) : (c.wr k v).out = c.out := rfl
@[simp] theorem Core.wr_reply (c : Core) (k v : Nat) : (c.wr k v).reply = c.reply := rfl
@[simp] theorem Core.wr_clk (c : Core) (k v : Nat) : (c.wr k v).clk = c.clk := rfl
@[simp] theorem Core.wr_run (c : Core) (k v : Nat) : (c.wr k v).run = c.run := rfl
@[simp] theorem Core.wr_role (c : Core) (k v : Nat) : (c.wr k v).role = c.role := rfl
@[simp] theorem Core.wr_toggling (c : Core) (k v : Nat) : (c.wr k v).toggling = c.toggling := rfl
@[simp] theorem Core.wr_ply (c : Core) (k v : Nat) : (c.wr k v).ply = c.ply := rfl
@[simp] theorem Core.wr_react (c : Core) (k v : Nat) : (c.wr k v).react = c.react := rfl
@[simp] theorem Core.wr_pwr (c : Core) (k v : Nat) : (c.wr k v).pwr = c.pwr := rfl
@[simp] theorem Core.wr_vault (c : Core) (k v : Nat) : (c.wr k v).vault = c.vault := rfl
@[simp] theorem Core.wr_creel (c : Core) (k v : Nat) : (c.wr k v).creel = c.creel := rfl
@[simp] theorem Core.wr_arr (c : Core) (k v : Nat) : (c.wr k v).arr = c.arr := rfl
@[simp] theorem Core.wr_loops (c : Core) (k v : Nat) : (c.wr k v).loops = c.loops := rfl
@[simp] theorem Core.wr_prog (c : Core) (k v : Nat) : (c.wr k v).prog = c.prog := rfl
@[simp] theorem Core.wr_router (c : Core) (k v : Nat) : (c.wr k v).router = c.router := rfl
@[simp] theorem Core.wr_io (c : Core) (k v : Nat) : (c.wr k v).io = c.io := rfl
@[simp] theorem Core.wr_uio (c : Core) (k v : Nat) : (c.wr k v).uio = c.uio := rfl
@[simp] theorem Core.wr_safety (c : Core) (k v : Nat) : (c.wr k v).safety = c.safety := rfl
@[simp] theorem Core.wr_net (c : Core) (k v : Nat) : (c.wr k v).net = c.net := rfl
@[simp] theorem Core.wr_sent (c : Core) (k v : Nat) : (c.wr k v).sent = c.sent := rfl
@[simp] theorem Core.wr_pair (c : Core) (k v : Nat) : (c.wr k v).pair = c.pair := rfl
@[simp] theorem Core.wr_can (c : Core) (k v : Nat) : (c.wr k v).can = c.can := rfl
@[simp] theorem Core.wr_srv (c : Core) (k v : Nat) : (c.wr k v).srv = c.srv := rfl
@[simp] theorem Core.wr_monitor (c : Core) (k v : Nat) : (c.wr k v).monitor = c.monitor := rfl

/-! ## `setDom` -/

@[simp] theorem Core.setDom_od (c : Core) (k : Nat) (b : Bytes) : (c.setDom k b).od = c.od := rfl
@[simp] theorem Core.setDom_doms (c : Core) (k : Nat) (b : Bytes) : (c.setDom k b).doms = c.doms.put k b := rfl
@[simp] theorem Core.setDom_free (c : Core) (k : Nat) (b : Bytes) : (c.setDom k b).free = c.free := rfl
@[simp] theorem Core.setDom_out (c : Core) (k : Nat) (b : Bytes) : (c.setDom k b).out = c.out := rfl
@[simp] theorem Core.setDom_reply (c : Core) (k : Nat) (b : Bytes) : (c.setDom k b).reply = c.reply := rfl
@[simp] theorem Core.setDom_clk (c : Core) (k : Nat) (b : Bytes) : (c.setDom k b).clk = c.clk := rfl
@[simp] theorem Core.setDom_run (c : Core) (k : Nat) (b : Bytes) : (c.setDom k b).run = c.run := rfl
@[simp] theorem Core.setDom_role (c : Core) (k : Nat) (b : Bytes) : (c.setDom k b).role = c.role := rfl
@[simp] theorem Core.setDom_toggling (c : Core) (k : Nat) (b : Bytes) : (c.setDom k b).toggling = c.toggling := rfl
@[simp] theorem Core.setDom_ply (c : Core) (k : Nat) (b : Bytes) : (c.setDom k b).ply = c.ply := rfl
@[simp] theorem Core.setDom_react (c : Core) (k : Nat) (b : Bytes) : (c.setDom k b).react = c.react := rfl
@[simp] theorem Core.setDom_pwr (c : Core) (k : Nat) (b : Bytes) : (c.setDom k b).pwr = c.pwr := rfl
@[simp] theorem Core.setDom_vault (c : Core) (k : Nat) (b : Bytes) : (c.setDom k b).vault = c.vault := rfl
@[simp] theorem Core.setDom_creel (c : Core) (k : Nat) (b : Bytes) : (c.setDom k b).creel = c.creel := rfl
@[simp] theorem Core.setDom_arr (c : Core) (k : Nat) (b : Bytes) : (c.setDom k b).arr = c.arr := rfl
@[simp] theorem Core.setDom_loops (c : Core) (k : Nat) (b : Bytes) : (c.setDom k b).loops = c.loops := rfl
@[simp] theorem Core.setDom_prog (c : Core) (k : Nat) (b : Bytes) : (c.setDom k b).prog = c.prog := rfl
@[simp] theorem Core.setDom_router (c : Core) (k : Nat) (b : Bytes) : (c.setDom k b).router = c.router := rfl
@[simp] theorem Core.setDom_io (c : Core) (k : Nat) (b : Bytes) : (c.setDom k b).io = c.io := rfl
@[simp] theorem Core.setDom_uio (c : Core) (k : Nat) (b : Bytes) : (c.setDom k b).uio = c.uio := rfl
@[simp] theorem Core.setDom_safety (c : Core) (k : Nat) (b : Bytes) : (c.setDom k b).safety = c.safety := rfl
@[simp] theorem Core.setDom_net (c : Core) (k : Nat) (b : Bytes) : (c.setDom k b).net = c.net := rfl
@[simp] theorem Core.setDom_sent (c : Core) (k : Nat) (b : Bytes) : (c.setDom k b).sent = c.sent := rfl
@[simp] theorem Core.setDom_pair (c : Core) (k : Nat) (b : Bytes) : (c.setDom k b).pair = c.pair := rfl
@[simp] theorem Core.setDom_can (c : Core) (k : Nat) (b : Bytes) : (c.setDom k b).can = c.can := rfl
@[simp] theorem Core.setDom_srv (c : Core) (k : Nat) (b : Bytes) : (c.setDom k b).srv = c.srv := rfl
@[simp] theorem Core.setDom_monitor (c : Core) (k : Nat) (b : Bytes) : (c.setDom k b).monitor = c.monitor := rfl
@[simp] theorem Core.setDom_rd (c : Core) (k : Nat) (b : Bytes) (j : Nat) : (c.setDom k b).rd j = c.rd j := rfl

/-! ## `answer` -/

@[simp] theorem Core.answer_od (c : Core) (r : Reply) : (c.answer r).od = c.od := rfl
@[simp] theorem Core.answer_doms (c : Core) (r : Reply) : (c.answer r).doms = c.doms := rfl
@[simp] theorem Core.answer_free (c : Core) (r : Reply) : (c.answer r).free = c.free := rfl
@[simp] theorem Core.answer_out (c : Core) (r : Reply) : (c.answer r).out = c.out := rfl
@[simp] theorem Core.answer_reply (c : Core) (r : Reply) : (c.answer r).reply = r := rfl
@[simp] theorem Core.answer_clk (c : Core) (r : Reply) : (c.answer r).clk = c.clk := rfl
@[simp] theorem Core.answer_run (c : Core) (r : Reply) : (c.answer r).run = c.run := rfl
@[simp] theorem Core.answer_role (c : Core) (r : Reply) : (c.answer r).role = c.role := rfl
@[simp] theorem Core.answer_toggling (c : Core) (r : Reply) : (c.answer r).toggling = c.toggling := rfl
@[simp] theorem Core.answer_ply (c : Core) (r : Reply) : (c.answer r).ply = c.ply := rfl
@[simp] theorem Core.answer_react (c : Core) (r : Reply) : (c.answer r).react = c.react := rfl
@[simp] theorem Core.answer_pwr (c : Core) (r : Reply) : (c.answer r).pwr = c.pwr := rfl
@[simp] theorem Core.answer_vault (c : Core) (r : Reply) : (c.answer r).vault = c.vault := rfl
@[simp] theorem Core.answer_creel (c : Core) (r : Reply) : (c.answer r).creel = c.creel := rfl
@[simp] theorem Core.answer_arr (c : Core) (r : Reply) : (c.answer r).arr = c.arr := rfl
@[simp] theorem Core.answer_loops (c : Core) (r : Reply) : (c.answer r).loops = c.loops := rfl
@[simp] theorem Core.answer_prog (c : Core) (r : Reply) : (c.answer r).prog = c.prog := rfl
@[simp] theorem Core.answer_router (c : Core) (r : Reply) : (c.answer r).router = c.router := rfl
@[simp] theorem Core.answer_io (c : Core) (r : Reply) : (c.answer r).io = c.io := rfl
@[simp] theorem Core.answer_uio (c : Core) (r : Reply) : (c.answer r).uio = c.uio := rfl
@[simp] theorem Core.answer_safety (c : Core) (r : Reply) : (c.answer r).safety = c.safety := rfl
@[simp] theorem Core.answer_net (c : Core) (r : Reply) : (c.answer r).net = c.net := rfl
@[simp] theorem Core.answer_sent (c : Core) (r : Reply) : (c.answer r).sent = c.sent := rfl
@[simp] theorem Core.answer_pair (c : Core) (r : Reply) : (c.answer r).pair = c.pair := rfl
@[simp] theorem Core.answer_can (c : Core) (r : Reply) : (c.answer r).can = c.can := rfl
@[simp] theorem Core.answer_srv (c : Core) (r : Reply) : (c.answer r).srv = c.srv := rfl
@[simp] theorem Core.answer_monitor (c : Core) (r : Reply) : (c.answer r).monitor = c.monitor := rfl
@[simp] theorem Core.answer_rd (c : Core) (r : Reply) (j : Nat) : (c.answer r).rd j = c.rd j := rfl

/-! ## `used` -/

@[simp] theorem Core.used_od (c : Core) (n : Nat) : (c.used n).od = c.od := rfl
@[simp] theorem Core.used_doms (c : Core) (n : Nat) : (c.used n).doms = c.doms := rfl
@[simp] theorem Core.used_free (c : Core) (n : Nat) : (c.used n).free = c.free + n := rfl
@[simp] theorem Core.used_out (c : Core) (n : Nat) : (c.used n).out = c.out := rfl
@[simp] theorem Core.used_reply (c : Core) (n : Nat) : (c.used n).reply = c.reply := rfl
@[simp] theorem Core.used_clk (c : Core) (n : Nat) : (c.used n).clk = c.clk := rfl
@[simp] theorem Core.used_run (c : Core) (n : Nat) : (c.used n).run = c.run := rfl
@[simp] theorem Core.used_role (c : Core) (n : Nat) : (c.used n).role = c.role := rfl
@[simp] theorem Core.used_toggling (c : Core) (n : Nat) : (c.used n).toggling = c.toggling := rfl
@[simp] theorem Core.used_ply (c : Core) (n : Nat) : (c.used n).ply = c.ply := rfl
@[simp] theorem Core.used_react (c : Core) (n : Nat) : (c.used n).react = c.react := rfl
@[simp] theorem Core.used_pwr (c : Core) (n : Nat) : (c.used n).pwr = c.pwr := rfl
@[simp] theorem Core.used_vault (c : Core) (n : Nat) : (c.used n).vault = c.vault := rfl
@[simp] theorem Core.used_creel (c : Core) (n : Nat) : (c.used n).creel = c.creel := rfl
@[simp] theorem Core.used_arr (c : Core) (n : Nat) : (c.used n).arr = c.arr := rfl
@[simp] theorem Core.used_loops (c : Core) (n : Nat) : (c.used n).loops = c.loops := rfl
@[simp] theorem Core.used_prog (c : Core) (n : Nat) : (c.used n).prog = c.prog := rfl
@[simp] theorem Core.used_router (c : Core) (n : Nat) : (c.used n).router = c.router := rfl
@[simp] theorem Core.used_io (c : Core) (n : Nat) : (c.used n).io = c.io := rfl
@[simp] theorem Core.used_uio (c : Core) (n : Nat) : (c.used n).uio = c.uio := rfl
@[simp] theorem Core.used_safety (c : Core) (n : Nat) : (c.used n).safety = c.safety := rfl
@[simp] theorem Core.used_net (c : Core) (n : Nat) : (c.used n).net = c.net := rfl
@[simp] theorem Core.used_sent (c : Core) (n : Nat) : (c.used n).sent = c.sent := rfl
@[simp] theorem Core.used_pair (c : Core) (n : Nat) : (c.used n).pair = c.pair := rfl
@[simp] theorem Core.used_can (c : Core) (n : Nat) : (c.used n).can = c.can := rfl
@[simp] theorem Core.used_srv (c : Core) (n : Nat) : (c.used n).srv = c.srv := rfl
@[simp] theorem Core.used_monitor (c : Core) (n : Nat) : (c.used n).monitor = c.monitor := rfl
@[simp] theorem Core.used_rd (c : Core) (n : Nat) (j : Nat) : (c.used n).rd j = c.rd j := rfl

/-! ## `logSev` -/

@[simp] theorem Core.logSev_od (c : Core) (code sev a0 a1 : Nat) : (c.logSev code sev a0 a1).od = c.od := rfl
@[simp] theorem Core.logSev_doms (c : Core) (code sev a0 a1 : Nat) : (c.logSev code sev a0 a1).doms = c.doms := rfl
@[simp] theorem Core.logSev_free (c : Core) (code sev a0 a1 : Nat) : (c.logSev code sev a0 a1).free = c.free := rfl
@[simp] theorem Core.logSev_reply (c : Core) (code sev a0 a1 : Nat) : (c.logSev code sev a0 a1).reply = c.reply := rfl
@[simp] theorem Core.logSev_clk (c : Core) (code sev a0 a1 : Nat) : (c.logSev code sev a0 a1).clk = c.clk := rfl
@[simp] theorem Core.logSev_run (c : Core) (code sev a0 a1 : Nat) : (c.logSev code sev a0 a1).run = c.run := rfl
@[simp] theorem Core.logSev_role (c : Core) (code sev a0 a1 : Nat) : (c.logSev code sev a0 a1).role = c.role := rfl
@[simp] theorem Core.logSev_toggling (c : Core) (code sev a0 a1 : Nat) : (c.logSev code sev a0 a1).toggling = c.toggling := rfl
@[simp] theorem Core.logSev_ply (c : Core) (code sev a0 a1 : Nat) : (c.logSev code sev a0 a1).ply = c.ply := rfl
@[simp] theorem Core.logSev_react (c : Core) (code sev a0 a1 : Nat) : (c.logSev code sev a0 a1).react = c.react := rfl
@[simp] theorem Core.logSev_pwr (c : Core) (code sev a0 a1 : Nat) : (c.logSev code sev a0 a1).pwr = c.pwr := rfl
@[simp] theorem Core.logSev_vault (c : Core) (code sev a0 a1 : Nat) : (c.logSev code sev a0 a1).vault = c.vault := rfl
@[simp] theorem Core.logSev_creel (c : Core) (code sev a0 a1 : Nat) : (c.logSev code sev a0 a1).creel = c.creel := rfl
@[simp] theorem Core.logSev_arr (c : Core) (code sev a0 a1 : Nat) : (c.logSev code sev a0 a1).arr = c.arr := rfl
@[simp] theorem Core.logSev_loops (c : Core) (code sev a0 a1 : Nat) : (c.logSev code sev a0 a1).loops = c.loops := rfl
@[simp] theorem Core.logSev_prog (c : Core) (code sev a0 a1 : Nat) : (c.logSev code sev a0 a1).prog = c.prog := rfl
@[simp] theorem Core.logSev_router (c : Core) (code sev a0 a1 : Nat) : (c.logSev code sev a0 a1).router = c.router := rfl
@[simp] theorem Core.logSev_io (c : Core) (code sev a0 a1 : Nat) : (c.logSev code sev a0 a1).io = c.io := rfl
@[simp] theorem Core.logSev_uio (c : Core) (code sev a0 a1 : Nat) : (c.logSev code sev a0 a1).uio = c.uio := rfl
@[simp] theorem Core.logSev_safety (c : Core) (code sev a0 a1 : Nat) : (c.logSev code sev a0 a1).safety = c.safety := rfl
@[simp] theorem Core.logSev_net (c : Core) (code sev a0 a1 : Nat) : (c.logSev code sev a0 a1).net = c.net := rfl
@[simp] theorem Core.logSev_sent (c : Core) (code sev a0 a1 : Nat) : (c.logSev code sev a0 a1).sent = c.sent := rfl
@[simp] theorem Core.logSev_pair (c : Core) (code sev a0 a1 : Nat) : (c.logSev code sev a0 a1).pair = c.pair := rfl
@[simp] theorem Core.logSev_can (c : Core) (code sev a0 a1 : Nat) : (c.logSev code sev a0 a1).can = c.can := rfl
@[simp] theorem Core.logSev_srv (c : Core) (code sev a0 a1 : Nat) : (c.logSev code sev a0 a1).srv = c.srv := rfl
@[simp] theorem Core.logSev_monitor (c : Core) (code sev a0 a1 : Nat) : (c.logSev code sev a0 a1).monitor = c.monitor := rfl
@[simp] theorem Core.logSev_rd (c : Core) (code sev a0 a1 : Nat) (j : Nat) : (c.logSev code sev a0 a1).rd j = c.rd j := rfl

/-! ## `updArr` -/

@[simp] theorem Core.updArr_od (c : Core) (f : Weave → Weave) : (c.updArr f).od = c.od := rfl
@[simp] theorem Core.updArr_doms (c : Core) (f : Weave → Weave) : (c.updArr f).doms = c.doms := rfl
@[simp] theorem Core.updArr_free (c : Core) (f : Weave → Weave) : (c.updArr f).free = c.free := rfl
@[simp] theorem Core.updArr_out (c : Core) (f : Weave → Weave) : (c.updArr f).out = c.out := rfl
@[simp] theorem Core.updArr_reply (c : Core) (f : Weave → Weave) : (c.updArr f).reply = c.reply := rfl
@[simp] theorem Core.updArr_clk (c : Core) (f : Weave → Weave) : (c.updArr f).clk = c.clk := rfl
@[simp] theorem Core.updArr_run (c : Core) (f : Weave → Weave) : (c.updArr f).run = c.run := rfl
@[simp] theorem Core.updArr_role (c : Core) (f : Weave → Weave) : (c.updArr f).role = c.role := rfl
@[simp] theorem Core.updArr_toggling (c : Core) (f : Weave → Weave) : (c.updArr f).toggling = c.toggling := rfl
@[simp] theorem Core.updArr_ply (c : Core) (f : Weave → Weave) : (c.updArr f).ply = c.ply := rfl
@[simp] theorem Core.updArr_react (c : Core) (f : Weave → Weave) : (c.updArr f).react = c.react := rfl
@[simp] theorem Core.updArr_pwr (c : Core) (f : Weave → Weave) : (c.updArr f).pwr = c.pwr := rfl
@[simp] theorem Core.updArr_vault (c : Core) (f : Weave → Weave) : (c.updArr f).vault = c.vault := rfl
@[simp] theorem Core.updArr_creel (c : Core) (f : Weave → Weave) : (c.updArr f).creel = c.creel := rfl
@[simp] theorem Core.updArr_arr (c : Core) (f : Weave → Weave) : (c.updArr f).arr = f c.arr := rfl
@[simp] theorem Core.updArr_loops (c : Core) (f : Weave → Weave) : (c.updArr f).loops = c.loops := rfl
@[simp] theorem Core.updArr_prog (c : Core) (f : Weave → Weave) : (c.updArr f).prog = c.prog := rfl
@[simp] theorem Core.updArr_router (c : Core) (f : Weave → Weave) : (c.updArr f).router = c.router := rfl
@[simp] theorem Core.updArr_io (c : Core) (f : Weave → Weave) : (c.updArr f).io = c.io := rfl
@[simp] theorem Core.updArr_uio (c : Core) (f : Weave → Weave) : (c.updArr f).uio = c.uio := rfl
@[simp] theorem Core.updArr_safety (c : Core) (f : Weave → Weave) : (c.updArr f).safety = c.safety := rfl
@[simp] theorem Core.updArr_net (c : Core) (f : Weave → Weave) : (c.updArr f).net = c.net := rfl
@[simp] theorem Core.updArr_sent (c : Core) (f : Weave → Weave) : (c.updArr f).sent = c.sent := rfl
@[simp] theorem Core.updArr_pair (c : Core) (f : Weave → Weave) : (c.updArr f).pair = c.pair := rfl
@[simp] theorem Core.updArr_can (c : Core) (f : Weave → Weave) : (c.updArr f).can = c.can := rfl
@[simp] theorem Core.updArr_srv (c : Core) (f : Weave → Weave) : (c.updArr f).srv = c.srv := rfl
@[simp] theorem Core.updArr_monitor (c : Core) (f : Weave → Weave) : (c.updArr f).monitor = c.monitor := rfl
@[simp] theorem Core.updArr_rd (c : Core) (f : Weave → Weave) (j : Nat) : (c.updArr f).rd j = c.rd j := rfl

/-! ## `updProg` -/

@[simp] theorem Core.updProg_od (c : Core) (f : Prog → Prog) : (c.updProg f).od = c.od := rfl
@[simp] theorem Core.updProg_doms (c : Core) (f : Prog → Prog) : (c.updProg f).doms = c.doms := rfl
@[simp] theorem Core.updProg_free (c : Core) (f : Prog → Prog) : (c.updProg f).free = c.free := rfl
@[simp] theorem Core.updProg_out (c : Core) (f : Prog → Prog) : (c.updProg f).out = c.out := rfl
@[simp] theorem Core.updProg_reply (c : Core) (f : Prog → Prog) : (c.updProg f).reply = c.reply := rfl
@[simp] theorem Core.updProg_clk (c : Core) (f : Prog → Prog) : (c.updProg f).clk = c.clk := rfl
@[simp] theorem Core.updProg_run (c : Core) (f : Prog → Prog) : (c.updProg f).run = c.run := rfl
@[simp] theorem Core.updProg_role (c : Core) (f : Prog → Prog) : (c.updProg f).role = c.role := rfl
@[simp] theorem Core.updProg_toggling (c : Core) (f : Prog → Prog) : (c.updProg f).toggling = c.toggling := rfl
@[simp] theorem Core.updProg_ply (c : Core) (f : Prog → Prog) : (c.updProg f).ply = c.ply := rfl
@[simp] theorem Core.updProg_react (c : Core) (f : Prog → Prog) : (c.updProg f).react = c.react := rfl
@[simp] theorem Core.updProg_pwr (c : Core) (f : Prog → Prog) : (c.updProg f).pwr = c.pwr := rfl
@[simp] theorem Core.updProg_vault (c : Core) (f : Prog → Prog) : (c.updProg f).vault = c.vault := rfl
@[simp] theorem Core.updProg_creel (c : Core) (f : Prog → Prog) : (c.updProg f).creel = c.creel := rfl
@[simp] theorem Core.updProg_arr (c : Core) (f : Prog → Prog) : (c.updProg f).arr = c.arr := rfl
@[simp] theorem Core.updProg_loops (c : Core) (f : Prog → Prog) : (c.updProg f).loops = c.loops := rfl
@[simp] theorem Core.updProg_prog (c : Core) (f : Prog → Prog) : (c.updProg f).prog = f c.prog := rfl
@[simp] theorem Core.updProg_router (c : Core) (f : Prog → Prog) : (c.updProg f).router = c.router := rfl
@[simp] theorem Core.updProg_io (c : Core) (f : Prog → Prog) : (c.updProg f).io = c.io := rfl
@[simp] theorem Core.updProg_uio (c : Core) (f : Prog → Prog) : (c.updProg f).uio = c.uio := rfl
@[simp] theorem Core.updProg_safety (c : Core) (f : Prog → Prog) : (c.updProg f).safety = c.safety := rfl
@[simp] theorem Core.updProg_net (c : Core) (f : Prog → Prog) : (c.updProg f).net = c.net := rfl
@[simp] theorem Core.updProg_sent (c : Core) (f : Prog → Prog) : (c.updProg f).sent = c.sent := rfl
@[simp] theorem Core.updProg_pair (c : Core) (f : Prog → Prog) : (c.updProg f).pair = c.pair := rfl
@[simp] theorem Core.updProg_can (c : Core) (f : Prog → Prog) : (c.updProg f).can = c.can := rfl
@[simp] theorem Core.updProg_srv (c : Core) (f : Prog → Prog) : (c.updProg f).srv = c.srv := rfl
@[simp] theorem Core.updProg_monitor (c : Core) (f : Prog → Prog) : (c.updProg f).monitor = c.monitor := rfl
@[simp] theorem Core.updProg_rd (c : Core) (f : Prog → Prog) (j : Nat) : (c.updProg f).rd j = c.rd j := rfl

/-! ## `updRouter` -/

@[simp] theorem Core.updRouter_od (c : Core) (f : Router → Router) : (c.updRouter f).od = c.od := rfl
@[simp] theorem Core.updRouter_doms (c : Core) (f : Router → Router) : (c.updRouter f).doms = c.doms := rfl
@[simp] theorem Core.updRouter_free (c : Core) (f : Router → Router) : (c.updRouter f).free = c.free := rfl
@[simp] theorem Core.updRouter_out (c : Core) (f : Router → Router) : (c.updRouter f).out = c.out := rfl
@[simp] theorem Core.updRouter_reply (c : Core) (f : Router → Router) : (c.updRouter f).reply = c.reply := rfl
@[simp] theorem Core.updRouter_clk (c : Core) (f : Router → Router) : (c.updRouter f).clk = c.clk := rfl
@[simp] theorem Core.updRouter_run (c : Core) (f : Router → Router) : (c.updRouter f).run = c.run := rfl
@[simp] theorem Core.updRouter_role (c : Core) (f : Router → Router) : (c.updRouter f).role = c.role := rfl
@[simp] theorem Core.updRouter_toggling (c : Core) (f : Router → Router) : (c.updRouter f).toggling = c.toggling := rfl
@[simp] theorem Core.updRouter_ply (c : Core) (f : Router → Router) : (c.updRouter f).ply = c.ply := rfl
@[simp] theorem Core.updRouter_react (c : Core) (f : Router → Router) : (c.updRouter f).react = c.react := rfl
@[simp] theorem Core.updRouter_pwr (c : Core) (f : Router → Router) : (c.updRouter f).pwr = c.pwr := rfl
@[simp] theorem Core.updRouter_vault (c : Core) (f : Router → Router) : (c.updRouter f).vault = c.vault := rfl
@[simp] theorem Core.updRouter_creel (c : Core) (f : Router → Router) : (c.updRouter f).creel = c.creel := rfl
@[simp] theorem Core.updRouter_arr (c : Core) (f : Router → Router) : (c.updRouter f).arr = c.arr := rfl
@[simp] theorem Core.updRouter_loops (c : Core) (f : Router → Router) : (c.updRouter f).loops = c.loops := rfl
@[simp] theorem Core.updRouter_prog (c : Core) (f : Router → Router) : (c.updRouter f).prog = c.prog := rfl
@[simp] theorem Core.updRouter_router (c : Core) (f : Router → Router) : (c.updRouter f).router = f c.router := rfl
@[simp] theorem Core.updRouter_io (c : Core) (f : Router → Router) : (c.updRouter f).io = c.io := rfl
@[simp] theorem Core.updRouter_uio (c : Core) (f : Router → Router) : (c.updRouter f).uio = c.uio := rfl
@[simp] theorem Core.updRouter_safety (c : Core) (f : Router → Router) : (c.updRouter f).safety = c.safety := rfl
@[simp] theorem Core.updRouter_net (c : Core) (f : Router → Router) : (c.updRouter f).net = c.net := rfl
@[simp] theorem Core.updRouter_sent (c : Core) (f : Router → Router) : (c.updRouter f).sent = c.sent := rfl
@[simp] theorem Core.updRouter_pair (c : Core) (f : Router → Router) : (c.updRouter f).pair = c.pair := rfl
@[simp] theorem Core.updRouter_can (c : Core) (f : Router → Router) : (c.updRouter f).can = c.can := rfl
@[simp] theorem Core.updRouter_srv (c : Core) (f : Router → Router) : (c.updRouter f).srv = c.srv := rfl
@[simp] theorem Core.updRouter_monitor (c : Core) (f : Router → Router) : (c.updRouter f).monitor = c.monitor := rfl
@[simp] theorem Core.updRouter_rd (c : Core) (f : Router → Router) (j : Nat) : (c.updRouter f).rd j = c.rd j := rfl

/-! ## `updField` -/

@[simp] theorem Core.updField_od (c : Core) (f : Field → Field) : (c.updField f).od = c.od := rfl
@[simp] theorem Core.updField_doms (c : Core) (f : Field → Field) : (c.updField f).doms = c.doms := rfl
@[simp] theorem Core.updField_free (c : Core) (f : Field → Field) : (c.updField f).free = c.free := rfl
@[simp] theorem Core.updField_out (c : Core) (f : Field → Field) : (c.updField f).out = c.out := rfl
@[simp] theorem Core.updField_reply (c : Core) (f : Field → Field) : (c.updField f).reply = c.reply := rfl
@[simp] theorem Core.updField_clk (c : Core) (f : Field → Field) : (c.updField f).clk = c.clk := rfl
@[simp] theorem Core.updField_run (c : Core) (f : Field → Field) : (c.updField f).run = c.run := rfl
@[simp] theorem Core.updField_role (c : Core) (f : Field → Field) : (c.updField f).role = c.role := rfl
@[simp] theorem Core.updField_toggling (c : Core) (f : Field → Field) : (c.updField f).toggling = c.toggling := rfl
@[simp] theorem Core.updField_ply (c : Core) (f : Field → Field) : (c.updField f).ply = c.ply := rfl
@[simp] theorem Core.updField_react (c : Core) (f : Field → Field) : (c.updField f).react = c.react := rfl
@[simp] theorem Core.updField_pwr (c : Core) (f : Field → Field) : (c.updField f).pwr = c.pwr := rfl
@[simp] theorem Core.updField_vault (c : Core) (f : Field → Field) : (c.updField f).vault = c.vault := rfl
@[simp] theorem Core.updField_creel (c : Core) (f : Field → Field) : (c.updField f).creel = c.creel := rfl
@[simp] theorem Core.updField_arr (c : Core) (f : Field → Field) : (c.updField f).arr = c.arr := rfl
@[simp] theorem Core.updField_loops (c : Core) (f : Field → Field) : (c.updField f).loops = c.loops := rfl
@[simp] theorem Core.updField_prog (c : Core) (f : Field → Field) : (c.updField f).prog = c.prog := rfl
@[simp] theorem Core.updField_router (c : Core) (f : Field → Field) : (c.updField f).router = c.router := rfl
@[simp] theorem Core.updField_io (c : Core) (f : Field → Field) : (c.updField f).io = f c.io := rfl
@[simp] theorem Core.updField_uio (c : Core) (f : Field → Field) : (c.updField f).uio = c.uio := rfl
@[simp] theorem Core.updField_safety (c : Core) (f : Field → Field) : (c.updField f).safety = c.safety := rfl
@[simp] theorem Core.updField_net (c : Core) (f : Field → Field) : (c.updField f).net = c.net := rfl
@[simp] theorem Core.updField_sent (c : Core) (f : Field → Field) : (c.updField f).sent = c.sent := rfl
@[simp] theorem Core.updField_pair (c : Core) (f : Field → Field) : (c.updField f).pair = c.pair := rfl
@[simp] theorem Core.updField_can (c : Core) (f : Field → Field) : (c.updField f).can = c.can := rfl
@[simp] theorem Core.updField_srv (c : Core) (f : Field → Field) : (c.updField f).srv = c.srv := rfl
@[simp] theorem Core.updField_monitor (c : Core) (f : Field → Field) : (c.updField f).monitor = c.monitor := rfl
@[simp] theorem Core.updField_rd (c : Core) (f : Field → Field) (j : Nat) : (c.updField f).rd j = c.rd j := rfl

/-! ## `updUio` -/

@[simp] theorem Core.updUio_od (c : Core) (f : Analog → Analog) : (c.updUio f).od = c.od := rfl
@[simp] theorem Core.updUio_doms (c : Core) (f : Analog → Analog) : (c.updUio f).doms = c.doms := rfl
@[simp] theorem Core.updUio_free (c : Core) (f : Analog → Analog) : (c.updUio f).free = c.free := rfl
@[simp] theorem Core.updUio_out (c : Core) (f : Analog → Analog) : (c.updUio f).out = c.out := rfl
@[simp] theorem Core.updUio_reply (c : Core) (f : Analog → Analog) : (c.updUio f).reply = c.reply := rfl
@[simp] theorem Core.updUio_clk (c : Core) (f : Analog → Analog) : (c.updUio f).clk = c.clk := rfl
@[simp] theorem Core.updUio_run (c : Core) (f : Analog → Analog) : (c.updUio f).run = c.run := rfl
@[simp] theorem Core.updUio_role (c : Core) (f : Analog → Analog) : (c.updUio f).role = c.role := rfl
@[simp] theorem Core.updUio_toggling (c : Core) (f : Analog → Analog) : (c.updUio f).toggling = c.toggling := rfl
@[simp] theorem Core.updUio_ply (c : Core) (f : Analog → Analog) : (c.updUio f).ply = c.ply := rfl
@[simp] theorem Core.updUio_react (c : Core) (f : Analog → Analog) : (c.updUio f).react = c.react := rfl
@[simp] theorem Core.updUio_pwr (c : Core) (f : Analog → Analog) : (c.updUio f).pwr = c.pwr := rfl
@[simp] theorem Core.updUio_vault (c : Core) (f : Analog → Analog) : (c.updUio f).vault = c.vault := rfl
@[simp] theorem Core.updUio_creel (c : Core) (f : Analog → Analog) : (c.updUio f).creel = c.creel := rfl
@[simp] theorem Core.updUio_arr (c : Core) (f : Analog → Analog) : (c.updUio f).arr = c.arr := rfl
@[simp] theorem Core.updUio_loops (c : Core) (f : Analog → Analog) : (c.updUio f).loops = c.loops := rfl
@[simp] theorem Core.updUio_prog (c : Core) (f : Analog → Analog) : (c.updUio f).prog = c.prog := rfl
@[simp] theorem Core.updUio_router (c : Core) (f : Analog → Analog) : (c.updUio f).router = c.router := rfl
@[simp] theorem Core.updUio_io (c : Core) (f : Analog → Analog) : (c.updUio f).io = c.io := rfl
@[simp] theorem Core.updUio_uio (c : Core) (f : Analog → Analog) : (c.updUio f).uio = f c.uio := rfl
@[simp] theorem Core.updUio_safety (c : Core) (f : Analog → Analog) : (c.updUio f).safety = c.safety := rfl
@[simp] theorem Core.updUio_net (c : Core) (f : Analog → Analog) : (c.updUio f).net = c.net := rfl
@[simp] theorem Core.updUio_sent (c : Core) (f : Analog → Analog) : (c.updUio f).sent = c.sent := rfl
@[simp] theorem Core.updUio_pair (c : Core) (f : Analog → Analog) : (c.updUio f).pair = c.pair := rfl
@[simp] theorem Core.updUio_can (c : Core) (f : Analog → Analog) : (c.updUio f).can = c.can := rfl
@[simp] theorem Core.updUio_srv (c : Core) (f : Analog → Analog) : (c.updUio f).srv = c.srv := rfl
@[simp] theorem Core.updUio_monitor (c : Core) (f : Analog → Analog) : (c.updUio f).monitor = c.monitor := rfl
@[simp] theorem Core.updUio_rd (c : Core) (f : Analog → Analog) (j : Nat) : (c.updUio f).rd j = c.rd j := rfl

/-! ## `updSafety` -/

@[simp] theorem Core.updSafety_od (c : Core) (f : Safety → Safety) : (c.updSafety f).od = c.od := rfl
@[simp] theorem Core.updSafety_doms (c : Core) (f : Safety → Safety) : (c.updSafety f).doms = c.doms := rfl
@[simp] theorem Core.updSafety_free (c : Core) (f : Safety → Safety) : (c.updSafety f).free = c.free := rfl
@[simp] theorem Core.updSafety_out (c : Core) (f : Safety → Safety) : (c.updSafety f).out = c.out := rfl
@[simp] theorem Core.updSafety_reply (c : Core) (f : Safety → Safety) : (c.updSafety f).reply = c.reply := rfl
@[simp] theorem Core.updSafety_clk (c : Core) (f : Safety → Safety) : (c.updSafety f).clk = c.clk := rfl
@[simp] theorem Core.updSafety_run (c : Core) (f : Safety → Safety) : (c.updSafety f).run = c.run := rfl
@[simp] theorem Core.updSafety_role (c : Core) (f : Safety → Safety) : (c.updSafety f).role = c.role := rfl
@[simp] theorem Core.updSafety_toggling (c : Core) (f : Safety → Safety) : (c.updSafety f).toggling = c.toggling := rfl
@[simp] theorem Core.updSafety_ply (c : Core) (f : Safety → Safety) : (c.updSafety f).ply = c.ply := rfl
@[simp] theorem Core.updSafety_react (c : Core) (f : Safety → Safety) : (c.updSafety f).react = c.react := rfl
@[simp] theorem Core.updSafety_pwr (c : Core) (f : Safety → Safety) : (c.updSafety f).pwr = c.pwr := rfl
@[simp] theorem Core.updSafety_vault (c : Core) (f : Safety → Safety) : (c.updSafety f).vault = c.vault := rfl
@[simp] theorem Core.updSafety_creel (c : Core) (f : Safety → Safety) : (c.updSafety f).creel = c.creel := rfl
@[simp] theorem Core.updSafety_arr (c : Core) (f : Safety → Safety) : (c.updSafety f).arr = c.arr := rfl
@[simp] theorem Core.updSafety_loops (c : Core) (f : Safety → Safety) : (c.updSafety f).loops = c.loops := rfl
@[simp] theorem Core.updSafety_prog (c : Core) (f : Safety → Safety) : (c.updSafety f).prog = c.prog := rfl
@[simp] theorem Core.updSafety_router (c : Core) (f : Safety → Safety) : (c.updSafety f).router = c.router := rfl
@[simp] theorem Core.updSafety_io (c : Core) (f : Safety → Safety) : (c.updSafety f).io = c.io := rfl
@[simp] theorem Core.updSafety_uio (c : Core) (f : Safety → Safety) : (c.updSafety f).uio = c.uio := rfl
@[simp] theorem Core.updSafety_safety (c : Core) (f : Safety → Safety) : (c.updSafety f).safety = f c.safety := rfl
@[simp] theorem Core.updSafety_net (c : Core) (f : Safety → Safety) : (c.updSafety f).net = c.net := rfl
@[simp] theorem Core.updSafety_sent (c : Core) (f : Safety → Safety) : (c.updSafety f).sent = c.sent := rfl
@[simp] theorem Core.updSafety_pair (c : Core) (f : Safety → Safety) : (c.updSafety f).pair = c.pair := rfl
@[simp] theorem Core.updSafety_can (c : Core) (f : Safety → Safety) : (c.updSafety f).can = c.can := rfl
@[simp] theorem Core.updSafety_srv (c : Core) (f : Safety → Safety) : (c.updSafety f).srv = c.srv := rfl
@[simp] theorem Core.updSafety_monitor (c : Core) (f : Safety → Safety) : (c.updSafety f).monitor = c.monitor := rfl
@[simp] theorem Core.updSafety_rd (c : Core) (f : Safety → Safety) (j : Nat) : (c.updSafety f).rd j = c.rd j := rfl

/-! ## `updNet` -/

@[simp] theorem Core.updNet_od (c : Core) (f : Net → Net) : (c.updNet f).od = c.od := rfl
@[simp] theorem Core.updNet_doms (c : Core) (f : Net → Net) : (c.updNet f).doms = c.doms := rfl
@[simp] theorem Core.updNet_free (c : Core) (f : Net → Net) : (c.updNet f).free = c.free := rfl
@[simp] theorem Core.updNet_out (c : Core) (f : Net → Net) : (c.updNet f).out = c.out := rfl
@[simp] theorem Core.updNet_reply (c : Core) (f : Net → Net) : (c.updNet f).reply = c.reply := rfl
@[simp] theorem Core.updNet_clk (c : Core) (f : Net → Net) : (c.updNet f).clk = c.clk := rfl
@[simp] theorem Core.updNet_run (c : Core) (f : Net → Net) : (c.updNet f).run = c.run := rfl
@[simp] theorem Core.updNet_role (c : Core) (f : Net → Net) : (c.updNet f).role = c.role := rfl
@[simp] theorem Core.updNet_toggling (c : Core) (f : Net → Net) : (c.updNet f).toggling = c.toggling := rfl
@[simp] theorem Core.updNet_ply (c : Core) (f : Net → Net) : (c.updNet f).ply = c.ply := rfl
@[simp] theorem Core.updNet_react (c : Core) (f : Net → Net) : (c.updNet f).react = c.react := rfl
@[simp] theorem Core.updNet_pwr (c : Core) (f : Net → Net) : (c.updNet f).pwr = c.pwr := rfl
@[simp] theorem Core.updNet_vault (c : Core) (f : Net → Net) : (c.updNet f).vault = c.vault := rfl
@[simp] theorem Core.updNet_creel (c : Core) (f : Net → Net) : (c.updNet f).creel = c.creel := rfl
@[simp] theorem Core.updNet_arr (c : Core) (f : Net → Net) : (c.updNet f).arr = c.arr := rfl
@[simp] theorem Core.updNet_loops (c : Core) (f : Net → Net) : (c.updNet f).loops = c.loops := rfl
@[simp] theorem Core.updNet_prog (c : Core) (f : Net → Net) : (c.updNet f).prog = c.prog := rfl
@[simp] theorem Core.updNet_router (c : Core) (f : Net → Net) : (c.updNet f).router = c.router := rfl
@[simp] theorem Core.updNet_io (c : Core) (f : Net → Net) : (c.updNet f).io = c.io := rfl
@[simp] theorem Core.updNet_uio (c : Core) (f : Net → Net) : (c.updNet f).uio = c.uio := rfl
@[simp] theorem Core.updNet_safety (c : Core) (f : Net → Net) : (c.updNet f).safety = c.safety := rfl
@[simp] theorem Core.updNet_net (c : Core) (f : Net → Net) : (c.updNet f).net = f c.net := rfl
@[simp] theorem Core.updNet_sent (c : Core) (f : Net → Net) : (c.updNet f).sent = c.sent := rfl
@[simp] theorem Core.updNet_pair (c : Core) (f : Net → Net) : (c.updNet f).pair = c.pair := rfl
@[simp] theorem Core.updNet_can (c : Core) (f : Net → Net) : (c.updNet f).can = c.can := rfl
@[simp] theorem Core.updNet_srv (c : Core) (f : Net → Net) : (c.updNet f).srv = c.srv := rfl
@[simp] theorem Core.updNet_monitor (c : Core) (f : Net → Net) : (c.updNet f).monitor = c.monitor := rfl
@[simp] theorem Core.updNet_rd (c : Core) (f : Net → Net) (j : Nat) : (c.updNet f).rd j = c.rd j := rfl

/-! ## `updPair` -/

@[simp] theorem Core.updPair_od (c : Core) (f : Pair → Pair) : (c.updPair f).od = c.od := rfl
@[simp] theorem Core.updPair_doms (c : Core) (f : Pair → Pair) : (c.updPair f).doms = c.doms := rfl
@[simp] theorem Core.updPair_free (c : Core) (f : Pair → Pair) : (c.updPair f).free = c.free := rfl
@[simp] theorem Core.updPair_out (c : Core) (f : Pair → Pair) : (c.updPair f).out = c.out := rfl
@[simp] theorem Core.updPair_reply (c : Core) (f : Pair → Pair) : (c.updPair f).reply = c.reply := rfl
@[simp] theorem Core.updPair_clk (c : Core) (f : Pair → Pair) : (c.updPair f).clk = c.clk := rfl
@[simp] theorem Core.updPair_run (c : Core) (f : Pair → Pair) : (c.updPair f).run = c.run := rfl
@[simp] theorem Core.updPair_role (c : Core) (f : Pair → Pair) : (c.updPair f).role = c.role := rfl
@[simp] theorem Core.updPair_toggling (c : Core) (f : Pair → Pair) : (c.updPair f).toggling = c.toggling := rfl
@[simp] theorem Core.updPair_ply (c : Core) (f : Pair → Pair) : (c.updPair f).ply = c.ply := rfl
@[simp] theorem Core.updPair_react (c : Core) (f : Pair → Pair) : (c.updPair f).react = c.react := rfl
@[simp] theorem Core.updPair_pwr (c : Core) (f : Pair → Pair) : (c.updPair f).pwr = c.pwr := rfl
@[simp] theorem Core.updPair_vault (c : Core) (f : Pair → Pair) : (c.updPair f).vault = c.vault := rfl
@[simp] theorem Core.updPair_creel (c : Core) (f : Pair → Pair) : (c.updPair f).creel = c.creel := rfl
@[simp] theorem Core.updPair_arr (c : Core) (f : Pair → Pair) : (c.updPair f).arr = c.arr := rfl
@[simp] theorem Core.updPair_loops (c : Core) (f : Pair → Pair) : (c.updPair f).loops = c.loops := rfl
@[simp] theorem Core.updPair_prog (c : Core) (f : Pair → Pair) : (c.updPair f).prog = c.prog := rfl
@[simp] theorem Core.updPair_router (c : Core) (f : Pair → Pair) : (c.updPair f).router = c.router := rfl
@[simp] theorem Core.updPair_io (c : Core) (f : Pair → Pair) : (c.updPair f).io = c.io := rfl
@[simp] theorem Core.updPair_uio (c : Core) (f : Pair → Pair) : (c.updPair f).uio = c.uio := rfl
@[simp] theorem Core.updPair_safety (c : Core) (f : Pair → Pair) : (c.updPair f).safety = c.safety := rfl
@[simp] theorem Core.updPair_net (c : Core) (f : Pair → Pair) : (c.updPair f).net = c.net := rfl
@[simp] theorem Core.updPair_sent (c : Core) (f : Pair → Pair) : (c.updPair f).sent = c.sent := rfl
@[simp] theorem Core.updPair_pair (c : Core) (f : Pair → Pair) : (c.updPair f).pair = f c.pair := rfl
@[simp] theorem Core.updPair_can (c : Core) (f : Pair → Pair) : (c.updPair f).can = c.can := rfl
@[simp] theorem Core.updPair_srv (c : Core) (f : Pair → Pair) : (c.updPair f).srv = c.srv := rfl
@[simp] theorem Core.updPair_monitor (c : Core) (f : Pair → Pair) : (c.updPair f).monitor = c.monitor := rfl
@[simp] theorem Core.updPair_rd (c : Core) (f : Pair → Pair) (j : Nat) : (c.updPair f).rd j = c.rd j := rfl

/-! ## `updSrv` -/

@[simp] theorem Core.updSrv_od (c : Core) (f : Server → Server) : (c.updSrv f).od = c.od := rfl
@[simp] theorem Core.updSrv_doms (c : Core) (f : Server → Server) : (c.updSrv f).doms = c.doms := rfl
@[simp] theorem Core.updSrv_free (c : Core) (f : Server → Server) : (c.updSrv f).free = c.free := rfl
@[simp] theorem Core.updSrv_out (c : Core) (f : Server → Server) : (c.updSrv f).out = c.out := rfl
@[simp] theorem Core.updSrv_reply (c : Core) (f : Server → Server) : (c.updSrv f).reply = c.reply := rfl
@[simp] theorem Core.updSrv_clk (c : Core) (f : Server → Server) : (c.updSrv f).clk = c.clk := rfl
@[simp] theorem Core.updSrv_run (c : Core) (f : Server → Server) : (c.updSrv f).run = c.run := rfl
@[simp] theorem Core.updSrv_role (c : Core) (f : Server → Server) : (c.updSrv f).role = c.role := rfl
@[simp] theorem Core.updSrv_toggling (c : Core) (f : Server → Server) : (c.updSrv f).toggling = c.toggling := rfl
@[simp] theorem Core.updSrv_ply (c : Core) (f : Server → Server) : (c.updSrv f).ply = c.ply := rfl
@[simp] theorem Core.updSrv_react (c : Core) (f : Server → Server) : (c.updSrv f).react = c.react := rfl
@[simp] theorem Core.updSrv_pwr (c : Core) (f : Server → Server) : (c.updSrv f).pwr = c.pwr := rfl
@[simp] theorem Core.updSrv_vault (c : Core) (f : Server → Server) : (c.updSrv f).vault = c.vault := rfl
@[simp] theorem Core.updSrv_creel (c : Core) (f : Server → Server) : (c.updSrv f).creel = c.creel := rfl
@[simp] theorem Core.updSrv_arr (c : Core) (f : Server → Server) : (c.updSrv f).arr = c.arr := rfl
@[simp] theorem Core.updSrv_loops (c : Core) (f : Server → Server) : (c.updSrv f).loops = c.loops := rfl
@[simp] theorem Core.updSrv_prog (c : Core) (f : Server → Server) : (c.updSrv f).prog = c.prog := rfl
@[simp] theorem Core.updSrv_router (c : Core) (f : Server → Server) : (c.updSrv f).router = c.router := rfl
@[simp] theorem Core.updSrv_io (c : Core) (f : Server → Server) : (c.updSrv f).io = c.io := rfl
@[simp] theorem Core.updSrv_uio (c : Core) (f : Server → Server) : (c.updSrv f).uio = c.uio := rfl
@[simp] theorem Core.updSrv_safety (c : Core) (f : Server → Server) : (c.updSrv f).safety = c.safety := rfl
@[simp] theorem Core.updSrv_net (c : Core) (f : Server → Server) : (c.updSrv f).net = c.net := rfl
@[simp] theorem Core.updSrv_sent (c : Core) (f : Server → Server) : (c.updSrv f).sent = c.sent := rfl
@[simp] theorem Core.updSrv_pair (c : Core) (f : Server → Server) : (c.updSrv f).pair = c.pair := rfl
@[simp] theorem Core.updSrv_can (c : Core) (f : Server → Server) : (c.updSrv f).can = c.can := rfl
@[simp] theorem Core.updSrv_srv (c : Core) (f : Server → Server) : (c.updSrv f).srv = f c.srv := rfl
@[simp] theorem Core.updSrv_monitor (c : Core) (f : Server → Server) : (c.updSrv f).monitor = c.monitor := rfl
@[simp] theorem Core.updSrv_rd (c : Core) (f : Server → Server) (j : Nat) : (c.updSrv f).rd j = c.rd j := rfl

end Sys2Proof.Machine
end

