-- ==== Sys2Proof/Laws/Exec.lean ====
section
/-! SUPPORT. What a command of each kind answers: on the core, on the recorder, on the supplies. -/

namespace Sys2Proof.Machine

/-! ## A draft leaves the run state -/

theorem Core.shadow_run (c : Core) (r : Nat) : (c.shadow r).run = c.run := by
  unfold Core.shadow
  split
  · rfl
  · split <;> rfl

theorem Core.openJob_run (c : Core) (n : Nat) (j : Job) (k : Nat) : (c.openJob n j k).run = c.run := by
  unfold Core.openJob
  dsimp only
  split
  · exact Core.shadow_run _ _
  · rfl

theorem Core.draftDecide_run (c : Core) (t : Nat) : (c.draftDecide t).run = c.run := by
  unfold Core.draftDecide
  split
  · rfl
  · split
    · rfl
    · split
      · split
        · rfl
        · exact Core.openJob_run _ _ _ _
      · split
        · rfl
        · split
          · exact (Core.openJob_run _ _ _ _).trans (Core.openJob_run _ _ _ _)
          · split <;> rfl

theorem Core.drafted_run (c : Core) : c.drafted.run = c.run := by
  unfold Core.drafted Core.draftRound
  split
  · have : ∀ (l : List Nat) (d : Core), (l.foldl Core.draftDecide d).run = d.run := by
      intro l
      induction l with
      | nil => exact fun _ => rfl
      | cons x l ih => exact fun d => (ih _).trans (Core.draftDecide_run d x)
    exact this _ _
  · rfl

/-- Whether the module lives does not depend on the drafts of the present cycle. -/
theorem Core.drafted_alive (c : Core) : c.drafted.alive = c.alive := by
  unfold Core.alive; rw [Core.drafted_run]

/-! ## Commands -/

/-- A command on the core while the module lives: the requests for a draft that came before it are decided first. -/
theorem State.act_alive {s : State} (h : s.core.alive = true) (f : Core → Recorder → Core) :
    s.act f = .next (s.finishing (f s.core.starting.drafted s.skein)) := by
  simp [State.act, State.record, h, State.finishing]

/-- The same, of the core as the command finds it. -/
theorem State.act_finds {s : State} {c : Core} (h : s.finds c) (f : Core → Recorder → Core) :
    s.act f = .next (s.finishing (f c s.skein)) := by
  obtain ⟨rfl, ha⟩ := h
  exact State.act_alive (s.core.starting.drafted_alive ▸ ha) f

theorem State.record_finds {s : State} {c : Core} (h : s.finds c) (f : Core → Recorder → Core × Recorder) :
    s.record f = .next (s.finishingWith (f c s.skein).1 (f c s.skein).2) := by
  obtain ⟨rfl, ha⟩ := h
  have ha : s.core.alive = true := s.core.starting.drafted_alive ▸ ha
  simp [State.record, ha, State.finishingWith]

/-- A job.pop while the module lives. -/
theorem State.pop_requests {s : State} {c : Core} (h : s.requests c) (f : Core → Core) :
    s.pop f = .next (s.finishing (f c)) := by
  obtain ⟨rfl, ha⟩ := h
  have ha : s.core.alive = true := ha
  simp [State.pop, ha, State.finishing]

/-- A command on the core and the recorder while the module lives. -/
theorem State.record_alive {s : State} (h : s.core.alive = true) (f : Core → Recorder → Core × Recorder) :
    s.record f = .next (s.finishingWith (f s.core.starting.drafted s.skein).1 (f s.core.starting.drafted s.skein).2) := by
  simp [State.record, h, State.finishingWith]

/-- With no request for a draft the core is found as it stands. -/
theorem Core.drafted_none {c : Core} (h : c.arr.sp.any (·.draft.isSome) = false) : c.drafted = c := by
  simp [Core.drafted, h]

/-- Without power and in reset what follows a command changes nothing. -/
theorem State.finish_dead {s : State} (h : s.core.alive = false) (b : Bool) :
    s.finish b (s.core.starting, s.skein) = { s with core := s.core.starting } := by
  obtain ⟨p, c, r⟩ := s
  have hs : c.starting.settle c r = c.starting := by
    have : c.starting.alive = false := h
    simp [Core.settle, this]
  have hr : c.starting.run ≠ .failed := by
    intro hf
    have hf : c.run = .failed := hf
    simp [Core.alive, hf] at h
  have hq : c.starting.report [] r = r := by
    have : ¬ c.run = .failed := hr
    simp [Core.report, Recorder.requests, this]
  have hc : ({ c.starting with out := [] } : Core) = c.starting := rfl
  have ho : sortByCode [] = [] := rfl
  cases b <;> simp only [State.finish, hs, Core.starting_out, ho, hq, hc, Bool.false_eq_true, if_false, if_true]

/-- A command while the module is without power or in reset: the core as the command found it. -/
theorem State.record_dead {s : State} (h : s.core.alive = false) (f : Core → Recorder → Core × Recorder) :
    s.record f = .next { s with core := s.core.starting } := by
  simp only [State.record, h, Bool.false_eq_true, if_false, State.finish_dead h]

theorem State.pop_dead {s : State} (h : s.core.alive = false) (f : Core → Core) :
    s.pop f = .next { s with core := s.core.starting } := by
  simp only [State.pop, h, Bool.false_eq_true, if_false, State.finish_dead h]

/-- An event of the supplies. -/
theorem State.power_next (s : State) (f : Core → Recorder → Core × Recorder) :
    s.power f = .next (s.powering (f s.core.starting s.skein).1 (f s.core.starting s.skein).2) := rfl

end Sys2Proof.Machine
end

