-- ==== Sys2Proof/Laws/Recorder.lean ====
section
/-! SUPPORT. The recorder's bounds are kept by each of its operations, and SEQ never falls but at a start-up. -/

namespace Sys2Proof.Machine

/-! ## Sequence numbers -/

theorem seqRising_append {lo : Nat} {l : List Entry} (h : seqRising lo l) {e : Entry} (hl : lo < e.seq)
    (hu : ∀ x ∈ l, x.seq < e.seq) : seqRising lo (l ++ [e]) := by
  induction l generalizing lo with
  | nil => exact ⟨hl, trivial⟩
  | cons a l ih =>
    exact ⟨h.1, ih h.2 (hu a (by simp)) fun x hx => hu x (by simp [hx])⟩

theorem seqRising_le {lo hi : Nat} {l : List Entry} (h : seqRising hi l) (hl : lo ≤ hi) : seqRising lo l := by
  cases l with
  | nil => trivial
  | cons a l => exact ⟨Nat.lt_of_le_of_lt hl h.1, h.2⟩

theorem seqUpTo_le {n m : Nat} {l : List Entry} (h : seqUpTo n l) (hl : n ≤ m) : seqUpTo m l :=
  fun e he => Nat.le_trans (h e he) hl

/-! ## The ring without its oldest entry -/

theorem dropOldest_spec {sev : Nat} {l rest : List (Nat × Entry)} {i : Nat} (h : dropOldest sev l = some (i, rest)) :
    ∃ e, (l.map Prod.fst).Perm (i :: rest.map Prod.fst) ∧ (∀ p ∈ rest, p ∈ l) ∧ l.length = rest.length + 1 ∧ (i, e) ∈ l ∧
      ∀ lo, seqRising lo (l.map Prod.snd) → seqRising lo (rest.map Prod.snd) := by
  induction l generalizing rest i with
  | nil => simp [dropOldest] at h
  | cons p l ih =>
    obtain ⟨j, e⟩ := p
    simp only [dropOldest] at h
    split at h
    · simp only [Option.some.injEq, Prod.mk.injEq] at h
      obtain ⟨rfl, rfl⟩ := h
      exact ⟨e, List.Perm.refl _, fun p hp => by simp [hp], by simp, by simp,
        fun lo hr => seqRising_le hr.2 (Nat.le_of_lt hr.1)⟩
    · cases hd : dropOldest sev l with
      | none => simp [hd] at h
      | some q =>
        obtain ⟨k, l'⟩ := q
        simp only [hd, Option.map_some, Option.some.injEq, Prod.mk.injEq] at h
        obtain ⟨rfl, rfl⟩ := h
        obtain ⟨e', hp, hm, hlen, hin, hr⟩ := ih hd
        refine ⟨e', ?_, ?_, by simp [hlen], by simp [hin], ?_⟩
        · simp only [List.map_cons]
          exact (List.Perm.cons j hp).trans (List.Perm.swap k j _)
        · intro p hp'
          simp only [List.mem_cons] at hp' ⊢
          exact hp'.imp id (hm p)
        · intro lo h'
          exact ⟨h'.1, hr _ h'.2⟩

/-! ## Each operation -/

theorem updAt_length {α : Type} (f : α → α) (l : List α) (n : Nat) : (updAt f l n).length = l.length := by
  induction l generalizing n with
  | nil => rfl
  | cons x xs ih => cases n with
    | zero => rfl
    | succ n => simp [updAt, ih]

theorem Recorder.Ok.lose {r : Recorder} (h : r.Ok) (sev : Nat) : (r.lose sev).Ok :=
  ⟨h.1, h.2, h.3, h.4, h.5, h.6, h.7, h.8, h.9, h.10, (updAt_length _ _ _).trans h.11⟩

theorem Recorder.Ok.request {r : Recorder} (h : r.Ok) (q : Request) : (r.request q).Ok := by
  unfold Recorder.request
  split
  · exact ⟨by simp; omega, h.2, h.3, h.4, h.5, h.6, h.7, h.8, h.9, h.10, h.11⟩
  · have h := h.lose q.sev
    exact ⟨h.1, h.2, h.3, h.4, h.5, h.6, h.7, h.8, h.9, h.10, h.11⟩

theorem Recorder.Ok.requests {r : Recorder} (h : r.Ok) (qs : List Request) : (r.requests qs).Ok := by
  unfold Recorder.requests
  induction qs generalizing r with
  | nil => exact h
  | cons q qs ih => exact ih (h.request q)

/-- The part of the bounds that a growing mirror queue concerns. -/
theorem Recorder.Ok.toMirror {r : Recorder} {e : Entry} (h : r.Ok) (hl : e.seq ≤ r.lastSeq)
    (hn : ∀ x ∈ r.mirror, x.seq < e.seq) (hp : 0 < e.seq) : (r.toMirror e).Ok := by
  unfold Recorder.toMirror
  split
  · exact h
  · split
    · refine ⟨h.1, by simp; omega, h.3, h.4, h.5, seqRising_append h.6 hp hn, ?_, h.8, h.9, h.10, h.11⟩
      intro x hx
      simp only [List.mem_append, List.mem_singleton] at hx
      rcases hx with hx | rfl
      · exact h.7 x hx
      · exact hl
    · exact ⟨h.1, h.2, h.3, h.4, h.5, h.6, h.7, h.8, h.9, h.10, h.11⟩

theorem Recorder.Ok.place {r : Recorder} (h : r.Ok) (w : Writer) (q : Request) (b : Bool) : (r.place w q b).1.Ok := by
  unfold Recorder.place
  have hmir : ∀ x ∈ r.mirror, x.seq < r.lastSeq + 1 := fun x hx => Nat.lt_succ_of_le (h.7 x hx)
  dsimp only
  split
  · rename_i hlen
    refine Recorder.Ok.toMirror ⟨h.1, h.2, ?_, ?_, ?_, h.6, seqUpTo_le h.7 (Nat.le_succ _), ?_, ?_, h.10, h.11⟩ (Nat.le_refl _) hmir
      (Nat.succ_pos _)
    · simp; omega
    · simp only [List.map_append, List.map_cons, List.map_nil]
      exact seqRising_append h.4 (Nat.succ_pos _) fun x hx => Nat.lt_succ_of_le (h.5 x hx)
    · intro x hx
      simp only [List.map_append, List.map_cons, List.map_nil, List.mem_append, List.mem_singleton] at hx
      rcases hx with hx | rfl
      · exact Nat.le_succ_of_le (h.5 x hx)
      · exact Nat.le_refl _
    · simp only [List.map_append, List.map_cons, List.map_nil]
      refine List.nodup_append.2 ⟨h.8, by simp, ?_⟩
      intro a ha b hb
      simp only [List.mem_singleton] at hb
      subst hb
      exact Nat.ne_of_lt (h.9 a ha)
    · intro i hi
      simp only [List.map_append, List.map_cons, List.map_nil, List.mem_append, List.mem_singleton, List.length_append,
        List.length_cons, List.length_nil] at hi ⊢
      rcases hi with hi | rfl
      · have := h.9 i hi; omega
      · omega
  · split
    · rename_i i rest hd
      obtain ⟨e', hperm, hmem, hlen, hin, hris⟩ := dropOldest_spec hd
      have hnd : (i :: rest.map Prod.fst).Nodup := hperm.nodup_iff.1 h.8
      refine Recorder.Ok.toMirror ⟨h.1, h.2, ?_, ?_, ?_, h.6, seqUpTo_le h.7 (Nat.le_succ _), ?_, ?_, h.10, h.11⟩ (Nat.le_refl _) hmir
        (Nat.succ_pos _)
      · have := h.3; simp; omega
      · simp only [List.map_append, List.map_cons, List.map_nil]
        refine seqRising_append (hris 0 h.4) (Nat.succ_pos _) fun x hx => ?_
        obtain ⟨p, hp, rfl⟩ := List.mem_map.1 hx
        exact Nat.lt_succ_of_le (h.5 _ (List.mem_map_of_mem (hmem p hp)))
      · intro x hx
        simp only [List.map_append, List.map_cons, List.map_nil, List.mem_append, List.mem_singleton] at hx
        rcases hx with hx | rfl
        · obtain ⟨p, hp, rfl⟩ := List.mem_map.1 hx
          exact Nat.le_succ_of_le (h.5 _ (List.mem_map_of_mem (hmem p hp)))
        · exact Nat.le_refl _
      · simp only [List.map_append, List.map_cons, List.map_nil]
        refine List.nodup_append.2 ⟨(List.nodup_cons.1 hnd).2, by simp, ?_⟩
        intro a ha b hb
        simp only [List.mem_singleton] at hb
        subst hb
        rintro rfl
        exact (List.nodup_cons.1 hnd).1 ha
      · intro j hj
        simp only [List.map_append, List.map_cons, List.map_nil, List.mem_append, List.mem_singleton, List.length_append,
          List.length_cons, List.length_nil] at hj ⊢
        rw [← hlen]
        refine h.9 j (hperm.mem_iff.2 ?_)
        rcases hj with hj | rfl
        · exact List.mem_cons_of_mem _ hj
        · exact List.mem_cons_self
    · exact h.lose _

theorem Recorder.Ok.setBucket {r : Recorder} (h : r.Ok) (b : Bucket) : (r.setBucket b).Ok :=
  ⟨h.1, h.2, h.3, h.4, h.5, h.6, h.7, h.8, h.9, h.10, h.11⟩

theorem Recorder.Ok.serve {r : Recorder} (h : r.Ok) (w : Writer) (q : Request) : (r.serve w q).1.Ok := by
  unfold Recorder.serve
  dsimp only
  split
  · exact (h.setBucket _).place _ _ _
  · exact ⟨h.1, h.2, h.3, h.4, h.5, h.6, h.7, h.8, h.9, h.10, h.11⟩

theorem Recorder.Ok.reportDrops {r : Recorder} (h : r.Ok) : r.reportDrops.Ok := by
  unfold Recorder.reportDrops
  split
  · exact h
  · refine Recorder.Ok.request (r := { r with dropRun := 0 }) ?_ _
    exact ⟨h.1, h.2, h.3, h.4, h.5, h.6, h.7, h.8, h.9, h.10, h.11⟩

theorem Recorder.Ok.writeNext {r : Recorder} (h : r.Ok) (w : Writer) : (r.writeNext w).1.Ok := by
  unfold Recorder.writeNext
  split
  · exact h
  · rename_i q rest hq
    have hb : rest.length ≤ 256 := by have := h.1; rw [hq] at this; simp at this; omega
    have : ({ r with queue := rest } : Recorder).Ok := ⟨hb, h.2, h.3, h.4, h.5, h.6, h.7, h.8, h.9, h.10, h.11⟩
    exact (this.serve w q).reportDrops

theorem Recorder.Ok.refill {r : Recorder} (h : r.Ok) (w : Writer) (code ms : Nat) (b : Bool) : (r.refill w code ms b).1.Ok := by
  unfold Recorder.refill
  dsimp only
  split
  · exact h.setBucket _
  · split
    · have := (h.setBucket { r.bucket w code with refilled := ms, suppressed := 0, sevMax := 0 }).place w
        ⟨code, (r.bucket w code).sevMax, min (r.bucket w code).suppressed (2 ^ 32 - 1), (r.bucket w code).lastArg, none⟩ true
      exact ⟨this.1, this.2, this.3, this.4, this.5, this.6, this.7, this.8, this.9, this.10, this.11⟩
    · exact h.setBucket _

theorem sectorBound_append {l : List Sector} {e : Entry} (h : ∀ s ∈ l, s.entries.length ≤ sectorEntries)
    (hl : ∀ s, l.getLast? = some s → s.entries.length < sectorEntries) :
    ∀ s ∈ appendEntry e l, s.entries.length ≤ sectorEntries := by
  induction l with
  | nil => intro s hs; simp [appendEntry] at hs
  | cons a l ih =>
    cases l with
    | nil =>
      intro s hs
      simp only [appendEntry, List.mem_singleton] at hs
      subst hs
      have := hl a rfl
      simp; omega
    | cons b l =>
      intro s hs
      simp only [appendEntry, List.mem_cons] at hs
      rcases hs with rfl | hs
      · exact h s (by simp)
      · exact ih (fun s hs => h s (List.mem_cons_of_mem _ hs)) (fun s hs => hl s (by simpa using hs)) s hs

theorem Recorder.Ok.openSector {r r' : Recorder} (h : r.Ok) (ho : r.openSector = some r') :
    r'.Ok ∧ (∀ s, r'.flash.getLast? = some s → s.entries.length < sectorEntries) ∧ r'.mirror = r.mirror ∧
      r'.lastSeq = r.lastSeq ∧ r'.ring = r.ring := by
  have grow (n : Nat) (ns : List Nat) : ({ r with flash := r.flash ++ [⟨n, []⟩], erased := ns } : Recorder).Ok := by
    refine ⟨h.1, h.2, h.3, h.4, h.5, h.6, h.7, h.8, h.9, ?_, h.11⟩
    intro s hs
    simp only [List.mem_append, List.mem_singleton] at hs
    rcases hs with hs | rfl
    · exact h.10 s hs
    · simp
  unfold Recorder.openSector at ho
  split at ho
  · rename_i s hs
    split at ho
    · rename_i hc
      cases ho
      refine ⟨h, ?_, rfl, rfl, rfl⟩
      intro t ht
      rw [hs] at ht
      cases ht
      simp only [Bool.and_eq_true, decide_eq_true_eq] at hc
      exact hc.1
    · split at ho
      · cases ho
        refine ⟨grow _ _, ?_, rfl, rfl, rfl⟩
        intro t ht
        simp only [List.getLast?_append, List.getLast?_singleton, Option.some_or, Option.some.injEq] at ht
        subst ht
        simp [sectorEntries]
      · cases ho
  · rename_i hs
    split at ho
    · cases ho
      have hnil : r.flash = [] := by simpa using hs
      have := grow ‹Nat› ‹List Nat›
      rw [hnil] at this
      refine ⟨this, ?_, rfl, rfl, rfl⟩
      intro t ht
      simp only [List.getLast?_singleton, Option.some.injEq] at ht
      subst ht
      simp [sectorEntries]
    · cases ho

theorem Recorder.Ok.program {r : Recorder} (h : r.Ok) (e : Entry) : (r.program e).Ok := by
  unfold Recorder.program
  split
  · rename_i r' ho
    obtain ⟨h', hl, -⟩ := h.openSector ho
    exact ⟨h'.1, h'.2, h'.3, h'.4, h'.5, h'.6, h'.7, h'.8, h'.9, sectorBound_append h'.10 hl, h'.11⟩
  · exact h

theorem Recorder.Ok.reportMirror {r : Recorder} (h : r.Ok) : r.reportMirror.Ok := by
  unfold Recorder.reportMirror
  split
  · exact h
  · refine Recorder.Ok.request (r := { r with mirrorRun := 0 }) ?_ _
    exact ⟨h.1, h.2, h.3, h.4, h.5, h.6, h.7, h.8, h.9, h.10, h.11⟩

theorem Recorder.Ok.mirrorProgram {r : Recorder} (h : r.Ok) (ok : Bool) : (r.mirrorProgram ok).Ok := by
  unfold Recorder.mirrorProgram
  split
  · exact h
  · rename_i e rest hm
    split
    · exact h
    · rename_i r' ho
      obtain ⟨h', hl, hmir, hlast, -⟩ := h.openSector ho
      split
      · refine Recorder.Ok.reportMirror ⟨h'.1, ?_, h'.3, h'.4, h'.5, ?_, ?_, h'.8, h'.9, sectorBound_append h'.10 hl, h'.11⟩
        · have := h.2; rw [hm] at this; simp at this; show rest.length ≤ 1024; omega
        · have := h.6; rw [hm] at this; exact seqRising_le this.2 (Nat.zero_le _)
        · intro x hx
          show x.seq ≤ r'.lastSeq
          rw [hlast]
          exact h.7 x (by rw [hm]; exact List.mem_cons_of_mem _ hx)
      · split
        · rename_i s _
          refine Recorder.Ok.request (r := { r' with retired := r'.retired ++ [s.number] }) ?_ _
          exact ⟨h'.1, h'.2, h'.3, h'.4, h'.5, h'.6, h'.7, h'.8, h'.9, h'.10, h'.11⟩
        · exact h'

theorem Recorder.Ok.erase {r : Recorder} (h : r.Ok) (ok : Bool) : (r.erase ok).Ok := by
  unfold Recorder.erase
  split
  · exact h
  · split
    · exact h
    · rename_i s ss hf
      have hs : ∀ x ∈ ss, x.entries.length ≤ sectorEntries := fun x hx => h.10 x (by rw [hf]; exact List.mem_cons_of_mem _ hx)
      split
      · exact ⟨h.1, h.2, h.3, h.4, h.5, h.6, h.7, h.8, h.9, hs, h.11⟩
      · split
        · exact ⟨h.1, h.2, h.3, h.4, h.5, h.6, h.7, h.8, h.9, hs, h.11⟩
        · refine Recorder.Ok.request (r := { r with flash := ss, retired := r.retired ++ [s.number] }) ?_ _
          exact ⟨h.1, h.2, h.3, h.4, h.5, h.6, h.7, h.8, h.9, hs, h.11⟩

theorem Recorder.Ok.direct {r : Recorder} (h : r.Ok) (w : Writer) (q : Request) : (r.direct w q).Ok := by
  unfold Recorder.direct
  split
  · exact h.lose _
  · refine Recorder.Ok.program (r := { r with lastSeq := r.lastSeq + 1 }) ?_ _
    exact ⟨h.1, h.2, h.3, h.4, seqUpTo_le h.5 (Nat.le_succ _), h.6, seqUpTo_le h.7 (Nat.le_succ _), h.8, h.9, h.10, h.11⟩

theorem Recorder.Ok.flush {r : Recorder} (h : r.Ok) (w : Writer) (l : List Request) (hl : l.length ≤ 256) :
    (r.flush w l).Ok := by
  induction l generalizing r with
  | nil => exact ⟨Nat.zero_le _, h.2, h.3, h.4, h.5, h.6, h.7, h.8, h.9, h.10, h.11⟩
  | cons q l ih =>
    have hq : l.length ≤ 256 := Nat.le_of_succ_le hl
    have : ({ r with queue := l } : Recorder).Ok := ⟨hq, h.2, h.3, h.4, h.5, h.6, h.7, h.8, h.9, h.10, h.11⟩
    exact ih (this.direct w q) hq

theorem Recorder.Ok.flushFailed {r : Recorder} (h : r.Ok) (w : Writer) : (r.flushFailed w).Ok := h.flush w _ h.1

theorem Recorder.Ok.powerFail {r : Recorder} (h : r.Ok) (n : Nat) : (r.powerFail n).Ok := by
  unfold Recorder.powerFail
  have : ∀ (l : List Entry) (r : Recorder), r.Ok → (l.foldl Recorder.program r).Ok := by
    intro l
    induction l with
    | nil => exact fun r h => h
    | cons q l ih => exact fun r h => ih _ (h.program q)
  have := this (r.mirror.take n) r h
  exact ⟨this.1, by simp, this.3, this.4, this.5, trivial, fun x hx => by simp at hx, this.8, this.9, this.10, this.11⟩

theorem Recorder.Ok.clearRam {r : Recorder} (h : r.Ok) : r.clearRam.Ok :=
  ⟨Nat.zero_le _, Nat.zero_le _, Nat.zero_le _, trivial, fun x hx => by simp [Recorder.clearRam] at hx, trivial,
    fun x hx => by simp [Recorder.clearRam] at hx, List.nodup_nil, fun x hx => by simp [Recorder.clearRam] at hx, h.10, rfl⟩

/-- The writer starts on a cleared RAM ring. -/
theorem Recorder.Ok.startWriter {r : Recorder} (h : r.Ok) (hr : r.ring = []) (hm : r.mirror = []) (w : Writer)
    (v : Option Nat) (n : Nat) : (r.startWriter w v n).Ok := by
  have start (b m : Nat) (q : Request) : ({ (({ r with lastSeq := b } : Recorder).serve w q).1 with bootSeq := m } : Recorder).Ok := by
    have h0 : ({ r with lastSeq := b } : Recorder).Ok :=
      ⟨h.1, h.2, h.3, h.4, fun x hx => by simp [hr] at hx, h.6, fun x hx => by simp [hm] at hx, h.8, h.9, h.10, h.11⟩
    have h1 := h0.serve w q
    exact ⟨h1.1, h1.2, h1.3, h1.4, h1.5, h1.6, h1.7, h1.8, h1.9, h1.10, h1.11⟩
  unfold Recorder.startWriter
  extract_lets useVault base r1 first
  split
  rename_i r2 b heq
  have hr2 : r2 = (r1.serve w first).1 := by rw [heq]
  subst hr2
  extract_lets r3
  split
  · exact start base (base + 1) first
  · exact (start base (base + 1) first).request _

/-- A command's requests reach the recorder. -/
theorem Recorder.Ok.report {r : Recorder} (h : r.Ok) (c : Core) (qs : List Request) : (c.report qs r).Ok := by
  unfold Core.report
  dsimp only
  split
  · exact (h.requests qs).flushFailed _
  · exact h.requests qs

end Sys2Proof.Machine
end

