-- ==== Sys2Proof/Laws/Commands.lean ====
section
/-! SUPPORT. What a command can do, once for all commands: each acts on the core alone, on the recorder through one of its
four own commands, or is an event of the supplies; and what follows from that for the whole state. -/

namespace Sys2Proof.Machine

/-! ## Each command's meaning -/

theorem exec_tickBoundary (x : BoundaryFacts) (st : State) :
    exec (.tickBoundary x) st = st.act fun c _ => c.tickBoundary x := rfl
theorem exec_jobRelease (st : State) : exec (.jobRelease) st = st.act fun c _ => c.jobRelease := rfl
theorem exec_commitGroupCopy (g : Fin 8) (st : State) :
    exec (.commitGroupCopy g) st = st.act fun c _ => c.commitGroup g := rfl
theorem exec_ptpSyncRx (n p : Fin 2) (m : SyncMsg) (st : State) :
    exec (.ptpSyncRx n p m) st = st.act fun c _ => c.syncRx n p m := rfl
theorem exec_firstLock (st : State) : exec (.firstLock) st = st.act fun c _ => c.cmdFirstLock := rfl
theorem exec_timeAcqWaitExpiry (st : State) : exec (.timeAcqWaitExpiry) st = st.act fun c _ => c.acqWaitExpiry := rfl
theorem exec_holdoverEntry (st : State) : exec (.holdoverEntry) st = st.act fun c _ => c.holdoverEntry := rfl
theorem exec_timeSourceWrite (p : Path) (v : Nat) (st : State) :
    exec (.timeSourceWrite p v) st = st.act fun c _ => c.pathNumber p Od.TIME_SOURCE v := rfl
theorem exec_timeRestep (p : Path) (v : Nat) (st : State) :
    exec (.timeRestep p v) st = st.act fun c _ => c.pathNumber p Od.TIME_RESTEP v := rfl
theorem exec_restepPerform (st : State) : exec (.restepPerform) st = st.act fun c _ => c.cmdReStep := rfl
theorem exec_tickPeriodWrite (p : Path) (v : Nat) (st : State) :
    exec (.tickPeriodWrite p v) st = st.act fun c _ => c.pathNumber p Od.TICK_PERIOD v := rfl
theorem exec_voterItemCompare (kind : Nat) (copies : List ItemCopy) (st : State) :
    exec (.voterItemCompare kind copies) st = st.act fun c r => c.voterCompare r kind copies := rfl
theorem exec_strandBistDone (s : Fin 3) (result : Nat) (st : State) :
    exec (.strandBistDone s result) st = st.act fun c _ => c.bistDone s result := rfl
theorem exec_tcmCopyDone (s : Fin 3) (st : State) :
    exec (.tcmCopyDone s) st = st.act fun c _ => c.tcmCopyDone s := rfl
theorem exec_unvotedResume (results : List Nat) (st : State) :
    exec (.unvotedResume results) st = st.act fun c _ => c.unvotedResume results := rfl
theorem exec_tcmScrub (mask : Nat) (code uncorr : Bool) (addr : Nat) (st : State) :
    exec (.tcmScrub mask code uncorr addr) st = st.act fun c _ => c.tcmScrub mask code uncorr addr := rfl
theorem exec_agreeselWrite (sel : Nat) (samples : List Nat) (st : State) :
    exec (.agreeselWrite sel samples) st = st.act fun c _ => c.agreeWrite sel samples := rfl
theorem exec_agreeExchangeEnd (st : State) : exec (.agreeExchangeEnd) st = st.act fun c _ => c.agreeEnd := rfl
theorem exec_socmdWrite (s : Fin 3) (v : Nat) (st : State) :
    exec (.socmdWrite s v) st = st.act fun c _ => c.socmdWrite s v := rfl
theorem exec_debugHalt (s : Fin 3) (st : State) :
    exec (.debugHalt s) st = st.act fun c _ => c.debugRequest s false := rfl
theorem exec_debugStep (s : Fin 3) (st : State) :
    exec (.debugStep s) st = st.act fun c _ => c.debugRequest s true := rfl
theorem exec_debugAbstractCommand (x : Fin 3 × Nat) (st : State) :
    exec (.debugAbstractCommand x) st = st.act fun c _ => c.debugAbstract x.1 x.2 := rfl
theorem exec_debugResumeLead (st : State) : exec (.debugResumeLead) st = st.act fun c _ => c.resumeLead := rfl
theorem exec_debugHeldRequest (st : State) : exec (.debugHeldRequest) st = st.act fun c _ => c.heldRequest := rfl
theorem exec_tickWait (n : Fin 32) (w : Nat) (st : State) :
    exec (.tickWait n w) st = st.act fun c _ => c.tickWait n w := rfl
theorem exec_tickWaitWake (n : Fin 32) (st : State) :
    exec (.tickWaitWake n) st = st.act fun c _ => c.tickWaitWake n := rfl
theorem exec_jobPop (n : Fin 32) (w : Nat) (st : State) : exec (.jobPop n w) st = st.pop fun c => c.jobPop n w := rfl
theorem exec_draftPairWaitExpiry (n : Fin 32) (st : State) :
    exec (.draftPairWaitExpiry n) st = st.act fun c _ => c.draftWaitExpiry n := rfl
theorem exec_jobPush (n : Fin 32) (w lo hi : Nat) (st : State) :
    exec (.jobPush n w lo hi) st = st.act fun c _ => c.jobPush n w lo hi false := rfl
theorem exec_jobPair (n : Fin 32) (w lo hi : Nat) (st : State) :
    exec (.jobPair n w lo hi) st = st.act fun c _ => c.jobPush n w lo hi true := rfl
theorem exec_jobDoneFinish (n : Fin 32) (w : Nat) (st : State) :
    exec (.jobDoneFinish n w) st = st.act fun c _ => c.jobFinish n w := rfl
theorem exec_jobDoneAbandon (n : Fin 32) (w : Nat) (st : State) :
    exec (.jobDoneAbandon n w) st = st.act fun c _ => c.jobAbandon n w := rfl
theorem exec_jobDoneSuspend (n : Fin 32) (w : Nat) (st : State) :
    exec (.jobDoneSuspend n w) st = st.act fun c _ => c.jobSuspend n w := rfl
theorem exec_stageB (n : Fin 32) (w rs1 rs2 : Nat) (st : State) :
    exec (.stageB n w rs1 rs2) st = st.act fun c _ => c.stageStore n 1 rs1 rs2 w := rfl
theorem exec_stageH (n : Fin 32) (w rs1 rs2 : Nat) (st : State) :
    exec (.stageH n w rs1 rs2) st = st.act fun c _ => c.stageStore n 2 rs1 rs2 w := rfl
theorem exec_stageW (n : Fin 32) (w rs1 rs2 : Nat) (st : State) :
    exec (.stageW n w rs1 rs2) st = st.act fun c _ => c.stageStore n 4 rs1 rs2 w := rfl
theorem exec_loopGo (n : Fin 32) (w : Nat) (machine : Bool) (addr count : Nat) (st : State) :
    exec (.loopGo n w machine addr count) st = st.act fun c _ => c.loopGo n w machine addr count := rfl
theorem exec_loopWait (n : Fin 32) (w : Nat) (st : State) :
    exec (.loopWait n w) st = st.act fun c _ => c.loopWait n w := rfl
theorem exec_evClaim (n : Fin 32) (w : Nat) (st : State) :
    exec (.evClaim n w) st = st.act fun c _ => c.spinClaim n w := rfl
theorem exec_evDone (n : Fin 32) (w rs1 : Nat) (st : State) :
    exec (.evDone n w rs1) st = st.act fun c _ => c.spinDone n w rs1 := rfl
theorem exec_rahMark (n : Fin 32) (w rs1 rs2 : Nat) (st : State) :
    exec (.rahMark n w rs1 rs2) st = st.act fun c _ => c.rahMark n w rs1 rs2 := rfl
theorem exec_fenceI (n : Fin 32) (st : State) : exec (.fenceI n) st = st.act fun c _ => c.fenceI n := rfl
theorem exec_overflowAppend (n : Fin 32) (st : State) :
    exec (.overflowAppend n) st = st.act fun c _ => c.overflowAppend n := rfl
theorem exec_pairComparisonEnd (st : State) : exec (.pairComparisonEnd) st = st.act fun c _ => c.comparisonEnd := rfl
theorem exec_runAheadPlace (t : Fin 64) (i : Nat) (r : Fin 64) (st : State) :
    exec (.runAheadPlace t i r) st = st.act fun c _ => c.placeAhead t i r := rfl
theorem exec_level0Place (t : Fin 8) (st : State) :
    exec (.level0Place t) st = st.act fun c _ => c.placeLevel0 (64 + t) := rfl
theorem exec_sramUncorrectable (n : Fin 32) (st : State) :
    exec (.sramUncorrectable n) st = st.act fun c _ => c.sramUncorrectable n := rfl
theorem exec_spindleScrub (n : Fin 32) (count : Nat) (st : State) :
    exec (.spindleScrub n count) st = st.act fun c _ => c.spinCorrected n count := rfl
theorem exec_creelUncorrectable (spindle : Option (Fin 32)) (addr : Nat) (both : Bool) (st : State) :
    exec (.creelUncorrectable spindle addr both) st =
      st.act fun c _ => c.creelUncorrectable (spindle.map Fin.val) addr both := rfl
theorem exec_creelScrub (count : Nat) (st : State) :
    exec (.creelScrub count) st = st.act fun c _ => c.creelScrub count := rfl
theorem exec_icacheParityError (x : Fin 32 × Nat) (st : State) :
    exec (.icacheParityError x) st = st.act fun c _ => c.icacheParity x.1 x.2 := rfl
theorem exec_spindleDebugHalt (n : Fin 32) (st : State) :
    exec (.spindleDebugHalt n) st = st.act fun c _ => c.spinHalt n := rfl
theorem exec_spindleDebugStep (n : Fin 32) (st : State) :
    exec (.spindleDebugStep n) st = st.act fun c _ => c.spinDebug n := rfl
theorem exec_spindleDebugAbstract (x : Fin 32 × Nat) (st : State) :
    exec (.spindleDebugAbstract x) st = st.act fun c _ => c.spinAbstract x.1 x.2 := rfl
theorem exec_spindleDebugResume (n : Fin 32) (st : State) :
    exec (.spindleDebugResume n) st = st.act fun c _ => c.spinResume n := rfl
theorem exec_loadStoreAccessFault (m : Fin 33) (addr size : Nat) (kind : AccessKind) (st : State) :
    exec (.loadStoreAccessFault m addr size kind) st = st.act fun c r => c.access r m addr size kind := rfl
theorem exec_loopEvaluation (n : Fin 32) (waits : Nat) (errs : List Nat) (piErr : Option Nat) (check : Bool) (st : State) :
    exec (.loopEvaluation n waits errs piErr check) st =
      st.act fun c _ => c.loopEvaluation n waits errs piErr check := rfl
theorem exec_loopLateDiscard (n : Fin 32) (cyc : Nat) (st : State) :
    exec (.loopLateDiscard n cyc) st = st.act fun c _ => c.loopLateDiscard n cyc := rfl
theorem exec_loopDescriptorWrite (p : Path) (key : Nat) (data : Bytes) (st : State) :
    exec (.loopDescriptorWrite p key data) st = st.act fun c _ => c.pathLoop p key data := rfl
theorem exec_loopWOutWrite (p : Path) (v : Nat) (st : State) :
    exec (.loopWOutWrite p v) st = st.act fun c _ => c.pathNumber p Od.LOOP_W_OUT v := rfl
theorem exec_loopWClear (p : Path) (v : Nat) (st : State) :
    exec (.loopWClear p v) st = st.act fun c _ => c.pathNumber p Od.LOOP_W_CLEAR v := rfl
theorem exec_loopClearAll (p : Path) (v : Nat) (st : State) :
    exec (.loopClearAll p v) st = st.act fun c _ => c.pathNumber p Od.LOOP_CLEAR_ALL v := rfl
theorem exec_remoteInputImageRx (n : Fin 2) (frame : Bytes) (st : State) :
    exec (.remoteInputImageRx n frame) st = st.act fun c _ => c.remoteInputRx (n + 1) frame := rfl
theorem exec_remoteMissLimit (s : Fin 64) (st : State) :
    exec (.remoteMissLimit s) st = st.act fun c _ => c.remoteMissLimit s := rfl
theorem exec_remoteOutputImageRx (n : Fin 2) (frame : Bytes) (st : State) :
    exec (.remoteOutputImageRx n frame) st = st.act fun c _ => c.remoteOutputRx (n + 1) frame := rfl
theorem exec_rstaWatchdogExpiry (st : State) :
    exec (.rstaWatchdogExpiry) st = st.act fun c _ => c.watchdogExpiry := rfl
theorem exec_progImageWrite (p : Path) (ofs : Nat) (data : Bytes) (last : Bool) (st : State) :
    exec (.progImageWrite p ofs data last) st = st.act fun c _ => c.pathSegment p Od.PROG_IMAGE ofs data last := rfl
theorem exec_progCmdVerify (p : Path) (st : State) :
    exec (.progCmdVerify p) st = st.act fun c _ => c.pathNumber p Od.PROG_CMD 1 := rfl
theorem exec_progCmdPrepare (p : Path) (st : State) :
    exec (.progCmdPrepare p) st = st.act fun c _ => c.pathNumber p Od.PROG_CMD 2 := rfl
theorem exec_progCmdArm (p : Path) (partner : Bool) (st : State) :
    exec (.progCmdArm p partner) st = st.act fun c _ => c.pathArm p partner := rfl
theorem exec_progCmdCancel (p : Path) (st : State) :
    exec (.progCmdCancel p) st = st.act fun c _ => c.pathNumber p Od.PROG_CMD 4 := rfl
theorem exec_progCmdErase (p : Path) (st : State) :
    exec (.progCmdErase p) st = st.act fun c _ => c.pathNumber p Od.PROG_CMD 5 := rfl
theorem exec_variableTransfer (st : State) : exec (.variableTransfer) st = st.act fun c _ => c.variableTransfer := rfl
theorem exec_progChangeover (st : State) : exec (.progChangeover) st = st.act fun c _ => c.progChangeover := rfl
theorem exec_retainCopy (fails : Bool) (st : State) :
    exec (.retainCopy fails) st = st.act fun c _ => c.retainCopy fails := rfl
theorem exec_dioLevelAccepted (i : Fin 48) (level : Bool) (st : State) :
    exec (.dioLevelAccepted i level) st = st.act fun c _ => c.levelAccepted i level := rfl
theorem exec_chatterClear (i : Fin 48) (st : State) :
    exec (.chatterClear i) st = st.act fun c _ => c.chatterClear i := rfl
theorem exec_dioOpenWire (i : Fin 48) (below : Bool) (st : State) :
    exec (.dioOpenWire i below) st = st.act fun c _ => c.openWire i below := rfl
theorem exec_stuckActive (i : Fin 48) (st : State) :
    exec (.stuckActive i) st = st.act fun c _ => c.stuckActive i := rfl
theorem exec_testPulseStart (k : Fin 8) (st : State) :
    exec (.testPulseStart k) st = st.act fun c _ => c.testPulse k := rfl
theorem exec_pulseLowSample (i : Fin 48) (low : Bool) (st : State) :
    exec (.pulseLowSample i low) st = st.act fun c _ => c.pulseSample i low := rfl
theorem exec_counterEdge (k : Fin 8) (a b : Bool) (st : State) :
    exec (.counterEdge k a b) st = st.act fun c _ => c.counterEdge k a b := rfl
theorem exec_countCmdPreset (p : Path) (k : Fin 8) (v : Nat) (st : State) :
    exec (.countCmdPreset p k v) st = st.act fun c _ => c.pathNumber p (Od.COUNT_CMD k) v := rfl
theorem exec_outputShort (i : Fin 48) (st : State) :
    exec (.outputShort i) st = st.act fun c _ => c.outputShort i := rfl
theorem exec_thermalShutdown (x : Stage) (st : State) :
    exec (.thermalShutdown x) st = st.act fun c _ => c.thermalShutdown x := rfl
theorem exec_thermalRetry (x : Stage) (st : State) :
    exec (.thermalRetry x) st = st.act fun c _ => c.thermalRetry x := rfl
theorem exec_shortClear (x : Stage) (st : State) : exec (.shortClear x) st = st.act fun c _ => c.shortClear x := rfl
theorem exec_openLoad (i : Fin 48) (below : Bool) (st : State) :
    exec (.openLoad i below) st = st.act fun c _ => c.openLoad i below := rfl
theorem exec_externalDrive (i : Fin 48) (high : Bool) (st : State) :
    exec (.externalDrive i high) st = st.act fun c _ => c.externalDrive i high := rfl
theorem exec_fgLow (g : Fin 6) (low : Bool) (st : State) :
    exec (.fgLow g low) st = st.act fun c _ => c.fgLow g low := rfl
theorem exec_fgCut (g : Fin 6) (st : State) : exec (.fgCut g) st = st.act fun c _ => c.fgCut g := rfl
theorem exec_fgRecovery (g : Fin 6) (st : State) : exec (.fgRecovery g) st = st.act fun c _ => c.fgRecovery g := rfl
theorem exec_fgHoldEnd (g : Fin 6) (st : State) : exec (.fgHoldEnd g) st = st.act fun c _ => c.fgHoldEnd g := rfl
theorem exec_fgAck (p : Path) (g : Fin 6) (v : Nat) (above : Bool) (st : State) :
    exec (.fgAck p g v above) st = st.act fun c _ => c.pathAckGroup p g v above := rfl
theorem exec_fgTrip (g : Fin 6) (st : State) : exec (.fgTrip g) st = st.act fun c _ => c.fgTrip g := rfl
theorem exec_fgMissing (g : Fin 6) (x : SupplyChange) (st : State) :
    exec (.fgMissing g x) st = st.act fun c _ => c.fgMissing g x := rfl
theorem exec_tpOverload (k : Fin 8) (st : State) : exec (.tpOverload k) st = st.act fun c _ => c.tpOverload k := rfl
theorem exec_tpExtVoltage (k : Fin 8) (st : State) :
    exec (.tpExtVoltage k) st = st.act fun c _ => c.tpExtVoltage k := rfl
theorem exec_soDarkTest (k : Fin 8) (m reached : Bool) (openNs : Nat) (st : State) :
    exec (.soDarkTest k m reached openNs) st = st.act fun c _ => c.darkTest k m reached openNs := rfl
theorem exec_soReadbackMismatch (k : Fin 8) (m : Bool) (st : State) :
    exec (.soReadbackMismatch k m) st = st.act fun c _ => c.soReadback k m := rfl
theorem exec_soExtVoltage (k : Fin 8) (st : State) :
    exec (.soExtVoltage k) st = st.act fun c _ => c.soExtVoltage k := rfl
theorem exec_soOverload (k : Fin 8) (st : State) : exec (.soOverload k) st = st.act fun c _ => c.soOverload k := rfl
theorem exec_soAck (p : Path) (v persist : Nat) (st : State) :
    exec (.soAck p v persist) st = st.act fun c _ => c.pathAckSafe p v persist := rfl
theorem exec_sdResult (i : Fin 24) (raw int ext extStat : Nat) (st : State) :
    exec (.sdResult i raw int ext extStat) st = st.act fun c _ => c.sdResult i raw int ext extStat := rfl
theorem exec_uioOpenWireCheck (i : Fin 24) (failed : Bool) (st : State) :
    exec (.uioOpenWireCheck i failed) st = st.act fun c _ => c.uioOpenCheck i failed := rfl
theorem exec_transmitterShort (i : Fin 24) (on : Bool) (st : State) :
    exec (.transmitterShort i on) st = st.act fun c _ => c.transmitterShort i on := rfl
theorem exec_namurFault (i : Fin 24) (short on : Bool) (st : State) :
    exec (.namurFault i short on) st = st.act fun c _ => c.namurFault i short on := rfl
theorem exec_compliance (i : Fin 24) (low : Bool) (st : State) :
    exec (.compliance i low) st = st.act fun c _ => c.complianceChange i low := rfl
theorem exec_failActive (i : Fin 24) (st : State) : exec (.failActive i) st = st.act fun c _ => c.failActive i := rfl
theorem exec_uioAck (p : Path) (i : Fin 24) (v : Nat) (st : State) :
    exec (.uioAck p i v) st = st.act fun c _ => c.pathNumber p (Od.UIO_ACK i) v := rfl
theorem exec_passiveContactLoss (i : Fin 24) (loopLost : Bool) (st : State) :
    exec (.passiveContactLoss i loopLost) st = st.act fun c _ => c.contactLoss i loopLost := rfl
theorem exec_passiveStartUp (i : Fin 24) (st : State) :
    exec (.passiveStartUp i) st = st.act fun c _ => c.passiveStart i := rfl
theorem exec_thermalLimit (i : Fin 24) (tj : Nat) (st : State) :
    exec (.thermalLimit i tj) st = st.act fun c _ => c.thermalLimited i tj := rfl
theorem exec_thermalOff (i : Fin 24) (st : State) : exec (.thermalOff i) st = st.act fun c _ => c.thermalOff i := rfl
theorem exec_uioThermalRestart (i : Fin 24) (tj : Nat) (st : State) :
    exec (.uioThermalRestart i tj) st = st.act fun c _ => c.thermalRestart i tj := rfl
theorem exec_voutShort (i : Fin 24) (on : Bool) (st : State) :
    exec (.voutShort i on) st = st.act fun c _ => c.voutShort i on := rfl
theorem exec_ugSupplyLow (u : Fin 3) (st : State) :
    exec (.ugSupplyLow u) st = st.act fun c _ => c.ugSupplyLow u := rfl
theorem exec_ugSupplyRecovered (u : Fin 3) (done : Bool) (st : State) :
    exec (.ugSupplyRecovered u done) st = st.act fun c _ => c.ugRecovered u done := rfl
theorem exec_hartReq (p : Path) (i : Fin 24) (req : Bytes) (st : State) :
    exec (.hartReq p i req) st = st.act fun c _ => c.pathData p (Od.HART_REQ i) req := rfl
theorem exec_hartCancel (p : Path) (i : Fin 24) (v : Nat) (st : State) :
    exec (.hartCancel p i v) st = st.act fun c _ => c.pathNumber p (Od.HART_CANCEL i) v := rfl
theorem exec_hartResponseRx (i : Fin 24) (frame : Bytes) (parityOk : Bool) (st : State) :
    exec (.hartResponseRx i frame parityOk) st = st.act fun c _ => c.hartResponse i frame parityOk := rfl
theorem exec_hartTimeout (i : Fin 24) (st : State) :
    exec (.hartTimeout i) st = st.act fun c _ => c.hartTimeout i := rfl
theorem exec_hartBurstRx (i : Fin 24) (frame : Bytes) (st : State) :
    exec (.hartBurstRx i frame) st = st.act fun c _ => c.hartBurst i frame := rfl
theorem exec_hartIdentifyPoll (i : Fin 24) (st : State) :
    exec (.hartIdentifyPoll i) st = st.act fun c _ => c.hartPoll i := rfl
theorem exec_hartOtherMasterFrameRx (i : Fin 24) (frame : Bytes) (st : State) :
    exec (.hartOtherMasterFrameRx i frame) st = st.act fun c _ => c.hartOther i frame := rfl
theorem exec_sinDiscrepancy (p : Fin 24) (st : State) :
    exec (.sinDiscrepancy p) st = st.act fun c _ => c.sinDiscrepancy p := rfl
theorem exec_safetyCrcCheck (st : State) : exec (.safetyCrcCheck) st = st.act fun c _ => c.crcCheck := rfl
theorem exec_axisFault (k : Fin 4) (st : State) : exec (.axisFault k) st = st.act fun c _ => c.axisDeadline k := rfl
theorem exec_scrimCopyRx (n : Fin 2) (frame : Bytes) (st : State) :
    exec (.scrimCopyRx n frame) st = st.act fun c _ => c.kindRx 3 n frame fun c x => c.scrimCopyRx n x := rfl
theorem exec_scrimSkewExpiry (r : Fin 16) (st : State) :
    exec (.scrimSkewExpiry r) st = st.act fun c _ => c.scrimSkew r := rfl
theorem exec_scrimWatchdog (r : Fin 16) (st : State) :
    exec (.scrimWatchdog r) st = st.act fun c _ => c.scrimWatchdog r := rfl
theorem exec_pairingIdentityExchange (x : Identity) (st : State) :
    exec (.pairingIdentityExchange x) st = st.act fun c _ => c.identityExchange x := rfl
theorem exec_activeToggleStop (st : State) : exec (.activeToggleStop) st = st.act fun c _ => c.toggleStop := rfl
theorem exec_takeoverOnLoss (gap : Nat) (st : State) :
    exec (.takeoverOnLoss gap) st = st.act fun c _ => c.takeoverOnLoss gap := rfl
theorem exec_tiebreak (st : State) : exec (.tiebreak) st = st.act fun c _ => c.tiebreak := rfl
theorem exec_laneDown (l : Fin 2) (st : State) : exec (.laneDown l) st = st.act fun c _ => c.laneChange l false := rfl
theorem exec_laneUp (l : Fin 2) (st : State) : exec (.laneUp l) st = st.act fun c _ => c.laneChange l true := rfl
theorem exec_partnerTogglingDetected (st : State) :
    exec (.partnerTogglingDetected) st = st.act fun c _ => c.togglingDetected := rfl
theorem exec_releaseRx (gap : Nat) (st : State) : exec (.releaseRx gap) st = st.act fun c _ => c.releaseRx gap := rfl
theorem exec_stepRecordRx (x : StepRecord) (st : State) :
    exec (.stepRecordRx x) st = st.act fun c _ => c.stepRecordRx x := rfl
theorem exec_recordWaitExpiry (st : State) : exec (.recordWaitExpiry) st = st.act fun c _ => c.recordWaitExpiry := rfl
theorem exec_resyncAdopt (x : PairCopy) (st : State) :
    exec (.resyncAdopt x) st = st.act fun c _ => c.resyncAdopt x := rfl
theorem exec_partnerDetection (st : State) : exec (.partnerDetection) st = st.act fun c _ => c.partnerDetection := rfl
theorem exec_startWaitExpiry (st : State) : exec (.startWaitExpiry) st = st.act fun c _ => c.startWaitExpiry := rfl
theorem exec_creelTransferAdopt (x : PairCopy) (st : State) :
    exec (.creelTransferAdopt x) st = st.act fun c _ => c.creelAdopt x := rfl
theorem exec_moduleHeartbeatSend (st : State) : exec (.moduleHeartbeatSend) st = st.act fun c _ => c.moduleBeat := rfl
theorem exec_witnessHeartbeatSend (st : State) :
    exec (.witnessHeartbeatSend) st = st.act fun c _ => c.witnessBeat := rfl
theorem exec_moduleHeartbeatRx (n : Fin 2) (frame : Bytes) (st : State) :
    exec (.moduleHeartbeatRx n frame) st = st.act fun c _ => c.kindRx 4 n frame fun c m => c.moduleBeatRx n m := rfl
theorem exec_witnessHeartbeatRx (n : Fin 2) (frame : Bytes) (st : State) :
    exec (.witnessHeartbeatRx n frame) st = st.act fun c _ => c.kindRx 4 n frame fun c m => c.witnessBeatRx n m := rfl
theorem exec_takeOrderRx (n : Fin 2) (frame : Bytes) (st : State) :
    exec (.takeOrderRx n frame) st = st.act fun c _ => c.kindRx 4 n frame fun c m => c.takeOrderRx n m := rfl
theorem exec_releaseOrderRx (relay : Bool) (n : Fin 2) (frame : Bytes) (st : State) :
    exec (.releaseOrderRx relay n frame) st = st.act fun c _ => c.releaseRow relay n frame := rfl
theorem exec_orderAckRx (n : Fin 2) (frame : Bytes) (st : State) :
    exec (.orderAckRx n frame) st = st.act fun c _ => c.kindRx 4 n frame fun c m => c.orderAckRx n m := rfl
theorem exec_takeAckRx (st : State) : exec (.takeAckRx) st = st.act fun c _ => c.takeSymbol true := rfl
theorem exec_takeNakRx (st : State) : exec (.takeNakRx) st = st.act fun c _ => c.takeSymbol false := rfl
theorem exec_witnessLost (st : State) : exec (.witnessLost) st = st.act fun c _ => c.witnessLost := rfl
theorem exec_returnRequest (st : State) : exec (.returnRequest) st = st.act fun c _ => c.returnRequest := rfl
theorem exec_handoverReqLapse (st : State) : exec (.handoverReqLapse) st = st.act fun c _ => c.requestLapse := rfl
theorem exec_pairCmdHandover (p : Path) (st : State) :
    exec (.pairCmdHandover p) st = st.act fun c _ => c.pathNumber p Od.PAIR_CMD 1 := rfl
theorem exec_pairCmdResync (p : Path) (st : State) :
    exec (.pairCmdResync p) st = st.act fun c _ => c.pathNumber p Od.PAIR_CMD 2 := rfl
theorem exec_pairCmdClearUnfit (p : Path) (st : State) :
    exec (.pairCmdClearUnfit p) st = st.act fun c _ => c.pathNumber p Od.PAIR_CMD 3 := rfl
theorem exec_portLinkChange (n p : Fin 2) (speed : Nat) (st : State) :
    exec (.portLinkChange n p speed) st = st.act fun c _ => c.portLink n p speed := rfl
theorem exec_frameForward (n p : Fin 2) (frame : Bytes) (fcsOk : Bool) (residence : Nat) (st : State) :
    exec (.frameForward n p frame fcsOk residence) st =
      st.act fun c _ => c.frameForward n p frame fcsOk residence := rfl
theorem exec_ptpAnnounceRx (n : Fin 2) (domain : Nat) (a : Announce) (st : State) :
    exec (.ptpAnnounceRx n domain a) st = st.act fun c _ => c.announceRx n domain a := rfl
theorem exec_ptpDelayRespRx (n : Fin 2) (m : DelayMsg) (st : State) :
    exec (.ptpDelayRespRx n m) st = st.act fun c _ => c.delayRespRx n m := rfl
theorem exec_ptpDelayReqSend (n : Fin 2) (st : State) :
    exec (.ptpDelayReqSend n) st = st.act fun c _ => c.delayReqSend n := rfl
theorem exec_ptpFollowTimeout (st : State) : exec (.ptpFollowTimeout) st = st.act fun c _ => c.followTimeout := rfl
theorem exec_ptpMasterSync (n : Fin 2) (st : State) :
    exec (.ptpMasterSync n) st = st.act fun c _ => c.masterSync n := rfl
theorem exec_ptpAnnounceReceiptTimeout (n : Fin 2) (st : State) :
    exec (.ptpAnnounceReceiptTimeout n) st = st.act fun c _ => c.announceTimeout n := rfl
theorem exec_ptpDelayReqRx (n p : Fin 2) (domain seq : Nat) (stamp : Int) (peer : Bool) (st : State) :
    exec (.ptpDelayReqRx n p domain seq stamp peer) st =
      st.act fun c _ => c.delayReqRx n p domain seq stamp peer := rfl
theorem exec_ptpMasterAnnounce (n : Fin 2) (st : State) :
    exec (.ptpMasterAnnounce n) st = st.act fun c _ => c.masterAnnounce n := rfl
theorem exec_mrpTopologyChangeRx (n : Fin 2) (interval : Nat) (st : State) :
    exec (.mrpTopologyChangeRx n interval) st = st.act fun c _ => c.mrpTopology n interval := rfl
theorem exec_mrpFlush (n : Fin 2) (st : State) : exec (.mrpFlush n) st = st.act fun c _ => c.mrpFlush n := rfl
theorem exec_arpRequestRx (n : Fin 2) (mac ip target : Nat) (st : State) :
    exec (.arpRequestRx n mac ip target) st = st.act fun c _ => c.arpRequest n mac ip target := rfl
theorem exec_icmpEchoRx (n : Fin 2) (mac ip target : Nat) (body : Bytes) (fragment : Bool) (st : State) :
    exec (.icmpEchoRx n mac ip target body fragment) st =
      st.act fun c _ => c.icmpEcho n mac ip target body fragment := rfl
theorem exec_frameReady (st : State) : exec (.frameReady) st = st.act fun c _ => c.frameReady := rfl
theorem exec_launch (n : Fin 2) (st : State) : exec (.launch n) st = st.act fun c _ => c.launchNext n := rfl
theorem exec_appFrameRx (n : Fin 2) (src ethertype : Nat) (body : Bytes) (st : State) :
    exec (.appFrameRx n src ethertype body) st = st.act fun c _ => c.appFrameRx n src ethertype body := rfl
theorem exec_rxObjectAged (o : Fin 128) (st : State) :
    exec (.rxObjectAged o) st = st.act fun c _ => c.objectAged o := rfl
theorem exec_fdbEntryAgeing (n : Fin 2) (mac : Nat) (st : State) :
    exec (.fdbEntryAgeing n mac) st = st.act fun c _ => c.fdbAge n mac := rfl
theorem exec_dsOpen (n : Fin 2) (mac : Nat) (datagram : Bytes) (st : State) :
    exec (.dsOpen n mac datagram) st = st.act fun c _ => c.dsOpen n mac datagram := rfl
theorem exec_dsClose (n : Fin 2) (datagram : Bytes) (st : State) :
    exec (.dsClose n datagram) st = st.act fun c _ => c.dsCloseRx n datagram := rfl
theorem exec_dsAckOnly (n : Fin 2) (datagram : Bytes) (st : State) :
    exec (.dsAckOnly n datagram) st = st.act fun c _ => c.dsAck n datagram := rfl
theorem exec_dsDatagram (n : Fin 2) (datagram : Bytes) (tls : Handshake) (st : State) :
    exec (.dsDatagram n datagram tls) st = st.act fun c r => c.dsDatagram r n datagram tls := rfl
theorem exec_dsRetransmitTimeout (session : Nat) (st : State) :
    exec (.dsRetransmitTimeout session) st = st.act fun c _ => c.dsRetransmit session := rfl
theorem exec_dsIdleTimeout (session : Nat) (st : State) :
    exec (.dsIdleTimeout session) st = st.act fun c _ => c.dsIdle session := rfl
theorem exec_tlsHandshakeTimeout (session : Nat) (st : State) :
    exec (.tlsHandshakeTimeout session) st = st.act fun c _ => c.tlsTimeout session := rfl
theorem exec_dsRead (session : Nat) (msg : Bytes) (st : State) :
    exec (.dsRead session msg) st = st.act fun c r => c.dsRow r 1 session msg := rfl
theorem exec_dsWrite (session : Nat) (msg : Bytes) (st : State) :
    exec (.dsWrite session msg) st = st.act fun c r => c.dsRow r 2 session msg := rfl
theorem exec_dsReadSegment (session : Nat) (msg : Bytes) (st : State) :
    exec (.dsReadSegment session msg) st = st.act fun c r => c.dsRow r 3 session msg := rfl
theorem exec_dsWriteSegment (session : Nat) (msg : Bytes) (st : State) :
    exec (.dsWriteSegment session msg) st = st.act fun c r => c.dsRow r 4 session msg := rfl
theorem exec_canLaunch (k : Fin 4) (busy : Bool) (st : State) :
    exec (.canLaunch k busy) st = st.act fun c _ => c.canLaunch k busy := rfl
theorem exec_canFrameTxEnd (k : Fin 4) (ok : Bool) (st : State) :
    exec (.canFrameTxEnd k ok) st = st.act fun c _ => c.frameTxEnd k ok := rfl
theorem exec_canArbitrationLost (k : Fin 4) (st : State) :
    exec (.canArbitrationLost k) st = st.act fun c _ => c.arbitrationLost k := rfl
theorem exec_canBusError (k : Fin 4) (kind : Fin 8) (tx first : Bool) (st : State) :
    exec (.canBusError k kind tx first) st = st.act fun c _ => c.canBusError k kind tx first := rfl
theorem exec_canBusoffRecovery (k : Fin 4) (st : State) :
    exec (.canBusoffRecovery k) st = st.act fun c _ => c.busOffRecovery k := rfl
theorem exec_canIntegrationComplete (k : Fin 4) (st : State) :
    exec (.canIntegrationComplete k) st = st.act fun c _ => c.integrated k := rfl
theorem exec_canTxbCancel (p : Path) (b : Fin 12) (v : Nat) (st : State) :
    exec (.canTxbCancel p b v) st = st.act fun c _ => c.pathNumber p (Od.CAN_TXB_CMD b) v := rfl
theorem exec_canFrameRx (k : Fin 4) (x : CanFrame) (sof : Nat) (st : State) :
    exec (.canFrameRx k x sof) st = st.act fun c r => c.canFrameRx r k x sof := rfl
theorem exec_canRxObjectAged (o : Fin 128) (st : State) :
    exec (.canRxObjectAged o) st = st.act fun c _ => c.canObjectAged o := rfl
theorem exec_canQAck (p : Path) (q : Fin 16) (v : Nat) (st : State) :
    exec (.canQAck p q v) st = st.act fun c _ => c.pathNumber p (Od.CAN_Q_ACK q) v := rfl
theorem exec_ttReferenceLaunch (k : Fin 4) (busy : Bool) (st : State) :
    exec (.ttReferenceLaunch k busy) st = st.act fun c _ => c.ttRefLaunch k busy := rfl
theorem exec_ttReferenceRx (k : Fin 4) (x : CanFrame) (sof : Nat) (st : State) :
    exec (.ttReferenceRx k x sof) st = st.act fun c _ => c.ttRefRx k x sof := rfl
theorem exec_ttReferenceMissed (k : Fin 4) (st : State) :
    exec (.ttReferenceMissed k) st = st.act fun c _ => c.ttMissed k := rfl
theorem exec_ttFollowerLost (k : Fin 4) (st : State) :
    exec (.ttFollowerLost k) st = st.act fun c _ => c.ttLost k := rfl
theorem exec_canCmdSleep (p : Path) (k : Fin 4) (st : State) :
    exec (.canCmdSleep p k) st = st.act fun c _ => c.pathNumber p (Od.CAN_CMD k) 1 := rfl
theorem exec_canSleepEntered (k : Fin 4) (st : State) :
    exec (.canSleepEntered k) st = st.act fun c _ => c.sleepEntered k := rfl
theorem exec_canCmdWake (p : Path) (k : Fin 4) (st : State) :
    exec (.canCmdWake p k) st = st.act fun c _ => c.pathNumber p (Od.CAN_CMD k) 2 := rfl
theorem exec_canBusWake (k : Fin 4) (e : WakeEvent) (st : State) :
    exec (.canBusWake k e) st = st.act fun c _ => c.canBusWake k e := rfl
theorem exec_canCmdRecover (p : Path) (k : Fin 4) (st : State) :
    exec (.canCmdRecover p k) st = st.act fun c _ => c.pathNumber p (Od.CAN_CMD k) 3 := rfl
theorem exec_sdoInitiateDownload (k : Fin 4) (data : Bytes) (st : State) :
    exec (.sdoInitiateDownload k data) st = st.act fun c r => c.sdoRow r [1] k data := rfl
theorem exec_sdoDownloadSegment (k : Fin 4) (data : Bytes) (st : State) :
    exec (.sdoDownloadSegment k data) st = st.act fun c r => c.sdoRow r [0] k data := rfl
theorem exec_sdoInitiateUpload (k : Fin 4) (data : Bytes) (st : State) :
    exec (.sdoInitiateUpload k data) st = st.act fun c r => c.sdoRow r [2] k data := rfl
theorem exec_sdoUploadSegment (k : Fin 4) (data : Bytes) (st : State) :
    exec (.sdoUploadSegment k data) st = st.act fun c r => c.sdoRow r [3] k data := rfl
theorem exec_sdoAbort (k : Fin 4) (data : Bytes) (st : State) :
    exec (.sdoAbort k data) st = st.act fun c r => c.sdoRow r [4] k data := rfl
theorem exec_sdoBlockRequest (k : Fin 4) (data : Bytes) (st : State) :
    exec (.sdoBlockRequest k data) st = st.act fun c r => c.sdoRow r [5, 6] k data := rfl
theorem exec_sdoSegmentTimeout (k : Fin 4) (st : State) :
    exec (.sdoSegmentTimeout k) st = st.act fun c _ => c.sdoTimeout k := rfl
theorem exec_evSourceChange (s : Fin 494) (on : Bool) (st : State) :
    exec (.evSourceChange s on) st = st.act fun c _ => c.evSourceChange s on := rfl
theorem exec_evCoalWindowEnd (s : Fin 494) (st : State) :
    exec (.evCoalWindowEnd s) st = st.act fun c _ => c.evWindowEnd s := rfl
theorem exec_evRaise (p : Path) (s : Fin 494) (v : Nat) (st : State) :
    exec (.evRaise p s v) st = st.act fun c r => c.evControl r p s v := rfl
theorem exec_evClear (p : Path) (s : Fin 494) (v : Nat) (st : State) :
    exec (.evClear p s v) st = st.act fun c r => c.evControl r p s v := rfl
theorem exec_evMaskWrite (p : Path) (s : Fin 494) (v : Nat) (st : State) :
    exec (.evMaskWrite p s v) st = st.act fun c r => c.evControl r p s v := rfl
theorem exec_evRetarget (p : Path) (s : Fin 494) (v : Nat) (st : State) :
    exec (.evRetarget p s v) st = st.act fun c r => c.evControl r p s v := rfl
theorem exec_evCfgWrite (p : Path) (s : Fin 494) (v : Nat) (st : State) :
    exec (.evCfgWrite p s v) st = st.act fun c r => c.evConfig r p s v := rfl
theorem exec_evInterruptTake (n : Fin 32) (mie wfi : Bool) (st : State) :
    exec (.evInterruptTake n mie wfi) st = st.act fun c _ => c.interruptTake n mie wfi := rfl
theorem exec_evPlyClaim (st : State) :
    exec (.evPlyClaim) st = st.act fun c r => c.access r 0 0x60004008 4 .load := rfl
theorem exec_evPlyComplete (id : Nat) (st : State) :
    exec (.evPlyComplete id) st = st.act fun c r => c.access r 0 0x6000400C 4 (.store id) := rfl
theorem exec_skeinRequest (code sev arg0 arg1 : Nat) (st : State) :
    exec (.skeinRequest code sev arg0 arg1) st = st.act fun c _ => c.logSev code sev arg0 arg1 := rfl
theorem exec_skeinWrite (st : State) : exec (.skeinWrite) st = st.record fun c r => c.skeinWrite r := rfl
theorem exec_skeinRefill (code : Nat) (st : State) :
    exec (.skeinRefill code) st = st.record fun c r => c.skeinRefill r code := rfl
theorem exec_skeinMirrorProgram (ok : Bool) (st : State) :
    exec (.skeinMirrorProgram ok) st = st.record fun c r => c.skeinMirror r ok := rfl
theorem exec_skeinFlashErase (ok : Bool) (st : State) :
    exec (.skeinFlashErase ok) st = st.record fun c r => c.skeinErase r ok := rfl
theorem exec_skeinRead (p : Path) (st : State) :
    exec (.skeinRead p) st = st.act fun c r => c.pathRead r p Od.SKEIN_READ := rfl
theorem exec_dictionaryWrite (p : Path) (key : Nat) (data : Bytes) (st : State) :
    exec (.dictionaryWrite p key data) st = st.act fun c _ => c.pathData p key data := rfl
theorem exec_winWideLoad (m : Fin 33) (key : Nat) (st : State) :
    exec (.winWideLoad m key) st = st.act fun c r => c.winRow r m key false none := rfl
theorem exec_winWideStore (m : Fin 33) (key v : Nat) (st : State) :
    exec (.winWideStore m key v) st = st.act fun c r => c.winRow r m key false (some v) := rfl
theorem exec_winDomainLoad (m : Fin 33) (key : Nat) (st : State) :
    exec (.winDomainLoad m key) st = st.act fun c r => c.winRow r m key true none := rfl
theorem exec_winDomainStore (m : Fin 33) (key v : Nat) (st : State) :
    exec (.winDomainStore m key v) st = st.act fun c r => c.winRow r m key true (some v) := rfl
theorem exec_domainLockTimeout (p : Path) (key : Nat) (st : State) :
    exec (.domainLockTimeout p key) st = st.act fun c _ => c.domainTimeout p key := rfl
theorem exec_configRecordWrite (st : State) : exec (.configRecordWrite) st = st.act fun c _ => c.writeRecord := rfl
theorem exec_csStageWrite (p : Path) (key : Nat) (data : Bytes) (st : State) :
    exec (.csStageWrite p key data) st = st.act fun c _ => c.pathStage p key data := rfl
theorem exec_csCmdSeal (p : Path) (st : State) :
    exec (.csCmdSeal p) st = st.act fun c _ => c.pathNumber p Od.CS_CMD 1 := rfl
theorem exec_csCmdAbandon (p : Path) (st : State) :
    exec (.csCmdAbandon p) st = st.act fun c _ => c.pathNumber p Od.CS_CMD 2 := rfl
theorem exec_csSign (p : Path) (sig : Bytes) (st : State) :
    exec (.csSign p sig) st = st.act fun c _ => c.pathData p Od.CS_SIGN sig := rfl
theorem exec_csWindowExpiry (st : State) : exec (.csWindowExpiry) st = st.act fun c _ => c.csExpiry := rfl
theorem exec_csIdleAbandon (st : State) : exec (.csIdleAbandon) st = st.act fun c _ => c.csIdle := rfl
theorem exec_credentialLockExpiry (i : Fin 16) (st : State) :
    exec (.credentialLockExpiry i) st = st.act fun c _ => c.lockExpiry i := rfl
theorem exec_secCmdEndCommissioning (p : Path) (st : State) :
    exec (.secCmdEndCommissioning p) st = st.act fun c _ => c.pathNumber p Od.SEC_CMD 1 := rfl
theorem exec_commissioningExpiry (st : State) :
    exec (.commissioningExpiry) st = st.act fun c _ => c.commissionExpiry := rfl
theorem exec_stateCmdStop (p : Path) (st : State) :
    exec (.stateCmdStop p) st = st.act fun c _ => c.pathNumber p Od.STATE_CMD 1 := rfl
theorem exec_stateCmdRun (p : Path) (st : State) :
    exec (.stateCmdRun p) st = st.act fun c _ => c.pathNumber p Od.STATE_CMD 2 := rfl
theorem exec_reactionQueuedStart (st : State) :
    exec (.reactionQueuedStart) st = st.act fun c _ => c.queuedStart := rfl
theorem exec_safeResume (st : State) : exec (.safeResume) st = st.act fun c _ => c.safeResume := rfl
theorem exec_healthEvaluation (x : HealthReading) (st : State) :
    exec (.healthEvaluation x) st = st.act fun c r => c.healthEvaluate r x := rfl
theorem exec_logicSupplyLow (low : Bool) (st : State) :
    exec (.logicSupplyLow low) st = st.act fun c _ => c.supplyLow low := rfl
theorem exec_logicSupplyOvervoltage (high : Bool) (st : State) :
    exec (.logicSupplyOvervoltage high) st = st.act fun c _ => c.supplyOver high := rfl
theorem exec_powerFail (programmed rtc : Nat) (st : State) :
    exec (.powerFail programmed rtc) st = st.power fun c r => c.powerFail r programmed rtc := rfl
theorem exec_logicSupplyRise (x : StartUp) (recovered : Bool) (st : State) :
    exec (.logicSupplyRise x recovered) st = st.power fun c r => c.supplyRise r x recovered := rfl
theorem exec_resetNAssert (st : State) : exec (.resetNAssert) st = st.power fun c r => c.resetAssert r := rfl
theorem exec_resetNRelease (x : StartUp) (held : Nat) (st : State) :
    exec (.resetNRelease x held) st = st.power fun c r => c.resetRelease r x held := rfl
theorem exec_vbatSupervisorTrip (st : State) :
    exec (.vbatSupervisorTrip) st = st.power fun c r => (c.vbatTrip, r) := rfl
theorem exec_vbatRestore (st : State) : exec (.vbatRestore) st = st.power fun c r => (c.vbatRestore, r) := rfl
theorem exec_rtcWrite (st : State) : exec (.rtcWrite) st = st.act fun c _ => c.hourlyRtc := rfl
theorem exec_dieOvertemperature (st : State) : exec (.dieOvertemperature) st = st.act fun c _ => c.dieHot := rfl

/-! ## What a command can do -/

/-- A command of the recorder's own: what it does to the core and the recorder. -/
def recorderCommand (i : Instr) (s : State) : Prop :=
  (i = .skeinWrite ∧ exec i s = s.record fun c r => c.skeinWrite r) ∨
  (∃ code, i = .skeinRefill code ∧ exec i s = s.record fun c r => c.skeinRefill r code) ∨
  (∃ ok, i = .skeinMirrorProgram ok ∧ exec i s = s.record fun c r => c.skeinMirror r ok) ∨
  (∃ ok, i = .skeinFlashErase ok ∧ exec i s = s.record fun c r => c.skeinErase r ok)

set_option maxRecDepth 8000 in
/-- What a command can do. -/
theorem exec_cases (i : Instr) (s : State) :
    (powerCommand i = false ∧ writerCommand i = false ∧ ((∃ f, exec i s = s.act f) ∨ ∃ f, exec i s = s.pop f)) ∨
      recorderCommand i s ∨
      (powerCommand i = true ∧ ∃ f, exec i s = s.power f) :=
  match i with
  | .tickBoundary _ => .inl ⟨rfl, rfl, .inl ⟨_, exec_tickBoundary _ s⟩⟩
  | .jobRelease => .inl ⟨rfl, rfl, .inl ⟨_, exec_jobRelease s⟩⟩
  | .commitGroupCopy _ => .inl ⟨rfl, rfl, .inl ⟨_, exec_commitGroupCopy _ s⟩⟩
  | .ptpSyncRx _ _ _ => .inl ⟨rfl, rfl, .inl ⟨_, exec_ptpSyncRx _ _ _ s⟩⟩
  | .firstLock => .inl ⟨rfl, rfl, .inl ⟨_, exec_firstLock s⟩⟩
  | .timeAcqWaitExpiry => .inl ⟨rfl, rfl, .inl ⟨_, exec_timeAcqWaitExpiry s⟩⟩
  | .holdoverEntry => .inl ⟨rfl, rfl, .inl ⟨_, exec_holdoverEntry s⟩⟩
  | .timeSourceWrite _ _ => .inl ⟨rfl, rfl, .inl ⟨_, exec_timeSourceWrite _ _ s⟩⟩
  | .timeRestep _ _ => .inl ⟨rfl, rfl, .inl ⟨_, exec_timeRestep _ _ s⟩⟩
  | .restepPerform => .inl ⟨rfl, rfl, .inl ⟨_, exec_restepPerform s⟩⟩
  | .tickPeriodWrite _ _ => .inl ⟨rfl, rfl, .inl ⟨_, exec_tickPeriodWrite _ _ s⟩⟩
  | .voterItemCompare _ _ => .inl ⟨rfl, rfl, .inl ⟨_, exec_voterItemCompare _ _ s⟩⟩
  | .strandBistDone _ _ => .inl ⟨rfl, rfl, .inl ⟨_, exec_strandBistDone _ _ s⟩⟩
  | .tcmCopyDone _ => .inl ⟨rfl, rfl, .inl ⟨_, exec_tcmCopyDone _ s⟩⟩
  | .unvotedResume _ => .inl ⟨rfl, rfl, .inl ⟨_, exec_unvotedResume _ s⟩⟩
  | .tcmScrub _ _ _ _ => .inl ⟨rfl, rfl, .inl ⟨_, exec_tcmScrub _ _ _ _ s⟩⟩
  | .agreeselWrite _ _ => .inl ⟨rfl, rfl, .inl ⟨_, exec_agreeselWrite _ _ s⟩⟩
  | .agreeExchangeEnd => .inl ⟨rfl, rfl, .inl ⟨_, exec_agreeExchangeEnd s⟩⟩
  | .socmdWrite _ _ => .inl ⟨rfl, rfl, .inl ⟨_, exec_socmdWrite _ _ s⟩⟩
  | .debugHalt _ => .inl ⟨rfl, rfl, .inl ⟨_, exec_debugHalt _ s⟩⟩
  | .debugStep _ => .inl ⟨rfl, rfl, .inl ⟨_, exec_debugStep _ s⟩⟩
  | .debugAbstractCommand _ => .inl ⟨rfl, rfl, .inl ⟨_, exec_debugAbstractCommand _ s⟩⟩
  | .debugResumeLead => .inl ⟨rfl, rfl, .inl ⟨_, exec_debugResumeLead s⟩⟩
  | .debugHeldRequest => .inl ⟨rfl, rfl, .inl ⟨_, exec_debugHeldRequest s⟩⟩
  | .tickWait _ _ => .inl ⟨rfl, rfl, .inl ⟨_, exec_tickWait _ _ s⟩⟩
  | .tickWaitWake _ => .inl ⟨rfl, rfl, .inl ⟨_, exec_tickWaitWake _ s⟩⟩
  | .jobPop _ _ => .inl ⟨rfl, rfl, .inr ⟨_, exec_jobPop _ _ s⟩⟩
  | .draftPairWaitExpiry _ => .inl ⟨rfl, rfl, .inl ⟨_, exec_draftPairWaitExpiry _ s⟩⟩
  | .jobPush _ _ _ _ => .inl ⟨rfl, rfl, .inl ⟨_, exec_jobPush _ _ _ _ s⟩⟩
  | .jobPair _ _ _ _ => .inl ⟨rfl, rfl, .inl ⟨_, exec_jobPair _ _ _ _ s⟩⟩
  | .jobDoneFinish _ _ => .inl ⟨rfl, rfl, .inl ⟨_, exec_jobDoneFinish _ _ s⟩⟩
  | .jobDoneAbandon _ _ => .inl ⟨rfl, rfl, .inl ⟨_, exec_jobDoneAbandon _ _ s⟩⟩
  | .jobDoneSuspend _ _ => .inl ⟨rfl, rfl, .inl ⟨_, exec_jobDoneSuspend _ _ s⟩⟩
  | .stageB _ _ _ _ => .inl ⟨rfl, rfl, .inl ⟨_, exec_stageB _ _ _ _ s⟩⟩
  | .stageH _ _ _ _ => .inl ⟨rfl, rfl, .inl ⟨_, exec_stageH _ _ _ _ s⟩⟩
  | .stageW _ _ _ _ => .inl ⟨rfl, rfl, .inl ⟨_, exec_stageW _ _ _ _ s⟩⟩
  | .loopGo _ _ _ _ _ => .inl ⟨rfl, rfl, .inl ⟨_, exec_loopGo _ _ _ _ _ s⟩⟩
  | .loopWait _ _ => .inl ⟨rfl, rfl, .inl ⟨_, exec_loopWait _ _ s⟩⟩
  | .evClaim _ _ => .inl ⟨rfl, rfl, .inl ⟨_, exec_evClaim _ _ s⟩⟩
  | .evDone _ _ _ => .inl ⟨rfl, rfl, .inl ⟨_, exec_evDone _ _ _ s⟩⟩
  | .rahMark _ _ _ _ => .inl ⟨rfl, rfl, .inl ⟨_, exec_rahMark _ _ _ _ s⟩⟩
  | .fenceI _ => .inl ⟨rfl, rfl, .inl ⟨_, exec_fenceI _ s⟩⟩
  | .overflowAppend _ => .inl ⟨rfl, rfl, .inl ⟨_, exec_overflowAppend _ s⟩⟩
  | .pairComparisonEnd => .inl ⟨rfl, rfl, .inl ⟨_, exec_pairComparisonEnd s⟩⟩
  | .runAheadPlace _ _ _ => .inl ⟨rfl, rfl, .inl ⟨_, exec_runAheadPlace _ _ _ s⟩⟩
  | .level0Place _ => .inl ⟨rfl, rfl, .inl ⟨_, exec_level0Place _ s⟩⟩
  | .sramUncorrectable _ => .inl ⟨rfl, rfl, .inl ⟨_, exec_sramUncorrectable _ s⟩⟩
  | .spindleScrub _ _ => .inl ⟨rfl, rfl, .inl ⟨_, exec_spindleScrub _ _ s⟩⟩
  | .creelUncorrectable _ _ _ => .inl ⟨rfl, rfl, .inl ⟨_, exec_creelUncorrectable _ _ _ s⟩⟩
  | .creelScrub _ => .inl ⟨rfl, rfl, .inl ⟨_, exec_creelScrub _ s⟩⟩
  | .icacheParityError _ => .inl ⟨rfl, rfl, .inl ⟨_, exec_icacheParityError _ s⟩⟩
  | .spindleDebugHalt _ => .inl ⟨rfl, rfl, .inl ⟨_, exec_spindleDebugHalt _ s⟩⟩
  | .spindleDebugStep _ => .inl ⟨rfl, rfl, .inl ⟨_, exec_spindleDebugStep _ s⟩⟩
  | .spindleDebugAbstract _ => .inl ⟨rfl, rfl, .inl ⟨_, exec_spindleDebugAbstract _ s⟩⟩
  | .spindleDebugResume _ => .inl ⟨rfl, rfl, .inl ⟨_, exec_spindleDebugResume _ s⟩⟩
  | .loadStoreAccessFault _ _ _ _ => .inl ⟨rfl, rfl, .inl ⟨_, exec_loadStoreAccessFault _ _ _ _ s⟩⟩
  | .loopEvaluation _ _ _ _ _ => .inl ⟨rfl, rfl, .inl ⟨_, exec_loopEvaluation _ _ _ _ _ s⟩⟩
  | .loopLateDiscard _ _ => .inl ⟨rfl, rfl, .inl ⟨_, exec_loopLateDiscard _ _ s⟩⟩
  | .loopDescriptorWrite _ _ _ => .inl ⟨rfl, rfl, .inl ⟨_, exec_loopDescriptorWrite _ _ _ s⟩⟩
  | .loopWOutWrite _ _ => .inl ⟨rfl, rfl, .inl ⟨_, exec_loopWOutWrite _ _ s⟩⟩
  | .loopWClear _ _ => .inl ⟨rfl, rfl, .inl ⟨_, exec_loopWClear _ _ s⟩⟩
  | .loopClearAll _ _ => .inl ⟨rfl, rfl, .inl ⟨_, exec_loopClearAll _ _ s⟩⟩
  | .remoteInputImageRx _ _ => .inl ⟨rfl, rfl, .inl ⟨_, exec_remoteInputImageRx _ _ s⟩⟩
  | .remoteMissLimit _ => .inl ⟨rfl, rfl, .inl ⟨_, exec_remoteMissLimit _ s⟩⟩
  | .remoteOutputImageRx _ _ => .inl ⟨rfl, rfl, .inl ⟨_, exec_remoteOutputImageRx _ _ s⟩⟩
  | .rstaWatchdogExpiry => .inl ⟨rfl, rfl, .inl ⟨_, exec_rstaWatchdogExpiry s⟩⟩
  | .progImageWrite _ _ _ _ => .inl ⟨rfl, rfl, .inl ⟨_, exec_progImageWrite _ _ _ _ s⟩⟩
  | .progCmdVerify _ => .inl ⟨rfl, rfl, .inl ⟨_, exec_progCmdVerify _ s⟩⟩
  | .progCmdPrepare _ => .inl ⟨rfl, rfl, .inl ⟨_, exec_progCmdPrepare _ s⟩⟩
  | .progCmdArm _ _ => .inl ⟨rfl, rfl, .inl ⟨_, exec_progCmdArm _ _ s⟩⟩
  | .progCmdCancel _ => .inl ⟨rfl, rfl, .inl ⟨_, exec_progCmdCancel _ s⟩⟩
  | .progCmdErase _ => .inl ⟨rfl, rfl, .inl ⟨_, exec_progCmdErase _ s⟩⟩
  | .variableTransfer => .inl ⟨rfl, rfl, .inl ⟨_, exec_variableTransfer s⟩⟩
  | .progChangeover => .inl ⟨rfl, rfl, .inl ⟨_, exec_progChangeover s⟩⟩
  | .retainCopy _ => .inl ⟨rfl, rfl, .inl ⟨_, exec_retainCopy _ s⟩⟩
  | .dioLevelAccepted _ _ => .inl ⟨rfl, rfl, .inl ⟨_, exec_dioLevelAccepted _ _ s⟩⟩
  | .chatterClear _ => .inl ⟨rfl, rfl, .inl ⟨_, exec_chatterClear _ s⟩⟩
  | .dioOpenWire _ _ => .inl ⟨rfl, rfl, .inl ⟨_, exec_dioOpenWire _ _ s⟩⟩
  | .stuckActive _ => .inl ⟨rfl, rfl, .inl ⟨_, exec_stuckActive _ s⟩⟩
  | .testPulseStart _ => .inl ⟨rfl, rfl, .inl ⟨_, exec_testPulseStart _ s⟩⟩
  | .pulseLowSample _ _ => .inl ⟨rfl, rfl, .inl ⟨_, exec_pulseLowSample _ _ s⟩⟩
  | .counterEdge _ _ _ => .inl ⟨rfl, rfl, .inl ⟨_, exec_counterEdge _ _ _ s⟩⟩
  | .countCmdPreset _ _ _ => .inl ⟨rfl, rfl, .inl ⟨_, exec_countCmdPreset _ _ _ s⟩⟩
  | .outputShort _ => .inl ⟨rfl, rfl, .inl ⟨_, exec_outputShort _ s⟩⟩
  | .thermalShutdown _ => .inl ⟨rfl, rfl, .inl ⟨_, exec_thermalShutdown _ s⟩⟩
  | .thermalRetry _ => .inl ⟨rfl, rfl, .inl ⟨_, exec_thermalRetry _ s⟩⟩
  | .shortClear _ => .inl ⟨rfl, rfl, .inl ⟨_, exec_shortClear _ s⟩⟩
  | .openLoad _ _ => .inl ⟨rfl, rfl, .inl ⟨_, exec_openLoad _ _ s⟩⟩
  | .externalDrive _ _ => .inl ⟨rfl, rfl, .inl ⟨_, exec_externalDrive _ _ s⟩⟩
  | .fgLow _ _ => .inl ⟨rfl, rfl, .inl ⟨_, exec_fgLow _ _ s⟩⟩
  | .fgCut _ => .inl ⟨rfl, rfl, .inl ⟨_, exec_fgCut _ s⟩⟩
  | .fgRecovery _ => .inl ⟨rfl, rfl, .inl ⟨_, exec_fgRecovery _ s⟩⟩
  | .fgHoldEnd _ => .inl ⟨rfl, rfl, .inl ⟨_, exec_fgHoldEnd _ s⟩⟩
  | .fgAck _ _ _ _ => .inl ⟨rfl, rfl, .inl ⟨_, exec_fgAck _ _ _ _ s⟩⟩
  | .fgTrip _ => .inl ⟨rfl, rfl, .inl ⟨_, exec_fgTrip _ s⟩⟩
  | .fgMissing _ _ => .inl ⟨rfl, rfl, .inl ⟨_, exec_fgMissing _ _ s⟩⟩
  | .tpOverload _ => .inl ⟨rfl, rfl, .inl ⟨_, exec_tpOverload _ s⟩⟩
  | .tpExtVoltage _ => .inl ⟨rfl, rfl, .inl ⟨_, exec_tpExtVoltage _ s⟩⟩
  | .soDarkTest _ _ _ _ => .inl ⟨rfl, rfl, .inl ⟨_, exec_soDarkTest _ _ _ _ s⟩⟩
  | .soReadbackMismatch _ _ => .inl ⟨rfl, rfl, .inl ⟨_, exec_soReadbackMismatch _ _ s⟩⟩
  | .soExtVoltage _ => .inl ⟨rfl, rfl, .inl ⟨_, exec_soExtVoltage _ s⟩⟩
  | .soOverload _ => .inl ⟨rfl, rfl, .inl ⟨_, exec_soOverload _ s⟩⟩
  | .soAck _ _ _ => .inl ⟨rfl, rfl, .inl ⟨_, exec_soAck _ _ _ s⟩⟩
  | .sdResult _ _ _ _ _ => .inl ⟨rfl, rfl, .inl ⟨_, exec_sdResult _ _ _ _ _ s⟩⟩
  | .uioOpenWireCheck _ _ => .inl ⟨rfl, rfl, .inl ⟨_, exec_uioOpenWireCheck _ _ s⟩⟩
  | .transmitterShort _ _ => .inl ⟨rfl, rfl, .inl ⟨_, exec_transmitterShort _ _ s⟩⟩
  | .namurFault _ _ _ => .inl ⟨rfl, rfl, .inl ⟨_, exec_namurFault _ _ _ s⟩⟩
  | .compliance _ _ => .inl ⟨rfl, rfl, .inl ⟨_, exec_compliance _ _ s⟩⟩
  | .failActive _ => .inl ⟨rfl, rfl, .inl ⟨_, exec_failActive _ s⟩⟩
  | .uioAck _ _ _ => .inl ⟨rfl, rfl, .inl ⟨_, exec_uioAck _ _ _ s⟩⟩
  | .passiveContactLoss _ _ => .inl ⟨rfl, rfl, .inl ⟨_, exec_passiveContactLoss _ _ s⟩⟩
  | .passiveStartUp _ => .inl ⟨rfl, rfl, .inl ⟨_, exec_passiveStartUp _ s⟩⟩
  | .thermalLimit _ _ => .inl ⟨rfl, rfl, .inl ⟨_, exec_thermalLimit _ _ s⟩⟩
  | .thermalOff _ => .inl ⟨rfl, rfl, .inl ⟨_, exec_thermalOff _ s⟩⟩
  | .uioThermalRestart _ _ => .inl ⟨rfl, rfl, .inl ⟨_, exec_uioThermalRestart _ _ s⟩⟩
  | .voutShort _ _ => .inl ⟨rfl, rfl, .inl ⟨_, exec_voutShort _ _ s⟩⟩
  | .ugSupplyLow _ => .inl ⟨rfl, rfl, .inl ⟨_, exec_ugSupplyLow _ s⟩⟩
  | .ugSupplyRecovered _ _ => .inl ⟨rfl, rfl, .inl ⟨_, exec_ugSupplyRecovered _ _ s⟩⟩
  | .hartReq _ _ _ => .inl ⟨rfl, rfl, .inl ⟨_, exec_hartReq _ _ _ s⟩⟩
  | .hartCancel _ _ _ => .inl ⟨rfl, rfl, .inl ⟨_, exec_hartCancel _ _ _ s⟩⟩
  | .hartResponseRx _ _ _ => .inl ⟨rfl, rfl, .inl ⟨_, exec_hartResponseRx _ _ _ s⟩⟩
  | .hartTimeout _ => .inl ⟨rfl, rfl, .inl ⟨_, exec_hartTimeout _ s⟩⟩
  | .hartBurstRx _ _ => .inl ⟨rfl, rfl, .inl ⟨_, exec_hartBurstRx _ _ s⟩⟩
  | .hartIdentifyPoll _ => .inl ⟨rfl, rfl, .inl ⟨_, exec_hartIdentifyPoll _ s⟩⟩
  | .hartOtherMasterFrameRx _ _ => .inl ⟨rfl, rfl, .inl ⟨_, exec_hartOtherMasterFrameRx _ _ s⟩⟩
  | .sinDiscrepancy _ => .inl ⟨rfl, rfl, .inl ⟨_, exec_sinDiscrepancy _ s⟩⟩
  | .safetyCrcCheck => .inl ⟨rfl, rfl, .inl ⟨_, exec_safetyCrcCheck s⟩⟩
  | .axisFault _ => .inl ⟨rfl, rfl, .inl ⟨_, exec_axisFault _ s⟩⟩
  | .scrimCopyRx _ _ => .inl ⟨rfl, rfl, .inl ⟨_, exec_scrimCopyRx _ _ s⟩⟩
  | .scrimSkewExpiry _ => .inl ⟨rfl, rfl, .inl ⟨_, exec_scrimSkewExpiry _ s⟩⟩
  | .scrimWatchdog _ => .inl ⟨rfl, rfl, .inl ⟨_, exec_scrimWatchdog _ s⟩⟩
  | .pairingIdentityExchange _ => .inl ⟨rfl, rfl, .inl ⟨_, exec_pairingIdentityExchange _ s⟩⟩
  | .activeToggleStop => .inl ⟨rfl, rfl, .inl ⟨_, exec_activeToggleStop s⟩⟩
  | .takeoverOnLoss _ => .inl ⟨rfl, rfl, .inl ⟨_, exec_takeoverOnLoss _ s⟩⟩
  | .tiebreak => .inl ⟨rfl, rfl, .inl ⟨_, exec_tiebreak s⟩⟩
  | .laneDown _ => .inl ⟨rfl, rfl, .inl ⟨_, exec_laneDown _ s⟩⟩
  | .laneUp _ => .inl ⟨rfl, rfl, .inl ⟨_, exec_laneUp _ s⟩⟩
  | .partnerTogglingDetected => .inl ⟨rfl, rfl, .inl ⟨_, exec_partnerTogglingDetected s⟩⟩
  | .releaseRx _ => .inl ⟨rfl, rfl, .inl ⟨_, exec_releaseRx _ s⟩⟩
  | .stepRecordRx _ => .inl ⟨rfl, rfl, .inl ⟨_, exec_stepRecordRx _ s⟩⟩
  | .recordWaitExpiry => .inl ⟨rfl, rfl, .inl ⟨_, exec_recordWaitExpiry s⟩⟩
  | .resyncAdopt _ => .inl ⟨rfl, rfl, .inl ⟨_, exec_resyncAdopt _ s⟩⟩
  | .partnerDetection => .inl ⟨rfl, rfl, .inl ⟨_, exec_partnerDetection s⟩⟩
  | .startWaitExpiry => .inl ⟨rfl, rfl, .inl ⟨_, exec_startWaitExpiry s⟩⟩
  | .creelTransferAdopt _ => .inl ⟨rfl, rfl, .inl ⟨_, exec_creelTransferAdopt _ s⟩⟩
  | .moduleHeartbeatSend => .inl ⟨rfl, rfl, .inl ⟨_, exec_moduleHeartbeatSend s⟩⟩
  | .witnessHeartbeatSend => .inl ⟨rfl, rfl, .inl ⟨_, exec_witnessHeartbeatSend s⟩⟩
  | .moduleHeartbeatRx _ _ => .inl ⟨rfl, rfl, .inl ⟨_, exec_moduleHeartbeatRx _ _ s⟩⟩
  | .witnessHeartbeatRx _ _ => .inl ⟨rfl, rfl, .inl ⟨_, exec_witnessHeartbeatRx _ _ s⟩⟩
  | .takeOrderRx _ _ => .inl ⟨rfl, rfl, .inl ⟨_, exec_takeOrderRx _ _ s⟩⟩
  | .releaseOrderRx _ _ _ => .inl ⟨rfl, rfl, .inl ⟨_, exec_releaseOrderRx _ _ _ s⟩⟩
  | .orderAckRx _ _ => .inl ⟨rfl, rfl, .inl ⟨_, exec_orderAckRx _ _ s⟩⟩
  | .takeAckRx => .inl ⟨rfl, rfl, .inl ⟨_, exec_takeAckRx s⟩⟩
  | .takeNakRx => .inl ⟨rfl, rfl, .inl ⟨_, exec_takeNakRx s⟩⟩
  | .witnessLost => .inl ⟨rfl, rfl, .inl ⟨_, exec_witnessLost s⟩⟩
  | .returnRequest => .inl ⟨rfl, rfl, .inl ⟨_, exec_returnRequest s⟩⟩
  | .handoverReqLapse => .inl ⟨rfl, rfl, .inl ⟨_, exec_handoverReqLapse s⟩⟩
  | .pairCmdHandover _ => .inl ⟨rfl, rfl, .inl ⟨_, exec_pairCmdHandover _ s⟩⟩
  | .pairCmdResync _ => .inl ⟨rfl, rfl, .inl ⟨_, exec_pairCmdResync _ s⟩⟩
  | .pairCmdClearUnfit _ => .inl ⟨rfl, rfl, .inl ⟨_, exec_pairCmdClearUnfit _ s⟩⟩
  | .portLinkChange _ _ _ => .inl ⟨rfl, rfl, .inl ⟨_, exec_portLinkChange _ _ _ s⟩⟩
  | .frameForward _ _ _ _ _ => .inl ⟨rfl, rfl, .inl ⟨_, exec_frameForward _ _ _ _ _ s⟩⟩
  | .ptpAnnounceRx _ _ _ => .inl ⟨rfl, rfl, .inl ⟨_, exec_ptpAnnounceRx _ _ _ s⟩⟩
  | .ptpDelayRespRx _ _ => .inl ⟨rfl, rfl, .inl ⟨_, exec_ptpDelayRespRx _ _ s⟩⟩
  | .ptpDelayReqSend _ => .inl ⟨rfl, rfl, .inl ⟨_, exec_ptpDelayReqSend _ s⟩⟩
  | .ptpFollowTimeout => .inl ⟨rfl, rfl, .inl ⟨_, exec_ptpFollowTimeout s⟩⟩
  | .ptpMasterSync _ => .inl ⟨rfl, rfl, .inl ⟨_, exec_ptpMasterSync _ s⟩⟩
  | .ptpAnnounceReceiptTimeout _ => .inl ⟨rfl, rfl, .inl ⟨_, exec_ptpAnnounceReceiptTimeout _ s⟩⟩
  | .ptpDelayReqRx _ _ _ _ _ _ => .inl ⟨rfl, rfl, .inl ⟨_, exec_ptpDelayReqRx _ _ _ _ _ _ s⟩⟩
  | .ptpMasterAnnounce _ => .inl ⟨rfl, rfl, .inl ⟨_, exec_ptpMasterAnnounce _ s⟩⟩
  | .mrpTopologyChangeRx _ _ => .inl ⟨rfl, rfl, .inl ⟨_, exec_mrpTopologyChangeRx _ _ s⟩⟩
  | .mrpFlush _ => .inl ⟨rfl, rfl, .inl ⟨_, exec_mrpFlush _ s⟩⟩
  | .arpRequestRx _ _ _ _ => .inl ⟨rfl, rfl, .inl ⟨_, exec_arpRequestRx _ _ _ _ s⟩⟩
  | .icmpEchoRx _ _ _ _ _ _ => .inl ⟨rfl, rfl, .inl ⟨_, exec_icmpEchoRx _ _ _ _ _ _ s⟩⟩
  | .frameReady => .inl ⟨rfl, rfl, .inl ⟨_, exec_frameReady s⟩⟩
  | .launch _ => .inl ⟨rfl, rfl, .inl ⟨_, exec_launch _ s⟩⟩
  | .appFrameRx _ _ _ _ => .inl ⟨rfl, rfl, .inl ⟨_, exec_appFrameRx _ _ _ _ s⟩⟩
  | .rxObjectAged _ => .inl ⟨rfl, rfl, .inl ⟨_, exec_rxObjectAged _ s⟩⟩
  | .fdbEntryAgeing _ _ => .inl ⟨rfl, rfl, .inl ⟨_, exec_fdbEntryAgeing _ _ s⟩⟩
  | .dsOpen _ _ _ => .inl ⟨rfl, rfl, .inl ⟨_, exec_dsOpen _ _ _ s⟩⟩
  | .dsClose _ _ => .inl ⟨rfl, rfl, .inl ⟨_, exec_dsClose _ _ s⟩⟩
  | .dsAckOnly _ _ => .inl ⟨rfl, rfl, .inl ⟨_, exec_dsAckOnly _ _ s⟩⟩
  | .dsDatagram _ _ _ => .inl ⟨rfl, rfl, .inl ⟨_, exec_dsDatagram _ _ _ s⟩⟩
  | .dsRetransmitTimeout _ => .inl ⟨rfl, rfl, .inl ⟨_, exec_dsRetransmitTimeout _ s⟩⟩
  | .dsIdleTimeout _ => .inl ⟨rfl, rfl, .inl ⟨_, exec_dsIdleTimeout _ s⟩⟩
  | .tlsHandshakeTimeout _ => .inl ⟨rfl, rfl, .inl ⟨_, exec_tlsHandshakeTimeout _ s⟩⟩
  | .dsRead _ _ => .inl ⟨rfl, rfl, .inl ⟨_, exec_dsRead _ _ s⟩⟩
  | .dsWrite _ _ => .inl ⟨rfl, rfl, .inl ⟨_, exec_dsWrite _ _ s⟩⟩
  | .dsReadSegment _ _ => .inl ⟨rfl, rfl, .inl ⟨_, exec_dsReadSegment _ _ s⟩⟩
  | .dsWriteSegment _ _ => .inl ⟨rfl, rfl, .inl ⟨_, exec_dsWriteSegment _ _ s⟩⟩
  | .canLaunch _ _ => .inl ⟨rfl, rfl, .inl ⟨_, exec_canLaunch _ _ s⟩⟩
  | .canFrameTxEnd _ _ => .inl ⟨rfl, rfl, .inl ⟨_, exec_canFrameTxEnd _ _ s⟩⟩
  | .canArbitrationLost _ => .inl ⟨rfl, rfl, .inl ⟨_, exec_canArbitrationLost _ s⟩⟩
  | .canBusError _ _ _ _ => .inl ⟨rfl, rfl, .inl ⟨_, exec_canBusError _ _ _ _ s⟩⟩
  | .canBusoffRecovery _ => .inl ⟨rfl, rfl, .inl ⟨_, exec_canBusoffRecovery _ s⟩⟩
  | .canIntegrationComplete _ => .inl ⟨rfl, rfl, .inl ⟨_, exec_canIntegrationComplete _ s⟩⟩
  | .canTxbCancel _ _ _ => .inl ⟨rfl, rfl, .inl ⟨_, exec_canTxbCancel _ _ _ s⟩⟩
  | .canFrameRx _ _ _ => .inl ⟨rfl, rfl, .inl ⟨_, exec_canFrameRx _ _ _ s⟩⟩
  | .canRxObjectAged _ => .inl ⟨rfl, rfl, .inl ⟨_, exec_canRxObjectAged _ s⟩⟩
  | .canQAck _ _ _ => .inl ⟨rfl, rfl, .inl ⟨_, exec_canQAck _ _ _ s⟩⟩
  | .ttReferenceLaunch _ _ => .inl ⟨rfl, rfl, .inl ⟨_, exec_ttReferenceLaunch _ _ s⟩⟩
  | .ttReferenceRx _ _ _ => .inl ⟨rfl, rfl, .inl ⟨_, exec_ttReferenceRx _ _ _ s⟩⟩
  | .ttReferenceMissed _ => .inl ⟨rfl, rfl, .inl ⟨_, exec_ttReferenceMissed _ s⟩⟩
  | .ttFollowerLost _ => .inl ⟨rfl, rfl, .inl ⟨_, exec_ttFollowerLost _ s⟩⟩
  | .canCmdSleep _ _ => .inl ⟨rfl, rfl, .inl ⟨_, exec_canCmdSleep _ _ s⟩⟩
  | .canSleepEntered _ => .inl ⟨rfl, rfl, .inl ⟨_, exec_canSleepEntered _ s⟩⟩
  | .canCmdWake _ _ => .inl ⟨rfl, rfl, .inl ⟨_, exec_canCmdWake _ _ s⟩⟩
  | .canBusWake _ _ => .inl ⟨rfl, rfl, .inl ⟨_, exec_canBusWake _ _ s⟩⟩
  | .canCmdRecover _ _ => .inl ⟨rfl, rfl, .inl ⟨_, exec_canCmdRecover _ _ s⟩⟩
  | .sdoInitiateDownload _ _ => .inl ⟨rfl, rfl, .inl ⟨_, exec_sdoInitiateDownload _ _ s⟩⟩
  | .sdoDownloadSegment _ _ => .inl ⟨rfl, rfl, .inl ⟨_, exec_sdoDownloadSegment _ _ s⟩⟩
  | .sdoInitiateUpload _ _ => .inl ⟨rfl, rfl, .inl ⟨_, exec_sdoInitiateUpload _ _ s⟩⟩
  | .sdoUploadSegment _ _ => .inl ⟨rfl, rfl, .inl ⟨_, exec_sdoUploadSegment _ _ s⟩⟩
  | .sdoAbort _ _ => .inl ⟨rfl, rfl, .inl ⟨_, exec_sdoAbort _ _ s⟩⟩
  | .sdoBlockRequest _ _ => .inl ⟨rfl, rfl, .inl ⟨_, exec_sdoBlockRequest _ _ s⟩⟩
  | .sdoSegmentTimeout _ => .inl ⟨rfl, rfl, .inl ⟨_, exec_sdoSegmentTimeout _ s⟩⟩
  | .evSourceChange _ _ => .inl ⟨rfl, rfl, .inl ⟨_, exec_evSourceChange _ _ s⟩⟩
  | .evCoalWindowEnd _ => .inl ⟨rfl, rfl, .inl ⟨_, exec_evCoalWindowEnd _ s⟩⟩
  | .evRaise _ _ _ => .inl ⟨rfl, rfl, .inl ⟨_, exec_evRaise _ _ _ s⟩⟩
  | .evClear _ _ _ => .inl ⟨rfl, rfl, .inl ⟨_, exec_evClear _ _ _ s⟩⟩
  | .evMaskWrite _ _ _ => .inl ⟨rfl, rfl, .inl ⟨_, exec_evMaskWrite _ _ _ s⟩⟩
  | .evRetarget _ _ _ => .inl ⟨rfl, rfl, .inl ⟨_, exec_evRetarget _ _ _ s⟩⟩
  | .evCfgWrite _ _ _ => .inl ⟨rfl, rfl, .inl ⟨_, exec_evCfgWrite _ _ _ s⟩⟩
  | .evInterruptTake _ _ _ => .inl ⟨rfl, rfl, .inl ⟨_, exec_evInterruptTake _ _ _ s⟩⟩
  | .evPlyClaim => .inl ⟨rfl, rfl, .inl ⟨_, exec_evPlyClaim s⟩⟩
  | .evPlyComplete _ => .inl ⟨rfl, rfl, .inl ⟨_, exec_evPlyComplete _ s⟩⟩
  | .skeinRequest _ _ _ _ => .inl ⟨rfl, rfl, .inl ⟨_, exec_skeinRequest _ _ _ _ s⟩⟩
  | .skeinWrite => .inr (.inl (.inl ⟨rfl, rfl⟩))
  | .skeinRefill _ => .inr (.inl (.inr (.inl ⟨_, rfl, rfl⟩)))
  | .skeinMirrorProgram _ => .inr (.inl (.inr (.inr (.inl ⟨_, rfl, rfl⟩))))
  | .skeinFlashErase _ => .inr (.inl (.inr (.inr (.inr ⟨_, rfl, rfl⟩))))
  | .skeinRead _ => .inl ⟨rfl, rfl, .inl ⟨_, exec_skeinRead _ s⟩⟩
  | .dictionaryWrite _ _ _ => .inl ⟨rfl, rfl, .inl ⟨_, exec_dictionaryWrite _ _ _ s⟩⟩
  | .winWideLoad _ _ => .inl ⟨rfl, rfl, .inl ⟨_, exec_winWideLoad _ _ s⟩⟩
  | .winWideStore _ _ _ => .inl ⟨rfl, rfl, .inl ⟨_, exec_winWideStore _ _ _ s⟩⟩
  | .winDomainLoad _ _ => .inl ⟨rfl, rfl, .inl ⟨_, exec_winDomainLoad _ _ s⟩⟩
  | .winDomainStore _ _ _ => .inl ⟨rfl, rfl, .inl ⟨_, exec_winDomainStore _ _ _ s⟩⟩
  | .domainLockTimeout _ _ => .inl ⟨rfl, rfl, .inl ⟨_, exec_domainLockTimeout _ _ s⟩⟩
  | .configRecordWrite => .inl ⟨rfl, rfl, .inl ⟨_, exec_configRecordWrite s⟩⟩
  | .csStageWrite _ _ _ => .inl ⟨rfl, rfl, .inl ⟨_, exec_csStageWrite _ _ _ s⟩⟩
  | .csCmdSeal _ => .inl ⟨rfl, rfl, .inl ⟨_, exec_csCmdSeal _ s⟩⟩
  | .csCmdAbandon _ => .inl ⟨rfl, rfl, .inl ⟨_, exec_csCmdAbandon _ s⟩⟩
  | .csSign _ _ => .inl ⟨rfl, rfl, .inl ⟨_, exec_csSign _ _ s⟩⟩
  | .csWindowExpiry => .inl ⟨rfl, rfl, .inl ⟨_, exec_csWindowExpiry s⟩⟩
  | .csIdleAbandon => .inl ⟨rfl, rfl, .inl ⟨_, exec_csIdleAbandon s⟩⟩
  | .credentialLockExpiry _ => .inl ⟨rfl, rfl, .inl ⟨_, exec_credentialLockExpiry _ s⟩⟩
  | .secCmdEndCommissioning _ => .inl ⟨rfl, rfl, .inl ⟨_, exec_secCmdEndCommissioning _ s⟩⟩
  | .commissioningExpiry => .inl ⟨rfl, rfl, .inl ⟨_, exec_commissioningExpiry s⟩⟩
  | .stateCmdStop _ => .inl ⟨rfl, rfl, .inl ⟨_, exec_stateCmdStop _ s⟩⟩
  | .stateCmdRun _ => .inl ⟨rfl, rfl, .inl ⟨_, exec_stateCmdRun _ s⟩⟩
  | .reactionQueuedStart => .inl ⟨rfl, rfl, .inl ⟨_, exec_reactionQueuedStart s⟩⟩
  | .safeResume => .inl ⟨rfl, rfl, .inl ⟨_, exec_safeResume s⟩⟩
  | .healthEvaluation _ => .inl ⟨rfl, rfl, .inl ⟨_, exec_healthEvaluation _ s⟩⟩
  | .logicSupplyLow _ => .inl ⟨rfl, rfl, .inl ⟨_, exec_logicSupplyLow _ s⟩⟩
  | .logicSupplyOvervoltage _ => .inl ⟨rfl, rfl, .inl ⟨_, exec_logicSupplyOvervoltage _ s⟩⟩
  | .powerFail _ _ => .inr (.inr ⟨rfl, _, exec_powerFail _ _ s⟩)
  | .logicSupplyRise _ _ => .inr (.inr ⟨rfl, _, exec_logicSupplyRise _ _ s⟩)
  | .resetNAssert => .inr (.inr ⟨rfl, _, exec_resetNAssert s⟩)
  | .resetNRelease _ _ => .inr (.inr ⟨rfl, _, exec_resetNRelease _ _ s⟩)
  | .vbatSupervisorTrip => .inr (.inr ⟨rfl, _, exec_vbatSupervisorTrip s⟩)
  | .vbatRestore => .inr (.inr ⟨rfl, _, exec_vbatRestore s⟩)
  | .rtcWrite => .inl ⟨rfl, rfl, .inl ⟨_, exec_rtcWrite s⟩⟩
  | .dieOvertemperature => .inl ⟨rfl, rfl, .inl ⟨_, exec_dieOvertemperature s⟩⟩

/-- The events of the supplies, of RESET_N and of the vault domain. -/
theorem power_cases {i : Instr} (h : powerCommand i = true) :
    (∃ n rtc, i = .powerFail n rtc) ∨ (∃ x b, i = .logicSupplyRise x b) ∨ i = .resetNAssert ∨
      (∃ x t, i = .resetNRelease x t) ∨ i = .vbatSupervisorTrip ∨ i = .vbatRestore := by
  unfold powerCommand at h
  split at h
  · exact .inl ⟨_, _, rfl⟩
  · exact .inr (.inl ⟨_, _, rfl⟩)
  · exact .inr (.inr (.inl rfl))
  · exact .inr (.inr (.inr (.inl ⟨_, _, rfl⟩)))
  · exact .inr (.inr (.inr (.inr (.inl rfl))))
  · exact .inr (.inr (.inr (.inr (.inr rfl))))
  · cases h

end Sys2Proof.Machine
end

