-- ==== Sys2Proof/Laws/Memory.lean ====
section
/-! SUPPORT. Memory: a read after a write, and the canonical form kept by every operation that writes. Values by key: the
same laws for the dictionary registers. -/

namespace Sys2Proof.Machine

/-! ## Reading what was written -/

/-- Addresses below the first listed one read blank. -/
theorem Mem.get_below {lo : Nat} {m : Mem} (h : Mem.wfAbove lo m = true) {x : Nat} (hx : x < lo) :
    Mem.get m x = Mem.blank := by
  cases m with
  | nil => rfl
  | cons p m =>
    obtain ⟨a, b⟩ := p
    simp only [Mem.wfAbove, Bool.and_eq_true, decide_eq_true_eq] at h
    have h1 := h.1.1
    have : ¬ a = x := by omega
    have : x < a := by omega
    simp [Mem.get, *]

theorem Mem.get_ins_same (m : Mem) (x : Nat) (v : Byte) : Mem.get (Mem.ins m x v) x = v := by
  induction m with
  | nil => simp [Mem.ins, Mem.get]
  | cons p m ih =>
    obtain ⟨a, b⟩ := p
    simp only [Mem.ins]
    split
    · simp [Mem.get]
    · split
      · simp [Mem.get]
      · have h1 : ¬ a = x := by assumption
        have h2 : ¬ x < a := by assumption
        simp [Mem.get, h1, h2, ih]

theorem Mem.get_ins_other (m : Mem) {x y : Nat} (v : Byte) (h : y ≠ x) : Mem.get (Mem.ins m x v) y = Mem.get m y := by
  induction m with
  | nil =>
    simp only [Mem.ins, Mem.get]
    split
    · omega
    · split <;> rfl
  | cons p m ih =>
    obtain ⟨a, b⟩ := p
    simp only [Mem.ins]
    split
    · subst a; simp [Mem.get, Ne.symm h]
    · split
      · have h1 : ¬ x = y := Ne.symm h
        simp only [Mem.get, h1, if_false]
        by_cases h2 : y < x
        · have : ¬ a = y := by omega
          have : y < a := by omega
          simp [*]
        · simp [h2]
      · simp only [Mem.get, ih]

theorem Mem.get_del_same {m : Mem} {lo : Nat} (h : Mem.wfAbove lo m = true) (x : Nat) :
    Mem.get (Mem.del m x) x = Mem.blank := by
  induction m generalizing lo with
  | nil => rfl
  | cons p m ih =>
    obtain ⟨a, b⟩ := p
    simp only [Mem.wfAbove, Bool.and_eq_true, decide_eq_true_eq] at h
    simp only [Mem.del]
    split
    · subst a; exact Mem.get_below h.2 (by omega)
    · split
      · have h1 : ¬ a = x := by assumption
        have h2 : x < a := by assumption
        simp [Mem.get, h1, h2]
      · have h1 : ¬ a = x := by assumption
        have h2 : ¬ x < a := by assumption
        simp [Mem.get, h1, h2, ih h.2]

theorem Mem.get_del_other {m : Mem} {lo : Nat} (hw : Mem.wfAbove lo m = true) {x y : Nat} (h : y ≠ x) :
    Mem.get (Mem.del m x) y = Mem.get m y := by
  induction m generalizing lo with
  | nil => rfl
  | cons p m ih =>
    obtain ⟨a, b⟩ := p
    simp only [Mem.wfAbove, Bool.and_eq_true, decide_eq_true_eq] at hw
    simp only [Mem.del]
    split
    · subst a
      simp only [Mem.get, Ne.symm h, if_false]
      by_cases h2 : y < x
      · simp only [h2, if_true]; exact Mem.get_below hw.2 (by omega)
      · simp [h2]
    · split
      · rfl
      · simp only [Mem.get, ih hw.2]

/-- A byte written is read back. -/
theorem Mem.get_put_same {m : Mem} (h : Memory.wf m = true) (x : Nat) (v : Byte) : Mem.get (Mem.put m x v) x = v := by
  unfold Mem.put
  split
  · subst v; exact Mem.get_del_same h x
  · exact Mem.get_ins_same m x v

/-- A write leaves every other address alone. -/
theorem Mem.get_put_other {m : Mem} (hw : Memory.wf m = true) {x y : Nat} (v : Byte) (h : y ≠ x) :
    Mem.get (Mem.put m x v) y = Mem.get m y := by
  unfold Mem.put
  split
  · exact Mem.get_del_other hw h
  · exact Mem.get_ins_other m v h

/-! ## The canonical form -/

theorem Mem.wfAbove_le {lo hi : Nat} {m : Mem} (h : Mem.wfAbove hi m = true) (hl : lo ≤ hi) : Mem.wfAbove lo m = true := by
  cases m with
  | nil => rfl
  | cons p m =>
    obtain ⟨a, b⟩ := p
    simp only [Mem.wfAbove, Bool.and_eq_true, decide_eq_true_eq] at h ⊢
    exact ⟨⟨by omega, h.1.2⟩, h.2⟩

theorem Mem.wfAbove_ins {lo : Nat} {m : Mem} (h : Mem.wfAbove lo m = true) {x : Nat} (hx : lo ≤ x) {v : Byte}
    (hv : v ≠ Mem.blank) : Mem.wfAbove lo (Mem.ins m x v) = true := by
  induction m generalizing lo with
  | nil => simp [Mem.ins, Mem.wfAbove, hx, hv]
  | cons p m ih =>
    obtain ⟨a, b⟩ := p
    simp only [Mem.wfAbove, Bool.and_eq_true, decide_eq_true_eq] at h
    simp only [Mem.ins]
    split
    · subst a; simp [Mem.wfAbove, hx, hv, h.2]
    · split
      · have h2 : x < a := by assumption
        simp only [Mem.wfAbove, Bool.and_eq_true, decide_eq_true_eq]
        exact ⟨⟨hx, by simp [hv]⟩, ⟨⟨by omega, h.1.2⟩, h.2⟩⟩
      · have h1 : ¬ a = x := by assumption
        have h2 : ¬ x < a := by assumption
        simp only [Mem.wfAbove, Bool.and_eq_true, decide_eq_true_eq]
        exact ⟨h.1, ih h.2 (by omega)⟩

theorem Mem.wfAbove_del {lo : Nat} {m : Mem} (h : Mem.wfAbove lo m = true) (x : Nat) : Mem.wfAbove lo (Mem.del m x) = true := by
  induction m generalizing lo with
  | nil => rfl
  | cons p m ih =>
    obtain ⟨a, b⟩ := p
    have h' := h
    simp only [Mem.wfAbove, Bool.and_eq_true, decide_eq_true_eq] at h
    simp only [Mem.del]
    split
    · exact Mem.wfAbove_le h.2 (by omega)
    · split
      · exact h'
      · simp only [Mem.wfAbove, Bool.and_eq_true, decide_eq_true_eq]
        exact ⟨h.1, ih h.2⟩

/-- One byte written. -/
theorem Mem.wf_put {m : Mem} (h : Memory.wf m = true) (x : Nat) (v : Byte) : Memory.wf (Mem.put m x v) = true := by
  unfold Mem.put
  split
  · exact Mem.wfAbove_del h x
  · exact Mem.wfAbove_ins h (Nat.zero_le x) (by assumption)

/-- Bytes written. -/
theorem Mem.wf_write {m : Mem} (h : Memory.wf m = true) (x : Nat) (bs : Bytes) : Memory.wf (Mem.write m x bs) = true := by
  induction bs generalizing m x with
  | nil => exact h
  | cons b bs ih => exact ih (Mem.wf_put h x b) (x + 1)

/-- A word written. -/
theorem Mem.wf_putWord {m : Mem} (h : Memory.wf m = true) (x n v : Nat) : Memory.wf (Mem.putWord m x n v) = true :=
  Mem.wf_write h x _

/-- A masked store of the voter. -/
theorem Mem.wf_store {m : Mem} (h : Memory.wf m = true) (i : ItemCopy) : Memory.wf (Mem.store m i) = true := by
  unfold Mem.store
  generalize storeBytes i = l
  induction l generalizing m with
  | nil => exact h
  | cons p l ih => exact ih (Mem.wf_put h p.1 p.2)

/-! ## Registers by key -/

theorem Vals.get_ins_same (m : Vals) (k v : Nat) : Vals.get? (Vals.ins m k v) k = some v := by
  induction m with
  | nil => simp [Vals.ins, Vals.get?]
  | cons p m ih =>
    obtain ⟨a, b⟩ := p
    simp only [Vals.ins]
    split
    · simp [Vals.get?]
    · split
      · simp [Vals.get?]
      · have h1 : ¬ a = k := by assumption
        have h2 : ¬ k < a := by assumption
        simp [Vals.get?, h1, h2, ih]

theorem Vals.get_ins_other (m : Vals) {k j : Nat} (v : Nat) (h : j ≠ k) : Vals.get? (Vals.ins m k v) j = Vals.get? m j := by
  induction m with
  | nil =>
    simp only [Vals.ins, Vals.get?]
    split
    · omega
    · split <;> rfl
  | cons p m ih =>
    obtain ⟨a, b⟩ := p
    simp only [Vals.ins]
    split
    · subst a; simp [Vals.get?, Ne.symm h]
    · split
      · have h1 : ¬ k = j := Ne.symm h
        simp only [Vals.get?, h1, if_false]
        by_cases h2 : j < k
        · have : ¬ a = j := by omega
          have : j < a := by omega
          simp [*]
        · simp [h2]
      · simp only [Vals.get?, ih]

/-- A register reads as what was written to it. -/
@[simp] theorem Core.rd_wr_same (c : Core) (k v : Nat) : (c.wr k v).rd k = v := by
  simp [Core.rd, Core.wr, Vals.get_ins_same]

/-- A write leaves every other register alone. -/
theorem Core.rd_wr_other (c : Core) {k j : Nat} (v : Nat) (h : j ≠ k) : (c.wr k v).rd j = c.rd j := by
  simp [Core.rd, Core.wr, Vals.get_ins_other _ _ h]

end Sys2Proof.Machine
end

