-- ==== Sys2Proof/Laws/Requests.lean ====
section
/-! SUPPORT. A write by a path: what passes the checks of R465, and what is then done. -/

namespace Sys2Proof.Machine

/-! ## Bytes -/

theorem leNat_leBytes (n v : Nat) (h : v < 256 ^ n) : leNat (leBytes n v) = v := by
  induction n generalizing v with
  | zero => simp at h; subst h; rfl
  | succ n ih =>
    have h2 : v / 256 < 256 ^ n := by
      rw [Nat.div_lt_iff_lt_mul (by decide)]; rw [pow_succ] at h; exact h
    simp only [leBytes, leNat, ih _ h2, BitVec.toNat_ofNat]
    omega

theorem leBytes_length (n v : Nat) : (leBytes n v).length = n := by
  induction n generalizing v with
  | zero => rfl
  | succ n ih => simp [leBytes, ih]

theorem beNat_beBytes (n v : Nat) (h : v < 256 ^ n) : beNat (beBytes n v) = v := by
  simp [beNat, beBytes, leNat_leBytes n v h]

/-! ## The checks -/

/-- A write that passes the checks names an entry of the table, if it is no entry of a remote station or of the process
image. -/
theorem Core.checkWrite_row {c : Core} {p : Path} {k v : Nat} {r : OdRow} (h : c.checkWrite p k v = .ok r) :
    c.entry? k = some r := by
  unfold Core.checkWrite at h
  split at h
  · cases h
  · rename_i r' he
    rw [he]
    simp only [ite_eq_iff, reduceCtorEq, and_false, false_or, Except.ok.injEq] at h
    simp [h.2.2.2.2]

theorem Core.checkRead_row {c : Core} {p : Path} {k : Nat} {r : OdRow} (h : c.checkRead p k = .ok r) :
    c.entry? k = some r := by
  unfold Core.checkRead at h
  split at h
  · cases h
  · rename_i r' he
    rw [he]
    simp only [ite_eq_iff, reduceCtorEq, and_false, or_false, Except.ok.injEq] at h
    rw [h.2]

theorem Core.entry_row {c : Core} {k : Nat} {r : OdRow} (h : c.entry? k = some r) (hk : k / 256 < 0x6000 ∨ 0x7FFF < k / 256) :
    odRow? k = some r := by
  unfold Core.entry? at h
  dsimp only at h
  split at h
  · rename_i r' hr
    have : odRow? k = some r' := by
      unfold Core.row? at hr
      split at hr
      · cases hr
      · exact hr
    split at h
    · split at h
      · cases h
      · cases h; exact this
    · cases h; exact this
  · have h1 : between 0x6800 (k / 256) 0x6FFF = false := by simp [between]; omega
    have h2 : between 0x6000 (k / 256) 0x7FFF = false := by simp [between]; omega
    simp [h1, h2] at h

/-- A number as each path carries it is read back. -/
theorem decodeValue_pathBytes {p : Path} {k v : Nat} {r : OdRow} (hr : odRow? k = some r)
    (ht : r.type = .u8 ∨ r.type = .u16 ∨ r.type = .u32 ∨ r.type = .real32) (hv : v < 2 ^ r.type.width) :
    decodeValue r.type p.wire (pathBytes p k v) = .ok v := by
  have h8 : 2 ^ r.type.width = 256 ^ r.type.bytes ∧ r.type.signed = false ∧ r.type.width ≠ 64 ∧ r.type ≠ .bool ∧
      2 ^ r.type.width ≤ 256 ^ 4 := by
    rcases ht with h | h | h | h <;> simp [h, OdType.width, OdType.bytes, OdType.signed]
  obtain ⟨h1, h2, h3, h4, h5⟩ := h8
  have hb := leNat_leBytes r.type.bytes v (h1 ▸ hv)
  have hb' := beNat_beBytes r.type.bytes v (h1 ▸ hv)
  have hw := leNat_leBytes 4 v (Nat.lt_of_lt_of_le hv h5)
  cases p with
  | session n => simpa [pathBytes, Path.wire, hr, decodeValue, leBytes_length, beBytes, h4] using hb'
  | _ => simp [pathBytes, Path.wire, hr, decodeValue, leBytes_length, hb, h2, h3, h4, hw, hv]

/-! ## Two signers (R482, R484) -/

/-- Whether two credentials can sign rests on the credentials and the rights of the roles alone. -/
theorem Core.twoSigners_agree {c d : Core} (h : ∀ k, k < 0x2E3000 → c.rd k = d.rd k) (hd : ∀ k, c.dom k = d.dom k) :
    c.twoSigners = d.twoSigners := by
  have hr : ∀ i, i < 16 → c.credRole i = d.credRole i := fun i hi => h _ (by unfold Od.CRED_ROLE; omega)
  have he : ∀ i, i < 16 → c.credEnabled i = d.credEnabled i := fun i hi => by
    unfold Core.credEnabled
    rw [hr i hi, hd, h (Od.CRED_ENABLE i) (by unfold Od.CRED_ENABLE; omega), h (Od.CRED_ID i) (by unfold Od.CRED_ID; omega)]
  have hg : ∀ role, c.roleRight role 5 = d.roleRight role 5 := fun role => by
    unfold Core.roleRight Core.bit
    cases hb : between 1 role 5
    · rfl
    · have hb : 1 ≤ role ∧ role ≤ 5 := by simpa [between] using hb
      rw [h (Od.SEC_ROLE_RIGHTS (role - 1)) (by unfold Od.SEC_ROLE_RIGHTS; omega)]
  have hs : (c.enabledCreds.filter fun i => c.roleRight (c.credRole i) 5) =
      d.enabledCreds.filter fun i => d.roleRight (d.credRole i) 5 := by
    have h1 : c.enabledCreds = d.enabledCreds := List.filter_congr fun i hi => he i (by simpa using hi)
    rw [h1]
    refine List.filter_congr fun i hi => ?_
    have hi : i < 16 := by simpa [Core.enabledCreds] using (List.mem_filter.mp hi).1
    rw [hr i hi, hg]
  unfold Core.twoSigners
  dsimp only
  rw [hs]
  have hlt : ∀ i, i ∈ (d.enabledCreds.filter fun i => d.roleRight (d.credRole i) 5) → i < 16 := fun i hi => by
    simpa [Core.enabledCreds] using (List.mem_filter.mp (List.mem_filter.mp hi).1).1
  rw [Bool.eq_iff_iff]
  simp only [List.any_eq_true]
  constructor
  · rintro ⟨i, hi, j, hj, hij⟩
    exact ⟨i, hi, j, hj, by rw [← hr i (hlt i hi), ← hr j (hlt j hj)]; exact hij⟩
  · rintro ⟨i, hi, j, hj, hij⟩
    exact ⟨i, hi, j, hj, by rw [hr i (hlt i hi), hr j (hlt j hj)]; exact hij⟩

/-! ## A write that is served -/

/-- A write of a number that passes the checks has the effect of its entry, and the path shows its outcome. -/
theorem Core.pathNumber_served {c : Core} {p : Path} {k v : Nat} (h : c.mayWrite p k v = true)
    (hk : k / 256 < 0x6000 ∨ 0x7FFF < k / 256)
    (ht : ∀ r, odRow? k = some r → (r.type = .u8 ∨ r.type = .u16 ∨ r.type = .u32 ∨ r.type = .real32) ∧ v < 2 ^ r.type.width) :
    ∃ r, odRow? k = some r ∧ c.checkWrite p k v = .ok r ∧ c.valueOk k r v = true ∧ ∀ f,
      (c.used 3).pathWrite p k (pathBytes p k v) f = ((c.used 3).applyNumber p k r v f).shown p := by
  simp only [Core.mayWrite, Core.serves, Bool.and_eq_true] at h
  obtain ⟨⟨⟨⟨h1, h2⟩, h3⟩, h4⟩, h5⟩ := h
  cases hc : c.checkWrite p k v with
  | error e => simp [hc] at h5
  | ok r =>
    simp only [hc] at h5
    have he := Core.checkWrite_row hc
    have hr := Core.entry_row he hk
    obtain ⟨ht1, ht2⟩ := ht r hr
    have hd := decodeValue_pathBytes (p := p) hr ht1 ht2
    refine ⟨r, hr, rfl, h5, fun f => ?_⟩
    have e1 : (c.used 3).dictServes = true := h1
    have e2 : (c.used 3).pathOpen p = true := h2
    have e3 : (c.used 3).pathStalls p = none := by
      have : c.pathStalls p = none := by simpa using h3
      exact this
    have e4 : (c.used 3).ply.unvoted.isSome = false := by
      have : c.ply.unvoted = none := by simpa using h4
      simp [this]
    have e5 : (c.used 3).entry? k = some r := he
    have e6 : (c.used 3).checkWrite p k v = .ok r := hc
    have e7 : (c.used 3).valueOk k r v = true := h5
    have hdom : r.isDomain = false := by
      rcases ht1 with h | h | h | h <;> simp [OdRow.isDomain, h]
    clear he hc h5 h1 h2 h3 h4
    generalize c.used 3 = c at e1 e2 e3 e4 e5 e6 e7 ⊢
    generalize pathBytes p k v = data at hd ⊢
    have hw : c.writeEntry p k p.wire data f = c.applyNumber p k r v f := by
      have hn : c.writeNumber p k p.wire data f = c.applyNumber p k r v f := by
        unfold Core.writeNumber
        simp only [e5, hd, e6]
        rw [if_pos e7]
      unfold Core.writeEntry
      simp only [e5]
      rw [hdom, hn]
      rfl
    simp only [Core.pathWrite, e1, e2, e3, e4, Bool.not_true, Bool.or_self, Bool.false_eq_true, if_false, Core.writeNow,
      Core.shown, e5, Option.isNone_some, hw]
    all_goals (cases p.master <;> rfl)

/-- A command that writes a number which the checks let through. -/
theorem State.act_pathNumber {s : State} {c : Core} {p : Path} {k v : Nat} {r : OdRow} (hs : s.finds c)
    (hm : c.mayWrite p k v = true) (hr : odRow? k = some r) (hk : k / 256 < 0x6000 ∨ 0x7FFF < k / 256)
    (ht : r.type = .u8 ∨ r.type = .u16 ∨ r.type = .u32 ∨ r.type = .real32) (hv : v < 2 ^ r.type.width) :
    (s.act fun c _ => c.pathNumber p k v) =
      .next (s.finishing (((c.used 3).applyNumber p k r v c.freeFacts).shown p)) := by
  rw [State.act_finds hs]
  obtain ⟨r', hr', -, -, he⟩ := Core.pathNumber_served hm hk (fun r' h => by
    rw [hr] at h; cases h; exact ⟨ht, hv⟩)
  rw [hr] at hr'; cases hr'
  exact congrArg _ (congrArg _ (he c.freeFacts))

/-- A write of a number with facts of its own that its path lets through has the effect of its entry, on those facts. -/
theorem State.act_pathFacts {s : State} {c : Core} {p : Path} {k v : Nat} {r : OdRow} (hs : s.finds c)
    (hm : c.mayWrite p k v = true) (hr : odRow? k = some r) (hk : k / 256 < 0x6000 ∨ 0x7FFF < k / 256)
    (ht : r.type = .u8 ∨ r.type = .u16 ∨ r.type = .u32 ∨ r.type = .real32) (hv : v < 2 ^ r.type.width)
    (g : Core → Facts) :
    (s.act fun c _ => (c.used 3).pathWrite p k (pathBytes p k v) (g c)) =
      .next (s.finishing (((c.used 3).applyNumber p k r v (g c)).shown p)) := by
  rw [State.act_finds hs]
  obtain ⟨r', hr', -, -, he⟩ := Core.pathNumber_served hm hk (fun r' h => by
    rw [hr] at h; cases h; exact ⟨ht, hv⟩)
  rw [hr] at hr'; cases hr'
  exact congrArg _ (congrArg _ (he _))

/-- A command that writes a whole content which the checks let through. -/
theorem State.act_pathContent {s : State} {c : Core} {p : Path} {k : Nat} {b : Bytes} {r : OdRow} (hs : s.finds c)
    (hm : c.mayWriteBytes p k = true) (hr : odRow? k = some r) (hk : k / 256 < 0x6000 ∨ 0x7FFF < k / 256)
    (hn : k ≠ Od.PROG_IMAGE) (h1 : (domLength k).1 ≤ b.length) (h2 : b.length ≤ (domLength k).2)
    (h3 : hartLengthOk k b = true) (h4 : Core.domOk k b = true) :
    (s.act fun c _ => c.pathData p k b) =
      .next (s.finishing ((((c.used 3).unlock p k).applyDomain p k r b).shown p)) := by
  rw [State.act_finds hs]
  refine congrArg _ (congrArg _ ?_)
  simp only [Core.mayWriteBytes, Core.serves, Bool.and_eq_true] at hm
  obtain ⟨⟨⟨⟨a1, a2⟩, a3⟩, a4⟩, a5⟩ := hm
  cases hc : c.checkWrite p k 0 with
  | error e => simp [hc] at a5
  | ok r' =>
    simp only [hc] at a5
    have he := Core.checkWrite_row hc
    have hrr := Core.entry_row he hk
    rw [hr] at hrr; cases hrr
    have e1 : (c.used 3).dictServes = true := a1
    have e2 : (c.used 3).pathOpen p = true := a2
    have e3 : (c.used 3).pathStalls p = none := by
      have : c.pathStalls p = none := by simpa using a3
      exact this
    have e4 : (c.used 3).ply.unvoted.isSome = false := by
      have : c.ply.unvoted = none := by simpa using a4
      simp [this]
    have e5 : (c.used 3).entry? k = some r := he
    have e6 : (c.used 3).checkWrite p k 0 = .ok r := hc
    unfold Core.pathData
    generalize c.freeFacts = f
    clear he hc a1 a2 a3 a4
    generalize c.used 3 = c at e1 e2 e3 e4 e5 e6 ⊢
    have hw : c.writeEntry p k p.wire b f = (c.unlock p k).applyDomain p k r b := by
      unfold Core.writeEntry
      simp only [e5, a5, if_true]
      unfold Core.writeWhole
      simp only [e6]
      rw [if_neg (by omega), if_neg hn]
      unfold Core.endDomain
      dsimp only
      rw [if_neg (by simp [h3]; omega), if_neg (by simp [h4])]
    simp only [Core.pathWrite, e1, e2, e3, e4, Bool.not_true, Bool.or_self, Bool.false_eq_true, if_false, Core.writeNow,
      Core.shown, e5, Option.isNone_some, hw]
    all_goals (cases p.master <;> rfl)

/-- A write whose bytes spell the number `v` and which the checks let through. -/
theorem State.act_pathDecoded {s : State} {c : Core} {p : Path} {k v : Nat} {r : OdRow} {data : Bytes} (hs : s.finds c)
    (hm : c.mayWrite p k v = true) (he : c.entry? k = some r) (hdom : r.isDomain = false)
    (hd : decodeValue r.type p.wire data = .ok v) :
    (s.act fun c _ => c.pathData p k data) =
      .next (s.finishing (((c.used 3).applyNumber p k r v c.freeFacts).shown p)) := by
  rw [State.act_finds hs]
  refine congrArg _ (congrArg _ ?_)
  simp only [Core.mayWrite, Core.serves, Bool.and_eq_true] at hm
  obtain ⟨⟨⟨⟨h1, h2⟩, h3⟩, h4⟩, h5⟩ := hm
  cases hc : c.checkWrite p k v with
  | error e => simp [hc] at h5
  | ok r' =>
    simp only [hc] at h5
    have hr := Core.checkWrite_row hc
    rw [he] at hr; cases hr
    have e1 : (c.used 3).dictServes = true := h1
    have e2 : (c.used 3).pathOpen p = true := h2
    have e3 : (c.used 3).pathStalls p = none := by
      have : c.pathStalls p = none := by simpa using h3
      exact this
    have e4 : (c.used 3).ply.unvoted.isSome = false := by
      have : c.ply.unvoted = none := by simpa using h4
      simp [this]
    have e5 : (c.used 3).entry? k = some r := he
    have e6 : (c.used 3).checkWrite p k v = .ok r := hc
    have e7 : (c.used 3).valueOk k r v = true := h5
    unfold Core.pathData
    generalize c.freeFacts = f
    clear he hc h5 h1 h2 h3 h4
    generalize c.used 3 = c at e1 e2 e3 e4 e5 e6 e7 ⊢
    have hw : c.writeEntry p k p.wire data f = c.applyNumber p k r v f := by
      have hn : c.writeNumber p k p.wire data f = c.applyNumber p k r v f := by
        unfold Core.writeNumber
        simp only [e5, hd, e6]
        rw [if_pos e7]
      unfold Core.writeEntry
      simp only [e5]
      rw [hdom, hn]
      rfl
    simp only [Core.pathWrite, e1, e2, e3, e4, Bool.not_true, Bool.or_self, Bool.false_eq_true, if_false, Core.writeNow,
      Core.shown, e5, Option.isNone_some, hw]
    all_goals (cases p.master <;> rfl)

/-- A write of STATE.CMD is a command of the run state. -/
theorem Core.applyNumber_stateCmd (c : Core) (p : Path) (r : OdRow) (v : Nat) (f : Facts)
    (h : protectedKey Od.STATE_CMD r = false) :
    c.applyNumber p Od.STATE_CMD r v f = c.stateCmd (v == 2) := by
  unfold Core.applyNumber
  rw [h]
  iterate 9 rw [if_neg (by decide)]
  rw [if_neg (by decide)]
  rw [show elem? (Od.FG_ACK 0) 6 Od.STATE_CMD = none by decide]; dsimp only
  rw [show elem? (Od.COUNT_CMD 0) 8 Od.STATE_CMD = none by decide]; dsimp only
  rw [if_neg (by decide)]
  rw [show elem? (Od.UIO_ACK 0) 24 Od.STATE_CMD = none by decide]; dsimp only
  rw [show record? (Od.HART_CANCEL 0) 24 Od.STATE_CMD = none by decide]; dsimp only
  rw [if_neg (by decide)]
  rw [show record? (Od.CAN_CMD 0) 4 Od.STATE_CMD = none by decide]; dsimp only
  rw [show elem? (Od.CAN_TXB_CMD 0) 12 Od.STATE_CMD = none by decide]; dsimp only
  rw [show elem? (Od.CAN_Q_ACK 0) 16 Od.STATE_CMD = none by decide]; dsimp only
  rw [show source? 0x2C14 Od.STATE_CMD = none by decide]; dsimp only
  rw [if_neg (by decide)]
  rw [if_neg (by decide)]
  rw [if_pos (by decide)]

/-! ## Accesses of the memory window -/

/-- What an update of one place keeps, that place keeps. -/
theorem getD_updAt_of {α β : Type} {f : α → α} {g : α → β} (h : ∀ x, g (f x) = g x) (l : List α) (n : Nat) (d : α) :
    g ((updAt f l n).getD n d) = g (l.getD n d) := by
  induction l generalizing n with
  | nil => rfl
  | cons x xs ih => cases n with
    | zero => exact h x
    | succ n => exact ih n

/-- Two updates of one place are one. -/
theorem updAt_updAt {α : Type} (f g : α → α) (l : List α) (n : Nat) : updAt g (updAt f l n) n = updAt (fun x => g (f x)) l n := by
  induction l generalizing n with
  | nil => rfl
  | cons x xs ih => cases n with
    | zero => rfl
    | succ n => exact congrArg (x :: ·) (ih n)

/-- Two updates of one spindle are one. -/
theorem Core.updSpin_updSpin (c : Core) (n : Nat) (f g : Spindle → Spindle) :
    (c.updSpin n f).updSpin n g = c.updSpin n fun x => g (f x) := by
  simp only [Core.updSpin, updAt_updAt]

theorem masterPath_master (m : Nat) : (masterPath m).master = some m := by
  unfold masterPath
  split <;> simp_all [Path.master]
  omega

theorem winKey_winAddr (k : Nat) : winKey (winAddr k) = k := by
  have e : (winAddr k - 0x40000000) = k / 256 * 0x400 + k % 256 * 4 := by unfold winAddr; omega
  unfold winKey odKey; rw [e]; omega

theorem winAddr_entry {k : Nat} (hk : k / 256 < 0x8000) : winAddr k < 0x42000000 := by unfold winAddr; omega

/-- A load of an entry through the window: a number. -/
theorem Core.winLoad_number {c : Core} {r : Recorder} {m k : Nat} {row : OdRow}
    (h : c.checkRead (masterPath m) k = .ok row) (hd : row.isDomain = false) :
    c.winLoad r m k = (c.used 1).winNumberLoad m row (c.number r (masterPath m) k row) := by
  unfold Core.winLoad
  simp only [h, hd, Bool.false_eq_true, if_false]

/-- A load of an entry through the window: bytes. -/
theorem Core.winLoad_domain {c : Core} {r : Recorder} {m k : Nat} {row : OdRow}
    (h : c.checkRead (masterPath m) k = .ok row) (hd : row.isDomain = true) :
    c.winLoad r m k = (c.used 1).winDomainLoad m (c.domValue r (masterPath m) k row) := by
  unfold Core.winLoad
  simp only [h, hd, if_true]

/-- A store to a wide entry through the window. -/
theorem Core.winStore_wide {c : Core} {m k x v : Nat} {row : OdRow} (he : c.entry? k = some row)
    (hd : row.isDomain = false) (hw : row.type.width = 64) (hv : v = (c.window m).hi * 2 ^ 32 + x) (hv' : v < 2 ^ 64)
    (hc : c.checkWrite (masterPath m) k v = .ok row) (ho : c.valueOk k row v = true) :
    c.winStore m k x = ((c.used 3).applyNumber (masterPath m) k row v c.freeFacts).shown (masterPath m) := by
  have hdv : decodeValue row.type .word (leBytes 8 v) = .ok v := by
    simp only [decodeValue, hw, if_true, leNat_leBytes 8 v (lt_of_lt_of_eq hv' (by norm_num))]
  have hf : c.writeFree (masterPath m) k .word (leBytes 8 v) =
      (c.used 3).applyNumber (masterPath m) k row v c.freeFacts := by
    have e1 : (c.used 3).entry? k = some row := he
    have e2 : (c.used 3).checkWrite (masterPath m) k v = .ok row := hc
    have e3 : (c.used 3).valueOk k row v = true := ho
    unfold Core.writeFree
    generalize c.freeFacts = f
    generalize c.used 3 = d at e1 e2 e3 ⊢
    have hn : d.writeNumber (masterPath m) k .word (leBytes 8 v) f = d.applyNumber (masterPath m) k row v f := by
      unfold Core.writeNumber
      simp only [e1, hdv, e2]
      rw [if_pos e3]
    unfold Core.writeEntry
    simp only [e1]
    rw [hd, hn]
    rfl
  unfold Core.winStore
  simp only [he, hd, hw, ← hv, hf, Core.shown, masterPath_master, Bool.false_eq_true, if_false, if_true]

/-- A store to a DOMAIN entry through the window. -/
theorem Core.winStore_domain {c : Core} {m k n : Nat} {row : OdRow} (he : c.entry? k = some row)
    (hd : row.isDomain = true) (h1 : 1 ≤ n) (h2 : n ≤ 1024) :
    c.winStore m k n = (c.writeSegment (masterPath m) k (c.window m).domOfs (slice (c.window m).buf 0 n)
      (c.window m).last).shown (masterPath m) := by
  unfold Core.winStore
  simp only [he, hd, h1, h2, Core.shown, masterPath_master, and_self, if_true]

/-- The entries that exist do not depend on an exception shown. -/
@[simp] theorem Core.accessing_entry (c : Core) (m k : Nat) : (c.accessing m).entry? k = c.entry? k := by
  unfold Core.accessing
  split <;> rfl

/-- An exception shown leaves the protection entries. -/
@[simp] theorem Core.accessing_pmpOk (c : Core) (m a size right : Nat) :
    (c.accessing m).pmpOk m a size right = c.pmpOk m a size right := by
  unfold Core.accessing Core.pmpOk
  split
  · rfl
  · unfold Core.spinPmp
    refine congrArg (fun x : Cpu => x.allows 8 a size right) ?_
    exact getD_updAt_of (f := fun s : Spindle => { s with trap := none }) (g := Spindle.cpu) (fun _ => rfl) c.arr.sp
      (m - 1) Spindle.idle

/-- An access of a master to its window is made at once while the executive runs, the master waits for nothing and its
protection entries permit it. -/
theorem Core.access_window {c : Core} {r : Recorder} {m k : Nat} (h : c.serves (masterPath m) = true)
    (hk : k / 256 < 0x8000) :
    (c.pmpOk m (winAddr k) 4 0 = true → c.access r m (winAddr k) 4 .load = (c.accessing m).winLoad r m k) ∧
      (c.pmpOk m (winAddr k) 4 1 = true →
        ∀ v, c.access r m (winAddr k) 4 (.store v) = (c.accessing m).winStore m k v) := by
  rw [← c.accessing_pmpOk m (winAddr k) 4 0, ← c.accessing_pmpOk m (winAddr k) 4 1]
  simp only [Core.serves, Bool.and_eq_true] at h
  obtain ⟨⟨⟨h1, h2⟩, h3⟩, h4⟩ := h
  have h4 : c.ply.unvoted.isSome = false := by cases hu : c.ply.unvoted <;> simp_all
  have hlt := winAddr_entry hk
  have hge : 0x40000000 ≤ winAddr k := by unfold winAddr; omega
  have hwin : inDictWindow (winAddr k) = true := by simp [inDictWindow, between, hge]; omega
  have hal : winAddr k % 4 = 0 := by unfold winAddr; omega
  have hld : ∀ m, mayLoad m (winAddr k) = true := by intro m; simp [mayLoad, hwin]
  have hst : ∀ m, mayStore m (winAddr k) = true := by intro m; simp [mayStore, hwin]
  by_cases hm : m = 0
  · subst hm
    have hp : ∀ r, (c.accessing 0).pmpOk 0 (winAddr k) 4 r = (c.accessing 0).plyPmp (winAddr k) 4 r := fun _ => rfl
    rw [hp, hp]
    have ea : c.accessing 0 = { c with ply := { c.ply with trap := none } } := rfl
    refine ⟨fun hl => ?_, fun hl v => ?_⟩ <;>
    simp only [Core.access, h1, Core.plyAccess, h4, hld, hst, hwin, Core.winAccess, winKey_winAddr, hal, hlt, ← ea, hl, Bool.not_true,
      Bool.false_eq_true, if_false, if_true, bne_self_eq_false, Bool.or_false, decide_false, ne_eq, not_true, Bool.and_self]
  · have hp : masterPath m = .spindle (m - 1) := by simp [masterPath, hm]
    rw [hp] at h2 h3
    have hm1 : m - 1 + 1 = m := by omega
    have hb : (!c.spinRuns (m - 1) || (c.spin (m - 1)).blocked) = false := by
      have h2 : (c.spinRuns (m - 1) && !(c.spin (m - 1)).blocked) = true := h2
      revert h2
      cases c.spinRuns (m - 1) <;> cases (c.spin (m - 1)).blocked <;> simp
    have ht : c.tentativeJob (m - 1) = none := by
      simp only [Core.pathStalls] at h3
      cases hj : c.tentativeJob (m - 1) <;> simp_all
    have ea : c.accessing m = c.updSpin (m - 1) fun s => { s with trap := none } := by simp [Core.accessing, hm]
    have ht' : (c.accessing m).tentativeJob (m - 1) = none := by
      have hj : ((c.accessing m).spin (m - 1)).job = (c.spin (m - 1)).job := by
        rw [ea]
        exact getD_updAt_of (f := fun s : Spindle => { s with trap := none }) (g := Spindle.job) (fun _ => rfl) c.arr.sp
          (m - 1) Spindle.idle
      unfold Core.tentativeJob at ht ⊢
      rw [hj]; exact ht
    have hu' : (c.accessing m).ply.unvoted.isSome = false := by
      rw [ea]; exact h4
    have hp : ∀ r, (c.accessing m).pmpOk m (winAddr k) 4 r = (c.accessing m).spinPmp (m - 1) (winAddr k) 4 r := fun _ =>
      if_neg hm
    rw [hp, hp]
    refine ⟨fun hl => ?_, fun hl v => ?_⟩ <;>
    simp only [Core.access, h1, if_neg hm, Core.spinAccess, hb, ← ea, ht', hm1, hld, hst, Core.spinReach, hwin, hu', hl,
      Core.winAccess, winKey_winAddr, hal, hlt, Bool.not_true, Bool.false_eq_true, if_false, if_true, bne_self_eq_false, Bool.or_false,
      decide_false, ne_eq, not_true, Option.isSome_none, Bool.false_and, Bool.and_self]

/-- A number whose bytes fail no check of their form, but which a later check of R465 refuses. -/
theorem State.act_pathRefused {s : State} {c : Core} {p : Path} {k v code : Nat} {r : OdRow} {data : Bytes} (hs : s.finds c)
    (hm : c.serves p = true) (he : c.entry? k = some r) (hdom : r.isDomain = false)
    (hd : decodeValue r.type p.wire data = .ok v)
    (hc : c.checkWrite p k v = .error code ∨ c.checkWrite p k v = .ok r ∧ c.valueOk k r v = false ∧ code = abRange) :
    (s.act fun c _ => c.pathData p k data) = .next (s.finishing (((c.used 3).abort code).shown p)) := by
  rw [State.act_finds hs]
  refine congrArg _ (congrArg _ ?_)
  simp only [Core.serves, Bool.and_eq_true] at hm
  obtain ⟨⟨⟨h1, h2⟩, h3⟩, h4⟩ := hm
  have e1 : (c.used 3).dictServes = true := h1
  have e2 : (c.used 3).pathOpen p = true := h2
  have e3 : (c.used 3).pathStalls p = none := by
    have : c.pathStalls p = none := by simpa using h3
    exact this
  have e4 : (c.used 3).ply.unvoted.isSome = false := by
    have : c.ply.unvoted = none := by simpa using h4
    simp [this]
  have e5 : (c.used 3).entry? k = some r := he
  have e6 : (c.used 3).checkWrite p k v = .error code ∨
      (c.used 3).checkWrite p k v = .ok r ∧ (c.used 3).valueOk k r v = false ∧ code = abRange := hc
  unfold Core.pathData
  generalize c.freeFacts = f
  clear he hc h1 h2 h3 h4
  generalize c.used 3 = c at e1 e2 e3 e4 e5 e6 ⊢
  have hn : c.writeNumber p k p.wire data f = c.abort code := by
    unfold Core.writeNumber
    simp only [e5, hd]
    rcases e6 with e | ⟨e, e', rfl⟩
    · rw [e]
    · rw [e]
      simp only [hd, e']
      rfl
  have hw : c.writeEntry p k p.wire data f = c.abort code := by
    unfold Core.writeEntry
    simp only [e5]
    rw [hdom, hn]
    rfl
  simp only [Core.pathWrite, e1, e2, e3, e4, Bool.not_true, Bool.or_self, Bool.false_eq_true, if_false, Core.writeNow,
    Core.shown, e5, Option.isNone_some, hw]
  all_goals (cases p.master <;> rfl)

/-- The range of the entry holds of a number which the checks let through. -/
theorem Core.mayWrite_range {c : Core} {p : Path} {k v : Nat} {r : OdRow} (hm : c.mayWrite p k v = true)
    (hr : odRow? k = some r) (hk : k / 256 < 0x6000 ∨ 0x7FFF < k / 256) : r.range.admits r.type v = true := by
  simp only [Core.mayWrite, Bool.and_eq_true] at hm
  cases hc : c.checkWrite p k v with
  | error e => simp [hc] at hm
  | ok r' =>
    have h := Core.entry_row (Core.checkWrite_row hc) hk
    rw [hr] at h; cases h
    simp only [hc, Core.valueOk, Bool.and_eq_true] at hm
    exact hm.2.1

/-- A configuration value that meets no rule is made. -/
theorem Core.unlessRejected_accepts {c after go : Core} {k : Nat} {codes : List Nat}
    (h : lowest (codes ++ after.rejectsFor k) = none) : c.unlessRejected after k codes go = go.answer .done := by
  simp only [Core.unlessRejected, h]

/-- A value that no entry of its own receives, and that meets no rule, is stored. -/
theorem Core.stored_accepts {c : Core} {p : Path} {k v : Nat} {r : OdRow} {f : Facts}
    (h : c.applyNumber p k r v f =
      c.unlessRejected ((c.merged.wr k v).valueTaken k v) k (c.valueRejects k v) (c.storeValue k r v))
    (ha : c.acceptsConfig k v) : c.applyNumber p k r v f = (c.storeValue k r v).answer .done :=
  h.trans (Core.unlessRejected_accepts ha)

end Sys2Proof.Machine
end

