-- ==== Sys2Proof/WellFormed.lean ====
section
/-! DEFINITION. Which commands are well formed: operands that have the widths and the lengths that the spec gives what they
carry. Unit numbers are bounded by their types. -/

namespace Sys2Proof

open Machine

namespace Wf

/-- A 32-bit word. -/
def word (v : Nat) : Bool := decide (v < 2 ^ 32)

/-- A dictionary key: index and sub-index. -/
def keyOk (k : Nat) : Bool := decide (k < 2 ^ 24)

/-- The payload of a frame (R367: frames up to 1,518 bytes). -/
def payload (b : Bytes) : Bool := decide (b.length ≤ 1500)

/-- An access path: a spindle and a controller that exist. -/
def pathOk : Path → Bool
  | .ply => true
  | .spindle n => decide (n < 32)
  | .can k => decide (k < 4)
  | .session n => decide (n < 2 ^ 32)

/-- A write of a whole value: at most the longest DOMAIN entry. -/
def entry (p : Path) (key : Nat) (data : Bytes) : Bool := pathOk p && keyOk key && decide (data.length ≤ 2 ^ 24)

/-- The strands' copies of an outward item (Table 02.1): one for each strand, kinds 0 to 7, 32-bit addresses. -/
def items (kind : Nat) (copies : List ItemCopy) : Bool :=
  decide (kind < 8) && copies.length == 3 && copies.all fun x => word x.addr && decide (x.be < 256) && decide (x.data < 2 ^ 64)

/-- What a boundary is given: binary32 values and entries of 64 bits on spindles that exist. -/
def facts (x : BoundaryFacts) : Bool :=
  decide (x.sar.length ≤ 24) && x.sar.all word && decide (x.weak < 2 ^ 24) &&
    x.service.all fun p => decide (p.1 < 32) && decide (p.2 < 2 ^ 64)

/-- A frame on a CAN bus (Table 11.8). -/
def canFrameOk (x : CanFrame) : Bool := word x.idword && decide (x.dlc < 16) && decide (x.data.length ≤ 64)

/-- An SDO frame has eight data bytes (R466). -/
def sdoOk (b : Bytes) : Bool := b.length == 8

/-- What the hourly evaluation reads: 16 oscillator pairs, the channels, the two image banks. -/
def healthOk (x : HealthReading) : Bool :=
  x.ages.length == 16 && (x.ages.all fun p => word p.1 && word p.2) && word x.vbat &&
    x.banks.length == 2

/-- What a start-up finds. -/
def startUpOk (x : StartUp) : Bool :=
  decide (x.rtc < 2 ^ 64) && word x.vbat && x.strands.length == 3 && x.copies.length == 2 &&
    decide (x.slot < 64)

end Wf

open Wf

/-- The well-formedness of a command. -/
def Instr.wellFormed : Instr → Bool
| .tickBoundary x => facts x
| .jobRelease => true
| .commitGroupCopy _ => true
| .ptpSyncRx _ _ _ => true
| .firstLock => true
| .timeAcqWaitExpiry => true
| .holdoverEntry => true
| .timeSourceWrite p v => pathOk p && word v
| .timeRestep p v => pathOk p && word v
| .restepPerform => true
| .tickPeriodWrite p v => pathOk p && word v
| .voterItemCompare kind copies => items kind copies
| .strandBistDone _ result => decide (result < 256)
| .tcmCopyDone _ => true
| .unvotedResume results => results.length == 3 && results.all (decide <| · < 256)
| .tcmScrub mask _ _ addr => decide (mask < 8) && decide (addr < 2 ^ 32)
| .agreeselWrite sel samples => decide (sel < 2 ^ 32) && decide (samples.length ≤ 3) && samples.all (decide <| · < 2 ^
      64)
| .agreeExchangeEnd => true
| .socmdWrite _ v => decide (v < 2 ^ 32)
| .debugHalt _ => true
| .debugStep _ => true
| .debugAbstractCommand x => decide (x.2 < 2 ^ 16)
| .debugResumeLead => true
| .debugHeldRequest => true
| .tickWait _ w => word w
| .tickWaitWake _ => true
| .jobPop _ w => word w
| .draftPairWaitExpiry _ => true
| .jobPush _ w lo hi => word w && word lo && word hi
| .jobPair _ w lo hi => word w && word lo && word hi
| .jobDoneFinish _ w => word w
| .jobDoneAbandon _ w => word w
| .jobDoneSuspend _ w => word w
| .stageB _ w rs1 rs2 => word w && word rs1 && word rs2
| .stageH _ w rs1 rs2 => word w && word rs1 && word rs2
| .stageW _ w rs1 rs2 => word w && word rs1 && word rs2
| .loopGo _ w _ addr count => word w && word addr && word count
| .loopWait _ w => word w
| .evClaim _ w => word w
| .evDone _ w rs1 => word w && word rs1
| .rahMark _ w rs1 rs2 => word w && word rs1 && word rs2
| .fenceI _ => true
| .overflowAppend _ => true
| .pairComparisonEnd => true
| .runAheadPlace _ _ _ => true
| .level0Place _ => true
| .sramUncorrectable _ => true
| .spindleScrub _ _ => true
| .creelUncorrectable _ addr _ => word addr
| .creelScrub _ => true
| .icacheParityError x => decide (0x10000000 ≤ x.2) && decide (x.2 < 0x10800000)
| .spindleDebugHalt _ => true
| .spindleDebugStep _ => true
| .spindleDebugAbstract x => decide (x.2 < 2 ^ 16)
| .spindleDebugResume _ => true
| .loadStoreAccessFault _ addr size _ => word addr && (size == 1 || size == 2 || size == 4)
| .loopEvaluation _ _ _ _ _ => true
| .loopLateDiscard _ _ => true
| .loopDescriptorWrite p key data => entry p key data
| .loopWOutWrite p v => pathOk p && word v
| .loopWClear p v => pathOk p && word v
| .loopClearAll p v => pathOk p && word v
| .remoteInputImageRx _ frame => payload frame
| .remoteMissLimit _ => true
| .remoteOutputImageRx _ frame => payload frame
| .rstaWatchdogExpiry => true
| .progImageWrite p ofs data _ => pathOk p && decide (ofs < 2 ^ 32) && decide (data.length ≤ 1024)
| .progCmdVerify p => pathOk p
| .progCmdPrepare p => pathOk p
| .progCmdArm p _ => pathOk p
| .progCmdCancel p => pathOk p
| .progCmdErase p => pathOk p
| .variableTransfer => true
| .progChangeover => true
| .retainCopy _ => true
| .dioLevelAccepted _ _ => true
| .chatterClear _ => true
| .dioOpenWire _ _ => true
| .stuckActive _ => true
| .testPulseStart _ => true
| .pulseLowSample _ _ => true
| .counterEdge _ _ _ => true
| .countCmdPreset p _ v => pathOk p && word v
| .outputShort _ => true
| .thermalShutdown _ => true
| .thermalRetry _ => true
| .shortClear _ => true
| .openLoad _ _ => true
| .externalDrive _ _ => true
| .fgLow _ _ => true
| .fgCut _ => true
| .fgRecovery _ => true
| .fgHoldEnd _ => true
| .fgAck p _ v _ => pathOk p && word v
| .fgTrip _ => true
| .fgMissing _ _ => true
| .tpOverload _ => true
| .tpExtVoltage _ => true
| .soDarkTest _ _ _ openNs => decide (280000 ≤ openNs) && decide (openNs ≤ 350000)
| .soReadbackMismatch _ _ => true
| .soExtVoltage _ => true
| .soOverload _ => true
| .soAck p v persist => pathOk p && decide (v < 2 ^ 32) && decide (persist < 2 ^ 64)
| .sdResult _ raw int ext extStat => word raw && word int && word ext && word extStat
| .uioOpenWireCheck _ _ => true
| .transmitterShort _ _ => true
| .namurFault _ _ _ => true
| .compliance _ _ => true
| .failActive _ => true
| .uioAck p _ v => pathOk p && word v
| .passiveContactLoss _ _ => true
| .passiveStartUp _ => true
| .thermalLimit _ tj => word tj
| .thermalOff _ => true
| .uioThermalRestart _ tj => word tj
| .voutShort _ _ => true
| .ugSupplyLow _ => true
| .ugSupplyRecovered _ _ => true
| .hartReq p _ req => pathOk p && payload req
| .hartCancel p _ v => pathOk p && word v
| .hartResponseRx _ frame _ => payload frame
| .hartTimeout _ => true
| .hartBurstRx _ frame => payload frame
| .hartIdentifyPoll _ => true
| .hartOtherMasterFrameRx _ frame => payload frame
| .sinDiscrepancy _ => true
| .safetyCrcCheck => true
| .axisFault _ => true
| .scrimCopyRx _ frame => payload frame
| .scrimSkewExpiry _ => true
| .scrimWatchdog _ => true
| .pairingIdentityExchange _ => true
| .activeToggleStop => true
| .takeoverOnLoss gap => decide (17000 ≤ gap) && decide (gap ≤ 22000)
| .tiebreak => true
| .laneDown _ => true
| .laneUp _ => true
| .partnerTogglingDetected => true
| .releaseRx gap => decide (gap ≤ 2000)
| .stepRecordRx _ => true
| .recordWaitExpiry => true
| .resyncAdopt _ => true
| .partnerDetection => true
| .startWaitExpiry => true
| .creelTransferAdopt _ => true
| .moduleHeartbeatSend => true
| .witnessHeartbeatSend => true
| .moduleHeartbeatRx _ frame => payload frame
| .witnessHeartbeatRx _ frame => payload frame
| .takeOrderRx _ frame => payload frame
| .releaseOrderRx _ _ frame => payload frame
| .orderAckRx _ frame => payload frame
| .takeAckRx => true
| .takeNakRx => true
| .witnessLost => true
| .returnRequest => true
| .handoverReqLapse => true
| .pairCmdHandover p => pathOk p
| .pairCmdResync p => pathOk p
| .pairCmdClearUnfit p => pathOk p
| .portLinkChange _ _ speed => speed == 0 || speed == 100 || speed == 1000
| .frameForward _ _ frame _ _ => decide (14 ≤ frame.length) && decide (frame.length ≤ 1518)
| .ptpAnnounceRx _ domain _ => decide (domain < 256)
| .ptpDelayRespRx _ _ => true
| .ptpDelayReqSend _ => true
| .ptpFollowTimeout => true
| .ptpMasterSync _ => true
| .ptpAnnounceReceiptTimeout _ => true
| .ptpDelayReqRx _ _ domain seq _ _ => decide (domain < 256) && decide (seq < 2 ^ 16)
| .ptpMasterAnnounce _ => true
| .mrpTopologyChangeRx _ interval => decide (interval < 2 ^ 16)
| .mrpFlush _ => true
| .arpRequestRx _ mac ip target => decide (mac < 2 ^ 48) && word ip && word target
| .icmpEchoRx _ mac ip target body _ => decide (mac < 2 ^ 48) && word ip && word target && payload body
| .frameReady => true
| .launch _ => true
| .appFrameRx _ src ethertype body => decide (src < 2 ^ 48) && decide (ethertype < 2 ^ 16) && payload body
| .rxObjectAged _ => true
| .fdbEntryAgeing _ mac => decide (mac < 2 ^ 48)
| .dsOpen _ mac datagram => decide (mac < 2 ^ 48) && payload datagram
| .dsClose _ datagram => payload datagram
| .dsAckOnly _ datagram => payload datagram
| .dsDatagram _ datagram _ => payload datagram
| .dsRetransmitTimeout _ => true
| .dsIdleTimeout _ => true
| .tlsHandshakeTimeout _ => true
| .dsRead _ msg => payload msg
| .dsWrite _ msg => payload msg
| .dsReadSegment _ msg => payload msg
| .dsWriteSegment _ msg => payload msg
| .canLaunch _ _ => true
| .canFrameTxEnd _ _ => true
| .canArbitrationLost _ => true
| .canBusError _ _ _ _ => true
| .canBusoffRecovery _ => true
| .canIntegrationComplete _ => true
| .canTxbCancel p _ v => pathOk p && word v
| .canFrameRx _ x _ => canFrameOk x
| .canRxObjectAged _ => true
| .canQAck p _ v => pathOk p && word v
| .ttReferenceLaunch _ _ => true
| .ttReferenceRx _ x _ => canFrameOk x
| .ttReferenceMissed _ => true
| .ttFollowerLost _ => true
| .canCmdSleep p _ => pathOk p
| .canSleepEntered _ => true
| .canCmdWake p _ => pathOk p
| .canBusWake _ _ => true
| .canCmdRecover p _ => pathOk p
| .sdoInitiateDownload _ data => sdoOk data
| .sdoDownloadSegment _ data => sdoOk data
| .sdoInitiateUpload _ data => sdoOk data
| .sdoUploadSegment _ data => sdoOk data
| .sdoAbort _ data => sdoOk data
| .sdoBlockRequest _ data => sdoOk data
| .sdoSegmentTimeout _ => true
| .evSourceChange _ _ => true
| .evCoalWindowEnd _ => true
| .evRaise p _ v => pathOk p && word v && v.testBit 1
| .evClear p _ v => pathOk p && word v && v.testBit 2
| .evMaskWrite p _ v => pathOk p && word v
| .evRetarget p _ v => pathOk p && word v
| .evCfgWrite p _ v => pathOk p && word v
| .evInterruptTake _ _ _ => true
| .evPlyClaim => true
| .evPlyComplete id => word id
| .skeinRequest code sev arg0 arg1 => decide (code < 2 ^ 16) && decide (1 ≤ sev) && decide (sev ≤ 7) && word arg0 &&
      word arg1
| .skeinWrite => true
| .skeinRefill code => decide (code < 2 ^ 16)
| .skeinMirrorProgram _ => true
| .skeinFlashErase _ => true
| .skeinRead p => pathOk p
| .dictionaryWrite p key data => entry p key data
| .winWideLoad _ key => keyOk key
| .winWideStore _ key v => keyOk key && word v
| .winDomainLoad _ key => keyOk key
| .winDomainStore _ key v => keyOk key && word v
| .domainLockTimeout p key => pathOk p && keyOk key
| .configRecordWrite => true
| .csStageWrite p key data => entry p key data
| .csCmdSeal p => pathOk p
| .csCmdAbandon p => pathOk p
| .csSign p sig => pathOk p && payload sig
| .csWindowExpiry => true
| .csIdleAbandon => true
| .credentialLockExpiry _ => true
| .secCmdEndCommissioning p => pathOk p
| .commissioningExpiry => true
| .stateCmdStop p => pathOk p
| .stateCmdRun p => pathOk p
| .reactionQueuedStart => true
| .safeResume => true
| .healthEvaluation x => healthOk x
| .logicSupplyLow _ => true
| .logicSupplyOvervoltage _ => true
| .powerFail _ rtc => decide (rtc < 2 ^ 64)
| .logicSupplyRise x _ => startUpOk x
| .resetNAssert => true
| .resetNRelease x _ => startUpOk x
| .vbatSupervisorTrip => true
| .vbatRestore => true
| .rtcWrite => true
| .dieOvertemperature => true

end Sys2Proof
end

