-- ==== Sys2Proof/Tests/Slice0.lean ====
section
/-! SUPPORT. The model's own tests: an ill-formed command for each check of WellFormed, steps whose results the spec states,
and for every statement for the provers, and each of its clauses, a concrete state and operands that meet all its hypotheses
together (test_<statement>_witness). -/

namespace Sys2Proof.Tests

open Sys2Proof.Machine

/-- A station in RUN in tick 5, with the tick generator running and SDO served on CAN controller 0. -/
def live : Core := { Core.blank with
  run := .run
  clk := { Core.blank.clk with running := true, cyc := 6000000, now := 6000000, tickCyc := 6000000, tickStart := 6000000,
                               nextB := 7000000, schedEnd := 7000000 }
  pwr := { Core.blank.pwr with supply := true, vbat := true, holdOff := false }
  react := { Core.blank.react with startDone := true }
  od := [(Od.TICK_PERIOD, 4), (Od.TICK_PERIOD_NS, 1000000), (Od.TICK_COUNT, 5), (Od.CAN_MODE 0, 1), (Od.CAN_NODE_ID 0, 10)] }

/-- The same station in another run state. -/
def inState (r : RunState) : Core := { live with run := r }

/-- A state with no command waiting and an empty recorder. -/
def on (c : Core) : State := ⟨[], c, Recorder.blank⟩

theorem requests_on {c : Core} (h : c.out = [] ∧ c.sent = [] ∧ c.alive = true) : (on c).requests c := by
  obtain ⟨h1, h2, h3⟩ := h
  refine ⟨?_, h3⟩
  cases c
  simp only at h1 h2
  subst h1 h2
  rfl

/-- With no draft requested a command finds the core as it stands. -/
theorem finds_on {c : Core} (h : c.out = [] ∧ c.sent = [] ∧ c.alive = true ∧ c.arr.sp.any (·.draft.isSome) = false) :
    (on c).finds c := by
  obtain ⟨h1, h2, h3, h4⟩ := h
  have hs : c = c.starting := (requests_on ⟨h1, h2, h3⟩).1
  exact ⟨hs.trans ((Core.drafted_none (hs ▸ h4)).symm.trans rfl), h3⟩

/-! ## Time and the Ply -/

def master : Announce := ⟨128, 6, 0x21, 0x4E5D, 128, 9, 1, 7, 37⟩

/-- Network B, followed, with a best master and a path delay of 400 ns. -/
def synced : Core := (((live.wr Od.PTP_FOLLOWED 2).wr (Od.PTP_ENABLE 1) 1).wr (Od.NET_STATUS 1) 10).updPtp 1 fun x =>
  { x with best := some master, delay := some (400, 6000000) }

/-- Four offsets measured, `d` cycles after a boundary. -/
def acquired (d : Nat) : Core :=
  { live with clk := { live.clk with cyc := live.clk.tickCyc + d, source := 1, acq := [10, 12, 14, 16], acqNet := 1 } }

/-- A re-step requested in STOP, `d` cycles after a boundary. -/
def reStepping (d : Nat) : Core :=
  ({ inState .stop with clk := { live.clk with cyc := live.clk.tickCyc + d } }).setBit Od.TIME_FLAGS 6 true

def locked : Core := { live with clk := { live.clk with state := .locked, locked := true, source := 1 } }

/-- SAFE by an un-votable event of all three strands. -/
def unvotable : Core := { inState .safe with ply := { live.ply with unvoted := some 7 } }

/-- The strands of `u` that are left after the BIST of an un-votable event. -/
def passed (c : Core) (u : Nat) (results : List Nat) : List Nat :=
  let d := (bitsSet 3 u).foldl (fun (c : Core) x =>
    if c.strandRetired x then c
    else if results.getD x 1 = 1 then c.wr (Od.STRAND_BIST_RESULT x) (results.getD x 1)
    else ((c.wr (Od.STRAND_BIST_RESULT x) (results.getD x 1)).retireStrand x 5).log 0x0203) (c.atCyc (c.react.safeQuiet + ms 6))
  (bitsSet 3 u).filter fun x => !d.strandRetired x

def agreeing : Core := { live with ply := { live.ply with agreesel := 0x80000000, samples := [1, 2, 3] } }
def split : Core := { live with ply := { live.ply with split := true } }
def asked : Core := { live with ply := { live.ply with heldReq := some (2, true) } }

/-! ## Spindles and loops -/

/-- A level-1 job of task 3 with its descriptor at 0x1020_0000. -/
def job : Job := ⟨0x0000040310200000, 9, 31, 5, none, none, 0, false⟩

/-- SP31 with a part changed. -/
def sp31 (f : Spindle → Spindle) : Core := live.updSpin 31 f

/-- SP31 executes job 9. -/
def working : Core := sp31 fun x => { x with job := some job }

/-- SP31 executes a tentative job of record 2. -/
def tentative : Core :=
  (sp31 fun x => { x with job := some { job with ahead := some 2 } }).updArr fun a =>
    { a with records := [⟨2, job, [], false, [], true, false⟩] }

def task3 : TaskDef := { (default : TaskDef) with num := 3, jobs := [(31, 0x0000040310200000)] }
def bottom : L0Def := ⟨71, 0, 0, 0x0000004710200000, []⟩
def image : ImageSet := { (default : ImageSet) with tasks := [task3], level0 := [bottom] }

/-- In slack, with a program whose task 3 may run ahead. -/
def slack : Core := ((live.wr (Od.TASK_KIND 3) 1).wr Od.RA_ENABLE 1).updProg (fun p => { p with image := some image }) |>.updArr fun a =>
  { a with committed := List.range 8, suspended := [{ job with word := 0x0000004710200000 }] }

/-- The entry that RUN_AHEAD_PLACE makes of the first job of task 3, and its creel with RUN_AHEAD in JFLAGS. -/
def ahead : Core := { slack with creel := [(0x1020000A, 8#8)] }
def aheadJob : Job :=
  ⟨putBit 0x0000040310200000 45 true, ahead.arr.uid + 1, 31, jobKey (ahead.rd (Od.TASK_PRIO 3)) 3 0, none,
    some 63, ahead.clk.cyc + 1, false⟩

/-- SP31 waits for a partner, a paired entry on the bobbin of SP0. -/
def pairWaiting : Core := (sp31 fun x => { x with draft := some 6000000 }).updSpin 0 fun x => { x with bobbin := [job.setAff 2] }

def comparison : Comparison := ⟨⟨0, job, [⟨1, 15, 7⟩]⟩, ⟨31, job, [⟨1, 15, 7⟩]⟩, 6000100⟩
def comparing : Core := live.updArr fun a => { a with compares := [comparison] }
def compared : Core := ((comparing.atCyc 6000100).updArr fun a => { a with compares := [] }).inc64 Od.PAIR_COMPARED

/-- Loop unit 31 evaluates slot 4095 next. -/
def evaluating : Core := sp31 fun x => { x with arm := some (0x10200000, 1), batch := some ⟨[some 4095], 6001000, 0, false, false, 0⟩ }

/-- Slot 0 is in use, in MANUAL. -/
def manual : Core := { live with creel := [(0x10000003, 0x84#8)] }

/-! ## Programs and remote stations -/

/-- An image of R387 with its CRC: header bytes, then zeros up to the length. -/
def sealed (head : Bytes) (len : Nat) : Bytes := padTo len head ++ beBytes 4 (crc32c 0xFFFFFFFF (padTo len head))

theorem sealed_crc (head : Bytes) (len : Nat) : imageCrcOk (sealed head len) = true := by
  have hl : (beBytes 4 (crc32c 0xFFFFFFFF (padTo len head))).length = 4 := by simp [beBytes, leBytes]
  unfold imageCrcOk sealed beAt slice
  rw [List.length_append, hl, Nat.add_sub_cancel, List.drop_left' rfl, List.take_left' rfl, List.take_of_length_le (by omega),
    beNat_beBytes 4 _ (crc32c_small _)]
  exact beq_self_eq_true _

/-- An input image of station 63 with the identity 0xA0B0C0D0, in RUN. -/
def inImage : Bytes := sealed [1#8, 1#8, 2#8, 0#8, 0xA0#8, 0xB0#8, 0xC0#8, 0xD0#8, 63#8, 0#8, 2#8] 0x200

/-- A controller with station 63 OFFLINE, or ONLINE and about to miss. -/
def stationOff : Core := ((live.wr (Od.RS_NETWORK 63) 3).wr (Od.RS_IDENT 63) 0xA0B0C0D0).updProg fun p =>
  { p with remotes := [⟨63, [], 3, false, 2, none, none⟩] }
def stationOn : Core := ((stationOff.wr (Od.RS_STATE 63) 2).wr (Od.RS_CYCLE 63) 2).wr Od.RIO_MISS_LIMIT 3

/-- A remote I/O station (DX7-IO48S), number 63, in STOP of an exchange with controller 7. -/
def station : Core := ((((live.wr Od.FUSE_WORD 0x09012384).wr Od.RSTA_NUMBER 63).wr Od.RSTA_CTRL_ID1 7).wr Od.RSTA_STATE 1).wr
  Od.RSTA_WATCHDOG 3
def outImage : Bytes := sealed [2#8, 1#8, 0#8, 0x80#8, 0#8, 0#8, 0#8, 7#8, 63#8, 1#8] 0x80
def lapsed : Core := station.updProg fun p => { p with outputs := { p.outputs with quiet := 3 } }

/-- A public key, and an executive image of VERSION 5 and a program image of IMAGE_ID 12 with empty bodies that its private
key signed. -/
def publicKey : Bytes := beBytes 64
  0x471c3e758c4904285bba7e53118ed0f524adeb0757d25bd2f8e7b0d76dfa714cdd520f7aca8a8b917acc37f51de8f0c9bbe3ad858382e702dc25a12d09f7a858
def execImg : Bytes := beBytes 128
  0x4c445837010000000000000500000009000000000fff0000e3b0c44298fc1c149afbf4c8996fb92427ae41e4649b934ca495991b7852b855e45054eb5b1abd976650f7f395bf51d0d8dd193e0174e7a14a1c8c127fbdf2db5e81841d60a6a9b6da5a3e737a198b6f969bb17a4cbfbf47a7d9e4873a9204360000000000000000
def progImg : Bytes := beBytes 128
  0x4c44583702010000000000010000000c000000000fff0000e3b0c44298fc1c149afbf4c8996fb92427ae41e4649b934ca495991b7852b855e45054eb5b1abd976650f7f395bf51d0d8dd193e0174e7a14a1c8c127fbdf2db500850478f60638af60d0ec32b784c7b8afcc0d85aa825ff0883f89fee4756870000000000000000

/-- An image set with nothing in it that any rule refuses, and a bank that holds it. -/
def plain : ImageSet := { (default : ImageSet) with execAt := 0, progAt := 128, crcOk := true }
def plainBank : Bank := ⟨execImg ++ progImg, some plain, []⟩

/-- The factory's key and the first program key are the public key, active. -/
def keyed (c : Core) : Core := [0, 1].foldl (fun (c : Core) i =>
  (c.setDom (Od.KEY_PUB + i) publicKey).wr (Od.KEY_STATE + i) 1) c

/-- Both banks hold it, and the exchange is in a state. -/
def exchange (state : Nat) : Core := ((keyed (inState .stop)).wr Od.PROG_STATE state).setBank 0 plainBank |>.setBank 1 plainBank

/-- The exchange is armed for the next tick, in slack. -/
def armed : Core := ((slack.wr Od.PROG_STATE 5).updProg fun p => { p with changeAt := slack.stepNumber + 1 }).setBank 1 plainBank
def due : Core := armed.updProg fun p => { p with changeAt := slack.stepNumber, transferred := true, transferEnd := 6000000 }

/-! ## Digital channels -/

/-- DI47 with a configuration, and with a status. -/
def dio (cfg status : Nat) : Core := (live.updChan 47 fun x => { x with cfg := cfg }).wr (Od.DIO_STATUS 47) status

/-- DO47 with its stage on. -/
def driving (status : Nat) : Core := (dio 0x1038 status).setBit Od.DIO_STAGE_MASK 47 true

/-- TP7 pulsing, its last pulse at 5,950,000. -/
def pulsing : Core := (live.wr (Od.TP_MODE 7) 2).updTp 7 fun x => { x with pulse := some 5950000 }

/-- DI47 fed from TP7. -/
def fed : Core := pulsing.updChan 47 fun x => { x with cfg := 0xF31 }

/-- Counter 7 with inputs, a mode and a value. -/
def counting (mode : Nat) (v : Int) : Core := (live.wr (Od.COUNT_MODE 7) mode).updField fun x =>
  { x with inputs := setAt x.inputs 7 (false, true), counts := setAt x.counts 7 v }

/-- SO7 driven, with dark tests. -/
def safeOut : Core := (live.wr (Od.SO_DARK_EN 7) 1).setSoBit 7 1 true

/-! ## Universal channels, HART and safety -/

/-- UIO23 with a configuration, and with a status. -/
def uio (cfg status : Nat) : Core := (live.updAch 23 fun a => { a with cfg := cfg }).wr (Od.UIO_STATUS 23) status

/-- UIO23 as a HART channel in a state of HART.STATE, with a request. -/
def hart (state : Nat) (h : HartChan) : Core := ((uio 0x40102 0).wr (Od.HART_STATE 23) state).updHart 23 fun _ => h
def hartFrame : Bytes := [0x06#8, 0x80#8, 1#8, 2#8, 0#8, 0#8] ++ [xorAll [0x06#8, 0x80#8, 1#8, 2#8, 0#8, 0#8]]
/-- UIO23 awaits the answer to a short-frame request of a user, or of its own identification. -/
def asking23 (ident : Bool) : Core :=
  hart 3 { HartChan.fresh with req := some [1, 0, 0], ident := ident, frame := (hart 3 HartChan.fresh).hartBuild 23 [1, 0, 0] }

/-- Pair 23 used, its evaluators in a state since 6,000,000. -/
def paired (state : Nat) : Core := (live.wr (Od.SIN_TYPE 23) 1).updEvals 23 fun _ => ⟨state, 6000000⟩

/-- Axis 3 used, with its timers. -/
def axis3 (status : Nat) (x : Axis) : Core := ((live.wr (Od.AXIS_CNT 3) 7).wr (Od.AXIS_STATUS 3) status).updAxis 3 fun _ => x

/-- RX connection 15 with the identity 0x0F0F, from peer 7, eight data bytes. -/
def listening : Core := ((((live.wr (Od.SCRIM_DIR 15) 2).wr (Od.SCRIM_CONN_ID 15) 0x0F0F).wr (Od.SCRIM_PEER1 15) 7).wr
  (Od.SCRIM_LEN 15) 8).wr (Od.SCRIM_STATE 15) 2

/-- A telegram of that connection on a path, with a sequence number, and its frame payload. -/
def telegram (path seq : Nat) : Bytes :=
  let head := beBytes 1 1 ++ beBytes 1 path ++ beBytes 2 0x0F0F ++ beBytes 4 7 ++ beBytes 4 seq ++ zeros 8 ++ beBytes 1 8 ++ zeros 9
  head ++ beBytes 4 (crc32c (scrimSeed path) head)
def scrimFrame (path seq : Nat) : Bytes := [3#8, 1#8, 0#8, 34#8] ++ telegram path seq

/-- The first copy of sequence number 9 has come on network A. -/
def waitingCopy : ScrimCopy := ⟨0, 6000000, 0, telegram 0 9⟩
def half : Core := listening.updConn 15 fun k => { k with pend := some waitingCopy }

/-- The same connection, silent since tick 1. -/
def silent : Core := (listening.updConn 15 fun k => { k with tick := 1 }).wr Od.TICK_COUNT 70000

/-! ## The pair and the witness -/

/-- A pair member in a role; its partner is 8, its witness 9, the pair 0x77. -/
def twin (r : Role) : Core := { ((((live.wr Od.PAIR_ENABLE 1).wr Od.PAIR_PARTNER_ID 8).wr Od.PAIR_WITNESS_ID 9).wr Od.PAIR_PAIR_ID 0x77).wr
  Od.SERIAL 7 with role := r }

/-- It sees its partner toggle. -/
def beside (r : Role) : Core := (twin r).setPairBit psPartnerToggling true

/-- A pair message, from a module, of a type, on a path, with its two words and its instant. -/
def message (src type path w1 w2 tick : Nat) : Bytes :=
  let body := leBytes 1 1 ++ leBytes 1 type ++ leBytes 1 path ++ leBytes 1 0 ++ beBytes 4 src ++ beBytes 4 0x77 ++ beBytes 4 5 ++
    beBytes 8 0 ++ beBytes 4 w1 ++ beBytes 4 w2 ++ beBytes 8 tick
  body ++ pairTag [] body
def pairFrame (m : Bytes) : Bytes := [4#8, 1#8, 0#8, 0x38#8] ++ m

/-- A witness that serves the pair of modules 7 and 8 as its eighth. -/
def witness : Core := { (((live.wr (Od.WIT_P_PAIR_ID 7) 0x77).wr (Od.WIT_P_ID_PRIMARY 7) 7).wr (Od.WIT_P_ID_SECONDARY 7) 8).wr
  Od.FUSE_WORD 0x0C030304 with role := .witness }
def ordered : Core := witness.updServed 7 fun p => { p with order := some ⟨5, 9000000, false, 1, []⟩ }

def stepRecord : StepRecord := ⟨5, 5, 4, [], [], [], (0, 0), [], [], 0, 100, [true, true]⟩

/-! ## Networks -/

/-- Both ports of network B up at 1 Gbit/s, with an address. -/
def netB : Core := ((live.wr (Od.NET_STATUS 1) 10).wr (Od.NET_IP_ADDR 1) 0x0A000001).wr (Od.NET_MAC 1) 0x020000000001

/-- The ordinary clock of network B, with a delay mechanism. -/
def clockB (mech : Nat) : Core := (netB.wr (Od.PTP_ENABLE 1) 1).wr (Od.PTP_DELAY_MECH 1) mech |>.updPtp 1 fun x =>
  { x with best := some master, sync := some (1, 2) }

/-- The same as a master. -/
def masterB : Core := (clockB 0).wr (Od.PTP_PORT_STATE 1) 6

/-- A frame of class 2 and one of class 5 that are ready, and a launch entry of network B. -/
def ready (cls : Nat) : Ready := ⟨cls, 127, 3, 6000100, 6100000, false, 4, 0x01005E000001, 0x88B5, 46, [[1#8], [1#8]]⟩
def readying (cls : Nat) : Core := netB.updNet fun x => { x with ready := [ready cls] }
def entry (time : Nat) : Launch := ⟨5, 127, time, true, zeros 60⟩
def launching (time : Nat) : Core := netB.updSide 1 fun x => { x with launch := [entry time] }

/-- Receive object 0 takes EtherType 0x88B5 from station 0x0200_0000_0002, from both networks or from B. -/
def object (net age : Nat) : Core := { netB with
  doms := [(Od.FRAME_RX_TABLE, leBytes 1 net ++ leBytes 1 0 ++ leBytes 2 0x88B5 ++ leBytes 6 0x020000000002 ++
    zeros 6 ++ leBytes 2 age ++ zeros 6)] }
def taken (net : Nat) : Core := (object net 0).updNet fun x => { x with taken := [⟨0, 6000000, 0, [5#8]⟩] }

/-- Session 3 of the dictionary service on network B. -/
def session : Session := ⟨3, 1, 0x020000000002, false, none, 2, 0, [⟨1, [9#8], 6000000, 5⟩, ⟨2, [9#8], 6000001, 0⟩], [], 6000000, 6000000⟩
def serving : Core := (netB.wr Od.NET_DS_PLAIN 1).updSrv fun x => { x with sessions := [session] }
def tlsSession : Session := { session with secure := true, out := [⟨1, [9#8], 6000000, 4⟩] }
def tlsServing : Core := netB.updSrv fun x => { x with sessions := [tlsSession] }

/-- A datagram of the dictionary service with flags, session, SEQ, ACK and payload. -/
def datagram (flags session seq ack : Nat) (p : Bytes) : Bytes :=
  beBytes 1 1 ++ beBytes 1 flags ++ beBytes 2 session ++ beBytes 4 seq ++ beBytes 4 ack ++ beBytes 2 p.length ++ zeros 2 ++ p

/-- A message of the dictionary service. -/
def dsMsg (op key flags offset : Nat) (data : Bytes) : Bytes :=
  beBytes 1 op ++ beBytes 1 0x55 ++ beBytes 3 key ++ beBytes 1 flags ++ beBytes 2 data.length ++ beBytes 4 offset ++ zeros 4 ++ data

/-- Time from both networks, network B followed and silent before A. -/
def following : Core := ({ netB.wr Od.PTP_FOLLOWED 2 with clk := { live.clk with source := 3 } }.updPtp 1 fun x =>
  { x with lastValid := some 6000000 }).updPtp 0 fun x => { x with lastValid := some 6000001 }

/-- Two signers of different roles, one of whom may stage: the module is provisioned. -/
def provision (c : Core) : Core := [(0, 1), (1, 2)].foldl (fun (c : Core) p =>
  (((c.wr (Od.CRED_ID p.1) (p.1 + 1)).wr (Od.CRED_ROLE p.1) p.2).wr (Od.CRED_ENABLE p.1) 1).setDom (Od.CRED_SECRET p.1) [7#8]) c

/-- A provisioned module whose anonymous users may nothing. -/
def barred : Core := (provision serving).wr Od.SEC_ANON_RIGHTS 0

/-! ## CAN, the event router and the recorder -/

/-- CAN3 with a mode and a status. -/
def can3 (mode status : Nat) : Core := (live.wr (Od.CAN_MODE 3) mode).wr (Od.CAN_STATUS 3) status

/-- Its buffer 2 is to launch at `t`. -/
def planned (status t : Nat) : Core := (can3 2 status).updCtl 3 fun x => { x with plan := [(2, t)] }
def sending : Core := (can3 2 2).updBuf 3 4 fun x => { x with st := 2 }

/-- A frame with an identifier, and filters that take it into object 31 or into queue 3. -/
def frame (id : Nat) (remote : Bool) : CanFrame := ⟨id, 1, false, remote, [5#8]⟩
def filtering (dest age : Nat) : Core := (can3 2 2).setDom (Od.CAN_RX_FILTERS 3)
  (zeros (16 * 31) ++ leBytes 1 dest ++ leBytes 1 (if dest = 2 then 3 else 0) ++ leBytes 1 2 ++ zeros 1 ++ leBytes 4 0x123 ++
    leBytes 4 0x7FF ++ leBytes 2 age ++ zeros 2)

/-- CAN3 after a frame, as the next stage finds it. -/
def heard (c : Core) : Core := ((((c.updCtl 3 fun y => { y with
  busy := false, recCount := if 127 < y.recCount then 119 + c.fresh 32 % 9 else y.recCount - 1 }).used 1).showErrors 3).inc64
    (Od.CAN_RX_FRAMES 3))
def queued : Core := (can3 2 2).updCtl 3 fun x => { x with queues := [[], [], [], [[5#8], [6#8]]] }

/-- A master and a follower of time-triggered CAN. -/
def ttMaster : Core := ((can3 2 2).wr (Od.TT_ROLE 3) 1).wr (Od.TT_CYCLE_TICKS 3) 4 |>.updCtl 3 fun x => { x with refs := [6500000] }
def ttFollower (state : Nat) : Core := (((can3 2 2).wr (Od.TT_ROLE 3) 2).wr (Od.TT_REF_ID 3) 0x10).wr (Od.TT_STATE 3) state

/-- The SDO server of node 127 on CAN3, in STOP, with a transfer. -/
def sdo (t : Option SdoTransfer) : Core := ({ can3 2 2 with run := .stop }.wr (Od.CAN_NODE_ID 3) 127).setSdo 3 t
def sdoFrame (cmd key : Nat) : Bytes := padTo 8 (leBytes 1 cmd ++ sdoMux key)
def download : SdoTransfer := ⟨Od.TICK_PERIOD, false, true, [4#8], 6000000⟩
def upload : SdoTransfer := ⟨Od.FUSE_WORD, true, false, [1#8, 2#8, 3#8, 4#8, 5#8, 6#8, 7#8], 6000000⟩

/-- Source 5 is offered to a target since the cycle before. -/
def offered (t : Nat) : Core := ((live.wr (srcKey 0x2C10 5) 0x1001).wr (srcKey 0x2C14 5) (t * 65536)).updRouter fun r =>
  { r with pending := [5], offers := [⟨t, 0, 5, 5999999⟩] }

/-- A state with a recorder. -/
def recording (c : Core) (r : Recorder) : State := ⟨[], c, r⟩
theorem finds_recording {c : Core} (r : Recorder)
    (h : c.out = [] ∧ c.sent = [] ∧ c.alive = true ∧ c.arr.sp.any (·.draft.isSome) = false) : (recording c r).finds c :=
  finds_on h

def request : Request := ⟨0x0102, 3, 1, 2, none⟩
def old : Entry := ⟨1, 0, 0x0102, 1, 0, 0, 0, 0⟩
def keen : Entry := { old with sev := 7 }

/-- A recorder with one request waiting, a bucket of its code, and a ring. -/
def asking (tokens : Nat) (suppressed : Nat) (ring : List (Nat × Entry)) : Recorder :=
  { Recorder.blank with queue := [request], buckets := [⟨0x0102, tokens, 0, suppressed, 3, 0⟩], ring := ring }

/-- A recorder with an entry to be mirrored into its last sector with room, and one whose ring is out of erased sectors. -/
def mirroring : Recorder := { Recorder.blank with mirror := [old], flash := [⟨255, []⟩] }
def erasing : Recorder := { Recorder.blank with erased := [], flash := [⟨7, [old]⟩, ⟨8, [old]⟩] }


/-! ## The dictionary, the countersign, the run states and power -/

/-- A result of the checks that carries a row, or an abort code, with a property. -/
def gives (x : Except Nat α) (f : α → Bool) : Bool := match x with | .ok r => f r | .error _ => false
def aborts (x : Except Nat α) (code : Nat) : Bool := match x with | .ok _ => false | .error e => e == code

/-- SP31 has loaded the upper half of a value of PROG.CHANGEOVER, or 2 bytes of a HART request, the last of its content or not. -/
def windowed (hi : Nat) (buf : Bytes) (last : Bool) : Core :=
  live.updWindow 32 fun x => { x with hi := hi, buf := splice x.buf 0 buf, last := last }

/-- A transfer of CAN3 to the transmit table has begun at 6,000,000. -/
def beginning : DomWrite := ⟨Od.CAN_TX_TABLE 3, .can 0, [1#8], 6000000⟩
def transferring : Core := live.updSrv fun x => { x with writes := [beginning] }

/-- A change set of the sender of CAN3, OPEN or SEALED, and one signed by credential 0. -/
def openSet : ChangeSet := ⟨0xFFFFFFFF, [⟨Od.SEC_TLS_SUITES, [1#8]⟩], none, none, 5999000, none⟩
def sealedSet (signer : Option Nat) : ChangeSet := { openSet with sealing := some (9, 4), signer := signer }
def staging (c : Core) (x : ChangeSet) : Core := c.updSrv fun s => { s with cset := some x }
/-- A module with two signers whose anonymous users may stage. -/
def signing (x : ChangeSet) : Core := staging ((provision live).wr Od.SEC_ANON_RIGHTS 0x5F |>.wr Od.CS_WINDOW_S 60) x
/-- A signature of credential `i` with the message authentication code `mac`. -/
def signature (i : Nat) (mac : Bytes) : Bytes := beBytes 4 (i + 1) ++ zeros 4 ++ mac
def signed (i : Nat) (x : ChangeSet) : Bytes := signature i (Sha.hmac [7#8] (signing x).csContent)

/-- Active level-2 reactions of one class and unit, and a queue with one to start. -/
def reacting (l : Nat) (q : List Reaction) : Core := { live with react := { live.react with active := [⟨l, l, 0x0701, 3⟩], queue := q } }
def safeHeld : Core := { inState .safe with react := { live.react with safeEsc := true, active := [⟨3, 2, 0x0701, 3⟩] } }

/-- A reading of the health evaluation, and a module powered for a number of hours. -/
def reading : HealthReading := ⟨List.replicate 16 (0x3F800000, 0x3F800000), 0x40400000, [5, 6]⟩
def aged (hours : Nat) : Core := live.wr Od.HEALTH_POWERED_H hours |>.wr Od.HEALTH_WINDOW_H 100

/-- What a start-up finds: everything in order. -/
def startUp : StartUp := ⟨100000000, 7, 0x40400000, [1, 1, 1], [true, true], 0⟩
def unpowered : Core := { inState .off with pwr := { live.pwr with supply := false } }

/-- A station in RUN after which no condition starts, ends or waits. -/
def settled : Core := { live with safety := { live.safety with avail := live.sfAvailable } }

/-- The state after a command; the state before it where it answers none. -/
def after (i : Instr) (s : State) : State := match exec i s with | .next t => t | _ => s
theorem test_TimeWritesTakeEffect_witness :
    ((on (inState .stop)).finds (inState .stop) ∧ (inState .stop).mayWrite .ply Od.TIME_RESTEP 1 = true) ∧
    ((on (inState .stop)).finds (inState .stop) ∧ (inState .stop).mayWrite .ply Od.TIME_SOURCE 0 = true) ∧
    ((on (inState .stop)).finds (inState .stop) ∧ (inState .stop).mayWrite .ply Od.TIME_SOURCE 3 = true) ∧
    ((on (inState .stop)).finds (inState .stop) ∧ (inState .stop).mayWrite .ply Od.TICK_PERIOD 0 = true ∧ ((inState .stop).used 3).acceptsConfig Od.TICK_PERIOD 0) ∧
    ((on (inState .stop)).finds (inState .stop) ∧ (inState .stop).mayWrite (.can 0) Od.TICK_PERIOD 4 = true ∧ ((inState .stop).used 3).acceptsConfig Od.TICK_PERIOD 4) :=
  ⟨⟨finds_on (by decide), by decide⟩,
   ⟨finds_on (by decide), by decide⟩,
   ⟨finds_on (by decide), by decide⟩,
   ⟨finds_on (by decide), by unfold Core.acceptsConfig; decide⟩,
   ⟨finds_on (by decide), by unfold Core.acceptsConfig; decide⟩⟩

theorem test_StationTimeCommandsComplete_witness :
    ((on (synced)).finds (synced) ∧ synced.ptpOn 1 = true ∧ (0 : Nat) = synced.rd (Od.PTP_DOMAIN 1) ∧ (synced.ptp 1).best = some master ∧ master.source = (7 : Nat) ∧ synced.pathDelay 1 0 = some 400 ∧ synced.rd Od.PTP_FOLLOWED = 2) ∧
    ((on (acquired 1)).finds (acquired 1) ∧ (acquired 1).clk.running = true ∧ (acquired 1).lockReady = true ∧ (acquired 1).atBoundary = false) ∧
    ((on (acquired 0)).finds (acquired 0) ∧ (acquired 0).clk.running = true ∧ (acquired 0).lockReady = true ∧ (acquired 0).atBoundary = true) ∧
    ((on (reStepping 1)).finds (reStepping 1) ∧ (reStepping 1).clk.running = true ∧ (reStepping 1).reStepReady = true ∧ (reStepping 1).atBoundary = false) ∧
    ((on (reStepping 0)).finds (reStepping 0) ∧ (reStepping 0).clk.running = true ∧ (reStepping 0).reStepReady = true ∧ (reStepping 0).atBoundary = true) ∧
    ((on (inState .init)).finds (inState .init) ∧ (inState .init).run = .init ∧ (inState .init).react.startDone = true ∧ (inState .init).pwr.acqOver = false ∧ (inState .init).clk.locked = false) ∧
    ((on (locked)).finds (locked) ∧ locked.clk.state = .locked) :=
  ⟨⟨finds_on (by decide), by decide⟩,
   ⟨finds_on (by decide), by decide⟩,
   ⟨finds_on (by decide), by decide⟩,
   ⟨finds_on (by decide), by decide⟩,
   ⟨finds_on (by decide), by decide⟩,
   ⟨finds_on (by decide), by decide⟩,
   ⟨finds_on (by decide), by decide⟩⟩

theorem test_TickSequenceRunsInOrder_witness :
    ((on (live)).finds (live) ∧ live.clk.running = true) ∧
    ((on (live)).finds (live) ∧ live.clk.running = true ∧ live.rd Od.TICK_COUNT ≠ 0 ∧ live.arr.released = false ∧ ((7 : Fin 8) : Nat) ∉ live.arr.committed ∧ live.ply.holdWork = false) ∧
    ((on ({ live with ply := { live.ply with holdWork := true } })).finds ({ live with ply := { live.ply with holdWork := true } }) ∧ live.clk.running = true ∧ live.rd Od.TICK_COUNT ≠ 0 ∧ ((0 : Fin 8) : Nat) ∉ live.arr.committed ∧ ({ live with ply := { live.ply with holdWork := true } } : Core).ply.holdWork = true) :=
  ⟨⟨finds_on (by decide), by decide⟩,
   ⟨finds_on (by decide), by decide⟩,
   ⟨finds_on (by decide), by decide⟩⟩

theorem test_VoterAndReadmissionComplete_witness :
    ((on (live)).finds (live) ∧ live.run ≠ .failed ∧ live.ply.unvoted = none ∧ live.ply.split = false ∧ live.stepping = [0, 1, 2] ∧ ((0 : Nat) ≠ 0 ∨ inTcm 0x10000000 = false) ∧ ((1 : Nat) ≠ 0 ∨ inTcm 0 = false) ∧ (⟨4, 15, 1⟩ : ItemCopy) ≠ ⟨4, 15, 0⟩) ∧
    ((on (live.setStrandBit 2 2 true)).finds (live.setStrandBit 2 2 true) ∧ (live.setStrandBit 2 2 true).strandBit 2 2 = true ∧ (live.setStrandBit 2 2 true).ply.unvoted = none ∧ (0 : Nat) ≠ 1) ∧
    ((on (live.setStrandBit 0 2 true)).finds (live.setStrandBit 0 2 true) ∧ (live.setStrandBit 0 2 true).strandBit 0 2 = true ∧ (live.setStrandBit 0 2 true).ply.unvoted = none) ∧
    ((on ((live.setStrandBit 2 3 true).setStrandBit 2 0 false)).finds ((live.setStrandBit 2 3 true).setStrandBit 2 0 false) ∧ ((live.setStrandBit 2 3 true).setStrandBit 2 0 false).strandBit 2 3 = true ∧ (((live.setStrandBit 2 3 true).setStrandBit 2 0 false).strand 2).rejoinWait = false ∧ ((live.setStrandBit 2 3 true).setStrandBit 2 0 false).stepping = 0 :: [1]) ∧
    ((on (unvotable)).finds (unvotable) ∧ unvotable.ply.unvoted = some 7 ∧ unvotable.run = .safe ∧ 2 ≤ (passed unvotable 7 [1, 1, 0]).length ∧ 2 ≤ (passed unvotable 7 [1, 1, 1]).length ∧ (passed unvotable 7 [1, 0, 0]).length < 2) ∧
    ((on (live)).finds (live) ∧ (7 : Nat) < 8) :=
  ⟨⟨finds_on (by decide), by decide⟩,
   ⟨finds_on (by decide), by decide⟩,
   ⟨finds_on (by decide), by decide⟩,
   ⟨finds_on (by decide), by decide⟩,
   ⟨finds_on (by decide), by decide⟩,
   ⟨finds_on (by decide), by decide⟩⟩

theorem test_AgreementAndDebugComplete_witness :
    ((on (live)).finds (live) ∧ (5 : Nat) < 6 % 16 ∧ 5 % 16 ≤ 5 ∧ live.ply.agreesel.testBit 31 = false) ∧
    ((on (agreeing)).finds (agreeing) ∧ agreeing.ply.agreesel.testBit 31 = true ∧ agreeing.ply.samples ≠ []) ∧
    ((on (live)).finds (live) ∧ live.safetyFuse ≠ 0 ∧ live.rd Od.PLY_DEBUG_EN = 0) ∧
    ((on (live.wr Od.PLY_DEBUG_EN 1)).finds (live.wr Od.PLY_DEBUG_EN 1) ∧ (live.wr Od.PLY_DEBUG_EN 1).rd Od.PLY_DEBUG_EN ≠ 0 ∧ (live.wr Od.PLY_DEBUG_EN 1).run = .run ∧ (live.wr Od.PLY_DEBUG_EN 1).run ≠ .failed ∧ 0xFFF < 0x1000 ∧ (live.wr Od.PLY_DEBUG_EN 1).strandCsr 2 0xFFF = some 0 ∧ 0x1000 ≤ 0x1000) ∧
    ((on ((inState .hold).wr Od.PLY_DEBUG_EN 1)).finds ((inState .hold).wr Od.PLY_DEBUG_EN 1) ∧ ((inState .hold).wr Od.PLY_DEBUG_EN 1).rd Od.PLY_DEBUG_EN ≠ 0 ∧ ((inState .hold).wr Od.PLY_DEBUG_EN 1).run = .hold) ∧
    ((on ((inState .safe).wr Od.PLY_DEBUG_EN 1)).finds ((inState .safe).wr Od.PLY_DEBUG_EN 1) ∧ ((inState .safe).wr Od.PLY_DEBUG_EN 1).rd Od.PLY_DEBUG_EN ≠ 0 ∧ ((inState .safe).wr Od.PLY_DEBUG_EN 1).run = .safe) ∧
    ((on (split)).finds (split) ∧ split.ply.split = true ∧ split.run ≠ .failed) ∧
    ((on (asked)).finds (asked) ∧ asked.ply.heldReq = some (2, true) ∧ asked.run ≠ .safe) :=
  ⟨⟨finds_on (by decide), by decide⟩,
   ⟨finds_on (by decide), by decide⟩,
   ⟨finds_on (by decide), by decide⟩,
   ⟨finds_on (by decide), by decide⟩,
   ⟨finds_on (by decide), by decide⟩,
   ⟨finds_on (by decide), by decide⟩,
   ⟨finds_on (by decide), by decide⟩,
   ⟨finds_on (by decide), by decide⟩⟩

theorem test_XdraftJobInstructionsComplete_witness :
    ((on (sp31 fun x => { x with waiting := true, wake := some (7, 6000900) })).finds (sp31 fun x => { x with waiting := true, wake := some (7, 6000900) }) ∧ ((sp31 fun x => { x with waiting := true, wake := some (7, 6000900) }).spin 31).waiting = true ∧ ((sp31 fun x => { x with waiting := true, wake := some (7, 6000900) }).spin 31).wake = some (7, 6000900)) ∧
    ((on pairWaiting).finds pairWaiting ∧ (pairWaiting.spin 31).draft = some 6000000) ∧
    ((on ((sp31 fun x => { x with overflow := [job] }).updArr fun a => { a with released := true })).finds ((sp31 fun x => { x with overflow := [job] }).updArr fun a => { a with released := true }) ∧ (((sp31 fun x => { x with overflow := [job] }).updArr fun a => { a with released := true }).spin 31).overflow = job :: [] ∧ (((sp31 fun x => { x with overflow := [job] }).updArr fun a => { a with released := true }).spin 31).count 6000000 < 64 ∧ ((sp31 fun x => { x with overflow := [job] }).updArr fun a => { a with released := true }).arr.released = true) ∧
    ((on (sp31 fun x => { x with bobbin := [job] })).finds (sp31 fun x => { x with bobbin := [job] }) ∧ (sp31 fun x => { x with bobbin := [job] }).canExecute 31 = true ∧ Xop.tickWait.encodes 0x00000F8B = true ∧ (((sp31 fun x => { x with bobbin := [job] }).untrapped 31).spin 31).job = none ∧ (((sp31 fun x => { x with bobbin := [job] }).untrapped 31).spin 31).bobbin ≠ []) ∧
    ((on (sp31 fun x => { x with bobbin := [job] })).requests (sp31 fun x => { x with bobbin := [job] }) ∧ (sp31 fun x => { x with bobbin := [job] }).canExecute 31 = true ∧ Xop.jobPop.encodes 0x02000F8B = true ∧ (((sp31 fun x => { x with bobbin := [job] }).untrapped 31).spin 31).job = none ∧ firstVisible ((sp31 fun x => { x with bobbin := [job] }).untrapped 31).clk.cyc (((sp31 fun x => { x with bobbin := [job] }).untrapped 31).spin 31).bobbin = some job) ∧
    ((on (live)).finds (live) ∧ live.canExecute 31 = true ∧ Xop.tickWait.encodes 0x0000000B = true ∧ ((live.untrapped 31).spin 31).job = none ∧ ((live.untrapped 31).spin 31).bobbin = []) ∧
    ((on (live)).requests (live) ∧ live.canExecute 31 = true ∧ Xop.jobPop.encodes 0x0200000B = true ∧ ((live.untrapped 31).spin 31).job = none ∧ firstVisible (live.untrapped 31).clk.cyc ((live.untrapped 31).spin 31).bobbin = none) ∧
    ((on (sp31 fun x => { x with bobbin := List.replicate 64 job })).finds (sp31 fun x => { x with bobbin := List.replicate 64 job }) ∧ (sp31 fun x => { x with bobbin := List.replicate 64 job }).canExecute 31 = true ∧ ((sp31 fun x => { x with bobbin := List.replicate 64 job }).untrapped 31).tentativeJob 31 = none ∧ 64 ≤ (((sp31 fun x => { x with bobbin := List.replicate 64 job }).untrapped 31).spin 31).count 6000000 ∧ Xop.jobPush.encodes 0x05FF8F8B = true ∧ Xop.jobPair.encodes 0x09FF8F8B = true ∧ field 0x00004403 14 2 ≤ 1) ∧
    ((on (sp31 fun x => { x with bobbin := List.replicate 63 job })).finds (sp31 fun x => { x with bobbin := List.replicate 63 job }) ∧ (sp31 fun x => { x with bobbin := List.replicate 63 job }).canExecute 31 = true ∧ ((sp31 fun x => { x with bobbin := List.replicate 63 job }).untrapped 31).tentativeJob 31 = none ∧ (((sp31 fun x => { x with bobbin := List.replicate 63 job }).untrapped 31).spin 31).count 6000000 < 64 ∧ Xop.jobPush.encodes 0x04C58F8B = true ∧ Xop.jobPair.encodes 0x08C58F8B = true ∧ field 0x00004403 14 2 ≤ 1) ∧
    ((on (working)).finds (working) ∧ working.canExecute 31 = true ∧ Xop.jobDone.encodes 0x06000F8B = true ∧ ((working.untrapped 31).spin 31).job = some job ∧ job.paired = false ∧ (working.untrapped 31).jobHeld job = false ∧ job.ahead = none) ∧
    ((on (sp31 fun x => { x with job := some { job with word := 0x0000004710200000 } })).finds (sp31 fun x => { x with job := some { job with word := 0x0000004710200000 } }) ∧ (sp31 fun x => { x with job := some { job with word := 0x0000004710200000 } }).canExecute 31 = true ∧ Xop.jobDone.encodes 0x0600000B = true ∧ (((sp31 fun x => { x with job := some { job with word := 0x0000004710200000 } }).untrapped 31).spin 31).job = some { job with word := 0x0000004710200000 } ∧ ({ job with word := 0x0000004710200000 } : Job).level = 0) :=
  ⟨⟨finds_on (by decide), by decide⟩,
   (⟨⟨by decide +kernel, by decide⟩, by decide⟩),
   ⟨finds_on (by decide), by decide⟩,
   ⟨finds_on (by decide), by decide⟩,
   ⟨requests_on (by decide), by decide⟩,
   ⟨finds_on (by decide), by decide⟩,
   ⟨requests_on (by decide), by decide⟩,
   ⟨finds_on (by decide), by decide⟩,
   ⟨finds_on (by decide), by decide⟩,
   ⟨finds_on (by decide), by decide⟩,
   ⟨finds_on (by decide), by decide⟩⟩

theorem test_XdraftStagingAndUnitInstructionsComplete_witness :
    ((on (working)).finds (working) ∧ working.canExecute 31 = true ∧ ((working.untrapped 31).spin 31).job ≠ none ∧ (0x1400FFFF : Nat) = ofInt 32 ((0x1400FFFF : Nat) + sImm 0x0000002B) ∧ 0x14000000 ≤ 0x1400FFFF ∧ 0x1400FFFF ≤ 0x1400FFFF ∧ Xop.stageB.encodes 0x0000002B = true ∧ (bufWrite ((working.untrapped 31).spin 31).buf ⟨0x3FFF, 8, 0x7F000000⟩).length ≤ 256) ∧
    ((on (working)).finds (working) ∧ (0x1400FFFE : Nat) = ofInt 32 ((0x1400FFFE : Nat) + sImm 0x0000102B) ∧ Xop.stageH.encodes 0x0000102B = true ∧ 0x1400FFFE % 2 = 0 ∧ (0x14000000 : Nat) = ofInt 32 ((0x13FFFFFC : Nat) + sImm 0x0000222B) ∧ Xop.stageW.encodes 0x0000222B = true ∧ 0x14000000 % 4 = 0 ∧ (bufWrite ((working.untrapped 31).spin 31).buf ⟨0, 15, 1⟩).length ≤ 256) ∧
    ((on (working)).finds (working) ∧ Xop.loopGo.encodes 0x0000100B = true ∧ Xop.loopWait.encodes 0x0200100B = true ∧ Xop.evClaim.encodes 0x0000200B = true ∧ Xop.evDone.encodes 0x0200200B = true ∧ Xop.rahMark.encodes 0x0000300B = true ∧ (working.untrapped 31).tentativeJob 31 = none ∧ (working.untrapped 31).unitArmed 31 = false) ∧
    ((on (evaluating)).finds (evaluating) ∧ evaluating.canExecute 31 = true ∧ (evaluating.untrapped 31).unitArmed 31 = true ∧ ((evaluating.untrapped 31).spin 31).batch ≠ none) ∧
    ((on ((sp31 fun x => { x with arm := some (0x10200000, 1), batchWord := 0x80000001 }).updArr fun a => { a with released := true })).finds ((sp31 fun x => { x with arm := some (0x10200000, 1), batchWord := 0x80000001 }).updArr fun a => { a with released := true }) ∧ ((sp31 fun x => { x with arm := some (0x10200000, 1), batchWord := 0x80000001 }).updArr fun a => { a with released := true }).canExecute 31 = true ∧ ((sp31 fun x => { x with arm := some (0x10200000, 1), batchWord := 0x80000001 }).untrapped 31).unitArmed 31 = true ∧ ((sp31 fun x => { x with arm := some (0x10200000, 1), batchWord := 0x80000001 }).spin 31).batch = none ∧ ((sp31 fun x => { x with arm := some (0x10200000, 1), batchWord := 0x80000001 }).spin 31).batchWord ≠ 0) ∧
    ((on (tentative)).finds (tentative) ∧ tentative.canExecute 31 = true ∧ (tentative.untrapped 31).tentativeJob 31 = some 2 ∧ (tentative.untrapped 31).record 2 = some ⟨2, job, [], false, [], true, false⟩ ∧ ([] : List AheadRange).length < 6 ∧ 1 ≤ field 0x03000100 0 16 ∧ totalLen [] + field 0x03000100 0 16 ≤ 256 ∧ field 0x03000100 24 8 ≤ 3 ∧ (tentative.untrapped 31).arr.records.foldl (fun t y => t + totalLen y.ranges) 0 + field 0x03000100 0 16 ≤ 8192) ∧
    ((on (live)).finds (live) ∧ live.spinRuns 31 = true ∧ live.tentativeJob 31 = none) ∧
    ((on (comparing)).finds (comparing) ∧ comparing.arr.compares = comparison :: [] ∧ compared.jobHeld job = false ∧ sameWords comparison.a.buf comparison.b.buf = true ∧ job.rerun = false ∧ job.ahead = none) :=
  ⟨⟨finds_on (by decide), by decide⟩,
   ⟨finds_on (by decide), by decide⟩,
   ⟨finds_on (by decide), by decide⟩,
   ⟨finds_on (by decide), by decide⟩,
   ⟨finds_on (by decide), by decide⟩,
   ⟨finds_on (by decide), by decide⟩,
   ⟨finds_on (by decide), by decide⟩,
   ⟨finds_on (by decide), by decide⟩⟩

theorem test_SpindleServicesComplete_witness :
    ((on (ahead)).finds (ahead) ∧ ahead.taskDef 3 = some task3 ∧ task3.jobs[0]? = some (31, 0x0000040310200000) ∧ ahead.homeOf 31 (putBit 0x0000040310200000 45 true) = some 31 ∧ ahead.mayRunAhead 3 aheadJob = true ∧ ahead.record 63 = none) ∧
    ((on (slack)).finds (slack) ∧ slack.l0Slack = true ∧ slack.l0Def 71 = some bottom ∧ slack.homeOf bottom.home bottom.word = some 0 ∧ slack.suspendedJob 71 = some { job with word := 0x0000004710200000 } ∧ (slack.updArr fun a => { a with suspended := [] }).l0Def 71 = some bottom ∧ (slack.updArr fun a => { a with suspended := [] }).homeOf bottom.home bottom.word = some 0 ∧ (slack.updArr fun a => { a with suspended := [] }).suspendedJob 71 = none ∧ (slack.updArr fun a => { a with suspended := [] }).prog.cycles.any (·.task == 71) = false) ∧
    ((on (live)).finds (live) ∧ live.spinUsable 31 = true ∧ ((31 : Fin 32) : Nat) < live.spindles ∧ (0 : Nat) < 1 ∧ inPlyRegion 0x10800000 = false ∧ inPlyRegion 0x107C0000 = true ∧ inPlyRegion 0x107FFFFC = true ∧ live.poisoned (plyMirror 0x107FFFFC) = false) ∧
    ((on (live.wr Od.SPIN_DEBUG_EN 1)).finds (live.wr Od.SPIN_DEBUG_EN 1) ∧ (live.wr Od.SPIN_DEBUG_EN 1).spinUsable 31 = true ∧ (live.wr Od.SPIN_DEBUG_EN 1).spinDebugOk = true ∧ 0xFFF < 0x1000 ∧ (live.wr Od.SPIN_DEBUG_EN 1).spindleCsr 31 0xFFF = some 0 ∧ 0x1000 ≤ 0x1000) ∧
    ((on (live.setBit Od.SPIN_HALTED 31 true)).finds (live.setBit Od.SPIN_HALTED 31 true) ∧ (live.setBit Od.SPIN_HALTED 31 true).spinUsable 31 = true ∧ (live.setBit Od.SPIN_HALTED 31 true).spinHalted 31 = true) ∧
    ((on (live)).finds (live) ∧ ((32 : Fin 33) : Nat) = 31 + 1 ∧ live.dictServes = true ∧ live.canExecute 31 = true ∧ (live.untrapped 31).tentativeJob 31 = none ∧ mayLoad 32 0x10000000 = true ∧ live.pmpOk 32 0x10000000 4 0 = true ∧ live.poisonIn 0x10000000 4 = none ∧ inCreel 0x10000000 = true ∧ mayLoad 32 0x107FFFFC = true ∧ live.pmpOk 32 0x107FFFFC 4 0 = true ∧ live.poisonIn 0x107FFFFC 4 = none ∧ inCreel 0x107FFFFC = true ∧ mayStore 32 0x10180000 = true ∧ live.pmpOk 32 0x10180000 4 1 = true ∧ inCreel 0x10180000 = true ∧ (mayLoad 32 0x10800000 = false ∨ live.pmpOk 32 0x10800000 4 0 = false) ∧ (mayFetch 32 0x14000000 = false ∨ live.pmpOk 32 0x14000000 4 2 = false) ∧ (mayStore 32 0x1017FFFC = false ∨ live.pmpOk 32 0x1017FFFC 4 1 = false)) :=
  ⟨⟨finds_on (by decide), by decide⟩,
   ⟨finds_on (by decide), by decide⟩,
   ⟨finds_on (by decide), by decide⟩,
   ⟨finds_on (by decide), by decide⟩,
   ⟨finds_on (by decide), by decide⟩,
   ⟨finds_on (by decide), by decide⟩⟩

theorem test_LoopUnitCommandsComplete_witness :
    ((on (evaluating)).finds (evaluating) ∧ (evaluating.spin 31).batch = some ⟨[some 4095], 6001000, 0, false, false, 0⟩ ∧ 6001000 + 56 + 0 < evaluating.slotDeadline 4095 ∧ evaluating.slotDeadline 4095 ≤ 6001000 + 56 + (evaluating.slotDeadline 4095 - 6001056) ∧ evaluating.slotDeadline 4095 - (6001000 + 56) ≤ evaluating.slotDeadline 4095 - (6001000 + 56) + 55) ∧
    ((on (inState .stop)).finds (inState .stop) ∧ (inState .stop).mayWrite .ply (Od.LOOP_W_CTRL + 0xF) 0x3F800000 = true ∧ 0x3F800000 < 2 ^ 32 ∧ Od.LOOP_W_CTRL ≤ Od.LOOP_W_CTRL + 0xF ∧ Od.LOOP_W_CTRL + 0xF < Od.LOOP_W_OUT ∧ (inState .stop).sel .ply Od.LOOP_SEL = 0 ∧ lowest ((((inState .stop).used 3).merged.setSlotWord 0 (((inState .stop).used 3).slotOffset 0 ((Od.LOOP_W_CTRL + 0xF) % 256)) 0x3F800000).rejectsFor (Od.LOOP_W_CTRL + 0xF)) = none) ∧
    ((on (manual)).finds (manual) ∧ manual.mayWrite .ply Od.LOOP_W_OUT 0x3F800000 = true ∧ 0x3F800000 < 2 ^ 32) ∧
    ((on (inState .stop)).finds (inState .stop) ∧ (inState .stop).mayWrite .ply Od.LOOP_W_CLEAR 1 = true ∧ (inState .stop).mayWrite (.can 0) Od.LOOP_CLEAR_ALL 1 = true) :=
  ⟨⟨finds_on (by decide), by decide⟩,
   ⟨finds_on (by decide), by decide⟩,
   ⟨finds_on (by decide), by decide⟩,
   ⟨finds_on (by decide), by decide⟩⟩

theorem test_RemoteStationCommandsComplete_witness :
    ((on (stationOff)).finds (stationOff) ∧ stationOff.clk.running = true ∧ stationOff.roleFuse ≠ 1 ∧ stationOff.roleFuse ≠ 3 ∧ headerOk 1 inImage 0x200 = true ∧ beAt inImage 8 1 = 63 ∧ stationOff.remote? 63 = some ⟨63, [], 3, false, 2, none, none⟩ ∧ (stationOff.rd (Od.RS_NETWORK 63)).testBit 1 = true ∧ beAt inImage 4 4 = stationOff.rd (Od.RS_IDENT 63) ∧ (none : Option Nat) ≠ some (beAt inImage 0xC 8) ∧ imageCrcOk inImage = true) ∧
    ((on (stationOn)).finds (stationOn) ∧ stationOn.clk.running = true ∧ stationOn.remote? 63 = some ⟨63, [], 3, false, 2, none, none⟩ ∧ stationOn.rsOnline 63 = true ∧ 3 + stationOn.rd (Od.RS_CYCLE 63) ≤ stationOn.rd Od.TICK_COUNT + 1 ∧ stationOn.rd Od.RIO_MISS_LIMIT ≤ 2 + 1) ∧
    ((on (station)).finds (station) ∧ station.roleFuse = 1 ∧ station.rd Od.RSTA_NUMBER ≠ 0xFF ∧ headerOk 2 outImage 0x80 = true ∧ station.outputImageOk outImage = true ∧ station.prog.outputs.seen ≠ some (beAt outImage 4 4, beAt outImage 0xC 8)) ∧
    ((on (lapsed)).finds (lapsed) ∧ lapsed.roleFuse = 1 ∧ lapsed.rd Od.RSTA_STATE = 1 ∧ lapsed.prog.outputs.reactDue = false ∧ lapsed.rd Od.RSTA_WATCHDOG ≤ lapsed.prog.outputs.quiet) :=
  ⟨⟨finds_on (by decide +kernel), by decide +kernel, by decide +kernel, by decide +kernel, by decide +kernel, by decide +kernel, by decide +kernel, by decide +kernel, by decide +kernel, by decide +kernel, sealed_crc _ _⟩,
   ⟨finds_on (by decide), by decide⟩,
   ⟨finds_on (by decide +kernel), by decide +kernel⟩,
   ⟨finds_on (by decide), by decide⟩⟩

theorem test_ProgramExchangeCommandsComplete_witness :
    ((on (inState .stop)).finds (inState .stop) ∧ (inState .stop).mayWriteBytes .ply Od.PROG_IMAGE = true ∧ (match (inState .stop).srv.writes.find? (fun w => w.key == Od.PROG_IMAGE && w.path == .ply) with | some w => w.data | none => []) = [] ∧ (splice [] 3 [7#8]).length ≤ 0x1000000) ∧
    ((on (exchange 2)).finds (exchange 2) ∧ (exchange 2).mayWrite .ply Od.PROG_CMD 1 = true ∧ ((exchange 2).used 3).rd Od.PROG_STATE = 2 ∧ ((exchange 2).used 3).verifyCodes = []) ∧
    ((on (exchange 3)).finds (exchange 3) ∧ (exchange 3).mayWrite .ply Od.PROG_CMD 2 = true ∧ ((exchange 3).used 3).rd Od.PROG_STATE = 3 ∧ ((exchange 3).used 3).exchangeOk = true ∧ (((exchange 3).used 3).bank ((exchange 3).used 3).inactiveBank).content = some plain ∧ ((exchange 3).used 3).prepareCodes = [] ∧ (match ((exchange 3).used 3).prog.image with | some o => o.area.length | none => 0) + plain.area.length ≤ 0x5C0000 ∧ transferCycles (((exchange 3).used 3).transferBytes plain) ≤ ((exchange 3).used 3).slackCycles) ∧
    ((on (exchange 4)).finds (exchange 4) ∧ (exchange 4).mayWrite .ply Od.PROG_CMD 3 = true ∧ ((exchange 4).used 3).rd Od.PROG_STATE = 4 ∧ ((exchange 4).used 3).exchangeOk = true ∧ ((exchange 4).used 3).pairMember = false ∧ ((exchange 4).used 3).rd Od.PROG_CHANGEOVER = 0) ∧
    ((on ((exchange 4).wr Od.PROG_CHANGEOVER (live.stepNumber + 16))).finds ((exchange 4).wr Od.PROG_CHANGEOVER (live.stepNumber + 16)) ∧ ((exchange 4).wr Od.PROG_CHANGEOVER (live.stepNumber + 16)).mayWrite .ply Od.PROG_CMD 3 = true ∧ (exchange 4).stepNumber + 16 ≤ live.stepNumber + 16) ∧
    ((on (exchange 5)).finds (exchange 5) ∧ (exchange 5).mayWrite .ply Od.PROG_CMD 4 = true ∧ ((exchange 5).used 3).rd Od.PROG_STATE ≤ 5) ∧
    ((on (exchange 7)).finds (exchange 7) ∧ (exchange 7).mayWrite .ply Od.PROG_CMD 5 = true ∧ ((exchange 7).used 3).rd Od.PROG_STATE = 7) ∧
    ((on (exchange 0)).finds (exchange 0) ∧ (exchange 0).mayWrite .ply Od.PROG_CMD 5 = true ∧ ((exchange 0).used 3).rd Od.PROG_STATE = 0) ∧
    ((on (armed)).finds (armed) ∧ armed.rd Od.PROG_STATE = 5 ∧ armed.stepNumber + 1 = armed.prog.changeAt ∧ armed.slack = true ∧ armed.anyOpen = false) ∧
    ((on (due)).finds (due) ∧ due.changeoverDue = true ∧ due.arr.released = false ∧ (due.bank due.inactiveBank).content = some plain) ∧
    ((on (slack)).finds (slack) ∧ slack.prog.retainDue ≤ slack.clk.cyc ∧ slack.slack = true ∧ slack.anyOpen = false ∧ slack.transferSlack = false ∧ slack.prog.image = some image) :=
  ⟨⟨finds_on (by decide), by decide⟩,
   ⟨finds_on (by decide +kernel), by decide +kernel⟩,
   ⟨finds_on (by decide), by decide⟩,
   ⟨finds_on (by decide), by decide⟩,
   ⟨finds_on (by decide), by decide⟩,
   ⟨finds_on (by decide), by decide⟩,
   ⟨finds_on (by decide), by decide⟩,
   ⟨finds_on (by decide), by decide⟩,
   ⟨finds_on (by decide), by decide⟩,
   ⟨finds_on (by decide), by decide⟩,
   ⟨finds_on (by decide), by decide⟩⟩

theorem test_DigitalInputEventsComplete_witness :
    ((on (dio 0x31 0)).finds (dio 0x31 0) ∧ ((dio 0x31 0).sinElapse (47 / 2) true).dioLive 47 = true ∧ ((dio 0x31 0).sinElapse (47 / 2) true).dioMode 47 ≠ 0 ∧ ((dio 0x31 0).sinElapse (47 / 2) true).dioBit 47 dsLevel ≠ true ∧ (dio 0x31 0).pulseMasked 47 ((dio 0x31 0).clk.cyc - filterTime (field ((dio 0x31 0).chan 47).cfg 4 3)) = false) ∧
    ((on (pulsing.updChan 47 fun x => { x with cfg := 0xF11 })).finds (pulsing.updChan 47 fun x => { x with cfg := 0xF11 }) ∧ (pulsing.updChan 47 fun x => { x with cfg := 0xF11 }).pulseMasked 47 (6000000 - filterTime (field 0xF11 4 3)) = true) ∧
    ((on (dio 0x31 0x20)).finds (dio 0x31 0x20) ∧ (dio 0x31 0x20).dioLive 47 = true ∧ (dio 0x31 0x20).dioBit 47 dsChatter = true) ∧
    ((on (dio 0xB4 0)).finds (dio 0xB4 0) ∧ (dio 0xB4 0).dioLive 47 = true ∧ (dio 0xB4 0).dioIsInput 47 = true ∧ ((dio 0xB4 0).chan 47).cfg.testBit 7 = true ∧ (dio 0xB4 0).dioBit 47 dsOpenWire ≠ true) ∧
    ((on ((dio 0x31 1).wr (Od.DIO_MAX_ON 47) 1)).finds ((dio 0x31 1).wr (Od.DIO_MAX_ON 47) 1) ∧ ((dio 0x31 1).wr (Od.DIO_MAX_ON 47) 1).dioLive 47 = true ∧ ((dio 0x31 1).wr (Od.DIO_MAX_ON 47) 1).rd (Od.DIO_MAX_ON 47) ≠ 0 ∧ ((dio 0x31 1).wr (Od.DIO_MAX_ON 47) 1).dioIsInput 47 = true ∧ ((dio 0x31 1).wr (Od.DIO_MAX_ON 47) 1).dioBit 47 dsLevel = true ∧ ((dio 0x31 1).wr (Od.DIO_MAX_ON 47) 1).dioBit 47 dsStuck = false) ∧
    ((on (fed)).finds (fed) ∧ fed.dioLive 47 = true ∧ 7 = field (fed.chan 47).cfg 8 3 ∧ (fed.chan 47).cfg.testBit 11 = true ∧ fed.tpPulsing 7 = true ∧ (fed.tpSource 7).pulse = some 5950000) :=
  ⟨⟨finds_on (by decide), by decide⟩,
   ⟨finds_on (by decide), by decide⟩,
   ⟨finds_on (by decide), by decide⟩,
   ⟨finds_on (by decide), by decide⟩,
   ⟨finds_on (by decide), by decide⟩,
   ⟨finds_on (by decide), by decide⟩⟩

theorem test_CounterCommandsComplete_witness :
    ((on (counting 3 5)).finds (counting 3 5) ∧ (counting 3 5).pulseMasked 14 (6000000 - countFilterTime ((counting 3 5).rd (Od.COUNT_FILTER 7))) = false ∧ (counting 3 5).pulseMasked 15 (6000000 - countFilterTime ((counting 3 5).rd (Od.COUNT_FILTER 7))) = false ∧ (counting 3 5).clk.running = true ∧ (counting 3 5).dioCount ≠ 0 ∧ (counting 3 5).io.inputs.getD 7 (false, false) = (false, true) ∧ 3 ≤ (counting 3 5).rd (Od.COUNT_MODE 7) ∧ false ≠ true ∧ true ≠ false) ∧
    ((on (counting 5 2147483647)).finds (counting 5 2147483647) ∧ (counting 5 2147483647).pulseMasked 14 (6000000 - countFilterTime ((counting 5 2147483647).rd (Od.COUNT_FILTER 7))) = false ∧ (counting 5 2147483647).pulseMasked 15 (6000000 - countFilterTime ((counting 5 2147483647).rd (Od.COUNT_FILTER 7))) = false ∧ (counting 5 2147483647).clk.running = true ∧ (counting 5 2147483647).dioCount ≠ 0 ∧ (counting 5 2147483647).io.inputs.getD 7 (false, false) = (false, true) ∧ countDir ((counting 5 2147483647).rd (Od.COUNT_MODE 7)) false true false true = none ∧ countDir ((counting 5 2147483647).rd (Od.COUNT_MODE 7)) false true true true = some false ∧ countDir ((counting 5 2147483647).rd (Od.COUNT_MODE 7)) false true false false = some true ∧ (2147483648 : Int) = (counting 5 2147483647).io.counts.getD 7 0 + (if true then 1 else -1) ∧ (0 : Int) = (counting 5 2147483647).rd (Od.COUNT_MODULO 7)) ∧
    ((on (inState .stop)).finds (inState .stop) ∧ (inState .stop).mayWrite .ply (Od.COUNT_CMD 7) 1 = true) :=
  ⟨⟨finds_on (by decide), by decide⟩,
   ⟨finds_on (by decide), by decide⟩,
   ⟨finds_on (by decide), by decide⟩⟩

theorem test_DigitalOutputProtectionsComplete_witness :
    ((on (driving 2)).finds (driving 2) ∧ (driving 2).dioLive 47 = true ∧ (driving 2).stageOn 47 = true ∧ (driving 2).dioIsOutput 47 = true ∧ ((driving 2).chan 47).cfg.testBit 12 = true ∧ (driving 2).dioBit 47 dsOpenLoad ≠ true) ∧
    ((on (driving 0x202)).finds (driving 0x202) ∧ (driving 0x202).dioLive 47 = true ∧ (driving 0x202).stageOn 47 = true ∧ (driving 0x202).dioBit 47 dsShort = true) ∧
    ((on (dio 0x38 0x802)).finds (dio 0x38 0x802) ∧ (dio 0x38 0x802).dioLive 47 = true ∧ (dio 0x38 0x802).dioBit 47 dsThermal = true) ∧
    ((on (dio 0x38 0)).finds (dio 0x38 0) ∧ (dio 0x38 0).dioLive 47 = true ∧ (dio 0x38 0).dioIsOutput 47 = true ∧ (dio 0x38 0).stageOn 47 = false) ∧
    ((on (pulsing.setTpBit 7 2 true)).finds (pulsing.setTpBit 7 2 true) ∧ (pulsing.setTpBit 7 2 true).clk.running = true ∧ (pulsing.setTpBit 7 2 true).tpActive 7 = true ∧ (pulsing.setTpBit 7 2 true).tpBit 7 2 = true) ∧
    ((on (pulsing.setTpBit 7 5 true)).finds (pulsing.setTpBit 7 5 true) ∧ (pulsing.setTpBit 7 5 true).clk.running = true ∧ (pulsing.setTpBit 7 5 true).tpBit 7 5 = true) :=
  ⟨⟨finds_on (by decide), by decide⟩,
   ⟨finds_on (by decide), by decide⟩,
   ⟨finds_on (by decide), by decide⟩,
   ⟨finds_on (by decide), by decide⟩,
   ⟨finds_on (by decide), by decide⟩,
   ⟨finds_on (by decide), by decide⟩⟩

theorem test_FieldGroupSupplyCommandsComplete_witness :
    ((on (live)).finds (live) ∧ live.fgLive 5 = true ∧ live.fgBit 5 0 ≠ true ∧ live.io.reversed.contains 5 = false ∧ live.fgBit 5 1 = false ∧ live.fgBit 5 6 = false) ∧
    ((on (live.setFgBit 5 1 true)).finds (live.setFgBit 5 1 true) ∧ (live.setFgBit 5 1 true).fgLive 5 = true ∧ (live.setFgBit 5 1 true).fgBit 5 1 = true) ∧
    ((on (live.updField fun x => { x with holds := [(5, 6000000)] })).finds (live.updField fun x => { x with holds := [(5, 6000000)] }) ∧ (live.updField fun x => { x with holds := [(5, 6000000)] }).fgLive 5 = true ∧ (live.updField fun x => { x with holds := [(5, 6000000)] }).io.holds.find? (·.1 == 5) = some (5, 6000000)) ∧
    ((on (live)).finds (live) ∧ live.mayWrite .ply (Od.FG_ACK 5) 1 = true) :=
  ⟨⟨finds_on (by decide), by decide⟩,
   ⟨finds_on (by decide), by decide⟩,
   ⟨finds_on (by decide), by decide⟩,
   ⟨finds_on (by decide), by decide⟩⟩

theorem test_TestPulseAndSafeOutputCommandsComplete_witness :
    ((on (pulsing)).finds (pulsing) ∧ pulsing.clk.running = true ∧ pulsing.tpPulsing 7 = true ∧ (5250000 : Nat) = (match (pulsing.tpSource 7).pulse with | some t => t + us 300 + us 5000 - pulsing.clk.cyc | none => 0) ∧ (pulsing.tpSource 7).pulse ≠ some (pulsing.atTime (tpInstant 7 (pulsing.clk.now + 5250000))).clk.cyc ∧ 7 < pulsing.io.tp.length) ∧
    ((on (pulsing)).finds (pulsing) ∧ pulsing.clk.running = true ∧ pulsing.tpActive 7 = true ∧ (pulsing.tpSource 7).pulse = some 5950000) ∧
    ((on (safeOut)).finds (safeOut) ∧ safeOut.clk.running = true ∧ safeOut.rd (Od.SO_DARK_EN 7) ≠ 0 ∧ safeOut.soBit 7 1 = true ∧ safeOut.safetyFuse ≠ 0) ∧
    ((on (live)).finds (live) ∧ live.clk.running = true ∧ live.safetyFuse ≠ 0 ∧ live.darkNow 7 = false ∧ live.soBit 7 1 = false) ∧
    ((on (live)).finds (live) ∧ live.mayWrite .ply Od.SO_ACK 1 = true) :=
  ⟨⟨finds_on (by decide), by decide⟩,
   ⟨finds_on (by decide), by decide⟩,
   ⟨finds_on (by decide), by decide⟩,
   ⟨finds_on (by decide), by decide⟩,
   ⟨finds_on (by decide), by decide⟩⟩

theorem test_UniversalInputEventsComplete_witness :
    ((on (uio 0x4007 0)).finds (uio 0x4007 0) ∧ (uio 0x4007 0).uioLive 23 = true ∧ (uio 0x4007 0).uioSd 23 = true ∧ (uio 0x4007 0).coldJunction 23 5 6 false = (5, false)) ∧
    ((on (uio 0x84007 0)).finds (uio 0x84007 0) ∧ (uio 0x84007 0).uioLive 23 = true ∧ (uio 0x84007 0).uioOpenEn 23 = true ∧ 7 ≤ (uio 0x84007 0).uioMode 23 ∧ (uio 0x84007 0).uioMode 23 ≤ 9) ∧
    ((on (uio 0x84009 0)).finds (uio 0x84009 0) ∧ (uio 0x84009 0).uioLive 23 = true ∧ (uio 0x84009 0).uioOpenEn 23 = true ∧ 7 ≤ (uio 0x84009 0).uioMode 23 ∧ (uio 0x84009 0).uioMode 23 ≤ 9) ∧
    ((on (uio 0x102 0)).finds (uio 0x102 0) ∧ (uio 0x102 0).uioLive 23 = true ∧ (uio 0x102 0).uioMode 23 = 2) ∧
    ((on (uio 0x8000A 0)).finds (uio 0x8000A 0) ∧ (uio 0x8000A 0).uioLive 23 = true ∧ (uio 0x8000A 0).uioMode 23 = 10 ∧ (uio 0x8000A 0).uioOpenEn 23 = true) :=
  ⟨⟨finds_on (by decide), by decide⟩,
   ⟨finds_on (by decide), by decide⟩,
   ⟨finds_on (by decide), by decide⟩,
   ⟨finds_on (by decide), by decide⟩,
   ⟨finds_on (by decide), by decide⟩⟩

theorem test_UniversalOutputEventsComplete_witness :
    ((on (uio 5 0x100)).finds (uio 5 0x100) ∧ (uio 5 0x100).uioLive 23 = true ∧ (uio 5 0x100).uioDriving 23 = true ∧ (uio 5 0x100).uioBit 23 usFail = false ∧ (uio 5 0x100).uioIsCurrentOut 23 = true ∧ F32.lt (F32.ofNat 140) (F32.ofNat 141) = true ∧ (uio 5 0x100).uioMode 23 ≠ 0 ∧ (uio 5 0x100).uioBit 23 usThermOff = false) ∧
    ((on (uio 6 0)).finds (uio 6 0) ∧ (uio 6 0).uioLive 23 = true ∧ (uio 6 0).uioMode 23 = 6) ∧
    ((on (uio 4 0)).finds (uio 4 0) ∧ (uio 4 0).uioLive 23 = true ∧ (uio 4 0).uioMode 23 = 4) ∧
    ((on (live)).finds (live) ∧ live.mayWrite .ply (Od.UIO_ACK 23) 1 = true) ∧
    ((on (live)).finds (live) ∧ live.clk.running = true ∧ 8 * 2 < live.uioCount ∧ live.ugLow 2 = false) ∧
    ((on (live.setBit (Od.UG_STATUS 2) 0 true)).finds (live.setBit (Od.UG_STATUS 2) 0 true) ∧ 8 * 2 < (live.setBit (Od.UG_STATUS 2) 0 true).uioCount ∧ (live.setBit (Od.UG_STATUS 2) 0 true).clk.running = true ∧ (live.setBit (Od.UG_STATUS 2) 0 true).ugLow 2 = true) :=
  ⟨⟨finds_on (by decide), by decide⟩,
   ⟨finds_on (by decide), by decide⟩,
   ⟨finds_on (by decide), by decide⟩,
   ⟨finds_on (by decide), by decide⟩,
   ⟨finds_on (by decide), by decide⟩,
   ⟨finds_on (by decide), by decide⟩⟩

theorem test_HartCommandsComplete_witness :
    ((on (hart 2 HartChan.fresh)).finds (hart 2 HartChan.fresh) ∧ (hart 2 HartChan.fresh).mayWriteBytes .ply (Od.HART_REQ 23) = true ∧ 3 ≤ [0#8, 1#8, 0#8].length ∧ [0#8, 1#8, 0#8].length = 3 + leAt [0#8, 1#8, 0#8] 2 1 ∧ [0#8, 1#8, 0#8].length ≤ 253 ∧ Core.domOk (Od.HART_REQ 23) [0#8, 1#8, 0#8] = true ∧ (leAt [0#8, 1#8, 0#8] 0 1).testBit 0 = false ∧ (((hart 2 HartChan.fresh).used 3).unlock .ply (Od.HART_REQ 23)).rd (Od.HART_UNIQUE_ID 23) = 0) ∧
    ((on (hart 2 HartChan.fresh)).finds (hart 2 HartChan.fresh) ∧ (hart 2 HartChan.fresh).mayWriteBytes .ply (Od.HART_REQ 23) = true ∧ [1#8, 0#8, 0#8].length = 3 + leAt [1#8, 0#8, 0#8] 2 1 ∧ Core.domOk (Od.HART_REQ 23) [1#8, 0#8, 0#8] = true ∧ (leAt [1#8, 0#8, 0#8] 0 1).testBit 0 = true) ∧
    ((on (hart 3 HartChan.fresh)).finds (hart 3 HartChan.fresh) ∧ (hart 3 HartChan.fresh).mayWrite .ply (Od.HART_CANCEL 23) 1 = true) ∧
    ((on (asking23 false)).finds (asking23 false) ∧ (asking23 false).hartCan 23 = true ∧ ((asking23 false).hart 23).req.isSome = true ∧ (hartParse hartFrame).checkOk = true ∧ 2 ≤ (hartParse hartFrame).count ∧ hartAnswers (hartParse ((asking23 false).hart 23).frame) (hartParse hartFrame) = true ∧ ((asking23 false).hart 23).ident = false ∧ (asking23 false).hartOn 23 = true) ∧
    ((on (asking23 true)).finds (asking23 true) ∧ (asking23 true).hartCan 23 = true ∧ ((asking23 true).hart 23).req.isSome = true ∧ hartAnswers (hartParse ((asking23 true).hart 23).frame) (hartParse hartFrame) = true ∧ ((asking23 true).hart 23).ident = true) ∧
    ((on (hart 2 HartChan.fresh)).finds (hart 2 HartChan.fresh) ∧ (hart 2 HartChan.fresh).hartOn 23 = true ∧ (hart 2 HartChan.fresh).hartHears 23 (hartParse hartFrame) = true ∧ ((hart 2 HartChan.fresh).hart 23).req = none ∧ (hart 2 HartChan.fresh).hartHears 23 (hartParse []) = false) ∧
    ((on (hart 1 HartChan.fresh)).finds (hart 1 HartChan.fresh) ∧ (hart 1 HartChan.fresh).hartCan 23 = true ∧ (hart 1 HartChan.fresh).rd (Od.HART_STATE 23) = 1) :=
  ⟨⟨finds_on (by decide), by decide⟩,
   ⟨finds_on (by decide), by decide⟩,
   ⟨finds_on (by decide), by decide⟩,
   ⟨finds_on (by decide), by decide⟩,
   ⟨finds_on (by decide), by decide⟩,
   ⟨finds_on (by decide), by decide⟩,
   ⟨finds_on (by decide), by decide⟩⟩

theorem test_SafetyInputAndAxisTimersComplete_witness :
    ((on (paired 1)).finds (paired 1) ∧ (paired 1).sinRuns 23 = true ∧ (paired 1).sinEval 23 = 1 ∧ (6000000 : Nat) = (((paired 1).safety.evals.getD 0 []).getD 23 PairEval.fresh).t) ∧
    ((on (paired 3)).finds (paired 3) ∧ (paired 3).sinRuns 23 = true ∧ (paired 3).sinEval 23 = 3) ∧
    ((on (live)).finds (live) ∧ live.safetyFuse ≠ 0 ∧ live.tickWork = true) ∧
    ((on (axis3 0x10 { Axis.fresh with good := some 6000000 })).finds (axis3 0x10 { Axis.fresh with good := some 6000000 }) ∧ (axis3 0x10 { Axis.fresh with good := some 6000000 }).rd (Od.AXIS_CNT 3) ≠ 0xFF ∧ (axis3 0x10 { Axis.fresh with good := some 6000000 }).tickWork = true ∧ (axis3 0x10 { Axis.fresh with good := some 6000000 }).axisFault 3 = true ∧ ((axis3 0x10 { Axis.fresh with good := some 6000000 }).axis 3).good = some 6000000 ∧ lasted (some 6000000) (ms ((axis3 0x10 Axis.fresh).rd (Od.AXIS_SRC_TOL_MS 3))) ((axis3 0x10 Axis.fresh).atCyc (6000000 + ms ((axis3 0x10 Axis.fresh).rd (Od.AXIS_SRC_TOL_MS 3)))).clk.cyc = true) ∧
    ((on (axis3 0 { Axis.fresh with apart := some 6000000 })).finds (axis3 0 { Axis.fresh with apart := some 6000000 }) ∧ (axis3 0 { Axis.fresh with apart := some 6000000 }).tickWork = true ∧ (axis3 0 { Axis.fresh with apart := some 6000000 }).axisFault 3 = false ∧ ((axis3 0 { Axis.fresh with apart := some 6000000 }).axis 3).apart = some 6000000 ∧ ((axis3 0 { Axis.fresh with apart := some 6000000 }).axis 3).invalid = none) ∧
    ((on (axis3 0 { Axis.fresh with invalid := some 6000000 })).finds (axis3 0 { Axis.fresh with invalid := some 6000000 }) ∧ (axis3 0 { Axis.fresh with invalid := some 6000000 }).axisFault 3 = false ∧ ((axis3 0 { Axis.fresh with invalid := some 6000000 }).axis 3).apart = none ∧ ((axis3 0 { Axis.fresh with invalid := some 6000000 }).axis 3).invalid = some 6000000) :=
  ⟨⟨finds_on (by decide), by decide⟩,
   ⟨finds_on (by decide), by decide⟩,
   ⟨finds_on (by decide), by decide⟩,
   ⟨finds_on (by decide), by decide⟩,
   ⟨finds_on (by decide), by decide⟩,
   ⟨finds_on (by decide), by decide⟩⟩

theorem test_ScrimCommandsComplete_witness :
    ((on (listening)).finds (listening) ∧ listening.clk.running = true ∧ listening.timed = true ∧ listening.safetyFuse ≠ 0 ∧ 4 ≤ (scrimFrame 1 9).length ∧ beAt (scrimFrame 1 9) 0 1 = 3 ∧ beAt (scrimFrame 1 9) 1 1 = 1 ∧ beAt (scrimFrame 1 9) 2 2 + 4 = (scrimFrame 1 9).length ∧ listening.rxConn (beAt (telegram 1 9) 2 2) = some 15 ∧ listening.copyValid 15 1 (telegram 1 9) = true ∧ ((listening.scrimExpire 15).conn 15).pend = none) ∧
    ((on (listening)).finds (listening) ∧ listening.copyValid 15 0 (telegram 1 9) = false ∧ beAt (scrimFrame 1 9) 2 2 + 4 = (scrimFrame 1 9).length) ∧
    ((on (half)).finds (half) ∧ half.copyValid 15 1 (telegram 1 9) = true ∧ ((half.scrimExpire 15).conn 15).pend = some waitingCopy ∧ beAt waitingCopy.bytes 8 4 = beAt (telegram 1 9) 8 4 ∧ waitingCopy.path ≠ 1 ∧ beAt waitingCopy.bytes 8 4 ≠ beAt (telegram 1 10) 8 4) ∧
    ((on (silent)).finds (silent) ∧ silent.rd (Od.SCRIM_DIR 15) = 2 ∧ silent.clk.running = true ∧ silent.scrimLive 15 = true ∧ (silent.atTime silent.clk.nextB).period ≠ 0 ∧ ((silent.atTime silent.clk.nextB).conn 15).waiting = [] ∧ ((silent.atTime silent.clk.nextB).conn 15).tick + (ms ((silent.atTime silent.clk.nextB).rd (Od.SCRIM_WD_MS 15)) + (silent.atTime silent.clk.nextB).period - 1) / (silent.atTime silent.clk.nextB).period < silent.rd Od.TICK_COUNT + 1) :=
  ⟨⟨finds_on (by decide +kernel), by decide +kernel⟩,
   ⟨finds_on (by decide +kernel), by decide +kernel⟩,
   ⟨finds_on (by decide +kernel), by decide +kernel⟩,
   ⟨finds_on (by decide), by decide⟩⟩

theorem test_PairPresenceCommandsComplete_witness :
    ((on (twin .standby)).finds (twin .standby) ∧ (twin .standby).pairMember = true ∧ (twin .standby).refuseReason ⟨2, 8, 7, 0x77, 1, 9, 0, 0, 1⟩ = 1) ∧
    ((on ((twin .active).updPair fun p => { p with lanes := [false, true] })).finds ((twin .active).updPair fun p => { p with lanes := [false, true] }) ∧ ((twin .active).updPair fun p => { p with lanes := [false, true] }).pairEn = true ∧ ((twin .active).updPair fun p => { p with lanes := [false, true] }).pair.lanes.getD ((1 : Fin 2) : Nat) true = true ∧ ((1 : Fin 2) : Nat) < ((twin .active).updPair fun p => { p with lanes := [false, true] }).pair.lanes.length ∧ ((twin .active).updPair fun p => { p with lanes := [false, true] }).pair.lanes.getD ((0 : Fin 2) : Nat) true = false) ∧
    ((on (beside .standby)).finds (beside .standby) ∧ (beside .standby).pairEn = true ∧ (beside .standby).partnerToggling = true ∧ ((beside .standby).setPairBit psPartnerToggling false).pairRole = .standby ∧ ((beside .standby).setPairBit psPartnerToggling false).roleMoves = true) ∧
    ((on ((beside .syncing).updPair fun p => { p with detected := true })).finds ((beside .syncing).updPair fun p => { p with detected := true }) ∧ ((beside .syncing).updPair fun p => { p with detected := true }).partnerToggling = true ∧ (((beside .syncing).updPair fun p => { p with detected := true }).setPairBit psPartnerToggling false).pairRole = .syncing ∧ (((beside .syncing).updPair fun p => { p with detected := true }).setPairBit psPartnerToggling false).coldMay = true) ∧
    ((on ((beside .standby).updPair fun p => { p with acked := true, order := some ⟨5, 9000000⟩ })).finds ((beside .standby).updPair fun p => { p with acked := true, order := some ⟨5, 9000000⟩ }) ∧ ((beside .standby).updPair fun p => { p with acked := true, order := some ⟨5, 9000000⟩ }).pairEn = true ∧ ((beside .standby).updPair fun p => { p with acked := true, order := some ⟨5, 9000000⟩ }).pairRole = .standby ∧ ((beside .standby).updPair fun p => { p with acked := true, order := some ⟨5, 9000000⟩ }).roleMoves = true ∧ ((beside .standby).updPair fun p => { p with acked := true, order := some ⟨5, 9000000⟩ }).pair.order.isSome = true) ∧
    ((on (beside .active)).finds (beside .active) ∧ (beside .active).pairRole ≠ .standby ∧ (beside .standby).pair.order = none) ∧
    ((on ({ twin .active with toggling := true })).finds ({ twin .active with toggling := true }) ∧ ({ twin .active with toggling := true } : Core).toggling = true) ∧
    ((on (((twin .active).wr Od.PAIR_UNIT 1).updPair fun p => { p with both := some 6000000 })).finds (((twin .active).wr Od.PAIR_UNIT 1).updPair fun p => { p with both := some 6000000 }) ∧ (((twin .active).wr Od.PAIR_UNIT 1).updPair fun p => { p with both := some 6000000 }).pair.both = some 6000000 ∧ ((twin .active).wr Od.PAIR_UNIT 1).rd Od.PAIR_UNIT = 1 ∧ ((twin .active).wr Od.PAIR_UNIT 1).pairMember = true) :=
  ⟨⟨finds_on (by decide), by decide⟩,
   ⟨finds_on (by decide), by decide⟩,
   ⟨finds_on (by decide), by decide⟩,
   ⟨finds_on (by decide), by decide⟩,
   ⟨finds_on (by decide), by decide⟩,
   ⟨finds_on (by decide), by decide⟩,
   ⟨finds_on (by decide), by decide⟩,
   ⟨finds_on (by decide), by decide⟩⟩

theorem test_PairStepAndRoleCommandsComplete_witness :
    ((on (twin .standby)).finds (twin .standby) ∧ (twin .standby).pairMember = true ∧ true ∈ stepRecord.lanes ∧ (twin .standby).role = .standby ∧ (twin .standby).roleHeld = false) ∧
    ((on ((twin .standby).setPairBit psResyncing true)).finds ((twin .standby).setPairBit psResyncing true) ∧ ((twin .standby).setPairBit psResyncing true).clk.running = true ∧ ((twin .standby).setPairBit psResyncing true).role = .standby ∧ ((twin .standby).setPairBit psResyncing true).pairBit psResyncing = true) ∧
    ((on ({ twin .syncing with clk := { live.clk with state := .locked } })).finds ({ twin .syncing with clk := { live.clk with state := .locked } }) ∧ ({ twin .syncing with clk := { live.clk with state := .locked } } : Core).clk.running = true ∧ ({ twin .syncing with clk := { live.clk with state := .locked } } : Core).pairMember = true ∧ ({ twin .syncing with clk := { live.clk with state := .locked } } : Core).role = .syncing ∧ ({ twin .syncing with clk := { live.clk with state := .locked } } : Core).pair.held = false ∧ ({ twin .syncing with clk := { live.clk with state := .locked } } : Core).pair.startWait = none ∧ ({ twin .syncing with clk := { live.clk with state := .locked } } : Core).mayTake = true) ∧
    ((on (inState .init)).finds (inState .init) ∧ (inState .init).roleHeld = false ∧ (inState .init).run = .init ∧ (inState .init).react.startDone = true ∧ (inState .init).clk.source = 0 ∧ (inState .init).pair.detected = false) ∧
    ((on ((twin .syncing).updPair fun p => { p with startWait := some 6000000 })).finds ((twin .syncing).updPair fun p => { p with startWait := some 6000000 }) ∧ ((twin .syncing).updPair fun p => { p with startWait := some 6000000 }).roleHeld = false ∧ ((twin .syncing).updPair fun p => { p with startWait := some 6000000 }).pair.startWait = some 6000000) ∧
    ((on (twin .active)).finds (twin .active) ∧ (twin .active).mayWrite .ply Od.PAIR_CMD 1 = true ∧ (twin .active).mayWrite .ply Od.PAIR_CMD 2 = true ∧ (twin .active).mayWrite .ply Od.PAIR_CMD 3 = true) ∧
    ((on ((twin .active).updPair fun p => { p with requestAt := some 6000000 })).finds ((twin .active).updPair fun p => { p with requestAt := some 6000000 }) ∧ ((twin .active).updPair fun p => { p with requestAt := some 6000000 }).pair.requestAt = some 6000000) ∧
    ((on ((twin .standby).updPair fun p => { p with quiet := some 6000000 })).finds ((twin .standby).updPair fun p => { p with quiet := some 6000000 }) ∧ ((twin .standby).updPair fun p => { p with quiet := some 6000000 }).pair.quiet = some 6000000 ∧ ((twin .standby).updPair fun p => { p with quiet := some 6000000 }).pairBit psReturn = false) :=
  ⟨⟨finds_on (by decide), by decide⟩,
   ⟨finds_on (by decide), by decide⟩,
   ⟨finds_on (by decide), by decide⟩,
   ⟨finds_on (by decide), by decide⟩,
   ⟨finds_on (by decide), by decide⟩,
   ⟨finds_on (by decide), by decide⟩,
   ⟨finds_on (by decide), by decide⟩,
   ⟨finds_on (by decide), by decide⟩⟩

theorem test_HeartbeatCommandsComplete_witness :
    ((on (twin .active)).finds (twin .active) ∧ (twin .active).clk.running = true ∧ (twin .active).ply.unvoted = none ∧ (twin .active).pairMember = true ∧ (twin .active).pairBit psWitnessLost = false) ∧
    ((on (witness)).finds (witness) ∧ witness.clk.running = true ∧ witness.ply.unvoted = none ∧ witness.role = .witness ∧ witness.run ≠ .safe) ∧
    ((on (witness)).finds (witness) ∧ 4 ≤ (pairFrame (message 8 1 1 1 0 0)).length ∧ beAt (pairFrame (message 8 1 1 1 0 0)) 0 1 = 4 ∧ beAt (pairFrame (message 8 1 1 1 0 0)) 1 1 = 1 ∧ beAt (pairFrame (message 8 1 1 1 0 0)) 2 2 + 4 = (pairFrame (message 8 1 1 1 0 0)).length ∧ witness.servedBy (msgPair (message 8 1 1 1 0 0)) = some 7 ∧ [0, 1].find? (fun u => witness.servedId 7 u == msgSrc (message 8 1 1 1 0 0)) = some 1 ∧ witness.pairValid 1 1 (msgPair (message 8 1 1 1 0 0)) (message 8 1 1 1 0 0) = true) ∧
    ((on (twin .active)).finds (twin .active) ∧ (twin .active).pairMember = true ∧ (twin .active).role ≠ .witness ∧ msgSrc (message 8 1 0 2 3 0) = (twin .active).rd Od.PAIR_PARTNER_ID ∧ (twin .active).pairValid 0 1 ((twin .active).rd Od.PAIR_PAIR_ID) (message 8 1 0 2 3 0) = true) ∧
    ((on (twin .active)).finds (twin .active) ∧ msgSrc (message 9 2 1 0xC0 0 0) = (twin .active).rd Od.PAIR_WITNESS_ID ∧ (twin .active).pairValid 1 2 ((twin .active).rd Od.PAIR_PAIR_ID) (message 9 2 1 0xC0 0 0) = true) :=
  ⟨⟨finds_on (by decide), by decide⟩,
   ⟨finds_on (by decide), by decide⟩,
   ⟨finds_on (by decide +kernel), by decide +kernel⟩,
   ⟨finds_on (by decide +kernel), by decide +kernel⟩,
   ⟨finds_on (by decide +kernel), by decide +kernel⟩⟩

theorem test_WitnessOrderCommandsComplete_witness :
    ((on (twin .standby)).finds (twin .standby) ∧ (twin .standby).clk.running = true ∧ (twin .standby).ply.unvoted = none ∧ beAt (pairFrame (message 9 3 1 2 7 9000000)) 2 2 + 4 = (pairFrame (message 9 3 1 2 7 9000000)).length ∧ (twin .standby).orderValid 1 (message 9 3 1 2 7 9000000) = true ∧ msgWord1 (message 9 3 1 2 7 9000000) = 2 ∧ msgWord2 (message 9 3 1 2 7 9000000) = (twin .standby).rd Od.SERIAL ∧ (twin .standby).orderKnown (message 9 3 1 2 7 9000000) = false) ∧
    ((on (twin .active)).finds (twin .active) ∧ (twin .active).orderValid 0 (message 9 3 0 1 7 9000000) = true ∧ msgWord1 (message 9 3 0 1 7 9000000) = 1 ∧ msgWord2 (message 9 3 0 1 7 9000000) = (twin .active).rd Od.SERIAL ∧ (twin .active).pair.order = none) ∧
    ((on (ordered)).finds (ordered) ∧ ordered.clk.running = true ∧ ordered.ply.unvoted = none ∧ ordered.servedBy (msgPair (message 7 4 1 1 5 0)) = some 7 ∧ ordered.role = .witness ∧ ordered.pairValid 1 4 (msgPair (message 7 4 1 1 5 0)) (message 7 4 1 1 5 0) = true ∧ (ordered.servedPair 7).order = some ⟨5, 9000000, false, 1, []⟩ ∧ msgWord2 (message 7 4 1 1 5 0) = 5 ∧ ordered.servedId 7 (1 - 1) = msgSrc (message 7 4 1 1 5 0) ∧ msgWord2 (message 8 4 1 2 6 0) = (5 + 1) % 2 ^ 32 ∧ ordered.servedId 7 1 = msgSrc (message 8 4 1 2 6 0)) ∧
    ((on (twin .active)).finds (twin .active) ∧ (twin .active).orderValid 1 (message 9 3 1 2 8 9000000) = true ∧ msgWord1 (message 9 3 1 2 8 9000000) = 2 ∧ msgWord2 (message 9 3 1 2 8 9000000) = (twin .active).rd Od.PAIR_PARTNER_ID ∧ (twin .active).role = .active ∧ (twin .active).pair.order = none ∧ (twin .active).pairMember = true) :=
  ⟨⟨finds_on (by decide +kernel), by decide +kernel⟩,
   ⟨finds_on (by decide +kernel), by decide +kernel⟩,
   ⟨finds_on (by decide +kernel), by decide +kernel⟩,
   ⟨finds_on (by decide +kernel), by decide +kernel⟩⟩

theorem test_SwitchCommandsComplete_witness :
    ((on (netB)).finds (netB) ∧ netB.portSpeed 1 1 ≠ 0 ∧ 0 ≤ 2 ∧ netB.portSpeed 0 0 ≠ 2 ∧ 2 ≤ 2) ∧
    ((on (netB)).finds (netB) ∧ netB.clk.running = true ∧ netB.portUp 1 0 = true ∧ frameDst (beBytes 6 0x020000000001) = netB.rd (Od.NET_MAC 1)) ∧
    ((on (netB)).finds (netB) ∧ netB.portUp 1 0 = true ∧ frameDst (beBytes 6 0x020000000009 ++ beBytes 6 5 ++ beBytes 2 0x0800) ≠ netB.rd (Od.NET_MAC 1) ∧ (netB.learn 1 5 0).peerMessage 1 (beBytes 6 0x020000000009 ++ beBytes 6 5 ++ beBytes 2 0x0800) = false ∧ ((netB.learn 1 5 0).outPorts 1 0x020000000009).contains (1 - 0) = true) ∧
    ((on ((netB.wr (Od.NET_MRP_EN 1) 1).updSide 1 fun x => { x with fdb := [⟨5, 1, 6000000⟩], flush := some 6000001 })).finds ((netB.wr (Od.NET_MRP_EN 1) 1).updSide 1 fun x => { x with fdb := [⟨5, 1, 6000000⟩], flush := some 6000001 }) ∧ ((netB.wr (Od.NET_MRP_EN 1) 1).updSide 1 fun x => { x with fdb := [⟨5, 1, 6000000⟩], flush := some 6000001 }).rd (Od.NET_MRP_EN 1) = 1 ∧ (((netB.wr (Od.NET_MRP_EN 1) 1).updSide 1 fun x => { x with fdb := [⟨5, 1, 6000000⟩], flush := some 6000001 }).side 1).fdb.find? (·.mac == 5) = some ⟨5, 1, 6000000⟩ ∧ (((netB.wr (Od.NET_MRP_EN 1) 1).updSide 1 fun x => { x with fdb := [⟨5, 1, 6000000⟩], flush := some 6000001 }).side 1).flush = some 6000001) ∧
    ((on (netB)).finds (netB) ∧ netB.rd (Od.NET_IP_ADDR 1) ≠ 0 ∧ netB.netLost 1 = false) :=
  ⟨⟨finds_on (by decide), by decide⟩,
   ⟨finds_on (by decide), by decide⟩,
   ⟨finds_on (by decide), by decide⟩,
   ⟨finds_on (by decide), by decide⟩,
   ⟨finds_on (by decide), by decide⟩⟩

theorem test_PtpCommandsComplete_witness :
    ((on (clockB 0)).finds (clockB 0) ∧ (clockB 0).ptpOn 1 = true ∧ (clockB 0).clk.running = true ∧ ((clockB 0).ptp 1).best = some master ∧ (clockB 0).netLost 1 = false ∧ (0 : Nat) = (clockB 0).rd (Od.PTP_DOMAIN 1) ∧ (0 : Nat) = ((clockB 0).ptp 1).reqSeq ∧ (clockB 0).rd (Od.PTP_DELAY_MECH 1) ≠ 1 ∧ master.source = 7 ∧ ((clockB 0).ptp 1).sync = some (1, 2) ∧ ((clockB 0).ptp 1).best.isSome = true) ∧
    ((on (clockB 1)).finds (clockB 1) ∧ (clockB 1).clk.running = true ∧ (clockB 1).netLost 1 = false ∧ (clockB 1).rd (Od.PTP_DELAY_MECH 1) = 1 ∧ (clockB 1).portUp 1 1 = true) ∧
    ((on (masterB)).finds (masterB) ∧ masterB.ptpOn 1 = true ∧ masterB.ptpMaster 1 = true ∧ masterB.portUp 1 1 = true ∧ masterB.rd (Od.PTP_DELAY_MECH 1) = 0) ∧
    ((on (following)).finds (following) ∧ following.clk.running = true ∧ following.clk.source = 3 ∧ following.rd Od.PTP_FOLLOWED = 2 ∧ 6000000 = (following.ptp (2 - 1)).lastValid.getD 0 ∧ (following.ptp (2 - 2)).lastValid = some 6000001 ∧ 6000000 < 6000001) :=
  ⟨⟨finds_on (by decide), by decide⟩,
   ⟨finds_on (by decide), by decide⟩,
   ⟨finds_on (by decide), by decide⟩,
   ⟨finds_on (by decide), by decide⟩⟩

theorem test_LaunchCommandsComplete_witness :
    ((on ({ readying 2 with run := .stop })).finds ({ readying 2 with run := .stop }) ∧ firstReady ({ readying 2 with run := .stop } : Core).net.ready = some (ready 2) ∧ (({ readying 2 with run := .stop } : Core).atTime 6000100).netGate = false ∧ (ready 2).cls = 2) ∧
    ((on ({ readying 4 with run := .safe })).finds ({ readying 4 with run := .safe }) ∧ firstReady ({ readying 4 with run := .safe } : Core).net.ready = some (ready 4) ∧ (({ readying 4 with run := .safe } : Core).atTime 6000100).pairSends = false ∧ (ready 4).cls = 4) ∧
    ((on (readying 5)).finds (readying 5) ∧ (readying 5).clk.running = true ∧ firstReady (readying 5).net.ready = some (ready 5) ∧ ((readying 5).atTime 6000100).netGate = true ∧ (ready 5).cls = 5) ∧
    ((on (launching 6000000)).finds (launching 6000000) ∧ ((launching 6000000).atTime 6000000).outPorts 1 (beAt (entry 6000000).bytes 0 6) ≠ [] ∧ (launching 6000000).clk.running = true ∧ firstLaunch ((launching 6000000).side 1).launch = some (entry 6000000) ∧ ((launching 6000000).atTime 6000000).netLost 1 = false ∧ (launching 6000000).clk.now ≤ (entry 6000000).time) ∧
    ((on (launching 5999999)).finds (launching 5999999) ∧ ((launching 5999999).atTime 5999999).outPorts 1 (beAt (entry 5999999).bytes 0 6) ≠ [] ∧ firstLaunch ((launching 5999999).side 1).launch = some (entry 5999999) ∧ ((launching 5999999).atTime 5999999).netLost 1 = false ∧ (entry 5999999).time < (launching 5999999).clk.now) ∧
    ((on ((launching 6000000).setBit (Od.NET_STATUS 1) 4 true)).finds ((launching 6000000).setBit (Od.NET_STATUS 1) 4 true) ∧ firstLaunch (((launching 6000000).setBit (Od.NET_STATUS 1) 4 true).side 1).launch = some (entry 6000000) ∧ (((launching 6000000).setBit (Od.NET_STATUS 1) 4 true).atTime 6000000).netLost 1 = true) ∧
    ((on (taken 3)).finds (taken 3) ∧ (taken 3).roleFuse ≠ 1 ∧ (taken 3).roleFuse ≠ 3 ∧ (List.range 128).find? ((taken 3).objectTakes 1 0x020000000002 0x88B5 [5#8]) = some 0 ∧ ((taken 3).rxDesc 0).net = 3 ∧ ((taken 3).net.taken.filter (·.obj == 0)).getLast? = some ⟨0, 6000000, 0, [5#8]⟩) ∧
    ((on (object 2 0)).finds (object 2 0) ∧ (List.range 128).find? ((object 2 0).objectTakes 1 0x020000000002 0x88B5 [5#8]) = some 0 ∧ ((object 2 0).rxDesc 0).net ≠ 3) ∧
    ((on (object 3 1)).finds (object 3 1) ∧ (∀ t ∈ (object 3 1).net.taken, t.obj ≠ 0) ∧ (((object 3 1).atTime (object 3 1).clk.nextB).rxDesc 0).net ≠ 0 ∧ (((object 3 1).atTime (object 3 1).clk.nextB).rxDesc 0).maxAge ≠ 0 ∧ (((object 3 1).atTime (object 3 1).clk.nextB).rxDesc 0).maxAge ≤ (object 3 1).rd (Od.FRAME_RX_AGE 0) + 1 ∧ ((object 3 1).atTime (object 3 1).clk.nextB).bit (Od.FRAME_RX_STATUS 0) 2 = false) :=
  ⟨⟨finds_on (by decide), by decide⟩,
   ⟨finds_on (by decide), by decide⟩,
   ⟨finds_on (by decide), by decide⟩,
   ⟨finds_on (by decide), by decide⟩,
   ⟨finds_on (by decide), by decide⟩,
   ⟨finds_on (by decide), by decide⟩,
   ⟨finds_on (by decide +kernel), by decide +kernel⟩,
   ⟨finds_on (by decide +kernel), by decide +kernel⟩,
   ⟨finds_on (by decide +kernel), by decide +kernel⟩⟩

theorem test_SessionCommandsComplete_witness :
    ((on (serving)).finds (serving) ∧ serving.dsListens 1 = true ∧ dsHeader (datagram 4 0 0 0 []) = some ⟨4, 0, 0, 0⟩ ∧ (4 : Nat).testBit 2 = true ∧ serving.srv.sessions.length < 8 ∧ serving.rd Od.NET_DS_PLAIN ≠ 0) ∧
    ((on (tlsServing.wr Od.NET_DS_PLAIN 0)).finds (tlsServing.wr Od.NET_DS_PLAIN 0) ∧ (tlsServing.wr Od.NET_DS_PLAIN 0).dsListens 1 = true ∧ dsHeader (datagram 4 0 0 0 []) = some ⟨4, 0, 0, 0⟩ ∧ (4 : Nat).testBit 0 = false ∧ (tlsServing.wr Od.NET_DS_PLAIN 0).rd Od.NET_DS_PLAIN = 0) ∧
    ((on (serving)).finds (serving) ∧ dsHeader (datagram 8 3 0 0 []) = some ⟨8, 3, 0, 0⟩ ∧ serving.dsSession 1 ⟨8, 3, 0, 0⟩ = some session ∧ (8 : Nat).testBit 3 = true ∧ dsHeader (datagram 2 3 0 1 []) = some ⟨2, 3, 0, 1⟩ ∧ serving.dsSession 1 ⟨2, 3, 0, 1⟩ = some session ∧ (2 : Nat).testBit 1 = true) ∧
    ((on (serving)).finds (serving) ∧ dsHeader (datagram 0 3 2 0 [1#8]) = some ⟨0, 3, 2, 0⟩ ∧ serving.dsSession 1 ⟨0, 3, 2, 0⟩ = some session ∧ 0 ≤ 1 ∧ (datagram 0 3 2 0 [1#8]).drop 16 ≠ [] ∧ 2 ≤ session.rx ∧ dsHeader (datagram 0 3 3 0 [1#8]) = some ⟨0, 3, 3, 0⟩ ∧ 3 = session.rx + 1) ∧
    ((on (serving)).finds (serving) ∧ serving.clk.running = true ∧ serving.session? 3 = some session ∧ session.out = ⟨1, [9#8], 6000000, 5⟩ :: [⟨2, [9#8], 6000001, 0⟩] ∧ 5 ≤ 5) ∧
    ((on (tlsServing)).finds (tlsServing) ∧ tlsServing.clk.running = true ∧ tlsServing.session? 3 = some tlsSession ∧ tlsSession.out = ⟨1, [9#8], 6000000, 4⟩ :: [] ∧ 4 < 5 ∧ tlsSession.secure = true ∧ tlsSession.cred = none) :=
  ⟨⟨finds_on (by decide), by decide⟩,
   ⟨finds_on (by decide), by decide⟩,
   ⟨finds_on (by decide), by decide⟩,
   ⟨finds_on (by decide), by decide⟩,
   ⟨finds_on (by decide), by decide⟩,
   ⟨finds_on (by decide), by decide⟩⟩

theorem test_DictionaryMessagesComplete_witness :
    ((on (serving)).finds (serving) ∧ serving.dictServes = true ∧ (serving.session? 3).any Session.serves = true ∧ serving.ply.unvoted = none ∧ (dsMsg 1 Od.TICK_PERIOD 0 0 []).length = 16 + (dsMessage (dsMsg 1 Od.TICK_PERIOD 0 0 [])).len ∧ (dsMessage (dsMsg 1 Od.TICK_PERIOD 0 0 [])).key = Od.TICK_PERIOD ∧ (dsMessage (dsMsg 1 Od.TICK_PERIOD 0 0 [])).op = 1 ∧ (dsMessage (dsMsg 1 Od.TICK_PERIOD 0 0 [])).status = 0 ∧ (serving.entry? Od.TICK_PERIOD).isSome = true ∧ (serving.readBytes Recorder.blank (.session 3) Od.TICK_PERIOD .be).toBool = true) ∧
    ((on (barred)).finds (barred) ∧ barred.dictServes = true ∧ (barred.session? 3).any Session.serves = true ∧ (barred.entry? Od.TICK_PERIOD).isSome = true ∧ (barred.readBytes Recorder.blank (.session 3) Od.TICK_PERIOD .be).toBool = false ∧ (barred.entry? (Od.CAN_TX_TABLE 3)).isSome = true ∧ (barred.readBytes Recorder.blank (.session 3) (Od.CAN_TX_TABLE 3) .be).toBool = false) ∧
    ((on (serving)).finds (serving) ∧ (dsMsg 2 Od.TICK_PERIOD 0 0 [3#8]).length = 16 + (dsMessage (dsMsg 2 Od.TICK_PERIOD 0 0 [3#8])).len ∧ (dsMessage (dsMsg 2 Od.TICK_PERIOD 0 0 [3#8])).op = 2 ∧ (dsMessage (dsMsg 2 Od.TICK_PERIOD 0 0 [3#8])).len ≤ 1024) ∧
    ((on (serving)).finds (serving) ∧ (dsMsg 4 (Od.CAN_TX_TABLE 3) 1 0 [3#8]).length = 16 + (dsMessage (dsMsg 4 (Od.CAN_TX_TABLE 3) 1 0 [3#8])).len ∧ (dsMessage (dsMsg 4 (Od.CAN_TX_TABLE 3) 1 0 [3#8])).op = 4 ∧ (dsMessage (dsMsg 4 (Od.CAN_TX_TABLE 3) 1 0 [3#8])).flags ≤ 1 ∧ (dsMessage (dsMsg 3 (Od.CAN_TX_TABLE 3) 0 0 [])).op = 3 ∧ ((serving.entry? (Od.CAN_TX_TABLE 3)).map OdRow.isDomain) = some true ∧ (serving.readBytes Recorder.blank (.session 3) (Od.CAN_TX_TABLE 3) .be).toBool = true) :=
  ⟨⟨finds_on (by decide), by decide⟩,
   ⟨finds_on (by decide), by decide⟩,
   ⟨finds_on (by decide), by decide⟩,
   ⟨finds_on (by decide +kernel), by decide +kernel⟩⟩

theorem test_CanTransmitCommandsComplete_witness :
    ((on (planned 0x102 6000000)).finds (planned 0x102 6000000) ∧ (planned 0x102 6000000).clk.running = true ∧ firstPlan ((planned 0x102 6000000).ctl 3).plan = some (2, 6000000) ∧ (((planned 0x102 6000000).atTime 6000000)).canMode 3 ≠ 0 ∧ ((planned 0x102 6000000).atTime 6000000).ttSilent 3 = false ∧ ((planned 0x102 6000000).atTime 6000000).canBit 3 csAsleep = true) ∧
    ((on ({ planned 2 6000000 with run := .stop })).finds ({ planned 2 6000000 with run := .stop }) ∧ firstPlan (({ planned 2 6000000 with run := .stop } : Core).ctl 3).plan = some (2, 6000000) ∧ ({ planned 2 6000000 with run := .stop } : Core).canBit 3 csAsleep = false ∧ ({ planned 2 6000000 with run := .stop } : Core).netGate = false) ∧
    ((on (planned 2 6000000)).finds (planned 2 6000000) ∧ (planned 2 6000000).canMode 3 ≠ 0 ∧ (planned 2 6000000).ttSilent 3 = false ∧ (planned 2 6000000).canBit 3 csAsleep = false ∧ (planned 2 6000000).netGate = true ∧ ((planned 2 6000000).atTime 6000000).clk.now ≤ 6000000) ∧
    ((on (planned 2 5999999)).finds (planned 2 5999999) ∧ firstPlan ((planned 2 5999999).ctl 3).plan = some (2, 5999999) ∧ (planned 2 5999999).netGate = true ∧ 5999999 < ((planned 2 5999999).atTime 5999999).clk.now) ∧
    ((on (sending)).finds (sending) ∧ sending.canOnBus 3 = true ∧ sending.onBusBuf 3 = some 4) ∧
    ((on ((can3 2 0x40).updCtl 3 fun x => { x with recover := true })).finds ((can3 2 0x40).updCtl 3 fun x => { x with recover := true }) ∧ ((can3 2 0x40).updCtl 3 fun x => { x with recover := true }).canMode 3 ≠ 0 ∧ (can3 2 0x40).canBit 3 csBusOff = true ∧ (((can3 2 0x40).updCtl 3 fun x => { x with recover := true }).ctl 3).recover = true ∧ (can3 2 0x40).canBit 3 csAsleep = false) ∧
    ((on (can3 1 8)).finds (can3 1 8) ∧ (can3 1 8).canMode 3 ≠ 0 ∧ (can3 1 8).canBit 3 csIntegrating = true) ∧
    ((on (can3 2 2)).finds (can3 2 2) ∧ (can3 2 2).mayWrite .ply (Od.CAN_CMD 3) 3 = true ∧ (can3 2 2).mayWrite .ply (Od.CAN_TXB_CMD 11) 1 = true) :=
  ⟨⟨finds_on (by decide), by decide⟩,
   ⟨finds_on (by decide), by decide⟩,
   ⟨finds_on (by decide), by decide⟩,
   ⟨finds_on (by decide), by decide⟩,
   ⟨finds_on (by decide), by decide⟩,
   ⟨finds_on (by decide), by decide⟩,
   ⟨finds_on (by decide), by decide⟩,
   ⟨finds_on (by decide), by decide⟩⟩

theorem test_CanReceiveCommandsComplete_witness :
    ((on (filtering 2 0)).finds (filtering 2 0) ∧ (filtering 2 0).sdoTakes 3 (frame 0x123 false) = false ∧ (filtering 2 0).canOnBus 3 = true ∧ (frame 0x123 false).idword.testBit 30 = false ∧ (filtering 2 0).isReference 3 (frame 0x123 false) = false ∧ (heard (filtering 2 0)).isReference 3 (frame 0x123 false) = false ∧ (frame 0x123 false).remote = false ∧ (frame 0x123 true).remote = true) ∧
    ((on (filtering 2 0)).finds (filtering 2 0) ∧ (List.range 32).find? (fun g => ((heard (filtering 2 0)).canFilter 3 g).takes (frame 0x123 false)) = some 31 ∧ (List.range 32).find? (fun g => ((heard (filtering 2 0)).canFilter 3 g).takes (frame 0x124 false)) = none) ∧
    ((on (filtering 1 1)).finds (filtering 1 1) ∧ (filtering 1 1).clk.running = true ∧ (127 : Nat) < 32 * (filtering 1 1).canCount ∧ (∀ x ∈ ((filtering 1 1).ctl 3).taken, x.1 ≠ 31) ∧ (((filtering 1 1).atTime 7000000).canFilter 3 31).dest = 1 ∧ (((filtering 1 1).atTime 7000000).canFilter 3 31).maxAge ≠ 0 ∧ (((filtering 1 1).atTime 7000000).canFilter 3 31).maxAge ≤ (filtering 1 1).rd (Od.CAN_RXO_AGE 127) + 1 ∧ ((filtering 1 1).atTime 7000000).bit (Od.CAN_RXO_STATUS 127) 2 = false) ∧
    ((on (queued)).finds (queued) ∧ queued.mayWrite .ply (Od.CAN_Q_ACK 15) 2 = true ∧ 1 ≤ 2 ∧ 2 ≤ 64 ∧ 2 ≤ (((queued.used 3).ctl (15 / 4)).queues.getD (15 % 4) []).length) ∧
    ((on (can3 2 2)).finds (can3 2 2) ∧ (can3 2 2).mayWrite .ply (Od.CAN_CMD 3) 1 = true ∧ ((can3 2 2).used 3).canMode 3 ≠ 0 ∧ ((can3 2 2).used 3).canBit 3 csAsleep = false ∧ ((can3 2 2).used 3).rd (Od.TT_ROLE 3) ≠ 1 ∧ (can3 2 2).mayWrite .ply (Od.CAN_CMD 3) 2 = true) ∧
    ((on ((can3 2 2).updCtl 3 fun x => { x with sleeping := true })).finds ((can3 2 2).updCtl 3 fun x => { x with sleeping := true }) ∧ ((can3 2 2).updCtl 3 fun x => { x with sleeping := true }).canMode 3 ≠ 0 ∧ (((can3 2 2).updCtl 3 fun x => { x with sleeping := true }).ctl 3).sleeping = true ∧ (∀ x ∈ (((can3 2 2).updCtl 3 fun x => { x with sleeping := true }).ctl 3).bufs, x.st ≠ 2)) ∧
    ((on ((can3 2 0x100).wr (Od.CAN_WAKE_MODE 3) 1)).finds ((can3 2 0x100).wr (Od.CAN_WAKE_MODE 3) 1) ∧ ((can3 2 0x100).wr (Od.CAN_WAKE_MODE 3) 1).canMode 3 ≠ 0 ∧ ((can3 2 0x100).wr (Od.CAN_WAKE_MODE 3) 1).canBit 3 csAsleep = true ∧ ((can3 2 0x100).wr (Od.CAN_WAKE_MODE 3) 1).wakes 3 .dominant = true) ∧
    ((on ((((can3 2 0x100).wr (Od.CAN_WAKE_MODE 3) 3).wr (Od.CAN_WAKE_ID 3) 0x123).wr (Od.CAN_WAKE_MASK 3) 0x7FF)).finds ((((can3 2 0x100).wr (Od.CAN_WAKE_MODE 3) 3).wr (Od.CAN_WAKE_ID 3) 0x123).wr (Od.CAN_WAKE_MASK 3) 0x7FF) ∧ ((((can3 2 0x100).wr (Od.CAN_WAKE_MODE 3) 3).wr (Od.CAN_WAKE_ID 3) 0x123).wr (Od.CAN_WAKE_MASK 3) 0x7FF).canMode 3 ≠ 0 ∧ ((((can3 2 0x100).wr (Od.CAN_WAKE_MODE 3) 3).wr (Od.CAN_WAKE_ID 3) 0x123).wr (Od.CAN_WAKE_MASK 3) 0x7FF).canBit 3 csAsleep = true ∧ ((((can3 2 0x100).wr (Od.CAN_WAKE_MODE 3) 3).wr (Od.CAN_WAKE_ID 3) 0x123).wr (Od.CAN_WAKE_MASK 3) 0x7FF).wakes 3 (.frame (frame 0x123 false)) = true) :=
  ⟨⟨finds_on (by decide), by decide⟩,
   ⟨finds_on (by decide +kernel), by decide +kernel⟩,
   ⟨finds_on (by decide +kernel), by decide +kernel⟩,
   ⟨finds_on (by decide), by decide⟩,
   ⟨finds_on (by decide), by decide⟩,
   ⟨finds_on (by decide), by decide⟩,
   ⟨finds_on (by decide), by decide⟩,
   ⟨finds_on (by decide), by decide⟩⟩

theorem test_TimeTriggeredCanCommandsComplete_witness :
    ((on (ttMaster)).finds (ttMaster) ∧ ttMaster.canMode 3 ≠ 0 ∧ (ttMaster.ctl 3).refs = 6500000 :: [] ∧ (ttMaster.atTime 6500000).netGate = true ∧ (ttMaster.atTime 6500000).canBit 3 csAsleep = false ∧ (ttMaster.atTime 6500000).rd (Od.TT_CYCLE_TICKS 3) ≠ 0) ∧
    ((on ({ ttMaster with run := .stop })).finds ({ ttMaster with run := .stop }) ∧ ({ ttMaster with run := .stop } : Core).canMode 3 ≠ 0 ∧ (({ ttMaster with run := .stop } : Core).ctl 3).refs = 6500000 :: [] ∧ (({ ttMaster with run := .stop } : Core).atTime 6500000).netGate = false) ∧
    ((on (ttFollower 1)).finds (ttFollower 1) ∧ (ttFollower 1).canMode 3 ≠ 0 ∧ (ttFollower 1).rd (Od.TT_STATE 3) = 1) ∧
    ((on (ttFollower 2)).finds (ttFollower 2) ∧ (ttFollower 2).canMode 3 ≠ 0 ∧ (ttFollower 2).rd (Od.TT_STATE 3) = 2) ∧
    ((on (ttFollower 2)).finds (ttFollower 2) ∧ (ttFollower 2).isReference 3 (frame 0x10 false) = true ∧ (ttFollower 2).canOnBus 3 = true ∧ (heard (ttFollower 2)).isReference 3 (frame 0x10 false) = true) :=
  ⟨⟨finds_on (by decide), by decide⟩,
   ⟨finds_on (by decide), by decide⟩,
   ⟨finds_on (by decide), by decide⟩,
   ⟨finds_on (by decide), by decide⟩,
   ⟨finds_on (by decide), by decide⟩⟩

theorem test_SdoCommandsComplete_witness :
    ((on (sdo none)).finds (sdo none) ∧ (sdo none).sdoNode 3 = some 127 ∧ 127 < 128 ∧ (sdo none).canOnBus 3 = true ∧ (sdoFrame 0x2F Od.TICK_PERIOD).length = 8 ∧ (heard (sdo none)).dictServes = true ∧ (heard (sdo none)).ply.unvoted = none ∧ leAt (sdoFrame 0x2F Od.TICK_PERIOD) 0 1 / 32 = 1 ∧ (leAt (sdoFrame 0x2F Od.TICK_PERIOD) 0 1).testBit 1 = true ∧ Od.TICK_PERIOD = odKey (leAt (sdoFrame 0x2F Od.TICK_PERIOD) 1 2) (leAt (sdoFrame 0x2F Od.TICK_PERIOD) 3 1) ∧ 1 = (if (leAt (sdoFrame 0x2F Od.TICK_PERIOD) 0 1).testBit 0 then 4 - field (leAt (sdoFrame 0x2F Od.TICK_PERIOD) 0 1) 2 2 else 0)) ∧
    ((on (sdo none)).finds (sdo none) ∧ leAt (sdoFrame 0x21 Od.TICK_PERIOD) 0 1 / 32 = 1 ∧ (leAt (sdoFrame 0x21 Od.TICK_PERIOD) 0 1).testBit 1 = false ∧ (((heard (sdo none)).sdoFresh 3).checkWrite (.can 0) Od.TICK_PERIOD 0).toBool = true ∧ (((heard (sdo none)).sdoFresh 3).checkWrite (.can 0) Od.FUSE_WORD 0).toBool = false ∧ ((sdo none).entry? Od.TICK_PERIOD).map OdRow.isDomain = some false) ∧
    ((on (sdo (some download))).finds (sdo (some download)) ∧ (heard (sdo (some download))).sdoNow 3 = some download ∧ leAt (sdoFrame 0x1F 0) 0 1 / 32 = 0 ∧ download.up = false ∧ (leAt (sdoFrame 0x1F 0) 0 1).testBit 4 = download.toggle ∧ ((heard (sdo (some download))).entry? download.key).map OdRow.isDomain = some false ∧ (leAt (sdoFrame 0x1F 0) 0 1).testBit 0 = true ∧ leAt (sdoFrame 0x1E 0) 0 1 / 32 = 0 ∧ (leAt (sdoFrame 0x1E 0) 0 1).testBit 0 = false) ∧
    ((on (sdo (some upload))).finds (sdo (some upload)) ∧ (heard (sdo (some upload))).sdoNow 3 = some upload ∧ leAt (sdoFrame 0x60 0) 0 1 / 32 = 3 ∧ upload.up = true ∧ (leAt (sdoFrame 0x60 0) 0 1).testBit 4 = upload.toggle ∧ (sdo (some upload)).sdoNow 3 = some upload) ∧
    ((on (sdo none)).finds (sdo none) ∧ leAt (sdoFrame 0x40 Od.TICK_PERIOD) 0 1 / 32 = 2 ∧ (((heard (sdo none)).sdoFresh 3).readBytes Recorder.blank (.can 0) Od.TICK_PERIOD .le).toBool = true ∧ leAt (sdoFrame 0x80 Od.TICK_PERIOD) 0 1 / 32 = 4 ∧ leAt (sdoFrame 0xA0 Od.TICK_PERIOD) 0 1 / 32 = 5 ∧ leAt (sdoFrame 0xC0 Od.TICK_PERIOD) 0 1 / 32 = 6) :=
  ⟨⟨finds_on (by decide), by decide⟩,
   ⟨finds_on (by decide), by decide⟩,
   ⟨finds_on (by decide), by decide⟩,
   ⟨finds_on (by decide), by decide⟩,
   ⟨finds_on (by decide), by decide⟩⟩

theorem test_EventSourceCommandsComplete_witness :
    ((on (live)).finds (live) ∧ live.clk.running = true ∧ evLevelKind 112 = true ∧ live.evPresent 112 = true ∧ live.router.levels.contains 112 ≠ true ∧ evLevelKind 493 = false ∧ live.evPresent 493 = true) ∧
    ((on ((live.wr (srcKey 0x2C10 160) (24 * 65536)).updRouter fun r => { r with windows := [(160, 6000000)] })).finds ((live.wr (srcKey 0x2C10 160) (24 * 65536)).updRouter fun r => { r with windows := [(160, 6000000)] }) ∧ ((live.wr (srcKey 0x2C10 160) (24 * 65536)).updRouter fun r => { r with windows := [(160, 6000000)] }).router.windows.find? (·.1 == 160) = some (160, 6000000) ∧ ((live.wr (srcKey 0x2C10 160) (24 * 65536)).updRouter fun r => { r with windows := [(160, 6000000)] }).evCoalT 160 ≠ 0) ∧
    ((on (live)).finds (live) ∧ live.pmpOk 0 (0x60000004 + 16 * 64) 4 1 = true ∧ live.pmpOk 32 (0x60000004 + 16 * 64) 4 1 = true ∧ 0x200002 &&& 0x3F0007 = 0x200002 ∧ 0x2 &&& 0x3F0007 = 0x2 ∧ (live.evTaskSource 64 = true → field 0x200002 16 6 = live.evTarget 64) ∧ (64 : Nat) ≠ 0 ∧ live.dictServes = true ∧ live.ply.unvoted = none ∧ live.evTargetOk (field 0x200002 16 6) = true ∧ live.evTargetOk (field 0x2 16 6) = true ∧ live.canExecute 31 = true ∧ (live.untrapped 31).tentativeJob 31 = none) ∧
    ((on (inState .stop)).finds (inState .stop) ∧ (Path.can 0).master = none ∧ (inState .stop).mayWrite (.can 0) (srcKey 0x2C14 64) 0x200002 = true ∧ 0x200002 < 2 ^ 32) ∧
    ((on (inState .stop)).finds (inState .stop) ∧ (inState .stop).dictServes = true ∧ (inState .stop).ply.unvoted = none ∧ (inState .stop).pmpOk 0 (0x60000000 + 16 * 112) 4 1 = true ∧ (inState .stop).clk.running = true ∧ (inState .stop).run = .stop ∧ (inState .stop).evCfgOk 112 0xFF180F01 = false ∧ (inState .stop).evCfgOk 112 0xFF181F01 = true ∧ (inState .stop).mayWrite (.can 0) (srcKey 0x2C10 112) 0xFF181F01 = true ∧ 0xFF181F01 < 2 ^ 32 ∧ ((inState .stop).used 3).acceptsConfig (srcKey 0x2C10 112) 0xFF181F01) :=
  ⟨⟨finds_on (by decide), by decide⟩,
   ⟨finds_on (by decide), by decide⟩,
   ⟨finds_on (by decide), by decide⟩,
   ⟨finds_on (by decide), by decide⟩,
   ⟨finds_on (by decide), by unfold Core.acceptsConfig; decide⟩⟩

theorem test_EventTargetCommandsComplete_witness :
    ((on (offered 32)).finds (offered 32) ∧ (offered 32).spinRuns 31 = true ∧ (offered 32).offerNow (31 + 1) ≠ 0) ∧
    ((on (offered 0)).finds (offered 0) ∧ (offered 0).pmpOk 0 0x60004008 4 0 = true ∧ (offered 0).dictServes = true ∧ (offered 0).ply.unvoted = none ∧ 5 = (offered 0).offerSeen 0 ∧ 5 ≠ 0 ∧ (offered 0).evEnable 5 = true ∧ (offered 0).evMask 5 = false ∧ (offered 0).evPending 5 = true ∧ (offered 0).evRoute 5 = 0) ∧
    ((on ((offered 0).updRouter fun r => { r with pending := [] })).finds ((offered 0).updRouter fun r => { r with pending := [] }) ∧ ((offered 0).updRouter fun r => { r with pending := [] }).dictServes = true ∧ ((offered 0).updRouter fun r => { r with pending := [] }).pmpOk 0 0x60004008 4 0 = true ∧ ((offered 0).updRouter fun r => { r with pending := [] }).offerSeen 0 = 5 ∧ ((offered 0).updRouter fun r => { r with pending := [] }).evPending 5 = false) ∧
    ((on (live)).finds (live) ∧ live.dictServes = true ∧ live.ply.unvoted = none ∧ live.offerSeen 0 = 0 ∧ live.pmpOk 0 0x60004008 4 0 = true ∧ live.pmpOk 0 0x6000400C 4 1 = true) :=
  ⟨⟨finds_on (by decide), by decide⟩,
   ⟨finds_on (by decide), by decide⟩,
   ⟨finds_on (by decide), by decide⟩,
   ⟨finds_on (by decide), by decide⟩⟩

theorem test_RecorderCommandsComplete_witness :
    ((recording live (asking 1 0 [])).finds live ∧ live.skeinWrites = true ∧ (asking 1 0 []).queue = request :: [] ∧ 0 < ((asking 1 0 []).bucket live.writer request.code).tokens ∧ (asking 1 0 []).ring.length < 65536) ∧
    ((recording live (asking 0 0 [])).finds live ∧ (asking 0 0 []).queue = request :: [] ∧ ((asking 0 0 []).bucket live.writer request.code).tokens = 0 ∧ Recorder.blank.queue = []) ∧
    ((recording live (asking 0 2 [])).finds live ∧ live.run ≠ .failed ∧ live.rd (Od.SKEIN_REFILL_MS (codeSevMax 0x0102 - 1)) ≠ 0 ∧ (skeinCode? 0x0102).isSome = true ∧ ((asking 0 2 []).bucket live.writer 0x0102).tokens < live.writer.depthOf 0x0102 ∧ 0 < ((asking 0 2 []).bucket live.writer 0x0102).suppressed ∧ ((asking 0 0 []).bucket live.writer 0x0102).suppressed = 0 ∧ live.writer.depthOf 0x0102 ≤ (Recorder.blank.bucket live.writer 0x0102).tokens) ∧
    ((recording live mirroring).finds live ∧ mirroring.mirror = old :: [] ∧ mirroring.openSector = some mirroring ∧ mirroring.flash.getLast? = some ⟨255, []⟩) ∧
    ((recording live erasing).finds live ∧ erasing.erased = [] ∧ erasing.flash = ⟨7, [old]⟩ :: [⟨8, [old]⟩] ∧ (7 : Nat) ∉ erasing.retired) ∧
    ((recording live Recorder.blank).finds live ∧ live.serves (.can 0) = true ∧ (live.checkRead (.can 0) Od.SKEIN_READ).toBool = true ∧ (Path.can 0).master = none ∧ live.serves (masterPath 32) = true ∧ live.pmpOk 32 (winAddr Od.SKEIN_READ) 4 0 = true ∧ ((live.accessing 32).checkRead (masterPath 32) Od.SKEIN_READ).toBool = true) :=
  ⟨(⟨finds_recording _ (by decide), by decide⟩),
   (⟨finds_recording _ (by decide), by decide⟩),
   (⟨finds_recording _ (by decide), by decide⟩),
   (⟨finds_recording _ (by decide), by decide +kernel⟩),
   (⟨finds_recording _ (by decide), by decide⟩),
   (⟨finds_recording _ (by decide), by decide⟩)⟩

/-- The RAM ring full of entries: of severity 1, which a request of severity 3 replaces, or 7, which it does not. -/
theorem test_RecorderCommandsComplete_full :
    (asking 1 0 (List.replicate 65536 (0, old))).ring.length = 65536 ∧
    dropOldest request.sev (List.replicate 65536 (0, old)) = some (0, List.replicate 65535 (0, old)) ∧
    dropOldest request.sev (List.replicate 65536 (0, keen)) = none ∧
    0 < ((asking 1 0 (List.replicate 65536 (0, old))).bucket live.writer request.code).tokens := by
  refine ⟨List.length_replicate, rfl, ?_, by decide⟩
  have h : ∀ n : Nat, dropOldest request.sev (List.replicate n (0, keen)) = none := by
    intro n
    induction n with
    | zero => rfl
    | succ n ih =>
      rw [List.replicate_succ, dropOldest, if_neg (by decide), ih]
      rfl
  exact h _

theorem test_DictionaryAndWindowCommandsComplete_witness :
    ((on (inState .stop)).finds (inState .stop) ∧ ((inState .stop).entry? (Od.SKEIN_REFILL_MS 6)).any (fun row => !row.isDomain && gives (decodeValue row.type (Path.can 0).wire [10#8, 0#8]) (· == 10)) = true ∧ (inState .stop).mayWrite (.can 0) (Od.SKEIN_REFILL_MS 6) 10 = true ∧ ((inState .stop).used 3).acceptsConfig (Od.SKEIN_REFILL_MS 6) 10) ∧
    ((on (live)).finds (live) ∧ (live.entry? Od.FUSE_WORD).any (fun row => !row.isDomain && gives (decodeValue row.type (Path.can 0).wire [1#8, 0#8, 0#8, 0#8]) (· == 1)) = true ∧ live.serves (.can 0) = true ∧ aborts (live.checkWrite (.can 0) Od.FUSE_WORD 1) 0x06010002 = true) ∧
    ((on (inState .stop)).finds (inState .stop) ∧ gives ((inState .stop).checkWrite (.can 0) Od.TIME_SOURCE 77) (fun row => (inState .stop).entry? Od.TIME_SOURCE == some row && !row.isDomain && !(inState .stop).valueOk Od.TIME_SOURCE row 77 && gives (decodeValue row.type (Path.can 0).wire [77#8]) (· == 77)) = true) ∧
    ((on (live)).finds (live) ∧ (odRow? (Od.HART_REQ 23)).isSome = true ∧ Od.HART_REQ 23 / 256 < 0x6000 ∧ Od.HART_REQ 23 ≠ Od.PROG_IMAGE) ∧
    ((on (hart 2 HartChan.fresh)).finds (hart 2 HartChan.fresh) ∧ (hart 2 HartChan.fresh).mayWriteBytes (.can 0) (Od.HART_REQ 23) = true ∧ (domLength (Od.HART_REQ 23)).1 ≤ [0#8, 1#8, 0#8].length ∧ [0#8, 1#8, 0#8].length ≤ (domLength (Od.HART_REQ 23)).2 ∧ hartLengthOk (Od.HART_REQ 23) [0#8, 1#8, 0#8] = true ∧ Core.domOk (Od.HART_REQ 23) [0#8, 1#8, 0#8] = true) ∧
    ((on (windowed 1 [] false)).finds (windowed 1 [] false) ∧ (windowed 1 [] false).pmpOk 32 (winAddr Od.PROG_CHANGEOVER) 4 0 = true ∧ (windowed 1 [] false).pmpOk 32 (winAddr Od.PROG_CHANGEOVER) 4 1 = true ∧ (windowed 1 [] false).pmpOk 32 (winAddr Od.KEY_PUB) 4 0 = true ∧ (windowed 1 [] false).serves (masterPath 32) = true ∧ gives (((windowed 1 [] false).accessing 32).checkRead (masterPath 32) Od.PROG_CHANGEOVER) (fun row => ((windowed 1 [] false).accessing 32).entry? Od.PROG_CHANGEOVER == some row && !row.isDomain && row.type.width == 64) = true) ∧
    ((on (windowed 1 [] false)).finds (windowed 1 [] false) ∧ 2 ^ 32 + 7 = (((windowed 1 [] false).accessing 32).window 32).hi * 2 ^ 32 + 7 ∧ 2 ^ 32 + 7 < 2 ^ 64 ∧ gives (((windowed 1 [] false).accessing 32).checkWrite (masterPath 32) Od.PROG_CHANGEOVER (2 ^ 32 + 7)) (fun row => ((windowed 1 [] false).accessing 32).entry? Od.PROG_CHANGEOVER == some row && ((windowed 1 [] false).accessing 32).valueOk Od.PROG_CHANGEOVER row (2 ^ 32 + 7)) = true) ∧
    ((on (windowed 1 [] false)).finds (windowed 1 [] false) ∧ gives (((windowed 1 [] false).accessing 32).checkRead (masterPath 32) (Od.KEY_PUB)) (fun row => ((windowed 1 [] false).accessing 32).entry? Od.KEY_PUB == some row && row.isDomain) = true) ∧
    ((on (transferring)).finds (transferring) ∧ transferring.srv.writes.find? (fun x => x.key == Od.CAN_TX_TABLE 3 && x.path == .can 0) = some beginning) ∧
    ((on (live.cfgChanged)).finds (live.cfgChanged) ∧ live.cfgChanged.srv.changed.isSome = true ∧ live.cfgChanged.run ≠ .failed ∧ live.cfgChanged.ply.unvoted = none) :=
  ⟨⟨finds_on (by decide), by unfold Core.acceptsConfig; decide⟩,
   ⟨finds_on (by decide), by decide⟩,
   ⟨finds_on (by decide), by decide⟩,
   ⟨finds_on (by decide), by decide⟩,
   ⟨finds_on (by decide), by decide⟩,
   ⟨finds_on (by decide), by decide⟩,
   ⟨finds_on (by decide), by decide⟩,
   ⟨finds_on (by decide), by decide⟩,
   ⟨finds_on (by decide), by decide⟩,
   ⟨finds_on (by decide), by decide⟩⟩

/-- A window store of a HART request, first as a part of its content, then as the whole of it. -/
def windowedHart (last : Bool) : Core := ((hart 2 HartChan.fresh).updWindow 32 fun x =>
  { x with buf := splice x.buf 0 [0#8, 1#8, 0#8], last := last }).accessing 32

theorem test_DictionaryAndWindowCommandsComplete_domains :
    (∀ last : Bool, gives ((windowedHart last).checkWrite (masterPath 32) (Od.HART_REQ 23) 0) (fun row =>
      (windowedHart last).entry? (Od.HART_REQ 23) == some row && row.isDomain) = true) ∧
    (windowedHart false).srv.writes = [] ∧ (windowedHart false).pmpOk 32 (winAddr (Od.HART_REQ 23)) 4 1 = true ∧ ((windowedHart false).window 32).domOfs = 0 ∧
    splice [] 0 (slice ((windowedHart true).window 32).buf 0 3) = [0#8, 1#8, 0#8] ∧
    ((windowedHart false).window 32).last = false ∧ ((windowedHart true).window 32).last = true := by
  decide

theorem test_CountersignCommandsComplete_witness :
    ((on (live)).finds (live) ∧ live.mayWrite (.can 0) Od.SEC_TLS_SUITES 1 = true ∧ (live.entry? Od.SEC_TLS_SUITES).any (fun row => !row.isDomain && protectedKey Od.SEC_TLS_SUITES row && gives (decodeValue row.type (Path.can 0).wire [1#8]) (· == 1)) = true ∧ (insertChange ⟨Od.SEC_TLS_SUITES, [1#8]⟩ []).length ≤ 64) ∧
    ((on (live)).finds (live) ∧ live.mayWriteBytes (.can 0) Od.SEC_PAIR_KEY = true ∧ (odRow? Od.SEC_PAIR_KEY).any (protectedKey Od.SEC_PAIR_KEY) = true ∧ Od.SEC_PAIR_KEY / 256 < 0x6000 ∧ Od.SEC_PAIR_KEY ≠ Od.PROG_IMAGE ∧ Od.SEC_PAIR_KEY ≠ Od.CS_SIGN ∧ domLength Od.SEC_PAIR_KEY = (32, 32) ∧ hartLengthOk Od.SEC_PAIR_KEY (zeros 32) = true ∧ Core.domOk Od.SEC_PAIR_KEY (zeros 32) = true ∧ (insertChange ⟨Od.SEC_PAIR_KEY, zeros 32⟩ []).length ≤ 64) ∧
    ((on (signing openSet)).finds (signing openSet) ∧ (signing openSet).mayWrite (.can 0) Od.CS_CMD 1 = true ∧ (signing openSet).srv.cset = some openSet ∧ openSet.sealing = none ∧ openSet.author = (signing openSet).authorOf ((signing openSet).principal (.can 0)) ∧ (signing openSet).twoSigners = true) ∧
    ((on (staging live openSet)).finds (staging live openSet) ∧ (staging live openSet).mayWrite (.can 0) Od.CS_CMD 1 = true ∧ openSet.author = (staging live openSet).authorOf ((staging live openSet).principal (.can 0)) ∧ (staging live openSet).twoSigners = false ∧ (staging live openSet).csBarred openSet = false ∧ (staging live openSet).mayWrite (.can 0) Od.CS_CMD 2 = true) ∧
    ((on (signing (sealedSet none))).finds (signing (sealedSet none)) ∧ (signing (sealedSet none)).mayWriteBytes (.can 0) Od.CS_SIGN = true ∧ (sealedSet none).accepted = none ∧ (sealedSet none).signer = none ∧ (signing (sealedSet none)).monoMs < 4 + 1000 * (signing (sealedSet none)).rd Od.CS_WINDOW_S ∧ (List.range 16).find? (fun j => (signing (sealedSet none)).credEnabled j && (signing (sealedSet none)).rd (Od.CRED_ID j) == 2) = some 1 ∧ (signing (sealedSet none)).credLocked 1 = false ∧ (signing (sealedSet none)).roleRight ((signing (sealedSet none)).credRole 1) 5 = true) ∧
    ((on (signing (sealedSet none))).finds (signing (sealedSet none)) ∧ (signed 1 (sealedSet none)).length = 40 ∧ beAt (signed 1 (sealedSet none)) 4 4 = 0 ∧ beAt (signed 1 (sealedSet none)) 0 4 = 2 ∧ Sha.hmac ((signing (sealedSet none)).dom (Od.CRED_SECRET 1)) (signing (sealedSet none)).csContent = slice (signed 1 (sealedSet none)) 8 32 ∧ Sha.hmac ((signing (sealedSet none)).dom (Od.CRED_SECRET 1)) (signing (sealedSet none)).csContent ≠ slice (signature 1 (zeros 32)) 8 32) ∧
    ((on (signing (sealedSet (some 0)))).finds (signing (sealedSet (some 0))) ∧ (sealedSet (some 0)).signer = some 0 ∧ 1 ≠ 0 ∧ (signing (sealedSet (some 0))).credRole 1 ≠ (signing (sealedSet (some 0))).credRole 0 ∧ (signing (sealedSet (some 0))).csBarred (sealedSet (some 0)) = false) ∧
    ((on (live.updSrv fun x => { x with locks := setAt x.locks 15 (some 4) })).finds (live.updSrv fun x => { x with locks := setAt x.locks 15 (some 4) }) ∧ (live.updSrv fun x => { x with locks := setAt x.locks 15 (some 4) }).srv.locks.getD 15 none = some 4) ∧
    ((on (live.wr Od.SEC_COMMISSIONING 1)).finds (live.wr Od.SEC_COMMISSIONING 1) ∧ (live.wr Od.SEC_COMMISSIONING 1).mayWrite (.can 0) Od.SEC_CMD 1 = true ∧ (live.wr Od.SEC_COMMISSIONING 1).rd Od.SEC_COMMISSIONING = 1) :=
  ⟨⟨finds_on (by decide), by decide⟩,
   ⟨finds_on (by decide), by decide⟩,
   ⟨finds_on (by decide), by decide⟩,
   ⟨finds_on (by decide), by decide⟩,
   ⟨finds_on (by decide), by decide⟩,
   ⟨finds_on (by decide +kernel), by decide +kernel⟩,
   ⟨finds_on (by decide), by decide⟩,
   ⟨finds_on (by decide), by decide⟩,
   ⟨finds_on (by decide), by decide⟩⟩

theorem test_StateAndReactionCommandsComplete_witness :
    ((on (inState .hold)).finds (inState .hold) ∧ (inState .hold).mayWrite (.can 0) Od.STATE_CMD 1 = true ∧ (inState .hold).mayWrite (.can 0) Od.STATE_CMD 2 = true ∧ (inState .safe).mayWrite (.can 0) Od.STATE_CMD 1 = true) ∧
    ((on (inState .init)).finds (inState .init) ∧ (inState .init).mayWrite (.can 0) Od.STATE_CMD 1 = true ∧ (inState .init).mayWrite (.can 0) Od.STATE_CMD 2 = true ∧ (inState .init).srv.noProgram = false) ∧
    ((on (inState .stop)).finds (inState .stop) ∧ (inState .stop).mayWrite (.can 0) Od.STATE_CMD 1 = true ∧ (inState .stop).mayWrite (.can 0) Od.STATE_CMD 2 = true ∧ (inState .stop).srv.noProgram = false) ∧
    ((on (live)).finds (live) ∧ live.mayWrite (.can 0) Od.STATE_CMD 1 = true ∧ live.mayWrite (.can 0) Od.STATE_CMD 2 = true ∧ live.srv.noProgram = false) ∧
    ((on ((inState .stop).updSrv fun x => { x with noProgram := true })).finds ((inState .stop).updSrv fun x => { x with noProgram := true }) ∧ ((inState .stop).updSrv fun x => { x with noProgram := true }).mayWrite (.can 0) Od.STATE_CMD 2 = true ∧ ((inState .stop).updSrv fun x => { x with noProgram := true }).srv.noProgram = true) ∧
    ((on (reacting 1 [⟨2, 2, 0x0702, 4⟩])).finds (reacting 1 [⟨2, 2, 0x0702, 4⟩]) ∧ (reacting 1 [⟨2, 2, 0x0702, 4⟩]).react.highest ≠ 4 ∧ (reacting 1 [⟨2, 2, 0x0702, 4⟩]).react.queue.find? (fun x => !(reacting 1 [⟨2, 2, 0x0702, 4⟩]).react.holdsBack x) = some ⟨2, 2, 0x0702, 4⟩) ∧
    ((on (safeHeld)).finds (safeHeld) ∧ safeHeld.run = .safe ∧ safeHeld.react.safeEsc = true ∧ (∀ f ∈ safeHeld.react.queue, 2 < f.level)) :=
  ⟨⟨finds_on (by decide), by decide⟩,
   ⟨finds_on (by decide), by decide⟩,
   ⟨finds_on (by decide), by decide⟩,
   ⟨finds_on (by decide), by decide⟩,
   ⟨finds_on (by decide), by decide⟩,
   ⟨finds_on (by decide), by decide⟩,
   ⟨finds_on (by decide), by decide⟩⟩

theorem test_HealthEvaluationCompletes_witness :
    ((on (aged 22)).finds (aged 22) ∧ (aged 22).tickWork = true ∧ (({ (aged 22).atCyc ((aged 22).monitor.lastCyc + 3600000000000) with monitor := { (aged 22).monitor with lastCyc := ((aged 22).atCyc ((aged 22).monitor.lastCyc + 3600000000000)).clk.cyc } } : Core).inc32 Od.HEALTH_POWERED_H).rd Od.HEALTH_POWERED_H = 23) ∧
    ((on (aged 23)).finds (aged 23) ∧ (aged 23).tickWork = true ∧ (({ (aged 23).atCyc ((aged 23).monitor.lastCyc + 3600000000000) with monitor := { (aged 23).monitor with lastCyc := ((aged 23).atCyc ((aged 23).monitor.lastCyc + 3600000000000)).clk.cyc } } : Core).inc32 Od.HEALTH_POWERED_H).rd Od.HEALTH_POWERED_H = 24 ∧ worstItem [] = ((worstItem []).1, (worstItem []).2)) :=
  ⟨⟨finds_on (by decide), by decide⟩,
   ⟨finds_on (by decide), by decide⟩⟩

theorem test_SupplyAndRtcCommandsComplete_witness :
    ((on (locked)).finds (locked) ∧ locked.pwr.low ≠ true ∧ locked.pwr.overV ≠ true ∧ locked.clk.running = true ∧ locked.clk.state = .locked ∧ locked.ply.unvoted = none) ∧
    (inState .vault = (on (inState .vault)).core.starting ∧ (inState .vault).run = .vault ∧ (inState .off) = (on (inState .off)).core.starting ∧ (inState .off).run = .off ∧ live = (on live).core.starting ∧ live.run ≠ .vault ∧ live.run ≠ .off) :=
  ⟨⟨finds_on (by decide), by decide⟩,
   (⟨rfl, rfl, rfl, rfl, rfl, by decide, by decide⟩)⟩

theorem test_PowerFailAndStartUpCommandsComplete_witness :
    (live = (on live).core.starting ∧ live.pwr.supply = true ∧ live.alive = true ∧ live.ply.unvoted = none ∧ live.pwr.vbat = true ∧ live.pwr.resetLow = false) ∧
    ((on { live with pwr := { live.pwr with vbat := false } }).core.pwr.vbat = false ∧ (on { live with pwr := { live.pwr with vbat := false } }).core.alive = true) ∧
    (unpowered = (on unpowered).core.starting ∧ unpowered.pwr.supply = false ∧ unpowered.pwr.resetLow = false) ∧
    ({ unpowered with pwr := { unpowered.pwr with resetLow := true } } = (on { unpowered with pwr := { unpowered.pwr with resetLow := true } }).core.starting ∧ ({ unpowered with pwr := { unpowered.pwr with resetLow := true } } : Core).pwr.resetLow = true) ∧
    (State.reset.core = State.reset.core.starting ∧ State.reset.core.pwr.supply = true ∧ State.reset.core.pwr.resetLow = true) ∧
    ((((keyed State.reset.core).setBank 0 plainBank).bootRom startUp 2).2.1 = some 0 ∧ (State.reset.core.bootRom startUp 2).2.1 = none) :=
  ⟨(⟨rfl, by decide⟩),
   (by decide),
   (⟨rfl, by decide⟩),
   (⟨rfl, by decide⟩),
   (⟨rfl, by decide⟩),
   (by decide +kernel)⟩

theorem test_StepTakesTheFrontCommand_witness :
    ((on live).pending = [] ∧ (on live).core.alive = true ∧ (on (inState .vault)).pending = [] ∧ (on (inState .vault)).core.alive = false) :=
  (by decide)

theorem test_WithoutPowerNothingHappens_witness :
    ((on (inState .boot)).core.alive = false ∧ powerCommand (.jobPop 31 0) = false) :=
  (by decide)

theorem test_OnlyTheWriterTouchesTheRing_witness :
    (exec (.fenceI 31) (on live) = .next (after (.fenceI 31) (on live)) ∧ powerCommand (.fenceI 31) = false ∧ writerCommand (.fenceI 31) = false ∧ (after (.fenceI 31) (on live)).core.run ≠ .failed) ∧
    (exec .skeinWrite (recording live (asking 1 0 [])) = .next (after .skeinWrite (recording live (asking 1 0 []))) ∧ powerCommand .skeinWrite = false ∧ (after .skeinWrite (recording live (asking 1 0 []))).core.run ≠ .failed ∧ (after .skeinWrite (recording live (asking 1 0 []))).skein.lastSeq = 1) :=
  ⟨(⟨rfl, by decide, by decide, by decide +kernel⟩),
   (⟨rfl, by decide, by decide +kernel, by decide +kernel⟩)⟩

/-- A ring with the slots `i` and up in use, all of one severity. -/
def ringFrom (sev i : Nat) : Nat → List (Nat × Entry)
  | 0 => []
  | n + 1 => (i, { old with seq := i + 1, sev := sev }) :: ringFrom sev (i + 1) n

theorem ringFrom_slots (sev : Nat) : ∀ n i : Nat, (ringFrom sev i n).map Prod.fst = List.range' i n
  | 0, _ => rfl
  | n + 1, i => by simp [ringFrom, List.range'_succ, ringFrom_slots sev n (i + 1)]

theorem ringFrom_rising (sev : Nat) : ∀ n i : Nat, seqRising i ((ringFrom sev i n).map Prod.snd)
  | 0, _ => trivial
  | n + 1, i => ⟨Nat.lt_succ_self i, ringFrom_rising sev n (i + 1)⟩

theorem ringFrom_entry (sev : Nat) : ∀ n i : Nat, ∀ x ∈ ringFrom sev i n, x.2.sev = sev ∧ x.2.seq ≤ i + n
  | 0, _, x, h => absurd h (List.not_mem_nil)
  | n + 1, i, x, h => by
    rcases List.mem_cons.mp h with rfl | h
    · exact ⟨rfl, by show i + 1 ≤ i + (n + 1); omega⟩
    · obtain ⟨h1, h2⟩ := ringFrom_entry sev n (i + 1) x h
      exact ⟨h1, by omega⟩

/-- A recorder whose RAM ring is full of entries of one severity. -/
def full (sev : Nat) : Recorder := { Recorder.blank with ring := ringFrom sev 0 65536, lastSeq := 65536 }

theorem full_length (sev : Nat) : (full sev).ring.length = 65536 := by
  have h := congrArg List.length (ringFrom_slots sev 65536 0)
  rw [List.length_map, List.length_range'] at h
  exact h

theorem full_ok (sev : Nat) : (full sev).Ok where
  queueBound := Nat.zero_le _
  mirrorBound := Nat.zero_le _
  ringBound := Nat.le_of_eq (full_length sev)
  ringRising := ringFrom_rising sev 65536 0
  ringUpTo := by
    intro e he
    obtain ⟨x, hx, rfl⟩ := List.mem_map.mp he
    exact Nat.le_trans (ringFrom_entry sev 65536 0 x hx).2 (by show 0 + 65536 ≤ 65536; omega)
  mirrorRising := trivial
  mirrorUpTo := fun _ h => absurd h List.not_mem_nil
  slotsDistinct := by
    show ((ringFrom sev 0 65536).map Prod.fst).Nodup
    rw [ringFrom_slots]
    exact List.nodup_range'
  slotsInUse := by
    intro i hi
    have hi : i ∈ (ringFrom sev 0 65536).map Prod.fst := hi
    rw [ringFrom_slots, List.mem_range'_1] at hi
    rw [full_length]
    omega
  sectorBound := fun _ h => absurd h List.not_mem_nil
  lostLength := rfl

theorem blank_ok : Recorder.blank.Ok where
  queueBound := Nat.zero_le _
  mirrorBound := Nat.zero_le _
  ringBound := Nat.zero_le _
  ringRising := trivial
  ringUpTo := fun _ h => absurd h List.not_mem_nil
  mirrorRising := trivial
  mirrorUpTo := fun _ h => absurd h List.not_mem_nil
  slotsDistinct := List.nodup_nil
  slotsInUse := fun _ h => absurd h List.not_mem_nil
  sectorBound := fun _ h => absurd h List.not_mem_nil
  lostLength := rfl

/-- A ring with room; a full one with an entry to give way; a full one with none. -/
theorem test_PlacementInTheRing_witness :
    (Recorder.blank.Ok ∧ 1 ≤ request.sev ∧ request.sev ≤ 7 ∧ Recorder.blank.ring.length < 65536) ∧
    ((full 3).Ok ∧ (full 3).ring.length = 65536 ∧ ∃ x ∈ (full 3).ring, x.2.sev ≤ request.sev) ∧
    ((full 4).Ok ∧ (full 4).ring.length = 65536 ∧ ∀ x ∈ (full 4).ring, request.sev < x.2.sev) :=
  ⟨⟨blank_ok, by decide, by decide, by decide⟩,
   ⟨full_ok 3, full_length 3, (0, { old with seq := 1, sev := 3 }), List.mem_cons_self, by decide⟩,
   ⟨full_ok 4, full_length 4, fun x hx => by rw [(ringFrom_entry 4 65536 0 x hx).1]; decide⟩⟩

theorem test_RecorderStaysWithinItsBounds_witness : (on live).skein.Ok ∧ ∃ t : State, step (on live) = .next t :=
  ⟨blank_ok, _, rfl⟩

theorem test_WindowAddressesOfEntries_witness :
    (32 ≤ 32 ∧ 0x7FFF < 0x8000 ∧ 255 < 256 ∧ live.serves (masterPath 32) = true ∧ live.pmpOk 32 0x41FFFFFC 4 0 = true ∧ live.pmpOk 32 0x41FFFFFC 4 1 = true ∧ 0x40000000 + 0x7FFF * 0x400 + 255 * 4 = 0x41FFFFFC) :=
  (by decide)

theorem test_WideEntriesAreNeverTorn_witness :
    ((on (windowed 1 [] false)).finds (windowed 1 [] false) ∧ (windowed 1 [] false).pmpOk 32 (winAddr Od.PROG_CHANGEOVER) 4 0 = true ∧ (windowed 1 [] false).pmpOk 32 (winAddr Od.PROG_CHANGEOVER) 4 1 = true ∧ (windowed 1 [] false).pmpOk 32 (winAddr Od.TIME_NOW) 4 1 = true ∧ (windowed 1 [] false).serves (masterPath 32) = true ∧ ((windowed 1 [] false).accessing 32).srv.windows.length = 33 ∧ (windowed 1 [] false).arr.sp.length = 32 ∧ ((windowed 1 [] false).accessing 32).entry? Od.PROG_CHANGEOVER = odRow? Od.PROG_CHANGEOVER ∧ (odRow? Od.PROG_CHANGEOVER).any (fun row => !row.isDomain && row.type.width == 64) = true ∧ 2 ^ 32 + 7 = (((windowed 1 [] false).accessing 32).window 32).hi * 2 ^ 32 + 7 ∧ gives (((windowed 1 [] false).accessing 32).checkRead (masterPath 32) Od.PROG_CHANGEOVER) (fun row => decide (((windowed 1 [] false).accessing 32).number Recorder.blank (masterPath 32) Od.PROG_CHANGEOVER row < 2 ^ 64)) = true) ∧
    ((on (windowed 1 [] false)).finds (windowed 1 [] false) ∧ gives (((windowed 1 [] false).accessing 32).checkWrite (masterPath 32) Od.PROG_CHANGEOVER (2 ^ 32 + 7)) (fun row => ((windowed 1 [] false).accessing 32).valueOk Od.PROG_CHANGEOVER row (2 ^ 32 + 7)) = true ∧ ((windowed 1 [] false).accessing 32).entry? Od.TIME_NOW = odRow? Od.TIME_NOW ∧ (odRow? Od.TIME_NOW).any (fun row => !row.isDomain && row.type.width == 64) = true ∧ aborts (((windowed 1 [] false).accessing 32).checkWrite (masterPath 32) Od.TIME_NOW (2 ^ 32 + 7)) 0x06010002 = true) :=
  ⟨⟨finds_on (by decide), by decide⟩,
   ⟨finds_on (by decide), by decide⟩⟩

theorem test_FullReactionQueueIsAHardStop_witness :
    ((reacting 2 []).react.highest = 2 ∧ (decide (2 ≤ (reacting 2 []).react.highest) && (reacting 2 []).react.active.any fun a => decide (2 ≤ a.level) && codeClass a.code == codeClass 0x0B01 && a.unit == 4) = false ∧ (if false = true then min (2 + 1) 4 else 2) ≤ (reacting 2 []).react.highest ∧ (reacting 2 []).react.queue.length < 64 ∧ (reacting 2 (List.replicate 64 ⟨1, 1, 0x0702, 4⟩)).react.highest = 2 ∧ 64 ≤ (reacting 2 (List.replicate 64 ⟨1, 1, 0x0702, 4⟩)).react.queue.length) :=
  (by decide)

theorem test_NestingOfReactions_witness :
    (live.react.highest = 0 ∧ (reacting 4 []).react.highest = 4 ∧ (reacting 3 []).react.highest = 3 ∧ live.run ≠ .boot ∧ live.run ≠ .selftest ∧ (inState .selftest).react.highest = 0 ∧ (inState .selftest).run = .selftest) ∧
    ((reacting 2 []).react.highest = 2 ∧ (∃ a ∈ (reacting 2 []).react.active, 2 ≤ a.level ∧ codeClass a.code = codeClass 0x0702 ∧ a.unit = 3) ∧ (∀ a ∈ (reacting 2 []).react.active, 1 ≤ a.level → codeClass a.code = codeClass 0x0702 → a.unit ≠ 4) ∧ (reacting 2 []).react.queue.length < 64) :=
  ⟨(by decide),
   (by decide)⟩

theorem test_GatingByStateAndRole_witness :
    ((false = (Role.standby == .alone || Role.standby == .active || Role.standby == .witness)) ∧ (false = (Role.standby == .alone || Role.standby == .witness)) ∧ (twin .standby).role = .standby ∧ (inState .safe).run = .safe) :=
  (by decide)

theorem test_NothingFollowsAQuietCommand_witness :
    (settled.alive = true ∧ settled.run ≠ .failed ∧ settled.srv.waiting = [] ∧ (settled.clk.cyc = (on settled).core.clk.cyc ∨ ∀ x ∈ settled.arr.sp, x.draft = none) ∧ (∀ n < 32, (settled.spin n).stalled ≠ some .park) ∧ (settled.prog.l0Mark.2 = 0 ∨ settled.prog.l0Mark.1 ≠ settled.rd Od.TICK_COUNT) ∧ (∀ i < 3, (settled.strand i).xfer = none) ∧ settled.ply.forced = false ∧ settled.bit Od.TIME_FLAGS 6 = false ∧ settled.sfAvailable = settled.safety.avail ∧ settled.toggling = settled.toggleWant ∧ settled.pair.both = sinceWhen (settled.toggling && settled.partnerToggling) settled.pair.both settled.clk.cyc ∧ settled.pair.quiet = sinceWhen settled.returnFit settled.pair.quiet settled.clk.cyc ∧ (settled.returnFit = false → settled.pairBit psReturn = false) ∧ settled.pwr.holdOff = false ∧ settled.gateKey = (on settled).core.gateKey ∧ settled.clk.state = (on settled).core.clk.state ∧ (∀ i < 16, settled.scrimShown i = (on settled).core.scrimShown i) ∧ (∀ n < 2, ∀ p < 2, (settled.port n p).queue = [])) :=
  (by decide)

theorem test_FollowUpLeavesAlone_witness :
    (live.srv.waiting = [] ∧ (∀ x ∈ live.arr.sp, x.draft = none) ∧ (∀ n < 32, (live.spin n).stalled ≠ some .park) ∧ (live.prog.l0Mark.2 = 0 ∨ live.prog.l0Mark.1 ≠ live.rd Od.TICK_COUNT)) :=
  (by decide)

theorem test_MemoriesReadWhatWasWritten_witness :
    (Memory.wf [(0x10200000, 5#8)] = true ∧ (0xFFFFFFFF : Nat) < 256 ^ 4 ∧ 0x10200000 + 4 ≤ 0x10200004) :=
  (by decide)

theorem test_ChecksOfAWriteInOrder_witness :
    (live.entry? 0x5FFF00 = none ∧ (live.entry? Od.TIME_NOW).any (·.acc == .ro) = true ∧ (live.entry? Od.TIME_SOURCE).any (fun row => row.acc == .rws && live.writeRight (.can 0) Od.TIME_SOURCE row 1 == some 2 && (live.rights (live.principal (.can 0))).testBit 2 && !live.otherAuthor (.can 0) Od.TIME_SOURCE row && !live.permits (.can 0) Od.TIME_SOURCE row 1 && (inState .stop).permits (.can 0) Od.TIME_SOURCE row 1) = true) ∧
    ((barred.entry? Od.TIME_SOURCE).any (fun row => barred.writeRight (.can 0) Od.TIME_SOURCE row 1 == some 2 && !(barred.rights (barred.principal (.can 0))).testBit 2) = true ∧ (transferring.entry? (Od.CAN_TX_TABLE 3)).any (fun row => transferring.writeRight .ply (Od.CAN_TX_TABLE 3) row 0 == some 2 && (transferring.rights (transferring.principal .ply)).testBit 2) = true ∧ ∃ w ∈ transferring.srv.writes, w.key = Od.CAN_TX_TABLE 3 ∧ w.path ≠ .ply) :=
  ⟨(by decide),
   (by decide)⟩

theorem test_CoreRegistersAndProtection_witness :
    ((on (live.wr Od.SPIN_DEBUG_EN 1)).finds (live.wr Od.SPIN_DEBUG_EN 1) ∧ (live.wr Od.SPIN_DEBUG_EN 1).spinUsable 31 = true ∧ (live.wr Od.SPIN_DEBUG_EN 1).spinDebugOk = true ∧ (live.wr Od.SPIN_DEBUG_EN 1).timed = true ∧ ((live.wr Od.SPIN_DEBUG_EN 1).spin 31).job = none ∧ ((working.wr Od.SPIN_DEBUG_EN 1).spin 31).job = some job) ∧
    ((on (working.wr Od.SPIN_DEBUG_EN 1)).finds (working.wr Od.SPIN_DEBUG_EN 1) ∧ (working.wr Od.SPIN_DEBUG_EN 1).spinUsable 31 = true ∧ (working.wr Od.SPIN_DEBUG_EN 1).spinDebugOk = true) ∧
    ((on (live.wr Od.PLY_DEBUG_EN 1)).finds (live.wr Od.PLY_DEBUG_EN 1) ∧ (live.wr Od.PLY_DEBUG_EN 1).rd Od.PLY_DEBUG_EN ≠ 0 ∧ (live.wr Od.PLY_DEBUG_EN 1).run ≠ .failed) ∧
    ((Cpu.fresh.csr 0x300).testBit 17 = false ∧ (∀ i < 8, Cpu.fresh.pmpRange i = none) ∧ (((Cpu.fresh.put 0x3A0 0x9900).put 0x3B1 0x04001FFF).csr 0x300).testBit 17 = false ∧ (∀ k < 1, ((Cpu.fresh.put 0x3A0 0x9900).put 0x3B1 0x04001FFF).pmpRange k = none) ∧ ((Cpu.fresh.put 0x3A0 0x9900).put 0x3B1 0x04001FFF).pmpRange 1 = some (0x10000000, 0x10010000) ∧ 0x10000000 ≤ 0x1000FFFC ∧ 0x1000FFFC + 4 ≤ 0x10010000) :=
  ⟨⟨finds_on (by decide), by decide⟩,
   ⟨finds_on (by decide), by decide⟩,
   ⟨finds_on (by decide), by decide⟩,
   (by decide +kernel)⟩

/-! ## Ill-formed commands (WellFormed.lean) -/

/-- 32-bit words, keys, payloads, paths. -/
theorem test_illFormed_values :
    Instr.wellFormed (.tickWait 31 (2 ^ 32)) = false ∧ Instr.wellFormed (.tickWait 31 (2 ^ 32 - 1)) = true ∧
    Instr.wellFormed (.winWideLoad 32 (2 ^ 24)) = false ∧ Instr.wellFormed (.dsRead 3 (zeros 1501)) = false ∧
    Instr.wellFormed (.skeinRead (.spindle 32)) = false ∧ Instr.wellFormed (.skeinRead (.can 4)) = false ∧
    Instr.wellFormed (.skeinRead (.session (2 ^ 32))) = false ∧ Instr.wellFormed (.skeinRead (.can 0)) = true := by
  decide +kernel

/-- Whole values and segments. -/
theorem test_illFormed_contents :
    Instr.wellFormed (.dictionaryWrite (.can 4) 0 []) = false ∧ Instr.wellFormed (.dictionaryWrite .ply (2 ^ 24) []) = false ∧
    Wf.entry .ply 0 (List.replicate (2 ^ 24 + 1) 0#8) = false ∧
    Instr.wellFormed (.progImageWrite .ply 0 (zeros 1025) false) = false ∧
    Instr.wellFormed (.progImageWrite .ply (2 ^ 32) [] false) = false := by
  refine ⟨by decide, by decide, ?_, by decide +kernel, by decide⟩
  simp only [Wf.entry, List.length_replicate]
  decide

/-- The copies of an outward item, the result of BIST, TCM scrubbing, agreement and socmd. -/
theorem test_illFormed_ply :
    Instr.wellFormed (.voterItemCompare 8 (List.replicate 3 ⟨0, 0, 0⟩)) = false ∧
    Instr.wellFormed (.voterItemCompare 7 (List.replicate 2 ⟨0, 0, 0⟩)) = false ∧
    Instr.wellFormed (.voterItemCompare 7 (List.replicate 3 ⟨2 ^ 32, 0, 0⟩)) = false ∧
    Instr.wellFormed (.voterItemCompare 7 (List.replicate 3 ⟨0, 256, 0⟩)) = false ∧
    Instr.wellFormed (.voterItemCompare 7 (List.replicate 3 ⟨0, 0, 2 ^ 64⟩)) = false ∧
    Instr.wellFormed (.strandBistDone 2 256) = false ∧ Instr.wellFormed (.unvotedResume [1, 1]) = false ∧
    Instr.wellFormed (.unvotedResume [1, 1, 256]) = false ∧ Instr.wellFormed (.tcmScrub 8 false false 0) = false ∧
    Instr.wellFormed (.tcmScrub 7 false false (2 ^ 32)) = false ∧ Instr.wellFormed (.agreeselWrite (2 ^ 32) []) = false ∧
    Instr.wellFormed (.agreeselWrite 0 [0, 0, 0, 0]) = false ∧ Instr.wellFormed (.agreeselWrite 0 [2 ^ 64]) = false ∧
    Instr.wellFormed (.socmdWrite 2 (2 ^ 32)) = false ∧ Instr.wellFormed (.debugAbstractCommand (2, 2 ^ 16)) = false := by
  decide

/-- What a boundary, an access, a dark test, an acknowledgement and the pair are given. -/
theorem test_illFormed_facts :
    Instr.wellFormed (.tickBoundary ⟨List.replicate 25 0, 0, [], false⟩) = false ∧
    Instr.wellFormed (.tickBoundary ⟨[2 ^ 32], 0, [], false⟩) = false ∧
    Instr.wellFormed (.tickBoundary ⟨[], 2 ^ 24, [], false⟩) = false ∧
    Instr.wellFormed (.tickBoundary ⟨[], 0, [(32, 0)], false⟩) = false ∧
    Instr.wellFormed (.tickBoundary ⟨[], 0, [(31, 2 ^ 64)], false⟩) = false ∧
    Instr.wellFormed (.icacheParityError (31, 0x0FFFFFFF)) = false ∧ Instr.wellFormed (.icacheParityError (31, 0x10800000)) = false ∧
    Instr.wellFormed (.spindleDebugAbstract (31, 2 ^ 16)) = false ∧
    Instr.wellFormed (.loadStoreAccessFault 32 0 3 .load) = false ∧
    Instr.wellFormed (.soDarkTest 7 true true 279999) = false ∧ Instr.wellFormed (.soDarkTest 7 true true 350001) = false ∧
    Instr.wellFormed (.soAck .ply (2 ^ 32) 0) = false ∧ Instr.wellFormed (.soAck .ply 0 (2 ^ 64)) = false ∧
    Instr.wellFormed (.takeoverOnLoss 16999) = false ∧ Instr.wellFormed (.takeoverOnLoss 22001) = false ∧
    Instr.wellFormed (.releaseRx 2001) = false := by
  decide

/-- Frames and messages of the networks and of CAN. -/
theorem test_illFormed_frames :
    Instr.wellFormed (.portLinkChange 1 1 10) = false ∧ Instr.wellFormed (.frameForward 1 1 (zeros 13) true 0) = false ∧
    Instr.wellFormed (.frameForward 1 1 (zeros 1519) true 0) = false ∧ Instr.wellFormed (.ptpAnnounceRx 1 256 master) = false ∧
    Instr.wellFormed (.ptpDelayReqRx 1 1 256 0 0 0) = false ∧ Instr.wellFormed (.ptpDelayReqRx 1 1 0 (2 ^ 16) 0 0) = false ∧
    Instr.wellFormed (.mrpTopologyChangeRx 1 (2 ^ 16)) = false ∧ Instr.wellFormed (.arpRequestRx 1 (2 ^ 48) 0 0) = false ∧
    Instr.wellFormed (.icmpEchoRx 1 (2 ^ 48) 0 0 [] false) = false ∧ Instr.wellFormed (.appFrameRx 1 (2 ^ 48) 0 []) = false ∧
    Instr.wellFormed (.appFrameRx 1 0 (2 ^ 16) []) = false ∧ Instr.wellFormed (.fdbEntryAgeing 1 (2 ^ 48)) = false ∧
    Instr.wellFormed (.dsOpen 1 (2 ^ 48) []) = false ∧ Instr.wellFormed (.canFrameRx 3 ⟨2 ^ 32, 0, false, false, []⟩ 0) = false ∧
    Instr.wellFormed (.canFrameRx 3 ⟨0, 16, false, false, []⟩ 0) = false ∧
    Instr.wellFormed (.canFrameRx 3 ⟨0, 0, false, false, zeros 65⟩ 0) = false ∧ Instr.wellFormed (.sdoAbort 3 (zeros 7)) = false := by
  decide +kernel

/-- Events, recorder requests, the health evaluation and a start-up. -/
theorem test_illFormed_rest :
    Instr.wellFormed (.evRaise .ply 493 4) = false ∧ Instr.wellFormed (.evClear .ply 493 2) = false ∧
    Instr.wellFormed (.skeinRequest (2 ^ 16) 1 0 0) = false ∧ Instr.wellFormed (.skeinRequest 0x0102 0 0 0) = false ∧
    Instr.wellFormed (.skeinRequest 0x0102 8 0 0) = false ∧ Instr.wellFormed (.skeinRefill (2 ^ 16)) = false ∧
    Instr.wellFormed (.powerFail 0 (2 ^ 64)) = false ∧
    (let x : HealthReading := ⟨List.replicate 16 (0, 0), 0, [0, 0]⟩
     Wf.healthOk x = true ∧ Wf.healthOk { x with ages := [] } = false ∧ Wf.healthOk { x with ages := List.replicate 16 (2 ^ 32, 0) } = false ∧
     Wf.healthOk { x with vbat := 2 ^ 32 } = false ∧
     Wf.healthOk { x with banks := [0] } = false) ∧
    Wf.startUpOk startUp = true ∧ Wf.startUpOk { startUp with rtc := 2 ^ 64 } = false ∧
    Wf.startUpOk { startUp with vbat := 2 ^ 32 } = false ∧
    Wf.startUpOk { startUp with strands := [1] } = false ∧ Wf.startUpOk { startUp with copies := [] } = false ∧
    Wf.startUpOk { startUp with slot := 64 } = false := by
  decide +kernel

/-! ## Steps and values the spec states -/

/-- The check value of the CRC-32C of R317: 0xE306_9283 over the nine characters 1 to 9. -/
theorem test_crc32c : crc32c 0xFFFFFFFF ((List.range 9).map fun i => BitVec.ofNat 8 (0x31 + i)) = 0xE3069283 := by decide +kernel

/-- SHA-256 of the message abc (FIPS 180-4), for R481. -/
theorem test_sha256 : beNat (Sha.digest [0x61#8, 0x62#8, 0x63#8]) =
    0xBA7816BF8F01CFEA414140DE5DAE2223B00361A396177A9CB410FF61F20015AD := by decide +kernel

/-- HMAC-SHA-256, the first case of RFC 4231: twenty bytes 0x0B and the message Hi There. -/
theorem test_hmac : beNat (Sha.hmac (List.replicate 20 0x0B#8)
      [0x48#8, 0x69#8, 0x20#8, 0x54#8, 0x68#8, 0x65#8, 0x72#8, 0x65#8]) =
    0xB0344C61D8DB38535CA8AFCEAF0BF12B881DC200C9833DA726E9376C2E32CFF7 := by decide +kernel

/-- The signature of an image with the public key of the signer, and with one bit of its body changed (R487). -/
theorem test_signature : signatureOk execImg publicKey = true ∧ signatureOk (splice execImg 12 [6#8]) publicKey = false := by
  decide +kernel

/-- A PMP entry in NAPOT form over 0x1000_0000 to 0x1000_FFFF, L = 1, R = 1: a spindle in mode M may load there and not store,
and its other addresses stay open (R90). -/
theorem test_pmp :
    let c := live.updSpin 31 fun x => { x with cpu := (x.cpu.put 0x3A0 0x99).put 0x3B0 0x04001FFF }
    c.pmpOk 32 0x1000FFFC 4 0 = true ∧ c.pmpOk 32 0x1000FFFC 4 1 = false ∧ c.pmpOk 32 0x10010000 4 1 = true := by
  decide +kernel

/-- Phase 9 of a tick of 62.5 µs begins 35,156 core cycles after its boundary (R22). -/
theorem test_phase :
    let c (t : Nat) := { live.wr Od.TICK_PERIOD_NS 62500 with clk := { live.clk with cyc := live.clk.tickCyc + t } }
    (c 35155).phase = 8 ∧ (c 35156).phase = 9 := by
  decide +kernel

/-- A write of a read-only entry answers 0x0601_0002 (R465). -/
theorem test_write_ro : (after (.dictionaryWrite (.can 0) Od.TIME_NOW (zeros 8)) (on live)).core.reply = .abort 0x06010002 := by
  decide +kernel

/-- An rws entry refuses a write in RUN with 0x0800_0022 and takes it in STOP (Table 00.5). -/
theorem test_write_rws :
    (after (.dictionaryWrite (.can 0) (Od.SKEIN_REFILL_MS 6) [11#8, 0#8]) (on live)).core.reply = .abort 0x08000022 ∧
    (after (.dictionaryWrite (.can 0) (Od.SKEIN_REFILL_MS 6) [11#8, 0#8]) (on (inState .stop))).core.rd (Od.SKEIN_REFILL_MS 6) = 11 := by
  decide +kernel

/-- STATE.CMD to STOP is refused in SAFE (R495). -/
theorem test_stateCmd_safe : (after (.stateCmdStop (.can 0)) (on (inState .safe))).core.reply = .abort 0x08000022 := by
  decide +kernel

/-- A record takes the request, SEQ 1 and severity 3 with it (R449, R451). -/
theorem test_skeinWrite : ((after .skeinWrite (recording live (asking 1 0 []))).skein.ring.map fun x =>
    (x.1, x.2.seq, x.2.code, x.2.sev)) = [(0, 1, 0x0102, 3)] := by decide +kernel

/-- The supply falls with VBAT present: VAULT (R522, R494). -/
theorem test_powerFail : (after (.powerFail 0 9) (on live)).core.run = .vault ∧ (after (.powerFail 0 9) (on live)).core.vault.rtc = 9 := by
  decide +kernel

end Sys2Proof.Tests
end

section
/-! The statements of the scope: what every command answers (O45), the window address of an entry (O51), and memories
(O58). -/

namespace Sys2Proof.Machine

/-! ## What every command answers -/

/-- Each of the recorder's own commands acts on the core and the recorder alone. -/
theorem recorderCommand_record {i : Instr} {s : State} (h : recorderCommand i s) : ∃ f, exec i s = s.record f := by
  rcases h with ⟨-, e⟩ | ⟨_, -, e⟩ | ⟨_, -, e⟩ | ⟨_, -, e⟩ <;> exact ⟨_, e⟩

/-- Every command ends in what follows every command, after some effect of its own on the core and the recorder. -/
theorem exec_finish (i : Instr) (s : State) : ∃ b x, exec i s = .next (s.finish b x) := by
  rcases exec_cases i s with ⟨-, -, ⟨f, e⟩ | ⟨f, e⟩⟩ | hr | ⟨-, f, e⟩
  · exact ⟨true, _, e⟩
  · exact ⟨true, _, e⟩
  · obtain ⟨f, e⟩ := recorderCommand_record hr
    exact ⟨true, _, e⟩
  · exact ⟨false, _, e⟩

/-- Settles O45: every command ends in what follows every command, which answers a next state with the queue it found. -/
theorem everyCommandAnswersANextState : Obligations.EveryCommandAnswersANextState := by
  intro i s
  obtain ⟨b, x, e⟩ := exec_finish i s
  exact ⟨_, e, s.finish_pending b x⟩

/-! ## The window address of an entry -/

theorem odKey_div (idx : Nat) {sub : Nat} (h : sub < 256) : odKey idx sub / 256 = idx := by unfold odKey; omega

theorem odKey_mod (idx : Nat) {sub : Nat} (h : sub < 256) : odKey idx sub % 256 = sub := by unfold odKey; omega

/-- The address formula of R17. -/
theorem winAddr_odKey (idx : Nat) {sub : Nat} (h : sub < 256) :
    winAddr (odKey idx sub) = 0x40000000 + idx * 0x400 + sub * 4 := by
  rw [winAddr, odKey_div idx h, odKey_mod idx h]

/-- The address of an entry gives its key back. -/
theorem winAddr_injective : Function.Injective winAddr := Function.LeftInverse.injective winKey_winAddr

/-- Index and Sub are what their key holds. -/
theorem odKey_inj {idx sub idx' sub' : Nat} (h : sub < 256) (h' : sub' < 256) (e : odKey idx sub = odKey idx' sub') :
    idx' = idx ∧ sub' = sub :=
  ⟨by rw [← odKey_div idx' h', ← e, odKey_div idx h], by rw [← odKey_mod idx' h', ← e, odKey_mod idx h]⟩

/-- Settles O51: the address of R17 is that of the entry's key, an access of it is the access of that entry, and the key can
be read back from the address. -/
theorem windowAddressesOfEntries : Obligations.WindowAddressesOfEntries := by
  intro c r m idx sub _ hidx hsub hserves
  have hk : odKey idx sub / 256 < 0x8000 := (odKey_div idx hsub).symm ▸ hidx
  obtain ⟨hload, hstore⟩ := Core.access_window (r := r) hserves hk
  rw [← winAddr_odKey idx hsub]
  refine ⟨hload, hstore, fun idx' sub' hsub' e => ?_⟩
  rw [← winAddr_odKey idx' hsub'] at e
  exact odKey_inj hsub hsub' (winAddr_injective e)

/-! ## Memories -/

/-- Bytes written leave every address outside them alone. -/
theorem Mem.get_write_other {m : Mem} (hm : Memory.wf m = true) {x y : Nat} (bs : Bytes) (hy : y < x ∨ x + bs.length ≤ y) :
    (m.write x bs).get y = m.get y := by
  induction bs generalizing m x with
  | nil => rfl
  | cons b bs ih =>
    rw [List.length_cons] at hy
    calc (m.write x (b :: bs)).get y
        = (m.put x b).get y := ih (Mem.wf_put hm x b) (by omega)
      _ = m.get y := Mem.get_put_other hm b (by omega)

/-- Bytes written read back. -/
theorem Mem.read_write {m : Mem} (hm : Memory.wf m = true) (x : Nat) (bs : Bytes) : (m.write x bs).read x bs.length = bs := by
  induction bs generalizing m x with
  | nil => rfl
  | cons b bs ih =>
    have hw : Memory.wf (m.put x b) = true := Mem.wf_put hm x b
    have hfirst : (m.write x (b :: bs)).get x = b :=
      (Mem.get_write_other hw bs (.inl x.lt_succ_self)).trans (Mem.get_put_same hm x b)
    exact congrArg₂ List.cons hfirst (ih hw (x + 1))

/-- A word stored reads back. -/
theorem Mem.word_putWord {m : Mem} (hm : Memory.wf m = true) (x : Nat) {n v : Nat} (hv : v < 256 ^ n) :
    (m.putWord x n v).word x n = v := by
  have hread : (m.write x (leBytes n v)).read x n = leBytes n v := by
    simpa only [leBytes_length] using Mem.read_write hm x (leBytes n v)
  rw [Mem.word, Mem.putWord, hread, leNat_leBytes n v hv]

/-- A word stored leaves every address outside it alone. -/
theorem Mem.get_putWord_other {m : Mem} (hm : Memory.wf m = true) {x y n : Nat} (v : Nat) (hy : y < x ∨ x + n ≤ y) :
    (m.putWord x n v).get y = m.get y :=
  Mem.get_write_other hm _ (by rwa [leBytes_length])

/-- Settles O58, from the laws of one byte and, by induction on the bytes written, of a word. -/
theorem memoriesReadWhatWasWritten : Obligations.MemoriesReadWhatWasWritten := by
  intro m x hm
  refine ⟨fun v => ⟨?_, ?_, ?_⟩, fun n v hv => ⟨?_, ?_, ?_⟩⟩
  · exact Mem.get_put_same hm x v
  · exact fun y hy => Mem.get_put_other hm v hy
  · exact Mem.wf_put hm x v
  · exact Mem.word_putWord hm x hv
  · exact fun y hy => Mem.get_putWord_other hm v hy
  · exact Mem.wf_putWord hm x n v

end Sys2Proof.Machine
end

section
/-! The statements of the tick and of station time: the parts of the tick's sequence in order (O3), the writes of the
entries of time (O1), and station time itself (O2). -/

namespace Sys2Proof.Machine

/-- A command on the core answers what its function makes of the core as the command finds it. -/
theorem exec_act_finds {i : Instr} {s : State} {c d : Core} {f : Core → Recorder → Core} (hi : exec i s = s.act f)
    (hs : s.finds c) (hd : f c s.skein = d) : exec i s = .next (s.finishing d) := by
  rw [hi, State.act_finds hs, hd]

/-! ## The tick's sequence -/

/-- Settles O3: with the generator running and the part of the tick not yet made, none of the guards of the three commands
stops them, and each makes its parts in the order stated. -/
theorem tickSequenceRunsInOrder : Obligations.TickSequenceRunsInOrder := by
  intro s c hs hrun
  refine ⟨fun x => exec_act_finds (exec_tickBoundary x s) hs ?_,
    fun hcount => ⟨fun hrel => exec_act_finds (exec_jobRelease s) hs ?_, fun g hg => ?_⟩⟩
  · unfold Core.tickBoundary
    rw [if_neg (by simp [hrun])]
  · unfold Core.jobRelease
    rw [if_neg (by simp [hrun, hcount, hrel])]
  · have hgo : ¬(!c.clk.running || c.rd Od.TICK_COUNT == 0 || 8 ≤ (g : Nat) || c.arr.committed.contains (g : Nat)) = true := by
      simp [hrun, hcount, hg]
    refine ⟨fun hw => exec_act_finds (exec_commitGroupCopy g s) hs ?_,
      fun hw => exec_act_finds (exec_commitGroupCopy g s) hs ?_⟩
    · exact (if_neg hgo).trans (if_pos hw)
    · exact (if_neg hgo).trans (if_neg (ne_true_of_eq_false hw))

/-! ## Writes of configuration values -/

/-- The key is of no command, selector, acknowledgement or staged word: a write of it stores a configuration value. -/
def storedKey (k : Nat) : Bool :=
  k / 256 != 0x2312 &&
  [Od.LOOP_SEL, Od.COMP_SEL, Od.SKEIN_READ_FROM, Od.SKEIN_READ_SRC, Od.SKEIN_READ_MIN_SEV, Od.TIME_RESTEP,
    Od.LOOP_CLEAR_ALL, Od.COMP_SCALE, Od.COMP_OFFSET, Od.COMP_MODE, Od.PROG_CMD, Od.SO_ACK, Od.PAIR_CMD, Od.SEC_CMD,
    Od.CS_CMD, Od.STATE_CMD].all (k != ·) &&
  [elem? (Od.FG_ACK 0) 6 k, elem? (Od.COUNT_CMD 0) 8 k, elem? (Od.UIO_ACK 0) 24 k, record? (Od.HART_CANCEL 0) 24 k,
    record? (Od.CAN_CMD 0) 4 k, elem? (Od.CAN_TXB_CMD 0) 12 k, elem? (Od.CAN_Q_ACK 0) 16 k, source? 0x2C14 k,
    elem? (Od.EV_T_THRESH 0) 33 k].all Option.isNone

/-- A write of such an entry stores its value, unless the configuration with it meets a reject code. -/
theorem Core.applyNumber_stored {k : Nat} {r : OdRow} (hk : storedKey k = true) (hp : protectedKey k r = false) (c : Core)
    (p : Path) (v : Nat) (f : Facts) : c.applyNumber p k r v f =
      c.unlessRejected ((c.merged.wr k v).valueTaken k v) k (c.valueRejects k v) (c.storeValue k r v) := by
  simp only [storedKey, Bool.and_eq_true, List.all_cons, List.all_nil, bne_iff_ne, ne_eq, Option.isNone_iff_eq_none] at hk
  unfold Core.applyNumber
  simp [hk, hp]

/-- A stored value that the checks of R465 let through and that meets no reject code is made. -/
theorem State.act_stored {s : State} {c : Core} {p : Path} {k v : Nat} {r : OdRow} (hs : s.finds c)
    (hm : c.mayWrite p k v = true) (ha : (c.used 3).acceptsConfig k v) (hr : odRow? k = some r)
    (hk : k / 256 < 0x6000 ∨ 0x7FFF < k / 256) (ht : r.type = .u8 ∨ r.type = .u16 ∨ r.type = .u32 ∨ r.type = .real32)
    (hv : v < 2 ^ r.type.width) (hst : storedKey k = true) (hp : protectedKey k r = false) :
    (s.act fun c _ => c.pathNumber p k v) =
      .next (s.finishing ((((c.used 3).storeValue k r v).answer .done).shown p)) := by
  rw [State.act_pathNumber hs hm hr hk ht hv, Core.stored_accepts (Core.applyNumber_stored hst hp _ p v _) ha]

/-! ## Writes of the entries of time -/

/-- The row of TIME.RESTEP. -/
def timeRestepRow : OdRow := ⟨0x2030, 0x2030, 0x0A, 0x0A, .u8, .wo, 0, .nat 1 1 []⟩

/-- The row of TIME.SOURCE. -/
def timeSourceRow : OdRow := ⟨0x2030, 0x2030, 0x02, 0x02, .u8, .rws, 3, .nat 0 3 []⟩

/-- The row of TICK.PERIOD. -/
def tickPeriodRow : OdRow := ⟨0x2010, 0x2010, 0x01, 0x01, .u8, .rws, 4, .nat 0 4 []⟩

theorem odRow_timeRestep : odRow? Od.TIME_RESTEP = some timeRestepRow := by decide
theorem odRow_timeSource : odRow? Od.TIME_SOURCE = some timeSourceRow := by decide
theorem odRow_tickPeriod : odRow? Od.TICK_PERIOD = some tickPeriodRow := by decide

/-- A number of an entry of 8 bits which the checks let through lies within its type. -/
theorem Core.mayWrite_u8 {c : Core} {p : Path} {k v lo hi : Nat} {r : OdRow} (hm : c.mayWrite p k v = true)
    (hr : odRow? k = some r) (hk : k / 256 < 0x6000 ∨ 0x7FFF < k / 256) (ht : r.type = .u8) (hrange : r.range = .nat lo hi [])
    (hhi : hi < 256) : v < 2 ^ r.type.width := by
  have hle : lo ≤ v ∧ v ≤ hi := by simpa [hrange, OdRange.admits] using Core.mayWrite_range hm hr hk
  have hw : 2 ^ r.type.width = 256 := by rw [ht]; rfl
  omega

theorem Core.applyNumber_timeRestep (c : Core) (p : Path) (v : Nat) (f : Facts) :
    c.applyNumber p Od.TIME_RESTEP timeRestepRow v f = c.requestReStep.answer .done := by
  unfold Core.applyNumber
  rw [if_neg (by decide), if_neg (by decide), if_pos rfl]

/-- What a request for a re-step makes of the core (R48, R53). -/
theorem Core.requestReStep_answer (c : Core) (x : Reply) : c.requestReStep.answer x =
    { c.setBit Od.TIME_FLAGS 6 true with
      clk := if c.clk.locked then { c.clk with acq := [], acqNet := 0 } else c.clk, reply := x } := by
  rw [Core.requestReStep, apply_ite (Core.answer · x)]
  by_cases h : c.clk.locked = true
  · rw [if_pos h]; exact if_pos h
  · rw [if_neg h]; exact if_neg h

/-- No rule of Table 15.3 bears on the source of time. -/
theorem Core.acceptsConfig_timeSource (c : Core) (v : Nat) : c.acceptsConfig Od.TIME_SOURCE v := rfl

theorem Core.storeValue_timeSource (c : Core) (v : Nat) :
    c.storeValue Od.TIME_SOURCE timeSourceRow v = (c.wr Od.TIME_SOURCE v).cfgChanged := rfl

theorem Core.storeValue_tickPeriod (c : Core) (v : Nat) :
    c.storeValue Od.TICK_PERIOD tickPeriodRow v = (c.writePeriod v).cfgChanged := rfl

/-- Settles O1: each write passes to the effect of its entry, which for TIME.RESTEP is the request for a re-step and for the
two others the value stored; with TICK.PERIOD the end of the tick in progress moves to the new grid. -/
theorem timeWritesTakeEffect : Obligations.TimeWritesTakeEffect := by
  intro s c p v hs
  refine ⟨fun hm => ?_, fun hm => ?_, fun hm ha => ?_⟩
  · rw [exec_timeRestep, State.act_pathNumber hs hm odRow_timeRestep (by decide) (.inl rfl)
      (Core.mayWrite_u8 hm odRow_timeRestep (by decide) rfl rfl (by decide)), Core.applyNumber_timeRestep,
      Core.requestReStep_answer]
    rfl
  · rw [exec_timeSourceWrite, State.act_stored hs hm (Core.acceptsConfig_timeSource _ v) odRow_timeSource (by decide)
      (.inl rfl) (Core.mayWrite_u8 hm odRow_timeSource (by decide) rfl rfl (by decide)) (by decide) (by decide),
      Core.storeValue_timeSource]
  · rw [exec_tickPeriodWrite, State.act_stored hs hm ha odRow_tickPeriod (by decide) (.inl rfl)
      (Core.mayWrite_u8 hm odRow_tickPeriod (by decide) rfl rfl (by decide)) (by decide) (by decide),
      Core.storeValue_tickPeriod]
    rfl

/-! ## What the updates of time do to the clock -/

@[simp] theorem Core.setTimeFlag_clk (c : Core) (i : Nat) (b : Bool) : (c.setTimeFlag i b).clk = c.clk := rfl
@[simp] theorem Core.logStep_clk (c : Core) (code : Nat) (x : Int) : (c.logStep code x).clk = c.clk := rfl

@[simp] theorem Core.setTimeState_clk (c : Core) (t : TimeState) : (c.setTimeState t).clk = { c.clk with state := t } := by
  unfold Core.setTimeState
  split <;> rfl

@[simp] theorem Core.writeRtc_clk (c : Core) : c.writeRtc.clk = c.clk := by
  unfold Core.writeRtc
  split <;> rfl

@[simp] theorem Core.stepTime_now (c : Core) (x : Int) : (c.stepTime x).clk.now = ((c.clk.now : Int) + x).toNat := rfl

/-- A part that is made on a condition, and that leaves the clock, leaves it. -/
theorem Core.clk_ite {P : Prop} [Decidable P] {c d : Core} (h : d.clk = c.clk) : (if P then d else c).clk = c.clk := by
  split
  · exact h
  · rfl

/-- The first lock steps station time by the median of the acquisition and locks the clock (R40). -/
theorem Core.firstLock_clk (c : Core) : c.firstLock.clk =
    { (c.stepTime (acqMedian c.clk.acq)).clk with locked := true, lastValid := c.clk.cyc, state := .locked } := by
  unfold Core.firstLock
  extract_lets step stepped _ locked flagged merged _ waited
  calc waited.writeRtc.clk = waited.clk := waited.writeRtc_clk
    _ = merged.clk := Core.clk_ite rfl
    _ = flagged.clk := Core.clk_ite rfl
    _ = locked.clk := Core.clk_ite rfl
    _ = _ := Core.setTimeState_clk _ _

/-- A re-step makes station time the value asked for, or moves it by the median of the acquisition (R48). -/
theorem Core.reStep_now (c : Core) : c.reStep.clk.now = ((c.clk.now : Int) +
    (if c.clk.source = 0 then (c.rd Od.TIME_RESTEP_VALUE : Int) - c.clk.now else acqMedian c.clk.acq)).toNat := by
  simp [Core.reStep]

/-! ## Measurements -/

/-- Two updates of one network's PTP state are one. -/
theorem Core.updPtp_updPtp (c : Core) (n : Nat) (f g : Ptp → Ptp) :
    (c.updPtp n f).updPtp n g = c.updPtp n fun x => g (f x) := by
  simp only [Core.updPtp, Core.updSide, Core.updNet, updAt_updAt]

/-- What an update of a network's PTP state keeps of the network. -/
theorem Core.side_updPtp_of {β : Type} {f : Ptp → Ptp} {g : NetSide → β} (h : ∀ x, g { x with ptp := f x.ptp } = g x)
    (c : Core) (n : Nat) : g ((c.updPtp n f).side n) = g (c.side n) :=
  getD_updAt_of h c.net.sides n NetSide.fresh

/-- The path delay rests on nothing that a Sync notes. -/
theorem Core.pathDelay_noteSync (c : Core) (n p : Nat) (y : Option (Int × Int)) :
    (c.updPtp n fun x => { x with sync := y }).pathDelay n p = c.pathDelay n p := by
  have hpeer := c.side_updPtp_of (f := fun x => { x with sync := y }) (g := fun x => x.ptp.peer) (fun _ => rfl) n
  have hdelay := c.side_updPtp_of (f := fun x => { x with sync := y }) (g := fun x => x.ptp.delay) (fun _ => rfl) n
  have hports := c.side_updPtp_of (f := fun x => { x with sync := y }) (g := NetSide.ports) (fun _ => rfl) n
  unfold Core.pathDelay Core.ptp Core.port
  rw [hpeer, hdelay, hports]
  rfl

/-- A counter leaves every other register alone. -/
theorem Core.rd_incW_other (c : Core) {w k j : Nat} (h : j ≠ k) : (c.incW w k).rd j = c.rd j :=
  Core.rd_wr_other c _ h

/-- A counter and a network's PTP state are apart. -/
theorem Core.inc32_updPtp (c : Core) (k n : Nat) (f : Ptp → Ptp) : (c.updPtp n f).inc32 k = (c.inc32 k).updPtp n f := rfl

/-- A Sync of the best master, in time and with a usable path delay, on the followed network (R38, R372). -/
theorem Core.syncRx_followed {c : Core} {n p : Nat} {m : SyncMsg} {b : Announce} {d : Int} (hon : c.ptpOn n = true)
    (hdom : m.domain = c.rd (Od.PTP_DOMAIN n)) (hbest : (c.ptp n).best = some b) (hsrc : b.source = m.source)
    (htime : m.inTime = true) (hdelay : c.pathDelay n p = some d) (hfol : c.rd Od.PTP_FOLLOWED = n + 1) :
    c.syncRx n p m = ((c.inc32 (Od.PTP_VALID n)).updPtp n fun x =>
        { x with sync := some (m.t1 + m.correction, m.t2), lastValid := some c.clk.cyc }).validOffset (n + 1)
      (m.t1 + m.correction + d + toInt 32 (c.rd (Od.PTP_ASYM_NS n)) - m.t2) := by
  unfold Core.syncRx
  rw [if_neg (by simp [hon, hdom])]
  simp only [hbest, hsrc, htime, beq_self_eq_true, Bool.and_self, if_true]
  rw [Core.pathDelay_noteSync, hdelay, Core.inc32_updPtp, Core.updPtp_updPtp]
  exact if_pos ((Core.rd_incW_other c (by unfold Od.PTP_FOLLOWED Od.PTP_VALID; omega)).trans hfol)

/-- Settles O2: none of the guards stops the commands; the time after a step is read off the clock that the step leaves. -/
theorem stationTimeCommandsComplete : Obligations.StationTimeCommandsComplete := by
  intro s c hs
  refine ⟨fun n p m b d hon hdom hbest hsrc htime hdelay hfol =>
      exec_act_finds (exec_ptpSyncRx n p m s) hs (Core.syncRx_followed hon hdom hbest hsrc htime hdelay hfol),
    fun hrun hready => ?_, fun hrun hready => ?_, fun hinit hstart hover hlock => ?_, fun hstate => ?_⟩
  · have hgo : ¬(!(c.clk.running && c.lockReady)) = true := by simp [hrun, hready]
    refine ⟨fun hb => exec_act_finds (exec_firstLock s) hs ?_, fun hb => ⟨exec_act_finds (exec_firstLock s) hs ?_, ?_⟩⟩
    · exact (if_neg hgo).trans (if_neg (ne_true_of_eq_false hb))
    · exact (if_neg hgo).trans (if_pos hb)
    · simp [Core.firstLock_clk]
  · have hgo : ¬(!(c.clk.running && c.reStepReady)) = true := by simp [hrun, hready]
    refine ⟨fun hb => exec_act_finds (exec_restepPerform s) hs ?_,
      fun hb => ⟨exec_act_finds (exec_restepPerform s) hs ?_, c.reStep_now⟩⟩
    · exact (if_neg hgo).trans (if_neg (ne_true_of_eq_false hb))
    · exact (if_neg hgo).trans (if_pos hb)
  · exact exec_act_finds (exec_timeAcqWaitExpiry s) hs (if_pos (by simp [hinit, hstart, hover, hlock]))
  · exact exec_act_finds (exec_holdoverEntry s) hs (if_pos hstate)

end Sys2Proof.Machine
end

section
/-! The statements of the Ply (chapter 02): the voter, re-admission and the TCM scrub (O4), the agreement exchange and the
debug requests (O5), and the CSRs and protection entries of the cores (O60). -/

namespace Sys2Proof.Machine

/-! ## The voter in lock-step -/

/-- In lock-step, outside FAILED and an un-votable reaction, an item is voted (R61, R73). -/
theorem Core.voterCompare_lockStep {c : Core} (hrun : c.run ≠ .failed) (hun : c.ply.unvoted = none)
    (hsplit : c.ply.split = false) (r : Recorder) (kind : Nat) (copies : List ItemCopy) :
    c.voterCompare r kind copies = c.voteItem r kind copies := by
  simp [Core.voterCompare, hrun, hun, hsplit]

/-- An item of which no copy is a store to a TCM writes none (R60). -/
theorem Core.tcmStores_of_outside {c : Core} {kind : Nat} {copies : List ItemCopy}
    (hout : ∀ i ∈ copies, kind ≠ 0 ∨ inTcm i.addr = false) : c.tcmStores kind copies = c := by
  unfold Core.tcmStores
  split
  · rfl
  · next hkind =>
    refine List.foldl_fixed' (fun n => ?_) _
    split
    · next i hi =>
      have htcm : inTcm i.addr = false := (hout i (List.mem_of_getElem? hi)).resolve_left (by simpa using hkind)
      simp [htcm]
    · rfl

/-- The decision of R61 with three strands in step, for an item that goes to no TCM. -/
theorem Core.voteItem_three {c : Core} {kind : Nat} {i j k : ItemCopy} (hstep : c.stepping = [0, 1, 2])
    (hout : ∀ x ∈ [i, j, k], kind ≠ 0 ∨ inTcm x.addr = false) (r : Recorder) :
    c.voteItem r kind [i, j, k] =
      if i = j then
        if k = i then c.release r kind i else (c.release r kind i).minorityFence 2 kind 3 i.addr
      else if k = i then (c.release r kind i).minorityFence 1 kind 5 i.addr
      else if k = j then (c.release r kind j).minorityFence 0 kind 6 j.addr
      else c.unvotable kind 0 i.addr := by
  have hfree : ∀ x ∈ [i, j, k], ¬(kind = 0 ∧ inTcm x.addr = true) := fun x hx h =>
    (hout x hx).elim (fun hk => hk h.1) fun ht => ne_true_of_eq_false ht h.2
  have hi := hfree i (by simp)
  have hj := hfree j (by simp)
  unfold Core.voteItem
  simp only [Core.tcmStores_of_outside hout, hstep, List.getD_cons_zero, List.getD_cons_succ, if_neg hi, if_neg hj]
  rfl

/-! ## Re-admission -/

/-- The BIST of a fenced strand ends 6 ms after it was fenced, with a copy or with its retirement (R69). -/
theorem Core.bistDone_fenced {c : Core} {x : Nat} (hbit : c.strandBit x 2 = true) (hun : c.ply.unvoted = none)
    (result : Nat) : c.bistDone x result =
      let d := (c.atCyc ((c.strand x).fenceCyc + ms 6)).wr (Od.STRAND_BIST_RESULT x) result
      if result = 1 then (d.setStrandBit x 2 false).setStrandBit x 3 true
      else ((d.retireStrand x 5).faultPart 0x0203 1).afterRetire := by
  unfold Core.bistDone
  exact if_neg (by simp [hbit, hun])

/-- Settles O4: in lock-step the voter's case is that of which copies agree; of the other commands none of the guards stops
them, and the BIST results decide between the outcomes. -/
theorem voterAndReadmissionComplete : Obligations.VoterAndReadmissionComplete := by
  intro s c hs
  refine ⟨fun hrun hun hsplit hstep => ?_, fun x hbit hun => ⟨?_, fun result hres => ?_⟩,
    fun x m l hbit hwait hstep => ?_, fun u results hu hrun => ?_, fun mask addr code => ?_⟩
  · have hvote {kind : Nat} {i j k : ItemCopy} {d : Core} (hd : c.voteItem s.skein kind [i, j, k] = d) :
        exec (.voterItemCompare kind [i, j, k]) s = .next (s.finishing d) :=
      exec_act_finds (exec_voterItemCompare kind _ s) hs
        ((Core.voterCompare_lockStep hrun hun hsplit _ kind _).trans hd)
    refine ⟨fun kind i hout => hvote ?_, fun kind i j hkind hne => ?_⟩
    · rw [Core.voteItem_three hstep (by simpa using hout), if_pos rfl, if_pos rfl]
    · have hout {l : List ItemCopy} : ∀ x ∈ l, kind ≠ 0 ∨ inTcm x.addr = false := fun _ _ => .inl hkind
      refine ⟨hvote ?_, hvote ?_, hvote ?_⟩
      · rw [Core.voteItem_three hstep hout, if_pos rfl, if_neg hne]
      · rw [Core.voteItem_three hstep hout, if_neg hne.symm, if_pos rfl]
      · rw [Core.voteItem_three hstep hout, if_neg hne, if_neg hne.symm, if_pos rfl]
  · exact exec_act_finds (exec_strandBistDone x 1 s) hs ((Core.bistDone_fenced hbit hun 1).trans (if_pos rfl))
  · exact exec_act_finds (exec_strandBistDone x result s) hs
      ((Core.bistDone_fenced hbit hun result).trans (if_neg hres))
  · refine exec_act_finds (exec_tcmCopyDone x s) hs ?_
    unfold Core.tcmCopyDone
    rw [if_pos (by simp [hbit, hwait]), hstep]
  · intro d good
    have hsafe : ¬(c.run != .safe) = true := by simp [hrun]
    refine ⟨fun hgood => exec_act_finds (exec_unvotedResume results s) hs ?_,
      fun hgood => exec_act_finds (exec_unvotedResume results s) hs ?_⟩
    all_goals
      unfold Core.unvotedResume
      rw [hu]
      refine (if_neg hsafe).trans ?_
    · exact if_pos hgood
    · exact if_neg (Nat.not_le.mpr hgood)
  · refine exec_act_finds (exec_tcmScrub mask code false addr s) hs ?_
    unfold Core.tcmScrub
    exact if_pos rfl

/-! ## Debug requests to the strands -/

/-- A halt or step request that PLY.DEBUG_EN lets through does what the run state says (R82). -/
theorem Core.debugRequest_enabled {c : Core} (hen : c.rd Od.PLY_DEBUG_EN ≠ 0) (x : Nat) (step : Bool) :
    (c.run = .init ∨ c.run = .stop ∨ c.run = .run → c.debugRequest x step = c.debugSplit x) ∧
    (c.run = .hold → c.debugRequest x step = (c.setStrandBit x 9 true).setStrandBit x 8 false) ∧
    (c.run = .safe → c.debugRequest x step = { c with ply := { c.ply with heldReq := some (x, step) } }) := by
  unfold Core.debugRequest
  rw [if_neg hen]
  refine ⟨fun h => ?_, fun h => ?_, fun h => ?_⟩
  · rcases h with h | h | h <;> rw [h]
  · rw [h]
  · rw [h]

/-- Outside FAILED an abstract command that PLY.DEBUG_EN lets through is served and does nothing else (R81). -/
theorem Core.debugAbstract_served {c : Core} (hen : c.rd Od.PLY_DEBUG_EN ≠ 0) (hrun : c.run ≠ .failed) (x reg : Nat) :
    c.debugAbstract x reg = c.answerReg (c.strandCsr x) reg := by
  unfold Core.debugAbstract
  rw [if_neg hen, if_neg hrun]

/-- A register in the numbers of the CSRs, which holds a value, answers it. -/
theorem Core.answerReg_csr (c : Core) {csr : Nat → Option Nat} {n v : Nat} (hn : n < 0x1000) (hv : csr n = some v) :
    c.answerReg csr n = c.answer (.value v) := by
  unfold Core.answerReg
  rw [if_pos hn, hv]

/-- Any other register answers a free value. -/
theorem Core.answerReg_other (c : Core) (csr : Nat → Option Nat) {n : Nat} (hn : 0x1000 ≤ n) :
    c.answerReg csr n = (c.answer (.value (c.fresh 32))).used 1 :=
  if_neg (Nat.not_lt.mpr hn)

/-- Settles O5: the source decides a write of agreesel, PLY.DEBUG_EN and the run state decide a debug request; none of the
guards stops the others. -/
theorem agreementAndDebugComplete : Obligations.AgreementAndDebugComplete := by
  intro s c hs
  refine ⟨fun sel samples => ⟨fun hsel => ?_, fun hsel hidle => ?_⟩, fun hbusy hsamples => ?_, fun x v hfuse => ?_,
    fun x => ⟨fun hen => ?_, fun hen => ?_⟩, fun hsplit hrun => ?_, fun x step hreq hrun => ?_⟩
  · exact exec_act_finds (exec_agreeselWrite sel samples s) hs (if_pos hsel)
  · refine exec_act_finds (exec_agreeselWrite sel samples s) hs ((if_neg (Nat.not_lt.mpr hsel)).trans ?_)
    simp [hidle]
  · exact exec_act_finds (exec_agreeExchangeEnd s) hs (if_neg (by simp [hbusy, hsamples]))
  · exact exec_act_finds (exec_socmdWrite x v s) hs (if_neg hfuse)
  · exact ⟨exec_act_finds (exec_debugHalt x s) hs (if_pos hen), exec_act_finds (exec_debugStep x s) hs (if_pos hen),
      fun reg => exec_act_finds (exec_debugAbstractCommand (x, reg) s) hs (if_pos hen)⟩
  · obtain ⟨haltSplits, haltHolds, haltWaits⟩ := Core.debugRequest_enabled hen x false
    obtain ⟨stepSplits, stepHolds, stepWaits⟩ := Core.debugRequest_enabled hen x true
    have hhalt {d : Core} := exec_act_finds (d := d) (exec_debugHalt x s) hs
    have hstep {d : Core} := exec_act_finds (d := d) (exec_debugStep x s) hs
    refine ⟨fun h => ⟨hhalt (haltSplits h), hstep (stepSplits h)⟩, fun h => ⟨hhalt (haltHolds h), hstep (stepHolds h)⟩,
      fun h => ⟨hhalt (haltWaits h), hstep (stepWaits h)⟩, fun n v hrun hn hv => ?_, fun n hrun hn => ?_⟩
    · exact exec_act_finds (exec_debugAbstractCommand (x, n) s) hs
        ((Core.debugAbstract_served hen hrun x n).trans (c.answerReg_csr hn hv))
    · exact exec_act_finds (exec_debugAbstractCommand (x, n) s) hs
        ((Core.debugAbstract_served hen hrun x n).trans (c.answerReg_other _ hn))
  · exact exec_act_finds (exec_debugResumeLead s) hs (if_pos (by simp [hsplit, hrun]))
  · refine exec_act_finds (exec_debugHeldRequest s) hs ?_
    unfold Core.heldRequest
    rw [hreq]
    exact if_neg hrun

/-! ## The CSRs of the cores -/

/-- A spindle's debug module that accepts requests answers the CSR asked for (R129). -/
theorem Core.spinAbstract_csr {c : Core} {n reg v : Nat} (huse : c.spinUsable n = true) (hok : c.spinDebugOk = true)
    (hreg : reg < 0x1000) (hv : c.spindleCsr n reg = some v) : c.spinAbstract n reg = c.answer (.value v) := by
  have hserved : (c.spinReachable n && c.spinDebugOk) = true := by simp [Core.spinReachable, huse, hok]
  exact (if_pos hserved).trans (c.answerReg_csr hreg hv)

theorem Core.spindleCsr_spjob (c : Core) (n : Nat) :
    c.spindleCsr n 0x7D0 = some (((c.spin n).job.map (·.word)).getD 0 % 2 ^ 32) := rfl
theorem Core.spindleCsr_spjobhi (c : Core) (n : Nat) :
    c.spindleCsr n 0x7D1 = some (((c.spin n).job.map (·.word)).getD 0 / 2 ^ 32) := rfl
theorem Core.spindleCsr_spstate (c : Core) (n : Nat) : c.spindleCsr n 0x7D2 = some (c.spstate n) := rfl

theorem Core.spstate_none {c : Core} {n : Nat} (h : (c.spin n).job = none) : c.spstate n = 0 := by
  rw [Core.spstate, h]

/-- The bits of spstate (Table 03.1) as a sum. -/
theorem Core.spstate_some {c : Core} {n : Nat} {j : Job} (h : (c.spin n).job = some j) : c.spstate n =
    1 + 2 * b2n j.ahead.isSome + 4 * b2n j.paired + 8 * b2n j.rerun + 16 * b2n (c.jobHeld j) := by
  have hbits : ∀ ahead paired rerun held : Bool,
      maskOf ([(0, true), (1, ahead), (2, paired), (3, rerun), (4, held)].filterMap fun p =>
        if p.2 then some p.1 else none) = 1 + 2 * b2n ahead + 4 * b2n paired + 8 * b2n rerun + 16 * b2n held := by
    decide
  rw [Core.spstate, h]
  exact hbits ..

theorem Core.csrTime_timed {c : Core} (h : c.timed = true) : c.csrTime = (c.clk.cyc - c.clk.startCyc) % 2 ^ 64 :=
  if_pos h

/-- None of the identity CSRs, of time and of the counters is a strand's own (R57). -/
theorem Core.strandCsr_alike (c : Core) (x y : Nat) {k : Nat}
    (hk : k ∈ [0xF11, 0xF12, 0xF13, 0xF14, 0xC00, 0xC80, 0xC02, 0xC82, 0xC01, 0xC81]) :
    c.strandCsr x k = c.strandCsr y k := by
  fin_cases hk <;> rfl

/-! ## Physical memory protection -/

/-- Protection entry `i` covers a byte of the access: the test of `Cpu.allows`. -/
def Cpu.pmpMeets (q : Cpu) (a size i : Nat) : Bool :=
  match q.pmpRange i with
  | some (lo, hi) => decide (a < hi) && decide (lo < a + size)
  | none => false

theorem Cpu.pmpMeets_off {q : Cpu} {i : Nat} (h : q.pmpRange i = none) (a size : Nat) : q.pmpMeets a size i = false := by
  rw [Cpu.pmpMeets, h]

theorem Cpu.pmpMeets_iff {q : Cpu} {i lo hi : Nat} (h : q.pmpRange i = some (lo, hi)) (a size : Nat) :
    q.pmpMeets a size i = true ↔ a < hi ∧ lo < a + size := by
  simp [Cpu.pmpMeets, h]

/-- The mode in which an access is judged. -/
def Cpu.judgedMode (q : Cpu) (right : Nat) : Privilege := if right = 2 then q.mode else q.dataMode

/-- Without MPRV, for a fetch and in user mode an access is judged in the core's own mode. -/
theorem Cpu.judgedMode_own {q : Cpu} {right : Nat}
    (h : q.mode = .user ∨ right = 2 ∨ (q.csr 0x300).testBit 17 = false) : q.judgedMode right = q.mode := by
  unfold Cpu.judgedMode Cpu.dataMode
  rcases h with h | h | h <;> simp [h]

/-- With no entry that meets the access the mode decides. -/
theorem Cpu.allows_unmet {q : Cpu} {n a size : Nat} (h : (List.range n).find? (q.pmpMeets a size) = none) (right : Nat) :
    q.allows n a size right = (q.judgedMode right == .machine) := by
  change (match (List.range n).find? (q.pmpMeets a size) with | none => _ | some i => _) = _
  rw [h]
  rfl

/-- The first entry that meets the access, if it covers it, decides. -/
theorem Cpu.allows_met {q : Cpu} {n a size i lo hi : Nat} (h : (List.range n).find? (q.pmpMeets a size) = some i)
    (hr : q.pmpRange i = some (lo, hi)) (hlo : lo ≤ a) (hhi : a + size ≤ hi) (right : Nat) : q.allows n a size right =
      ((q.judgedMode right == .machine && !(q.pmpCfg i).testBit 7) || (q.pmpCfg i).testBit right) := by
  change (match (List.range n).find? (q.pmpMeets a size) with | none => _ | some i => _) = _
  simp only [h, hr, hlo, hhi, decide_true, Bool.true_and]
  rfl

/-- Settles O60: each CSR reads as its equation says, and the entry that decides an access is the first that meets it. -/
theorem coreRegistersAndProtection : Obligations.CoreRegistersAndProtection := by
  intro s c n hs
  refine ⟨fun huse hok => ?_, fun x hen hrun => ?_, fun x y k hk => c.strandCsr_alike x y hk,
    fun q m a size right hmode => ⟨fun hoff => ?_, fun i lo hi him hr hsize hlo hhi hfirst => ?_⟩⟩
  · have hcsr {k v : Nat} (hk : k < 0x1000) (hv : c.spindleCsr n k = some v) :
        exec (.spindleDebugAbstract (n, k)) s = .next (s.finishing (c.answer (.value v))) :=
      exec_act_finds (exec_spindleDebugAbstract (n, k) s) hs (Core.spinAbstract_csr huse hok hk hv)
    refine ⟨hcsr (by decide) rfl, fun t htimed ht => ⟨hcsr (by decide) ?_, hcsr (by decide) ?_⟩, fun hjob k hk => ?_,
      fun j hjob => ⟨hcsr (by decide) ?_, hcsr (by decide) ?_, hcsr (by decide) ?_⟩⟩
    · rw [ht, ← Core.csrTime_timed htimed]; rfl
    · rw [ht, ← Core.csrTime_timed htimed]; rfl
    · have hspjob : c.spindleCsr n 0x7D0 = some 0 := by rw [Core.spindleCsr_spjob, hjob]; rfl
      have hspjobhi : c.spindleCsr n 0x7D1 = some 0 := by rw [Core.spindleCsr_spjobhi, hjob]; rfl
      have hspstate : c.spindleCsr n 0x7D2 = some 0 := by rw [Core.spindleCsr_spstate, Core.spstate_none hjob]
      fin_cases hk
      · exact hcsr (by decide) hspjob
      · exact hcsr (by decide) hspjobhi
      · exact hcsr (by decide) hspstate
    · rw [Core.spindleCsr_spjob, hjob]; rfl
    · rw [Core.spindleCsr_spjobhi, hjob]; rfl
    · rw [Core.spindleCsr_spstate, Core.spstate_some hjob]
  · exact exec_act_finds (exec_debugAbstractCommand (x, 0xF14) s) hs
      ((Core.debugAbstract_served hen hrun x _).trans (c.answerReg_csr (n := 0xF14) (by decide) rfl))
  · have hnone : (List.range m).find? (q.pmpMeets a size) = none := by
      simp only [List.find?_range_eq_none]
      exact fun i hi => by rw [Cpu.pmpMeets_off (hoff i hi)]; rfl
    rw [Cpu.allows_unmet hnone, Cpu.judgedMode_own hmode]
  · have hsome : (List.range m).find? (q.pmpMeets a size) = some i := by
      refine List.find?_range_eq_some.mpr
        ⟨(Cpu.pmpMeets_iff hr a size).mpr ⟨by omega, by omega⟩, List.mem_range.mpr him, fun k hk => ?_⟩
      rcases hrange : q.pmpRange k with _ | ⟨l, h⟩
      · rw [Cpu.pmpMeets_off hrange]; rfl
      · have := hfirst k hk l h hrange
        simp only [Bool.not_eq_true', ← Bool.not_eq_true, Cpu.pmpMeets_iff hrange]
        omega
    rw [Cpu.allows_met hsome hr hlo hhi, Cpu.judgedMode_own hmode]

end Sys2Proof.Machine
end

section
/-! The statements of the spindles (chapter 03): the instructions of jobs (O6), of staging and the units (O7), and what
serves the spindles (O8). -/

namespace Sys2Proof.Machine

/-! ## An Xdraft instruction -/

/-- A spindle that executes runs and waits inside no instruction. -/
theorem Core.not_barred_of_canExecute {c : Core} {n : Nat} (hrun : c.canExecute n = true) :
    ¬(!c.spinRuns n || (c.spin n).blocked) = true := by
  obtain ⟨hruns, hblocked⟩ : c.spinRuns n = true ∧ (c.spin n).blocked = false := by simpa [Core.canExecute] using hrun
  simp [hruns, hblocked]

/-- On a spindle that executes, an encoding has the effect of its operation, with no exception shown (R98). -/
theorem Core.xdraft_executes {c d : Core} {n w : Nat} {o : Xop} (hrun : c.canExecute n = true) (hd : d = c.untrapped n)
    (henc : o.encodes w = true) (f : Core → Core) : c.xdraft n o w f = f d :=
  hd ▸ (if_neg (Core.not_barred_of_canExecute hrun)).trans (if_pos henc)

/-- A command that is an Xdraft instruction answers what its operation makes of the core. -/
theorem exec_xdraft {i : Instr} {s : State} {c d e : Core} {n w : Nat} {o : Xop} {f : Core → Core}
    (hi : exec i s = s.act fun c _ => c.xdraft n o w f) (hs : s.finds c) (hrun : c.canExecute n = true)
    (hd : d = c.untrapped n) (henc : o.encodes w = true) (he : f d = e) : exec i s = .next (s.finishing e) :=
  exec_act_finds hi hs ((Core.xdraft_executes hrun hd henc f).trans he)

/-- Without a tentative job nothing stalls an operation. -/
theorem Core.not_tentativeJob_isSome {c : Core} {n : Nat} (h : c.tentativeJob n = none) :
    ¬(c.tentativeJob n).isSome = true := by
  rw [h]; exact Bool.false_ne_true

/-- Without a tentative job an exception is raised at once. -/
theorem Core.trapEntry_raise {c : Core} {n : Nat} (h : c.tentativeJob n = none) (t : Trap) :
    c.trapEntry n t = c.raise n t :=
  if_neg (Core.not_tentativeJob_isSome h)

/-! ## job.pop and job.push -/

section Pop

variable {c d : Core} {n w : Nat} (hrun : c.canExecute n = true) (hd : d = c.untrapped n)
  (henc : Xop.jobPop.encodes w = true) (hjob : (d.spin n).job = none)
include hrun hd henc hjob

/-- job.pop opens the first visible entry of the own bobbin (R104). -/
theorem Core.jobPop_own {j : Job} (hj : firstVisible d.clk.cyc (d.spin n).bobbin = some j) :
    c.jobPop n w = (d.updSpin n fun x => x.without d.clk.cyc j).openOwn n j := by
  refine (Core.xdraft_executes hrun hd henc _).trans ((if_neg (by simp [hjob])).trans ?_)
  simp only [hj]

/-- Without one it asks for a draft (R109). -/
theorem Core.jobPop_draft (hnone : firstVisible d.clk.cyc (d.spin n).bobbin = none) :
    c.jobPop n w = d.updSpin n fun x => { x with draft := some d.clk.cyc } := by
  refine (Core.xdraft_executes hrun hd henc _).trans ((if_neg (by simp [hjob])).trans ?_)
  simp only [hnone]

end Pop

/-- A push onto a full bobbin answers 0 (R99). -/
theorem Core.pushEntry_full {c : Core} {n : Nat} (h : 64 ≤ (c.spin n).count c.clk.cyc) (lo hi : Nat) (paired : Bool) :
    c.pushEntry n lo hi paired = c.setRd n 0 :=
  if_pos h

/-- job.push of a job that is not tentative appends at once, if AFF of the entry is 0 or 1 (R99, R113). -/
theorem Core.jobPush_executes {c d : Core} {n w hi : Nat} {paired : Bool} (hrun : c.canExecute n = true)
    (hd : d = c.untrapped n) (henc : (if paired then Xop.jobPair else Xop.jobPush).encodes w = true)
    (haff : paired = true ∨ field hi 14 2 ≤ 1) (hplain : d.tentativeJob n = none) (lo : Nat) :
    c.jobPush n w lo hi paired = d.pushEntry n lo hi paired := by
  have hok : ¬((!paired) = true ∧ 1 < field hi 14 2) := by
    rintro ⟨hp, h⟩
    rcases haff with hp' | h'
    · simp [hp'] at hp
    · omega
  exact (Core.xdraft_executes hrun hd henc _).trans ((if_neg hok).trans (if_neg (Core.not_tentativeJob_isSome hplain)))

/-! ## job.done -/

/-- An open job that is neither paired, nor held, nor tentative finishes with its words final and rd 0 (R122). -/
theorem Core.finishJob_plain {c : Core} {n : Nat} {j : Job} (hpair : j.paired = false) (hheld : c.jobHeld j = false)
    (hplain : j.ahead = none) : c.finishJob n j =
      ((c.closing n 0).finalise (c.closing n 0).clk.cyc (2 * n) (c.spin n).buf).closed j := by
  unfold Core.finishJob
  rw [hpair, hheld, hplain]
  rfl

/-- Settles O6: on a spindle that executes, an encoding passes to its operation, whose own tests decide between the
outcomes stated. -/
theorem xdraftJobInstructionsComplete : Obligations.XdraftJobInstructionsComplete := by
  intro s c n w
  refine ⟨fun hs d hrun hd henc hjob => ⟨fun j hj => ?_, fun hnone => ?_⟩, fun hs =>
    ⟨fun v t hwait hwake => ?_, fun since hdraft => ?_, fun j l hl hfree hrel => ?_, fun d hrun hd =>
      ⟨fun henc hjob => ⟨fun hb => ?_, fun hb => ?_⟩, fun lo hi hplain => ?_, fun j henc hj => ?_⟩⟩⟩
  · rw [exec_jobPop, State.pop_requests hs, Core.jobPop_own hrun hd henc hjob hj]
  · rw [exec_jobPop, State.pop_requests hs, Core.jobPop_draft hrun hd henc hjob hnone]
  · refine exec_act_finds (exec_tickWaitWake n s) hs ?_
    unfold Core.tickWaitWake
    rw [hwait, hwake]
  · refine exec_act_finds (exec_draftPairWaitExpiry n s) hs ?_
    unfold Core.draftWaitExpiry
    rw [hdraft]
  · refine exec_act_finds (exec_overflowAppend n s) hs ?_
    unfold Core.overflowAppend
    rw [hl]
    refine (if_pos hfree).trans ?_
    simp only [hrel, if_true]
    exact if_pos hrel
  · refine exec_xdraft (exec_tickWait n w s) hs hrun hd henc ?_
    exact (if_neg (by simp [hjob])).trans (if_pos (by simp [hb]))
  · refine exec_xdraft (exec_tickWait n w s) hs hrun hd henc ?_
    exact (if_neg (by simp [hjob])).trans (if_neg (by simp [hb]))
  · have hpush {e : Core} (henc : Xop.jobPush.encodes w = true) (haff : field hi 14 2 ≤ 1)
        (he : d.pushEntry n lo hi false = e) : exec (.jobPush n w lo hi) s = .next (s.finishing e) :=
      exec_act_finds (exec_jobPush n w lo hi s) hs
        ((Core.jobPush_executes (paired := false) hrun hd henc (.inr haff) hplain lo).trans he)
    have hpair {e : Core} (henc : Xop.jobPair.encodes w = true) (he : d.pushEntry n lo hi true = e) :
        exec (.jobPair n w lo hi) s = .next (s.finishing e) :=
      exec_act_finds (exec_jobPair n w lo hi s) hs
        ((Core.jobPush_executes (paired := true) hrun hd henc (.inl rfl) hplain lo).trans he)
    refine ⟨fun hfull => ⟨fun henc haff => hpush henc haff ?_, fun henc => hpair henc ?_⟩,
      fun hfree => ⟨fun henc haff => hpush henc haff ?_, fun henc => hpair henc ?_⟩⟩
    · exact Core.pushEntry_full hfull lo hi false
    · exact Core.pushEntry_full hfull lo hi true
    · exact if_neg (Nat.not_le.mpr hfree)
    · exact if_neg (Nat.not_le.mpr hfree)
  · have hsome : ¬(d.spin n).job.isNone = true := by simp [hj]
    refine ⟨fun hpair hheld hplain => ?_, ?_, fun hlevel => ?_⟩
    · refine exec_xdraft (exec_jobDoneFinish n w s) hs hrun hd henc ?_
      simp only [hj]
      exact Core.finishJob_plain hpair hheld hplain
    · exact exec_xdraft (exec_jobDoneAbandon n w s) hs hrun hd henc (if_neg hsome)
    · refine exec_xdraft (exec_jobDoneSuspend n w s) hs hrun hd henc ?_
      simp only [hj]
      exact if_neg (not_not.mpr hlevel)

/-! ## Staging, units and events -/

/-- The operation of a stage store of `size` bytes (Table 03.4). -/
def stageOp (size : Nat) : Xop := if size = 1 then .stageB else if size = 2 then .stageH else .stageW

/-- The stage buffer of SPn after a store of `size` bytes of `v` to the staging address `a` (R121). -/
def Core.staged (c : Core) (n size a v : Nat) : List StageWord :=
  let be := (2 ^ size - 1) * 2 ^ ((a - 0x14000000) % 4)
  bufWrite (c.spin n).buf ⟨(a - 0x14000000) / 4, be, mergeBytes 0 be (v * 2 ^ (8 * ((a - 0x14000000) % 4)) % 2 ^ 32)⟩

/-- A stage store with an open job, to an aligned address of the staging range, goes into the buffer if it holds at most 256
words after it (R121). -/
theorem Core.stageStore_buffered {c d : Core} {n size rs1 w a : Nat} (hrun : c.canExecute n = true)
    (hd : d = c.untrapped n) (henc : (stageOp size).encodes w = true) (hjob : (d.spin n).job ≠ none)
    (ha : a = ofInt 32 ((rs1 : Int) + sImm w)) (halign : a % size = 0) (hlo : 0x14000000 ≤ a) (hhi : a ≤ 0x1400FFFF)
    {rs2 : Nat} (hroom : (d.staged n size a rs2).length ≤ 256) :
    c.stageStore n size rs1 rs2 w = d.updSpin n fun x => { x with buf := d.staged n size a rs2 } := by
  have hok : ¬(a % size ≠ 0 ∨ a < 0x14000000 ∨ 0x1400FFFF < a) := by omega
  have hopen : ¬(d.spin n).job.isNone = true := by simpa using hjob
  unfold Core.stageStore
  refine (Core.xdraft_executes hrun hd henc _).trans ((if_neg hopen).trans ?_)
  rw [← ha]
  exact (if_neg hok).trans (if_neg (Nat.not_lt.mpr hroom))

/-- What loop.wait answers (R141). -/
theorem Core.loopWait_executes {c d : Core} {n w : Nat} (hrun : c.canExecute n = true) (hd : d = c.untrapped n)
    (henc : Xop.loopWait.encodes w = true) : c.loopWait n w =
      if !d.unitArmed n then d.setRd n 0
      else if (d.spin n).batch.isSome || !d.arr.released then d.updSpin n fun x => { x with loopWait := true }
      else if (d.spin n).batchWord ≠ 0 then d.setRd n (d.spin n).batchWord
      else d.setRd n (2 ^ 31) :=
  Core.xdraft_executes hrun hd henc _

/-- A comparison that ends with equal buffers of a pair that is neither held, nor a re-run, nor tentative makes the words
final as of the higher-numbered spindle and closes the pair (R114). -/
theorem Core.comparisonEnd_equal {c d : Core} {x : Comparison} {l : List Comparison} (hcompares : c.arr.compares = x :: l)
    (hd : d = ((c.atCyc x.ends).updArr fun a => { a with compares := l }).inc64 Od.PAIR_COMPARED)
    (hheld : d.jobHeld x.a.job = false) (hsame : sameWords x.a.buf x.b.buf = true) (hrerun : x.a.job.rerun = false)
    (hplain : x.a.job.ahead = none) :
    c.comparisonEnd = (d.finalise x.ends (2 * max x.a.sp x.b.sp) x.a.buf).closed x.a.job := by
  unfold Core.comparisonEnd
  rw [hcompares]
  simp only [← hd, hheld, hsame, hrerun, hplain, Bool.false_eq_true, if_false, if_true]

/-- Settles O7: an encoding passes to its operation, whose own tests decide between the outcomes stated; a stage store is one
argument for its three sizes. -/
theorem xdraftStagingAndUnitInstructionsComplete : Obligations.XdraftStagingAndUnitInstructionsComplete := by
  intro s c d n w hs
  refine ⟨fun hrun hd => ⟨fun rs1 rs2 a hjob ha hlo hhi => ?_, fun addr count henc hplain => ?_, fun henc => ?_,
    fun hplain => ?_, fun rs1 rs2 r x henc hrec hx hsix hpos htotal hcls hall => ?_⟩, fun hruns hplain => ?_,
    fun x l hcompares hd hheld hsame hrerun hplain => ?_⟩
  · refine ⟨fun henc hroom => exec_act_finds (exec_stageB n w rs1 rs2 s) hs ?_,
      fun henc halign hroom => exec_act_finds (exec_stageH n w rs1 rs2 s) hs ?_,
      fun henc halign hroom => exec_act_finds (exec_stageW n w rs1 rs2 s) hs ?_⟩
    · exact Core.stageStore_buffered (size := 1) hrun hd henc hjob ha (Nat.mod_one a) hlo hhi hroom
    · exact Core.stageStore_buffered (size := 2) hrun hd henc hjob ha halign hlo hhi hroom
    · exact Core.stageStore_buffered (size := 4) hrun hd henc hjob ha halign hlo hhi hroom
  · refine exec_xdraft (exec_loopGo n w true addr count s) hs hrun hd henc ?_
    exact (if_neg (by decide)).trans (if_neg (Core.not_tentativeJob_isSome hplain))
  · have hwait {e : Core} (he : c.loopWait n w = e) : exec (.loopWait n w) s = .next (s.finishing e) :=
      exec_act_finds (exec_loopWait n w s) hs he
    refine ⟨fun hoff => hwait ?_, fun harmed hbusy => hwait ?_, fun harmed hbatch hrel hword => hwait ?_⟩
    all_goals rw [Core.loopWait_executes hrun hd henc]
    · exact if_pos (by simp [hoff])
    · refine (if_neg (by simp [harmed])).trans (if_pos ?_)
      simpa [Option.isSome_iff_ne_none] using hbusy
    · exact (if_neg (by simp [harmed])).trans ((if_neg (by simp [hbatch, hrel])).trans (if_pos hword))
  · refine ⟨fun henc => exec_xdraft (exec_evClaim n w s) hs hrun hd henc ?_,
      fun id henc => exec_xdraft (exec_evDone n w id s) hs hrun hd henc ?_,
      fun rs1 rs2 henc => exec_xdraft (exec_rahMark n w rs1 rs2 s) hs hrun hd henc ?_⟩
    · exact if_neg (Core.not_tentativeJob_isSome hplain)
    · exact if_neg (Core.not_tentativeJob_isSome hplain)
    · simp only [hplain]
  · refine exec_xdraft (exec_rahMark n w rs1 rs2 s) hs hrun hd henc ?_
    simp only [hrec, hx]
    exact if_pos ⟨hsix, hpos, htotal, hcls, hall⟩
  · exact exec_act_finds (exec_fenceI n s) hs ((if_pos hruns).trans (Core.trapEntry_raise hplain .illegalInstruction))
  · exact exec_act_finds (exec_pairComparisonEnd s) hs
      (Core.comparisonEnd_equal hcompares hd hheld hsame hrerun hplain)

/-! ## Placing of entries -/

/-- An entry that meets R123 is placed as a tentative entry with its record. -/
theorem Core.placeAhead_placed {c e : Core} {t i r h word home : Nat} {d : TaskDef} {j : Job}
    (hdef : c.taskDef t = some d) (hjob : d.jobs[i]? = some (h, word))
    (hhome : c.homeOf h (putBit word 45 true) = some home)
    (hj : j = ⟨putBit word 45 true, c.arr.uid + 1, h, jobKey (c.rd (Od.TASK_PRIO t)) t i, none, some r,
      c.clk.cyc + 1, false⟩)
    (hmay : c.mayRunAhead t j = true) (hfree : c.record r = none)
    (he : e = c.updArr fun a => { a with
      uid := a.uid + 1, records := a.records ++ [⟨r, j, c.declared j, false, [], false, false⟩] }) :
    c.placeAhead t i r =
      (e.peak Od.RA_RECORDS_PEAK e.arr.records.length).insertTail home { j with owner := home } := by
  unfold Core.placeAhead
  simp only [hdef, hjob, hhome, Core.nextUid, ← hj]
  rw [if_pos (by simp [hmay, hfree])]
  subst he hj
  rfl

/-- A peak leaves every other register alone. -/
theorem Core.rd_peak_other (c : Core) {k j : Nat} (v : Nat) (h : j ≠ k) : (c.peak k v).rd j = c.rd j := by
  unfold Core.peak
  split
  · exact Core.rd_wr_other c v h
  · rfl

@[simp] theorem Core.peak_prog (c : Core) (k v : Nat) : (c.peak k v).prog = c.prog := by
  unfold Core.peak
  split <;> rfl

/-- The arrival of an entry leaves the program exchange and the number of the tick alone. -/
@[simp] theorem Core.insertTail_prog (c : Core) (n : Nat) (j : Job) : (c.insertTail n j).prog = c.prog :=
  Core.peak_prog _ _ _

@[simp] theorem Core.insertTail_tickCount (c : Core) (n : Nat) (j : Job) :
    (c.insertTail n j).rd Od.TICK_COUNT = c.rd Od.TICK_COUNT :=
  Core.rd_peak_other _ _ (by unfold Od.TICK_COUNT Od.SP_BOBBIN_PEAK; omega)

/-- A suspended entry of a level-0 task is placed at its home (R186). -/
theorem Core.placeOne_suspended {c : Core} {t home : Nat} {d : L0Def} {j : Job} (hdef : c.l0Def t = some d)
    (hhome : c.homeOf d.home d.word = some home) (hj : c.suspendedJob t = some j) : c.placeOne t =
      (c.updArr fun a => { a with suspended := a.suspended.erase j }).insertTail home { j with owner := home } := by
  unfold Core.placeOne
  simp only [hdef, hhome, hj]

/-- Without one and without a cycle on its way, the entry of a new cycle is placed (R186). -/
theorem Core.placeOne_newCycle {c : Core} {t home : Nat} {d : L0Def} (hdef : c.l0Def t = some d)
    (hhome : c.homeOf d.home d.word = some home) (hnone : c.suspendedJob t = none)
    (hcycle : c.prog.cycles.any (·.task == t) = false) : c.placeOne t =
      ((c.updArr fun a => { a with uid := a.uid + 1 }).updProg fun p =>
        { p with cycles := p.cycles ++ [⟨t, c.clk.cyc⟩] }).insertTail home
          ⟨setField d.word 46 2 0, c.arr.uid + 1, home, 2 ^ 41 + t, none, none, c.clk.cyc + 1, false⟩ := by
  unfold Core.placeOne
  simp only [hdef, hhome, hnone]
  exact if_neg (ne_true_of_eq_false hcycle)

/-- The core keeps the tick of another, and what level-0 placement has reached in it. -/
def Core.SameSlack (c e : Core) : Prop :=
  e.prog.l0Mark = c.prog.l0Mark ∧ e.rd Od.TICK_COUNT = c.rd Od.TICK_COUNT

theorem Core.placeOne_sameSlack (c : Core) (t : Nat) : c.SameSlack (c.placeOne t) := by
  unfold Core.placeOne
  split
  · exact ⟨rfl, rfl⟩
  · split
    · exact ⟨rfl, rfl⟩
    · split
      · simp only [Core.SameSlack, Core.insertTail_prog, Core.insertTail_tickCount]
        exact ⟨rfl, rfl⟩
      · split
        · exact ⟨rfl, rfl⟩
        · simp only [Core.nextUid, Core.SameSlack, Core.insertTail_prog, Core.insertTail_tickCount]
          exact ⟨rfl, rfl⟩

theorem Core.foldl_placeOne_sameSlack (l : List Nat) (c : Core) : c.SameSlack (l.foldl Core.placeOne c) := by
  induction l generalizing c with
  | nil => exact ⟨rfl, rfl⟩
  | cons t l ih =>
    obtain ⟨hmark, htick⟩ := ih (c.placeOne t)
    obtain ⟨hmark', htick'⟩ := c.placeOne_sameSlack t
    exact ⟨hmark.trans hmark', htick.trans htick'⟩

/-- In slack the level-0 tasks up to `64 + t` are placed in ascending number, and the mark rises to the last (R186). -/
theorem Core.placeLevel0_slack {c : Core} (h : c.l0Slack = true) (t : Nat) : c.placeLevel0 (64 + t) =
    (((List.range (t + 1)).map (64 + ·)).foldl Core.placeOne c |>.updProg fun p => { p with
      l0Mark := (c.rd Od.TICK_COUNT,
        max (65 + t) (if c.prog.l0Mark.1 = c.rd Od.TICK_COUNT then c.prog.l0Mark.2 else 0)) }) := by
  obtain ⟨hmark, htick⟩ := Core.foldl_placeOne_sameSlack ((List.range (t + 1)).map (64 + ·)) c
  have hcount : 64 + t - 63 = t + 1 := by omega
  have hlast : 64 + t + 1 = 65 + t := by omega
  unfold Core.placeLevel0
  rw [if_neg (by simp [h])]
  simp only [hcount, hlast, hmark, htick]

/-! ## Memory errors -/

/-- A corrected error of an enabled spindle is counted and recorded (R91, R92). -/
theorem Core.spinCorrected_counts {c : Core} {n k : Nat} (hn : n < c.spindles) (hk : 0 < k) :
    c.spinCorrected n k = (c.addW 32 (Od.SP_ECC_CORR n) k).log 0x0309 :=
  if_pos (by simp [hn, hk])

/-- An unreadable word outside the Ply region, read by a spindle (R96). -/
theorem Core.badRead_outside {c : Core} {a : Nat} (h : inPlyRegion a = false) (n : Nat) (both : Bool) :
    c.badRead (some n) a both = ((c.raise n .loadAccess).abandon n, false) := by
  simp [Core.badRead, h]

/-- The other copy of a word of the Ply region serves the read and repairs it (R97). -/
theorem Core.badRead_mirrored {c : Core} {a : Nat} (h : inPlyRegion a = true) (x : Option Nat) :
    c.badRead x a false = (c.mirrorFix a, true) := by
  simp [Core.badRead, h]

/-- With both copies bad, the read of a spindle fails and is an L4 reaction too (R97). -/
theorem Core.badRead_bothCopies {c : Core} {a : Nat} (h : inPlyRegion a = true) (n : Nat) :
    c.badRead (some n) a true = (((c.raise n .loadAccess).abandon n).nest 0x0305 4 unitCreel, false) := by
  simp [Core.badRead, h]

/-! ## Debug requests -/

/-- An accepted halt is recorded and shown, and holds the tasks of the spindle (R130). -/
theorem Core.spinHalt_accepted {c : Core} {n : Nat} (huse : c.spinUsable n = true) (hok : c.spinDebugOk = true) :
    c.spinHalt n = (c.tasksOn n).foldl (fun (d : Core) t =>
      ((d.updArr fun a => { a with holds := if a.holds.contains (t, n) then a.holds else a.holds ++ [(t, n)] }).setBit
        Od.SPIN_HELD_TASKS t true).setBit (Od.TASK_STATUS t) 4 true) ((c.setBit Od.SPIN_HALTED n true).log1 0x0308 n) := by
  have hreach : ¬(!c.spinReachable n) = true := by simp [Core.spinReachable, huse]
  exact (if_neg hreach).trans (if_neg (by simp [hok]))

/-- An accepted abstract command on no CSR answers a free value (R129). -/
theorem Core.spinAbstract_other {c : Core} {n reg : Nat} (huse : c.spinUsable n = true) (hok : c.spinDebugOk = true)
    (hreg : 0x1000 ≤ reg) : c.spinAbstract n reg = (c.answer (.value (c.fresh 32))).used 1 := by
  have hserved : (c.spinReachable n && c.spinDebugOk) = true := by simp [Core.spinReachable, huse, hok]
  exact (if_pos hserved).trans (c.answerReg_other _ hreg)

/-! ## Accesses of a spindle -/

/-- The protection entries stand in the CSRs, which an instruction that begins leaves alone. -/
theorem Core.spinPmp_untrapped (c : Core) (n a size right : Nat) :
    (c.untrapped n).spinPmp n a size right = c.pmpOk (n + 1) a size right := by
  have hcpu : ((c.untrapped n).spin n).cpu = (c.spin n).cpu :=
    getD_updAt_of (f := fun x : Spindle => { x with trap := none }) (g := Spindle.cpu) (fun _ => rfl) c.arr.sp n Spindle.idle
  unfold Core.spinPmp
  rw [hcpu]
  rfl

/-- An access of the master that SPn is, while the dictionary serves (R18, R497). -/
theorem Core.access_spindle {c : Core} (hserves : c.dictServes = true) (r : Recorder) (n a size : Nat) (kind : AccessKind) :
    c.access r (n + 1) a size kind = c.spinAccess r n a size kind := by
  unfold Core.access
  rw [if_neg (by simp [hserves]), if_neg n.succ_ne_zero, Nat.add_sub_cancel]

section Access

variable {c : Core} {n : Nat} (hrun : c.canExecute n = true) (hplain : (c.untrapped n).tentativeJob n = none)
include hrun hplain

/-- A fetch is made, or its range or the protection entries forbid it (R54, R90, R92). -/
theorem Core.spinAccess_fetch (r : Recorder) (a size : Nat) : c.spinAccess r n a size .fetch =
    if mayFetch (n + 1) a && c.pmpOk (n + 1) a size 2 then (c.untrapped n).spinFetch n a size
    else (c.untrapped n).raise n .instructionAccess := by
  rw [← Core.spinPmp_untrapped, ← Core.trapEntry_raise hplain]
  exact if_neg (Core.not_barred_of_canExecute hrun)

/-- A load likewise. -/
theorem Core.spinAccess_load (r : Recorder) (a size : Nat) : c.spinAccess r n a size .load =
    if mayLoad (n + 1) a && c.pmpOk (n + 1) a size 0 then (c.untrapped n).spinReach r n a size none
    else (c.untrapped n).raise n .loadAccess := by
  rw [← Core.spinPmp_untrapped, ← Core.trapEntry_raise hplain]
  refine (if_neg (Core.not_barred_of_canExecute hrun)).trans ?_
  rw [← Core.untrapped]
  simp only [hplain]
  cases mayLoad (n + 1) a && (c.untrapped n).spinPmp n a size 0 <;> rfl

/-- A store likewise. -/
theorem Core.spinAccess_store (r : Recorder) (a size v : Nat) : c.spinAccess r n a size (.store v) =
    if mayStore (n + 1) a && c.pmpOk (n + 1) a size 1 then (c.untrapped n).spinReach r n a size (some v)
    else (c.untrapped n).raise n .storeAccess := by
  rw [← Core.spinPmp_untrapped, ← Core.trapEntry_raise hplain]
  refine (if_neg (Core.not_barred_of_canExecute hrun)).trans ?_
  rw [← Core.untrapped]
  simp only [hplain]
  cases mayStore (n + 1) a && (c.untrapped n).spinPmp n a size 1 <;> rfl

end Access

/-- An address of the creel is of no range that is served otherwise (Table 00.7). -/
theorem inCreel_range {a : Nat} (h : inCreel a = true) : (0x10000000 ≤ a ∧ a < 0x10800000) ∧
    inDictWindow a = false ∧ inRouter a = false ∧ inStaging a = false ∧ inSkeinRam a = false := by
  simp only [inCreel, inDictWindow, inRouter, inStaging, inSkeinRam, between, Bool.and_eq_true, Bool.and_eq_false_iff,
    decide_eq_true_eq, decide_eq_false_iff_not] at h ⊢
  omega

/-- A load from the creel that meets no poisoned word (R94, R96). -/
theorem Core.spinReach_creelLoad {c : Core} {a size : Nat} (ha : inCreel a = true) (hclean : c.poisonIn a size = none)
    (r : Recorder) (n : Nat) : c.spinReach r n a size none = c.setRd n (c.creel.word a size) := by
  obtain ⟨hrange, hdict, hrouter, hstaging, hskein⟩ := inCreel_range ha
  have hsram : ¬(0x08000000 ≤ a ∧ a < 0x08010000) := by omega
  simp only [Core.spinReach, hdict, hrouter, hstaging, hskein, Bool.false_eq_true, if_false, Core.spinLoad, if_neg hsram,
    if_pos hrange, Core.creelLoad, hclean]

/-- A store of a spindle to a range it reaches in the creel is made (R96, R137). -/
theorem Core.spinReach_creelStore {c : Core} {n a : Nat} (ha : inCreel a = true) (hmay : mayStore (n + 1) a = true)
    (r : Recorder) (size v : Nat) : c.spinReach r n a size (some v) = c.putCreel a (leBytes size v) := by
  obtain ⟨hrange, hdict, hrouter, -, -⟩ := inCreel_range ha
  have hsram : ¬(0x08000000 ≤ a ∧ a < 0x08010000) := by omega
  have hstore : 0x10180000 ≤ a ∧ a < 0x10800000 := by
    simp [mayStore, hdict, hrouter, inSram, between] at hmay
    omega
  simp only [Core.spinReach, hdict, hrouter, Bool.false_eq_true, if_false, Core.spinStore, if_neg hsram, if_pos hstore]

/-- Settles O8: none of the guards stops what the commands do; the region of a creel word decides its read, and the ranges
and protection entries decide an access. -/
theorem spindleServicesComplete : Obligations.SpindleServicesComplete := by
  intro s c n hs
  refine ⟨fun t r i h word home d hdef hjob hhome j hj hmay hfree e he => ?_,
    fun t hslack => ⟨?_, fun e u d home hdef hhome => ⟨fun j hj => Core.placeOne_suspended hdef hhome hj,
      fun hnone hcycle => Core.placeOne_newCycle hdef hhome hnone hcycle⟩⟩,
    fun huse => ?_, fun hn => ⟨fun a => ?_, fun k hk => ?_⟩, fun k hk => ?_, fun a both d hd => ?_,
    fun huse hok => ⟨?_, ?_, fun reg v hreg hv => ?_, fun reg hreg => ?_⟩, fun huse hhalted => ?_,
    fun m a size hm hserves hrun hplain => ?_⟩
  · exact exec_act_finds (exec_runAheadPlace t i r s) hs (Core.placeAhead_placed hdef hjob hhome hj hmay hfree he)
  · exact exec_act_finds (exec_level0Place t s) hs (Core.placeLevel0_slack hslack t)
  · exact exec_act_finds (exec_sramUncorrectable n s) hs (if_pos huse)
  · exact exec_act_finds (exec_icacheParityError (n, a) s) hs
      ((if_pos hn).trans (Core.spinCorrected_counts hn Nat.one_pos))
  · exact exec_act_finds (exec_spindleScrub n k s) hs (Core.spinCorrected_counts hn hk)
  · exact exec_act_finds (exec_creelScrub k s) hs (if_pos hk)
  · have hread {bad : Bool} {e : Core}
        (he : (d.badRead (some n) a (bad || c.poisoned (plyMirror a))).1 = e) :
        exec (.creelUncorrectable (some n) a bad) s = .next (s.finishing e) := by
      subst hd
      exact exec_act_finds (exec_creelUncorrectable (some n) a bad s) hs he
    refine ⟨fun hout => hread (congrArg Prod.fst (Core.badRead_outside hout n _)),
      fun hin hmirror => ⟨hread ?_, hread ?_⟩⟩
    · rw [hmirror]
      exact congrArg Prod.fst (Core.badRead_mirrored hin _)
    · exact congrArg Prod.fst (Core.badRead_bothCopies hin n)
  · exact exec_act_finds (exec_spindleDebugHalt n s) hs (Core.spinHalt_accepted huse hok)
  · exact exec_act_finds (exec_spindleDebugStep n s) hs (if_neg (by simp [hok]))
  · exact exec_act_finds (exec_spindleDebugAbstract (n, reg) s) hs (Core.spinAbstract_csr huse hok hreg hv)
  · exact exec_act_finds (exec_spindleDebugAbstract (n, reg) s) hs (Core.spinAbstract_other huse hok hreg)
  · exact exec_act_finds (exec_spindleDebugResume n s) hs (if_pos (by simp [Core.spinReachable, huse, hhalted]))
  · have haccess {kind : AccessKind} {e : Core} (he : c.spinAccess s.skein n a size kind = e) :
        exec (.loadStoreAccessFault m a size kind) s = .next (s.finishing e) :=
      exec_act_finds (exec_loadStoreAccessFault m a size kind s) hs
        ((hm ▸ Core.access_spindle hserves s.skein n a size kind).trans he)
    have hfetch := Core.spinAccess_fetch hrun hplain s.skein a size
    have hload := Core.spinAccess_load hrun hplain s.skein a size
    have hstore := Core.spinAccess_store hrun hplain s.skein a size
    have hforbidden {may pmp : Bool} (h : may = false ∨ pmp = false) : ¬(may && pmp) = true := by
      rcases h with h | h <;> simp [h]
    rw [hm]
    refine ⟨fun hmay hpmp hcreel hclean => haccess ?_, fun v hmay hpmp hcreel => haccess ?_,
      fun h => haccess (hload.trans (if_neg (hforbidden h))), fun h => haccess (hfetch.trans (if_neg (hforbidden h))),
      fun v h => haccess ((hstore v).trans (if_neg (hforbidden h)))⟩
    · rw [hload, if_pos (by simp [hmay, hpmp])]
      exact Core.spinReach_creelLoad (c := c.untrapped n) hcreel hclean _ n
    · rw [hstore, if_pos (by simp [hmay, hpmp])]
      exact Core.spinReach_creelStore hcreel hmay _ size v

end Sys2Proof.Machine
end

section
/-! The statement of the loop units (chapter 04): an evaluation and a late discard (R140, R161), and the writes that are
staged for the boundary (R150, R154, R168) (O9). -/

namespace Sys2Proof.Machine

/-! ## An entry of a batch -/

section Batch

variable {c : Core} {n k : Nat} {b : Batch} {l : List (Option Nat)} (hb : (c.spin n).batch = some b)
  (hl : b.todo = some k :: l)
include hb hl

/-- An evaluation whose output cycle lies before the slot's deadline (R140). -/
theorem Core.loopEvaluation_inTime {waits : Nat} (h : b.cyc + 56 + waits < c.slotDeadline k) {errs : List Nat}
    {piErr : Option Nat} {check : Bool} {d e : Core}
    (hd : d = (c.atCyc (b.cyc + 64 + waits)).updSpin n fun x => { x with batch := x.batch.map fun y =>
      { y with todo := l, cyc := b.cyc + 64 + waits, waits := y.waits + waits } })
    (he : e = d.evalSlot n k (b.cyc + waits) errs piErr check) :
    c.loopEvaluation n waits errs piErr check = (e.updSpin n fun x => { x with batch := x.batch.map fun y =>
      { y with done := y.done + b2n (e.slotWord k 0x7C != c.slotWord k 0x7C) } }).skipEntries n l := by
  subst hd he
  simp only [Core.loopEvaluation, hb, hl, if_neg (Nat.not_le.mpr h)]

/-- An evaluation whose waits reach the deadline ends in a cycle that the command leaves open (R161). -/
theorem Core.loopEvaluation_late {waits : Nat} (h : c.slotDeadline k ≤ b.cyc + 56 + waits) (errs : List Nat)
    (piErr : Option Nat) (check : Bool) : c.loopEvaluation n waits errs piErr check =
      (c.used 1).discardLate n k (c.slotDeadline k - (b.cyc + 56) + c.fresh 32 % 56) b l := by
  simp only [Core.loopEvaluation, hb, hl, if_pos h]

theorem Core.loopLateDiscard_entry (t : Nat) : c.loopLateDiscard n t = c.discardLate n k t b l := by
  simp only [Core.loopLateDiscard, hb, hl]

end Batch

/-- A discard in one of the cycles in which the waits can reach the deadline is made in that cycle (R161). -/
theorem Core.discardLate_within {c : Core} {n k ov t : Nat} {b : Batch} (hov : ov = c.slotDeadline k - (b.cyc + 56))
    (hlo : ov ≤ t) (hhi : t ≤ ov + 55) (l : List (Option Nat)) : c.discardLate n k t b l =
      (((c.atCyc (b.cyc + t)).updSpin n fun x => { x with batch := x.batch.map fun y =>
        { y with todo := l, cyc := b.cyc + t + 7, waits := y.waits + ov } }).lateSlot n k).skipEntries n l := by
  have hcycle : max ov (min (ov + 55) t) = t := by omega
  simp only [Core.discardLate, ← hov, hcycle]

/-! ## Writes that the boundary applies -/

/-- The row of LOOP.W.OUT. -/
def loopWOutRow : OdRow := ⟨0x2312, 0x2312, 0x11, 0x11, .real32, .rw, 0, .any⟩

/-- The row of LOOP.W.CLEAR. -/
def loopWClearRow : OdRow := ⟨0x2312, 0x2312, 0x20, 0x20, .u8, .wo, 0, .nat 1 1 []⟩

/-- The row of LOOP.CLEAR_ALL. -/
def loopClearAllRow : OdRow := ⟨0x2300, 0x2300, 0x09, 0x09, .u8, .wo, 0, .nat 1 1 []⟩

theorem odRow_loopWOut : odRow? Od.LOOP_W_OUT = some loopWOutRow := by decide
theorem odRow_loopWClear : odRow? Od.LOOP_W_CLEAR = some loopWClearRow := by decide
theorem odRow_loopClearAll : odRow? Od.LOOP_CLEAR_ALL = some loopClearAllRow := by decide

/-- The words of a descriptor before OUT stand in record 0x2312, sub-indices 1 to 16 (Table 04.15). -/
theorem loopWord_key {k : Nat} (hlo : Od.LOOP_W_CTRL ≤ k) (hhi : k < Od.LOOP_W_OUT) :
    k / 256 = 0x2312 ∧ 1 ≤ k % 256 ∧ k % 256 ≤ 0x10 := by
  unfold Od.LOOP_W_CTRL at hlo
  unfold Od.LOOP_W_OUT at hhi
  omega

/-- They are carried by the command of descriptor words. -/
theorem loopKey_loopWord {k : Nat} (hlo : Od.LOOP_W_CTRL ≤ k) (hhi : k < Od.LOOP_W_OUT) : loopKey k = true := by
  have hclear : k ≠ Od.LOOP_W_CLEAR := (hhi.trans (by decide)).ne
  simp [loopKey, (loopWord_key hlo hhi).1, hhi.ne, hclear]

/-- The words of a descriptor before OUT are numbers of 32 bits outside the protection set-up. -/
theorem odRow_loopWord {k : Nat} (hlo : Od.LOOP_W_CTRL ≤ k) (hhi : k < Od.LOOP_W_OUT) :
    ∃ r, odRow? k = some r ∧ (r.type = .u32 ∨ r.type = .real32) ∧ protectedKey k r = false := by
  have hrows : ∀ i < 16, (odRow? (Od.LOOP_W_CTRL + i)).any fun r =>
      (r.type == .u32 || r.type == .real32) && !protectedKey (Od.LOOP_W_CTRL + i) r := by decide
  obtain ⟨i, rfl⟩ := Nat.exists_eq_add_of_le hlo
  obtain ⟨r, hr, hrow⟩ := Option.any_eq_true _ _ |>.mp (hrows i (Nat.lt_of_add_lt_add_left hhi))
  exact ⟨r, hr, by simpa using hrow⟩

/-- Every write to record 0x2312 is one of the selected slot. -/
theorem Core.applyNumber_slot {k : Nat} {r : OdRow} (hk : k / 256 = 0x2312) (hp : protectedKey k r = false) (c : Core)
    (p : Path) (v : Nat) (f : Facts) : c.applyNumber p k r v f = c.writeSlot (c.sel p Od.LOOP_SEL) k v := by
  have hne {m : Nat} (hm : m / 256 ≠ 0x2312) : k ≠ m := fun h => hm (h ▸ hk)
  have hsel : ¬(k = Od.LOOP_SEL ∨ k = Od.COMP_SEL ∨ k = Od.SKEIN_READ_FROM ∨ k = Od.SKEIN_READ_SRC ∨
      k = Od.SKEIN_READ_MIN_SEV) := by
    simp only [not_or]
    exact ⟨hne (by decide), hne (by decide), hne (by decide), hne (by decide), hne (by decide)⟩
  have hrestep : k ≠ Od.TIME_RESTEP := hne (by decide)
  have hall : k ≠ Od.LOOP_CLEAR_ALL := hne (by decide)
  simp only [Core.applyNumber, hp, Bool.false_eq_true, if_false, if_neg hsel, if_neg hrestep, if_neg hall, if_pos hk]

theorem Core.applyNumber_loopClearAll (c : Core) (p : Path) (v : Nat) (f : Facts) :
    c.applyNumber p Od.LOOP_CLEAR_ALL loopClearAllRow v f = (c.stageClears (List.range 4096)).answer .done := by
  unfold Core.applyNumber
  rw [if_neg (by decide), if_neg (by decide), if_neg (by decide), if_pos rfl]

theorem Core.writeSlot_clear (c : Core) (slot v : Nat) :
    c.writeSlot slot Od.LOOP_W_CLEAR v = (c.stageClears [slot]).answer .done := rfl

theorem Core.writeSlot_out (c : Core) (slot v : Nat) :
    c.writeSlot slot Od.LOOP_W_OUT v = (c.stageChange (.out slot v)).answer .done := rfl

/-- A word of a descriptor with which the configuration meets no reject code is staged (R168). -/
theorem Core.writeSlot_word {c : Core} {slot k v : Nat} (hlo : Od.LOOP_W_CTRL ≤ k) (hhi : k < Od.LOOP_W_OUT)
    (ha : lowest ((c.merged.setSlotWord slot (c.slotOffset slot (k % 256)) v).rejectsFor k) = none) :
    c.writeSlot slot k v = (c.stageChange (.word slot (c.slotOffset slot (k % 256)) v)).answer .done := by
  obtain ⟨-, -, hsub⟩ := loopWord_key hlo hhi
  have hclear : k % 256 ≠ 0x20 := by omega
  have hout : k % 256 ≠ 0x11 := by omega
  exact (if_neg hclear).trans ((if_neg hout).trans (Core.unlessRejected_accepts ha))

/-- The command of descriptor words writes a number as any other path does. -/
theorem Core.pathLoop_number {k : Nat} (h : loopKey k = true) (c : Core) (p : Path) (v : Nat) :
    c.pathLoop p k (pathBytes p k v) = c.pathNumber p k v := if_pos h

/-- A write to record 0x2312 that the checks of R465 let through reaches the selected slot. -/
theorem State.act_slotWrite {s : State} {c : Core} {p : Path} {k v : Nat} {r : OdRow} (hs : s.finds c)
    (hm : c.mayWrite p k v = true) (hr : odRow? k = some r) (hk : k / 256 = 0x2312)
    (ht : r.type = .u8 ∨ r.type = .u16 ∨ r.type = .u32 ∨ r.type = .real32) (hv : v < 2 ^ r.type.width)
    (hp : protectedKey k r = false) : (s.act fun c _ => c.pathNumber p k v) =
      .next (s.finishing (((c.used 3).writeSlot (c.sel p Od.LOOP_SEL) k v).shown p)) := by
  rw [State.act_pathNumber hs hm hr (by omega) ht hv, Core.applyNumber_slot hk hp]
  rfl

/-- Settles O9: the two commands of a batch differ in the cycle of the discard alone, which lies within the 56 stated; a
write to record 0x2312 reaches the selected slot, where its word decides what is staged. -/
theorem loopUnitCommandsComplete : Obligations.LoopUnitCommandsComplete := by
  intro s c hs
  refine ⟨fun n b k waits l hb hl => ⟨fun errs piErr check d e htime hd he => ?_, fun ov t hov => ⟨fun hlo hhi => ?_,
    fun hlate errs piErr check => ?_⟩⟩, fun p v k hm hv hlo hhi d slot hd hslot ha => ?_,
    fun p v => ⟨fun hm hv => ?_, fun hm => ?_, fun hm => ?_⟩⟩
  · exact exec_act_finds (exec_loopEvaluation n waits errs piErr check s) hs
      (Core.loopEvaluation_inTime hb hl htime hd he)
  · exact exec_act_finds (exec_loopLateDiscard n t s) hs
      ((Core.loopLateDiscard_entry hb hl t).trans (Core.discardLate_within hov hlo hhi l))
  · have hmod : c.fresh 32 % 56 < 56 := Nat.mod_lt _ (by decide)
    refine exec_act_finds (exec_loopEvaluation n waits errs piErr check s) hs
      ((Core.loopEvaluation_late hb hl hlate errs piErr check).trans ?_)
    rw [← hov]
    exact Core.discardLate_within (c := c.used 1) hov (by omega) (by omega) l
  · obtain ⟨r, hr, ht, hp⟩ := odRow_loopWord hlo hhi
    have hwidth : r.type.width = 32 := by rcases ht with h | h <;> rw [h] <;> rfl
    rw [exec_loopDescriptorWrite]
    simp only [Core.pathLoop_number (loopKey_loopWord hlo hhi)]
    rw [State.act_slotWrite hs hm hr (loopWord_key hlo hhi).1 (.inr (.inr ht)) (hwidth ▸ hv) hp]
    subst hd hslot
    rw [Core.writeSlot_word hlo hhi ha]
  · rw [exec_loopWOutWrite, State.act_slotWrite hs hm odRow_loopWOut rfl (.inr (.inr (.inr rfl))) hv (by decide),
      Core.writeSlot_out]
  · rw [exec_loopWClear, State.act_slotWrite hs hm odRow_loopWClear rfl (.inl rfl)
      (Core.mayWrite_u8 hm odRow_loopWClear (by decide) rfl rfl (by decide)) (by decide), Core.writeSlot_clear]
  · rw [exec_loopClearAll, State.act_pathNumber hs hm odRow_loopClearAll (by decide) (.inl rfl)
      (Core.mayWrite_u8 hm odRow_loopClearAll (by decide) rfl rfl (by decide)), Core.applyNumber_loopClearAll]

end Sys2Proof.Machine
end

section
/-! The statements of program execution (chapter 05): the images of remote stations with the miss limit and the watchdog
(O10), and the online exchange of a program with the copy of retained variables (O11). -/

namespace Sys2Proof.Machine

/-! ## Images of remote stations -/

/-- The image of a configured station on a network it uses, right and not seen before (R196, R386, R387, R389). -/
theorem Core.remoteInputRx_new {c : Core} {n : Nat} {img : Bytes} {r : Remote} (hrun : c.clk.running = true)
    (hremote : c.roleFuse ≠ 1) (hwitness : c.roleFuse ≠ 3) (hhead : headerOk 1 img 0x200 = true)
    (hr : c.remote? (beAt img 8 1) = some r) (hnet : (c.rd (Od.RS_NETWORK (beAt img 8 1))).testBit n = true)
    (hcrc : imageCrcOk img = true) (hident : beAt img 4 4 = c.rd (Od.RS_IDENT (beAt img 8 1)))
    (hnew : r.seen ≠ some (beAt img 0xC 8)) :
    c.remoteInputRx (n + 1) img = c.remoteValid (beAt img 8 1) (n + 1) img := by
  unfold Core.remoteInputRx
  rw [if_neg (by simp [hrun, hremote, hwitness]), if_neg (by simp [hhead])]
  simp only [hr]
  rw [if_neg (by simp [hnet]), if_neg (by simp [hcrc, hident]), if_neg (by simp [hnew])]

/-- The image of its controller at a remote station, right and not seen before (R199, R388, R389). -/
theorem Core.remoteOutputRx_new {c : Core} {img : Bytes} (hrun : c.clk.running = true) (hremote : c.roleFuse = 1)
    (hnum : c.rd Od.RSTA_NUMBER ≠ 0xFF) (hhead : headerOk 2 img 0x80 = true) (hok : c.outputImageOk img = true)
    (hnew : c.prog.outputs.seen ≠ some (beAt img 4 4, beAt img 0xC 8)) (net : Nat) :
    c.remoteOutputRx net img = c.updProg fun x => { x with
      outputs := { image := some (c.clk.now, img), seen := some (beAt img 4 4, beAt img 0xC 8), quiet := 0,
                   todo := List.range 8, reactDue := false } } := by
  unfold Core.remoteOutputRx
  rw [if_neg (by simp [hrun, hremote, hnum]), if_neg (by simp [hhead]), if_neg (by simp [hok]), if_neg (by simp [hnew])]

/-- The station found under a number has that number. -/
theorem Core.remote?_num {c : Core} {i : Nat} {r : Remote} (h : c.remote? i = some r) : r.num = i := by
  simpa using List.find?_some h

/-- A cycle that ends without an image and reaches the limit (R196). -/
theorem Core.missTest_limit {c : Core} {n : Nat} {r : Remote} (hend : r.cycleFrom + c.rd (Od.RS_CYCLE r.num) ≤ n)
    (hgot : r.got = false) (hon : c.rsOnline r.num = true) (hlimit : c.rd Od.RIO_MISS_LIMIT ≤ r.misses + 1) :
    c.missTest n r = ((c.updRemote r.num fun x =>
      { x with cycleFrom := n, got := false, misses := if x.got then 0 else x.misses + 1 }).inc32
        (Od.RS_MISSED r.num)).remoteOffline r.num := by
  have hkey : Od.RIO_MISS_LIMIT ≠ Od.RS_MISSED r.num := by unfold Od.RIO_MISS_LIMIT Od.RS_MISSED; omega
  unfold Core.missTest
  dsimp only
  rw [if_neg (Nat.not_lt.mpr hend), if_neg]
  · exact if_pos ((Core.rd_incW_other _ hkey).trans_le hlimit)
  · rw [hgot, Bool.false_or, Bool.not_eq_true', Bool.not_eq_false]
    exact hon

/-- Settles O10: none of the guards of the four commands stops them; the cycles counted against the limit and the counter of
missed images are apart. -/
theorem remoteStationCommandsComplete : Obligations.RemoteStationCommandsComplete := by
  intro s c hs hrun
  refine ⟨fun n img r hremote hwitness hhead hr hnet hcrc hident hnew => exec_act_finds (exec_remoteInputImageRx n img s) hs
      (Core.remoteInputRx_new hrun hremote hwitness hhead hr hnet hcrc hident hnew),
    fun i r hr hon hend hgot hlimit => exec_act_finds (exec_remoteMissLimit i s) hs ?_,
    fun hremote => ⟨fun n img hnum hhead hok hnew => exec_act_finds (exec_remoteOutputImageRx n img s) hs
      (Core.remoteOutputRx_new hrun hremote hnum hhead hok hnew _),
    fun hserving hdue hquiet => exec_act_finds (exec_rstaWatchdogExpiry s) hs ?_⟩⟩
  · have hnum := Core.remote?_num hr
    simp only [Core.remoteMissLimit, hr, hrun, hon, Bool.not_true, Bool.or_self, Bool.false_eq_true, if_false]
    rw [← hnum] at hon hend ⊢
    exact Core.missTest_limit hend hgot hon hlimit
  · exact if_pos (by simp [hrun, hremote, hserving, hdue, hquiet])

/-! ## Segments of PROG.IMAGE -/

/-- A segment that its path lets through is written, and the path shows its outcome. -/
theorem Core.pathSegment_served {c : Core} {p : Path} {k : Nat} (h : c.mayWriteBytes p k = true) (ofs : Nat) (seg : Bytes)
    (last : Bool) : ∃ r, c.checkWrite p k 0 = .ok r ∧ r.isDomain = true ∧
      c.pathSegment p k ofs seg last = (c.writeSegment p k ofs seg last).shown p := by
  simp only [Core.mayWriteBytes, Core.serves, Bool.and_eq_true, Option.isNone_iff_eq_none] at h
  obtain ⟨⟨⟨⟨hserves, hopen⟩, hstalls⟩, hruns⟩, hcheck⟩ := h
  cases hc : c.checkWrite p k 0 with
  | error e => simp [hc] at hcheck
  | ok r =>
    refine ⟨r, rfl, by simpa [hc] using hcheck, ?_⟩
    have hentry : c.entry? k = some r := Core.checkWrite_row hc
    simp only [Core.pathSegment, hserves, hopen, hstalls, hruns, Core.segmentNow, hentry, Bool.not_true, Bool.or_self,
      Option.isSome_none, Option.isNone_some, Bool.false_eq_true, if_false, Core.shown]
    cases p.master <;> rfl

/-- A segment of PROG.IMAGE within its length goes to the inactive bank (R202, R471). -/
theorem Core.writeSegment_progImage {c d : Core} {p : Path} {ofs : Nat} {data old : Bytes} {last : Bool} {r : OdRow}
    (hc : c.checkWrite p Od.PROG_IMAGE 0 = .ok r) (hr : r.isDomain = true)
    (hold : old = match c.srv.writes.find? (fun w => w.key == Od.PROG_IMAGE && w.path == p) with
      | some w => w.data | none => [])
    (hlen : (splice old ofs data).length ≤ 0x1000000)
    (hd : d = (if last then c.unlock p Od.PROG_IMAGE else (c.unlock p Od.PROG_IMAGE).updSrv fun x =>
        { x with writes := x.writes ++ [⟨Od.PROG_IMAGE, p, splice old ofs data, c.clk.cyc⟩] })) :
    c.writeSegment p Od.PROG_IMAGE ofs data last = (d.writeImage ofs data last).answer .done := by
  have hmax : (domLength Od.PROG_IMAGE).2 = 0x1000000 := by decide
  subst hd hold
  unfold Core.writeSegment
  rw [hc]
  dsimp only
  rw [if_neg (by simp [hr]), hmax]
  exact (if_neg (Nat.not_lt.mpr hlen)).trans (if_pos rfl)

/-! ## PROG.CMD -/

/-- The row of PROG.CMD. -/
def progCmdRow : OdRow := ⟨0x2550, 0x2550, 0x03, 0x03, .u8, .wo, 0, .nat 1 5 []⟩

theorem odRow_progCmd : odRow? Od.PROG_CMD = some progCmdRow := by decide

theorem Core.applyNumber_progCmd (c : Core) (p : Path) (v : Nat) (f : Facts) :
    c.applyNumber p Od.PROG_CMD progCmdRow v f = c.progCmd v f.partner := by
  unfold Core.applyNumber
  iterate 8 rw [if_neg (by decide)]
  exact if_pos rfl

/-- A PROG.CMD that the checks of R465 let through is carried out on the facts that its command gives. -/
theorem State.act_progCmd {s : State} {c e : Core} {p : Path} {v : Nat} (hs : s.finds c)
    (hm : c.mayWrite p Od.PROG_CMD v = true) (g : Core → Facts) (he : (c.used 3).progCmd v (g c).partner = e) :
    (s.act fun c _ => (c.used 3).pathWrite p Od.PROG_CMD (pathBytes p Od.PROG_CMD v) (g c)) =
      .next (s.finishing (e.shown p)) := by
  rw [State.act_pathFacts hs hm odRow_progCmd (by decide) (.inl rfl)
    (Core.mayWrite_u8 hm odRow_progCmd (by decide) rfl rfl (by decide)), Core.applyNumber_progCmd, he]

section Commands

variable {c : Core}

/-- An image in LOADED without a reject code is verified (Table 05.7). -/
theorem Core.progVerify_accepts (hstate : c.rd Od.PROG_STATE = 2) :
    c.progVerify [] = ((c.wr Od.PROG_STATE 3).wr Od.PROG_RESULT 0).answer .done :=
  if_neg (not_not.mpr hstate)

/-- An image in VERIFIED that is admitted, and for which creel and slack suffice, is prepared (R202, R205). -/
theorem Core.progPrepare_accepts {im : ImageSet} (hstate : c.rd Od.PROG_STATE = 3) (hok : c.exchangeOk = true)
    (him : (c.bank c.inactiveBank).content = some im)
    (hcreel : (match c.prog.image with | some o => o.area.length | none => 0) + im.area.length ≤ 0x5C0000)
    (hslack : transferCycles (c.transferBytes im) ≤ c.slackCycles) :
    c.progPrepare [] = (((c.wr Od.PROG_STATE 4).wr Od.PROG_XFER_BYTES (c.transferBytes im)).wr
      Od.PROG_POSTPONED 0).answer .done := by
  unfold Core.progPrepare
  rw [if_neg (by simp [hstate, hok])]
  simp only [him]
  rw [if_neg, if_neg]
  · rfl
  · exact Nat.not_lt.mpr hslack
  · exact Nat.not_lt.mpr hcreel

/-- An image in PREPARED is armed at the commanded tick, or 64 steps ahead (R204). -/
theorem Core.progArm_accepts (hstate : c.rd Od.PROG_STATE = 4) (hok : c.exchangeOk = true)
    (hat : c.rd Od.PROG_CHANGEOVER = 0 ∨ c.stepNumber + 16 ≤ c.rd Od.PROG_CHANGEOVER) {t : Nat}
    (ht : t = if c.rd Od.PROG_CHANGEOVER = 0 then c.stepNumber + 64 else c.rd Od.PROG_CHANGEOVER) :
    c.progArm = (((c.updProg fun x => { x with changeAt := t, transferred := false }).carry (.armed t)).wr
      Od.PROG_STATE 5).answer .done := by
  subst ht
  unfold Core.progArm
  rw [if_neg (by simp [hstate, hok])]
  exact if_neg (by omega)

/-- An exchange up to ARMED is cancelled (Table 05.7). -/
theorem Core.progCancel_accepts (hstate : c.rd Od.PROG_STATE ≤ 5) :
    c.progCancel = ((c.updProg fun x => { x with transferred := false }).wr Od.PROG_STATE 0).answer .done :=
  if_neg (Nat.not_lt.mpr hstate)

/-- In IDLE and ABORTED the inactive bank is erased (Table 05.7). -/
theorem Core.progErase_accepts (hstate : c.rd Od.PROG_STATE = 0 ∨ c.rd Od.PROG_STATE = 7) :
    c.progErase = ((c.setBank c.inactiveBank ⟨[], none, []⟩).wr Od.PROG_INACTIVE_ID 0).answer .done :=
  if_pos hstate

/-- With its partner's consent, or none needed, a pair member arms as any module does (R344). -/
theorem Core.progCmd_arm {partner : Bool} (h : c.pairMember = false ∨ c.role = .alone ∨ partner = true) :
    c.progCmd 3 partner = c.progArm :=
  if_neg (by rcases h with h | h | h <;> simp [h])

end Commands

/-! ## The transfer, the changeover and the copy of retained variables -/

/-- The switch is made at its boundary before the release, where the inactive bank holds an image (R206). -/
theorem Core.changeover_made {c : Core} {im : ImageSet} (hdue : c.changeoverDue = true) (hrel : c.arr.released = false)
    (him : (c.bank c.inactiveBank).content = some im) : c.changeover.2 = true := by
  simp [Core.changeover, hdue, hrel, him]

/-- After the switch the new program's tasks are released and loaded (R206). -/
theorem Core.progChangeover_made {c : Core} (h : c.changeover.2 = true) : c.progChangeover =
    (c.changeover.1.boundaryReleases
      (if c.changeover.1.role == .standby then c.changeover.1.recordDue else none)).1.loadBobbins []
    (c.changeover.1.boundaryReleases
      (if c.changeover.1.role == .standby then c.changeover.1.recordDue else none)).2 := by
  unfold Core.progChangeover
  generalize c.changeover = x at h ⊢
  obtain ⟨d, made⟩ := x
  subst h
  rfl

/-- In the slack of the step before the changeover, with no job of the image open, the transfer is made (R205). -/
theorem Core.variableTransfer_made {c : Core} (hstate : c.rd Od.PROG_STATE = 5) (hstep : c.stepNumber + 1 = c.prog.changeAt)
    (hslack : c.slack = true) (hopen : c.anyOpen = false) : c.variableTransfer = c.updProg fun x => { x with
      transferred := true, transferEnd := c.clk.cyc + transferCycles (c.rd Od.PROG_XFER_BYTES) } :=
  (if_pos ⟨hstate, hstep, hslack⟩).trans (if_neg (ne_true_of_eq_false hopen))

/-- A copy that is due in a slack of its own, with no job open, is written or its failure recorded (R209). -/
theorem Core.retainCopy_made {c d : Core} {im : ImageSet} (hdue : c.prog.retainWant = true ∨ c.prog.retainDue ≤ c.clk.cyc)
    (hslack : c.slack = true) (hopen : c.anyOpen = false) (htransfer : c.transferSlack = false)
    (him : c.prog.image = some im)
    (hd : d = c.updProg fun x => { x with
      retainWant := false, retainDue := c.clk.cyc + ms (c.rd Od.PROG_RETAIN_PERIOD) }) (fails : Bool) :
    c.retainCopy fails = if fails then d.log 0x050C else
      d.setBank (d.rd Od.PROG_ACTIVE_BANK) { d.bank (d.rd Od.PROG_ACTIVE_BANK) with
        retained := (im.vars.filter (·.retained)).map fun v => (v.hash, c.creel.read v.addr v.init.length) } := by
  subst hd
  unfold Core.retainCopy
  dsimp only
  rw [if_pos (by simpa [hslack, hopen, htransfer] using hdue)]
  simp only [him]

/-- Settles O11: a segment and a command pass the checks and then the conditions of their state, which the statement grants;
none of the guards stops the transfer, the changeover and the copy. -/
theorem programExchangeCommandsComplete : Obligations.ProgramExchangeCommandsComplete := by
  intro s c hs
  refine ⟨fun p ofs data old last d hm hold hlen hd => ?_, fun p d hd => ?_,
    fun hstate hstep hslack hopen => exec_act_finds (exec_variableTransfer s) hs
      (Core.variableTransfer_made hstate hstep hslack hopen),
    fun im d hdue hrel him hd => exec_act_finds (exec_progChangeover s) hs ?_,
    fun im fails hdue hslack hopen htransfer him d hd => exec_act_finds (exec_retainCopy fails s) hs
      (Core.retainCopy_made hdue hslack hopen htransfer him hd fails)⟩
  · obtain ⟨r, hc, hr, hserved⟩ := Core.pathSegment_served hm ofs data last
    exact exec_act_finds (exec_progImageWrite p ofs data last s) hs
      (hserved.trans (congrArg (Core.shown · p) (Core.writeSegment_progImage hc hr hold hlen hd)))
  · subst hd
    refine ⟨fun hm hstate hcodes => State.act_progCmd hs hm Core.freeFacts ?_,
      fun im hm hstate hok him hcodes hcreel hslack => State.act_progCmd hs hm Core.freeFacts ?_,
      fun partner hm hstate hok hpair hat =>
        State.act_progCmd hs hm (fun c => { c.freeFacts with partner := partner }) ?_,
      fun hm hstate => State.act_progCmd hs hm Core.freeFacts (Core.progCancel_accepts hstate),
      fun hm hstate => State.act_progCmd hs hm Core.freeFacts (Core.progErase_accepts hstate)⟩
    · exact (congrArg _ hcodes).trans (Core.progVerify_accepts hstate)
    · exact (congrArg _ hcodes).trans (Core.progPrepare_accepts hstate hok him hcreel hslack)
    · exact (Core.progCmd_arm hpair).trans (Core.progArm_accepts hstate hok hat rfl)
  · subst hd
    exact Core.progChangeover_made (Core.changeover_made hdue hrel him)

end Sys2Proof.Machine
end

section
/-! The statements of the digital channels (chapter 06): inputs (O12), counters (O13), output stages (O14), field supplies
(O15), test pulses and safe outputs (O16). -/

namespace Sys2Proof.Machine

/-! ## The keys of COUNT.CMD, FG.ACK and SO.ACK -/

/-- The key is of no entry that a write reaches before FG.ACK, COUNT.CMD and SO.ACK are asked for. -/
def fieldCommandKey (k : Nat) : Bool :=
  k / 256 != 0x2312 &&
  [Od.LOOP_SEL, Od.COMP_SEL, Od.SKEIN_READ_FROM, Od.SKEIN_READ_SRC, Od.SKEIN_READ_MIN_SEV, Od.TIME_RESTEP,
    Od.LOOP_CLEAR_ALL, Od.COMP_SCALE, Od.COMP_OFFSET, Od.COMP_MODE, Od.PROG_CMD].all (k != ·)

/-- The row of FG.ACK. -/
def fgAckRow : OdRow := ⟨0x2645, 0x2645, 0x01, 0x06, .u8, .wo, 0, .nat 1 1 []⟩

/-- The row of COUNT.CMD. -/
def countCmdRow : OdRow := ⟨0x2654, 0x2654, 0x01, 0x08, .u8, .wo, 0, .nat 1 1 []⟩

/-- The row of SO.ACK. -/
def soAckRow : OdRow := ⟨0x2670, 0x2670, 0x03, 0x03, .u8, .wo, 0, .nat 1 1 []⟩

/-- What the dictionary says of the keys of FG.ACK. -/
theorem fgAck_keys : ∀ g : Fin 6, odRow? (Od.FG_ACK g) = some fgAckRow ∧ Od.FG_ACK g / 256 < 0x6000 ∧
    fieldCommandKey (Od.FG_ACK g) = true ∧ protectedKey (Od.FG_ACK g) fgAckRow = false ∧
    elem? (Od.FG_ACK 0) 6 (Od.FG_ACK g) = some g.val := by
  decide +kernel

-- The rest of the section is elaborated in its order and after all that stands before it, so that its memory is not held
-- beside that of the tests.
set_option Elab.async false

/-- What it says of those of COUNT.CMD. -/
theorem countCmd_keys : ∀ k : Fin 8, odRow? (Od.COUNT_CMD k) = some countCmdRow ∧ Od.COUNT_CMD k / 256 < 0x6000 ∧
    fieldCommandKey (Od.COUNT_CMD k) = true ∧ protectedKey (Od.COUNT_CMD k) countCmdRow = false ∧
    elem? (Od.FG_ACK 0) 6 (Od.COUNT_CMD k) = none ∧ elem? (Od.COUNT_CMD 0) 8 (Od.COUNT_CMD k) = some k.val := by
  decide +kernel

/-- What it says of that of SO.ACK. -/
theorem soAck_key : odRow? Od.SO_ACK = some soAckRow ∧ fieldCommandKey Od.SO_ACK = true ∧
    protectedKey Od.SO_ACK soAckRow = false ∧ elem? (Od.FG_ACK 0) 6 Od.SO_ACK = none ∧
    elem? (Od.COUNT_CMD 0) 8 Od.SO_ACK = none := by
  decide +kernel

/-! ## Accepted levels -/

/-- A level that began within a masking window is not accepted (R222). -/
theorem Core.levelAccepted_masked {c : Core} {i : Nat}
    (h : c.pulseMasked i (c.clk.cyc - filterTime (field (c.chan i).cfg 4 3)) = true) (lvl : Bool) :
    c.levelAccepted i lvl = c := if_pos h

/-- Any other level passes the time of its pair, is accepted and sampled, and may act as a reset (R221, R302, R308). -/
theorem Core.levelAccepted_unmasked {c : Core} {i : Nat}
    (h : c.pulseMasked i (c.clk.cyc - filterTime (field (c.chan i).cfg 4 3)) = false) (lvl : Bool) {e : Core}
    (he : e = ((c.sinElapse (i / 2) true).dioAccept i lvl).sinSample (i / 2)) :
    c.levelAccepted i lvl =
      if c.dioBit i dsLevel && !e.dioBit i dsLevel && e.resetChannel i && ms 100 ≤ e.clk.cyc - (c.chan i).since &&
          e.clk.cyc - (c.chan i).since ≤ ms 5000
      then e.updSafety fun x => { x with resets := x.resets.filter (· != i) ++ [i] } else e := by
  subst he
  exact if_neg (ne_true_of_eq_false h)

/-- A new level of a channel in use (R221, R224, R225). -/
theorem Core.dioAccept_new {c : Core} {i : Nat} {lvl : Bool} (hlive : c.dioLive i = true) (hmode : c.dioMode i ≠ 0)
    (hnew : c.dioBit i dsLevel ≠ lvl) : c.dioAccept i lvl =
      let a := (c.setDioBit i dsLevel lvl).inc32 (Od.DIO_EDGES i)
      let b := if a.dioIsInput i then a.countChatter i (c.dioBit i dsLevel) else a
      let g := if lvl then b.updChan i fun x => { x with since := b.clk.cyc } else b.setDioBit i dsStuck false
      g.evLevel (65 + i) (g.dioValue i) :=
  if_neg (by simp [hlive, hmode, hnew])

/-! ## Detections of inputs -/

section Inputs

variable {c : Core} {i : Nat} (hlive : c.dioLive i = true)
include hlive

/-- Chatter ends one window after the last edge (R224). -/
theorem Core.chatterClear_chattering (hchat : c.dioBit i dsChatter = true) {d : Core}
    (hd : d = ((c.atCyc ((c.chan i).lastEdge + c.chatterWin i)).setDioBit i dsChatter false).log 0x0604) :
    c.chatterClear i = d.evLevel (65 + i) (d.dioValue i) := by
  subst hd
  exact if_neg (by simp [hlive, hchat])

/-- OPEN_WIRE of an input whose check is enabled follows a change of its condition (R223). -/
theorem Core.openWire_changed (hin : c.dioIsInput i = true) (hen : (c.chan i).cfg.testBit 7 = true) {on : Bool}
    (hnew : c.dioBit i dsOpenWire ≠ on) : c.openWire i on =
      if on then (c.setDioBit i dsOpenWire true).log 0x060A else c.setDioBit i dsOpenWire false := by
  refine (if_neg (by simp [hlive, hin, hen, hnew])).trans ?_
  cases on <;> rfl

/-- An input at 1 for DIO.MAX_ON seconds is stuck (R225). -/
theorem Core.stuckActive_sets (hmax : c.rd (Od.DIO_MAX_ON i) ≠ 0) (hin : c.dioIsInput i = true)
    (hlevel : c.dioBit i dsLevel = true) (hstuck : c.dioBit i dsStuck = false) : c.stuckActive i =
      ((c.atCyc ((c.chan i).since + c.rd (Od.DIO_MAX_ON i) * 1000000000 + 1)).setDioBit i dsStuck true).log 0x0605 :=
  if_neg (by simp [hlive, hmax, hin, hlevel, hstuck])

section Pulse

variable {k t : Nat} (hk : k = field (c.chan i).cfg 8 3) (hfed : (c.chan i).cfg.testBit 11 = true)
  (hpulsing : c.tpPulsing k = true) (ht : (c.tpSource k).pulse = some t)
include hk hfed hpulsing ht

/-- The sample of a pulse is taken 280 µs into it (R222). -/
theorem Core.pulseLow_sampled (low : Bool) :
    c.pulseLow i low = (c.atCyc (t + us 280)).setDioBit i dsPulseLow low := by
  subst hk
  refine (if_neg (by simp [hlive, hfed, hpulsing])).trans ?_
  simp only [ht]
  rfl

/-- Its level is the check of a channel that was 1 as the pulse began (R303). -/
theorem Core.pulseSample_checked {low : Bool} {d : Core}
    (hd : d = (c.atCyc (t + us 280)).setDioBit i dsPulseLow low) : c.pulseSample i low =
      if d.safetyFuse = 0 ∨ d.safety.atPulse.testBit i = false then d
      else if low then (d.updSafety fun x => { x with pulseFails := setAt x.pulseFails i 0 }).pulsePend (i / 2)
      else
        let n := min 2 (d.safety.pulseFails.getD i 0 + 1)
        let e := ((d.updSafety fun x => { x with pulseFails := setAt x.pulseFails i n }).pulsePend (i / 2)).inc32
          (Od.SIN_PULSE_FAILS (i / 2))
        if n = 2 then (e.sinElapse (i / 2) false).sinFault (i / 2) (2 + i % 2) else e := by
  have hsample : c.pulseLow i low = d := (Core.pulseLow_sampled hlive hk hfed hpulsing ht low).trans hd.symm
  subst hk
  refine (if_neg (by simp [hlive, hfed, hpulsing, ht])).trans ?_
  rw [hsample]
  simp only [Bool.or_eq_true, decide_eq_true_eq, Bool.not_eq_true']

end Pulse

end Inputs

/-- Settles O12: the masking window decides whether a level is accepted; none of the guards stops the detections and the
sample of a pulse. -/
theorem digitalInputEventsComplete : Obligations.DigitalInputEventsComplete := by
  intro s c i hs
  refine ⟨fun lvl d e hd hlive hmode hnew hmask he => exec_act_finds (exec_dioLevelAccepted i lvl s) hs ?_,
    fun lvl hmask => exec_act_finds (exec_dioLevelAccepted i lvl s) hs (Core.levelAccepted_masked hmask lvl),
    fun hlive => ⟨fun d hchat hd => exec_act_finds (exec_chatterClear i s) hs
        (Core.chatterClear_chattering hlive hchat hd),
      fun below hin hen hnew => exec_act_finds (exec_dioOpenWire i below s) hs
        (Core.openWire_changed hlive hin hen hnew),
      fun hmax hin hlevel hstuck => exec_act_finds (exec_stuckActive i s) hs
        (Core.stuckActive_sets hlive hmax hin hlevel hstuck),
      fun k t low d hk hfed hpulsing ht hd => exec_act_finds (exec_pulseLowSample i low s) hs
        (Core.pulseSample_checked hlive hk hfed hpulsing ht hd)⟩⟩
  subst hd
  exact Core.levelAccepted_unmasked hmask lvl
    (he.trans (congrArg (Core.sinSample · (i / 2)) (Core.dioAccept_new hlive hmode hnew).symm))

/-! ## Counter edges -/

/-- One count of a counter that wraps at COUNT.MODULO, or else ends at the range of its type (R229). -/
theorem Core.countStep_eq (c : Core) (k : Nat) (up : Bool) {v m : Int}
    (hv : v = c.io.counts.getD k 0 + (if up then 1 else -1)) (hm : m = c.rd (Od.COUNT_MODULO k)) : c.countStep k up =
      if m ≠ 0 then
        (c.updField fun x => { x with counts := setAt x.counts k (v % m) }).setBit (Od.COUNT_STATUS k) 2 (!up)
      else if c.bit (Od.COUNT_STATUS k) 0 then c
      else if v < -2147483648 ∨ 2147483647 < v then
        ((c.setBit (Od.COUNT_STATUS k) 0 true).log 0x060B).evLevel (137 + k) true
      else (c.updField fun x => { x with counts := setAt x.counts k v }).setBit (Od.COUNT_STATUS k) 2 (!up) := by
  subst hv hm
  by_cases h : c.rd (Od.COUNT_MODULO k) = 0
  · rw [if_neg (by simp [h])]
    exact if_pos h
  · rw [if_pos (by simpa using h)]
    exact if_neg h

section Edges

variable {c d : Core} {k : Nat} {a b x y a' b' : Bool} (hrun : c.clk.running = true) (hcount : c.dioCount ≠ 0)
  (hin : c.io.inputs.getD k (false, false) = (a, b))
  (ha : a' = if c.pulseMasked (2 * k) (c.clk.cyc - countFilterTime (c.rd (Od.COUNT_FILTER k))) then a else x)
  (hb : b' = if c.pulseMasked (2 * k + 1) (c.clk.cyc - countFilterTime (c.rd (Od.COUNT_FILTER k))) then b else y)
  (hd : d = c.updField fun z => { z with inputs := setAt z.inputs k (a', b') })
include hrun hcount hin ha hb hd

/-- The accepted levels of A and B are kept, and decide what the edge counts (R227, R228). -/
theorem Core.counterEdge_accepted : c.counterEdge k x y =
    if 3 ≤ c.rd (Od.COUNT_MODE k) && a != a' && b != b' then
      ((d.inc32 (Od.COUNT_ENC_ERRORS k)).setBit (Od.COUNT_STATUS k) 1 true).log 0x060B
    else (countDir (c.rd (Od.COUNT_MODE k)) a b a' b').elim d (d.countStep k) := by
  subst hd ha hb
  refine (if_neg (by simp [Core.sampling, hrun, hcount])).trans ?_
  simp only [hin, Core.updField_rd]
  refine if_congr Iff.rfl rfl ?_
  generalize countDir _ _ _ _ _ = dir
  cases dir <;> rfl

/-- A change of both levels at once in a mode that uses both (R231). -/
theorem Core.counterEdge_both (hmode : 3 ≤ c.rd (Od.COUNT_MODE k)) (haa : a ≠ a') (hbb : b ≠ b') :
    c.counterEdge k x y = ((d.inc32 (Od.COUNT_ENC_ERRORS k)).setBit (Od.COUNT_STATUS k) 1 true).log 0x060B :=
  (Core.counterEdge_accepted hrun hcount hin ha hb hd).trans (if_pos (by simp [hmode, haa, hbb]))

/-- Any other change counts as Table 06.3 says. -/
theorem Core.counterEdge_single (hone : c.rd (Od.COUNT_MODE k) < 3 ∨ a = a' ∨ b = b') : c.counterEdge k x y =
    (countDir (c.rd (Od.COUNT_MODE k)) a b a' b').elim d (d.countStep k) := by
  have hnot : ¬(3 ≤ c.rd (Od.COUNT_MODE k) && a != a' && b != b') = true := by
    rcases hone with h | h | h
    · simp [Nat.not_le.mpr h]
    · simp [h]
    · simp [h]
  exact (Core.counterEdge_accepted hrun hcount hin ha hb hd).trans (if_neg hnot)

end Edges

/-! ## COUNT.CMD, FG.ACK and SO.ACK -/

/-- A write that reaches them has the effect of the first whose key it is (R230, R243, R251). -/
theorem Core.applyNumber_fieldCommand {k : Nat} {r : OdRow} (hk : fieldCommandKey k = true) (hp : protectedKey k r = false)
    (c : Core) (p : Path) (v : Nat) (f : Facts) :
    (∀ g, elem? (Od.FG_ACK 0) 6 k = some g → c.applyNumber p k r v f = c.fgAck g f.above) ∧
    (elem? (Od.FG_ACK 0) 6 k = none →
      (∀ i, elem? (Od.COUNT_CMD 0) 8 k = some i → c.applyNumber p k r v f = c.countCmd i) ∧
      (elem? (Od.COUNT_CMD 0) 8 k = none → k = Od.SO_ACK → c.applyNumber p k r v f = c.soAck f.persist)) := by
  simp only [fieldCommandKey, Bool.and_eq_true, List.all_cons, List.all_nil, bne_iff_ne, ne_eq] at hk
  unfold Core.applyNumber
  refine ⟨fun g hg => ?_, fun hg => ⟨fun i hi => ?_, fun hi hs => ?_⟩⟩
  · simp [hk, hp, hg]
  · simp [hk, hp, hg, hi]
  · subst hs
    simp [hk, hp, hg, hi]

/-- A 1 that the checks of R465 let through to COUNT.CMD requests the preset of its counter (R230). -/
theorem State.act_countCmd {s : State} {c : Core} {p : Path} {k : Fin 8} (hs : s.finds c)
    (hm : c.mayWrite p (Od.COUNT_CMD k) 1 = true) : (s.act fun c _ => c.pathNumber p (Od.COUNT_CMD k) 1) =
      .next (s.finishing (((c.used 3).countCmd k).shown p)) := by
  obtain ⟨hrow, hidx, hcmd, hp, hfg, hcount⟩ := countCmd_keys k
  rw [State.act_pathNumber hs hm hrow (.inl hidx) (.inl rfl) (by decide)]
  obtain ⟨-, happly⟩ := Core.applyNumber_fieldCommand hcmd hp (c.used 3) p 1 c.freeFacts
  obtain ⟨hpreset, -⟩ := happly hfg
  rw [hpreset _ hcount]

/-- Settles O13: which levels changed decides between an encoder error and a count, whose direction Table 06.3 gives; a
COUNT.CMD passes the checks and reaches its counter. -/
theorem counterCommandsComplete : Obligations.CounterCommandsComplete := by
  intro s c k hs
  refine ⟨fun hrun hcount a b x y a' b' d hin ha hb hd => ⟨fun hmode haa hbb =>
      exec_act_finds (exec_counterEdge k x y s) hs (Core.counterEdge_both hrun hcount hin ha hb hd hmode haa hbb),
    fun hone => ?_⟩, fun p hm => ?_⟩
  · have hsingle := Core.counterEdge_single hrun hcount hin ha hb hd hone
    refine ⟨fun hdir => exec_act_finds (exec_counterEdge k x y s) hs ?_,
      fun upward v m hdir hv hm => exec_act_finds (exec_counterEdge k x y s) hs ?_⟩
    · rw [hsingle, hdir]; rfl
    · rw [hsingle, hdir]
      subst hd
      exact Core.countStep_eq _ k upward hv hm
  · rw [exec_countCmdPreset, State.act_countCmd hs hm]
    rfl

/-! ## Protection of output stages -/

section Stages

variable {c : Core} {i : Fin 48} (hlive : c.dioLive i = true)
include hlive

section On

variable (hon : c.stageOn i = true)
include hon

/-- The current limit of a stage that is on (R234). -/
theorem Core.outputShort_on : c.outputShort i = c.setShort i := if_pos (by simp [hlive, hon])

/-- A thermal shutdown, which latches after DIO.RETRY_MAX retries in succession (R234). -/
theorem Core.thermalShutdown_dio {x d : Core} (hx : x = ((c.setShort i).setDioBit i dsThermal true).log 0x060E)
    (hd : d = x.updChan i fun y => { y with shutAt := x.clk.cyc }) : c.thermalShutdown (.dio i) =
      if d.rd Od.DIO_RETRY_MAX ≤ (d.chan i).retries then
        ((d.setDioBit i dsLatched true).driveDio i).fault' 0x0602 (unitDio i)
      else d.driveDio i := by
  subst hd hx
  exact if_neg (by simp [hlive, hon])

/-- SHORT ends, and the retries with it (R234). -/
theorem Core.shortClear_dio (hshort : c.dioBit i dsShort = true) : c.shortClear (.dio i) =
    (c.setDioBit i dsShort false).updChan i fun x => { x with retries := 0 } :=
  if_pos (by simp [hlive, hon, hshort])

/-- OPEN_LOAD of an output whose check is enabled follows a change of its condition (R236). -/
theorem Core.openLoad_changed (hout : c.dioIsOutput i = true) (hen : (c.chan i).cfg.testBit 12 = true) {on : Bool}
    (hnew : c.dioBit i dsOpenLoad ≠ on) : c.openLoad i on =
      if on then (c.setDioBit i dsOpenLoad true).log 0x060A else c.setDioBit i dsOpenLoad false := by
  refine (if_neg (by simp [hlive, hon, hout, hen, hnew])).trans ?_
  cases on <;> rfl

end On

/-- A retry, at the earliest 10 ms after the shutdown (R234). -/
theorem Core.thermalRetry_dio (hthermal : c.dioBit i dsThermal = true) {d : Core}
    (hd : d = (c.atCyc ((c.chan i).shutAt + ms 10)).setDioBit i dsThermal false) : c.thermalRetry (.dio i) =
      (if d.dioBit i dsCmd && !d.dioBit i dsLatched then d.updChan i fun x => { x with retries := x.retries + 1 }
       else d).driveDio i := by
  subst hd
  exact if_neg (by simp [hlive, hthermal])

/-- The pin of a stage that is off has stayed high or low (R237). -/
theorem Core.externalDrive_off (hout : c.dioIsOutput i = true) (hoff : c.stageOn i = false) (high : Bool) :
    c.externalDrive i high =
      if high = false then (c.setDioBit i dsExternal false).setDioBit i dsPartner false
      else if c.dioMode i = 9 ∧ c.partnerToggling = true then c.setDioBit i dsPartner true
      else if c.dioBit i dsExternal then c
      else (c.setDioBit i dsExternal true).log 0x0603 := by
  refine (if_neg (by simp [hlive, hout, hoff])).trans ?_
  simp only [Bool.not_eq_true', Bool.and_eq_true, beq_iff_eq]

end Stages

section Sources

variable {c : Core} {k : Fin 8} (hrun : c.clk.running = true)
include hrun

/-- A test-pulse source shuts down as an output stage does (R247). -/
theorem Core.thermalShutdown_tp (hact : c.tpActive k = true) : c.thermalShutdown (.tp k) =
    (c.setTpBit k 5 true).updTp k fun x => { x with shutAt := c.clk.cyc } :=
  if_neg (by simp [hrun, hact])

/-- Its OVERLOAD ends as SHORT does. -/
theorem Core.shortClear_tp (hact : c.tpActive k = true) (hover : c.tpBit k 2 = true) :
    c.shortClear (.tp k) = c.setTpBit k 2 false :=
  if_pos (by simp [hrun, hact, hover])

/-- Its retry comes as late as that of a stage. -/
theorem Core.thermalRetry_tp (hthermal : c.tpBit k 5 = true) : c.thermalRetry (.tp k) =
    (c.atCyc ((c.tpSource k).shutAt + ms 10)).setTpBit k 5 false :=
  if_neg (by simp [hrun, hthermal])

end Sources

/-- Settles O14: none of the guards stops the commands of a stage, which is on, off or shut down as the clause says, nor
those of a test-pulse source. -/
theorem digitalOutputProtectionsComplete : Obligations.DigitalOutputProtectionsComplete := by
  intro s c hs
  refine ⟨fun i hlive => ⟨fun hon => ⟨?_, ?_, ?_, ?_⟩, ?_, ?_⟩, fun k hrun => ⟨fun hact => ⟨?_, ?_⟩, ?_⟩⟩
  · exact exec_act_finds (exec_outputShort i s) hs (Core.outputShort_on hlive hon)
  · exact fun x d hx hd => exec_act_finds (exec_thermalShutdown (.dio i) s) hs
      (Core.thermalShutdown_dio hlive hon hx hd)
  · exact fun hshort => exec_act_finds (exec_shortClear (.dio i) s) hs (Core.shortClear_dio hlive hon hshort)
  · exact fun below hout hen hnew => exec_act_finds (exec_openLoad i below s) hs
      (Core.openLoad_changed hlive hon hout hen hnew)
  · exact fun d hthermal hd => exec_act_finds (exec_thermalRetry (.dio i) s) hs
      (Core.thermalRetry_dio hlive hthermal hd)
  · exact fun high hout hoff => exec_act_finds (exec_externalDrive i high s) hs
      (Core.externalDrive_off hlive hout hoff high)
  · exact exec_act_finds (exec_thermalShutdown (.tp k) s) hs (Core.thermalShutdown_tp hrun hact)
  · exact fun hover => exec_act_finds (exec_shortClear (.tp k) s) hs (Core.shortClear_tp hrun hact hover)
  · exact fun hthermal => exec_act_finds (exec_thermalRetry (.tp k) s) hs (Core.thermalRetry_tp hrun hthermal)

/-! ## Field supplies -/

/-- Which groups are measured rests on nothing that the field side holds. -/
@[simp] theorem Core.fgLive_updField (c : Core) (f : Field → Field) (g : Nat) : (c.updField f).fgLive g = c.fgLive g := rfl

section Groups

variable {c : Core} {g : Nat} (hlive : c.fgLive g = true)
include hlive

/-- LOW follows its condition (R240). -/
theorem Core.fgLow_live (low : Bool) : c.fgLow g low =
    if c.fgBit g 0 = low then c else if low then (c.setFgBit g 0 true).log 0x0606 else c.setFgBit g 0 false := by
  by_cases h : c.fgBit g 0 = low
  · rw [if_pos h]
    exact if_pos (by simp [h])
  · have hgo : c.fgLow g low = if low then (c.setFgBit g 0 low).log 0x0606 else c.setFgBit g 0 low :=
      if_neg (by simp [hlive, h])
    rw [if_neg h, hgo]
    cases low <;> rfl

/-- A supply that reverses is shown MISSING (R240). -/
theorem Core.fgMissing_reversed : c.fgMissing g (.reversed true) =
    ((c.updField fun x => { x with
      reversed := if x.reversed.contains g then x.reversed else x.reversed ++ [g] }).setFgBit g 2 true).driveGroup g :=
  if_neg (by simp [hlive])

/-- A supply whose polarity is right again (R240). -/
theorem Core.fgMissing_restored : c.fgMissing g (.reversed false) =
    (c.updField fun x => { x with reversed := x.reversed.filter (· != g) }).driveGroup g :=
  if_neg (by simp [hlive])

section Cut

variable {d : Core} (hd : d = c.updField fun x => { x with lpUp := x.lpUp.filter (· != g) })
include hd

/-- The supply of a group that is not cut falls below the cut threshold (R241, R242). -/
theorem Core.fgCut_begins (hcut : c.fgBit g 1 = false) : c.fgCut g =
    ((((((((d.setFgBit g 1 true).setFgBit g 4 false).updField fun x => { x with
      holds := x.holds.filter (·.1 != g), holdOver := x.holdOver.filter (· != g) }).inc32
        (Od.FG_CUTS g)).driveGroup g).fault' 0x0607 (unitFg g)).cutFed g).driveSos) := by
  subst hd
  exact (if_neg (by simp [hlive])).trans (if_neg (ne_true_of_eq_false hcut))

/-- That of a group that is cut already reaches the sources and safe outputs alone (R247, R250). -/
theorem Core.fgCut_again (hcut : c.fgBit g 1 = true) : c.fgCut g = (d.cutFed g).driveSos := by
  subst hd
  exact (if_neg (by simp [hlive])).trans (if_pos hcut)

end Cut

/-- The supply of a group in CUT recovers (R242, R247). -/
theorem Core.fgRecovery_cut (hcut : c.fgBit g 1 = true) {x d : Core} (hx : x = c.setFgBit g 1 false)
    (hd : d = if x.rd (Od.FG_RECOVERY g) = 0 then
        (x.setFgBit g 4 true).updField fun y => { y with holds := y.holds.filter (·.1 != g) ++ [(g, x.clk.cyc)] }
      else x.setFgBit g 5 true) : c.fgRecovery g =
    (if 2 ≤ g then d else [0, 1, 2, 3].foldl (fun c i => c.setTpBit (2 * i + g) 4 false) d).driveSos := by
  subst hd hx
  exact if_neg (by simp [hlive, hcut])

/-- The hold of a group ends 100 ms after it began, and waits for the commit (R242). -/
theorem Core.fgHoldEnd_holding {t : Nat} (ht : c.io.holds.find? (·.1 == g) = some (g, t)) : c.fgHoldEnd g =
    (c.atCyc (t + ms 100)).updField fun x => { x with
      holds := x.holds.filter (·.1 != g), holdOver := x.holdOver ++ [g] } := by
  unfold Core.fgHoldEnd
  rw [ht]
  exact if_neg (by simp [hlive])

/-- The current of a group that is not tripped lies above the trip level (R244). -/
theorem Core.fgTrip_trips (htrip : c.fgBit g 6 = false) : c.fgTrip g =
    (((c.setFgBit g 6 true).inc32 (Od.FG_TRIPS g)).driveGroup g).fault' 0x0609 (unitFg g) :=
  if_neg (by simp [hlive, htrip])

end Groups

/-- A 1 that the checks of R465 let through to FG.ACK acknowledges on what its command says of the supply (R243). -/
theorem State.act_fgAck {s : State} {c : Core} {p : Path} {g : Fin 6} (hs : s.finds c)
    (hm : c.mayWrite p (Od.FG_ACK g) 1 = true) (above : Bool) : (s.act fun c _ => c.pathAckGroup p g 1 above) =
      .next (s.finishing (((c.used 3).fgAck g above).shown p)) := by
  obtain ⟨hrow, hidx, hcmd, hp, hgroup⟩ := fgAck_keys g
  obtain ⟨hack, -⟩ :=
    Core.applyNumber_fieldCommand hcmd hp (c.used 3) p 1 { c.freeFacts with above := above }
  refine (State.act_pathFacts hs hm hrow (.inl hidx) (.inl rfl) (by decide)
    fun c => { c.freeFacts with above := above }).trans ?_
  rw [hack _ hgroup]

/-- Settles O15: none of the guards stops the events of a supply that is measured, where CUT decides what a cut does; an
FG.ACK passes the checks and reaches its group. -/
theorem fieldGroupSupplyCommandsComplete : Obligations.FieldGroupSupplyCommandsComplete := by
  intro s c g hs
  refine ⟨fun hlive => ⟨?_, fun x y => ⟨?_, ?_⟩, ?_, ?_, fun d hd => ⟨?_, ?_⟩, ?_, ?_, ?_⟩, fun p above hm => ?_⟩
  · exact fun low => exec_act_finds (exec_fgLow g low s) hs (Core.fgLow_live hlive low)
  · exact exec_act_finds (exec_fgMissing g (.missing x) s) hs (if_pos hlive)
  · exact exec_act_finds (exec_fgMissing g (.overload y) s) hs (if_pos hlive)
  · exact exec_act_finds (exec_fgMissing g (.reversed true) s) hs (Core.fgMissing_reversed hlive)
  · exact exec_act_finds (exec_fgMissing g (.reversed false) s) hs (Core.fgMissing_restored hlive)
  · exact fun hcut => exec_act_finds (exec_fgCut g s) hs (Core.fgCut_begins hlive hd hcut)
  · exact fun hcut => exec_act_finds (exec_fgCut g s) hs (Core.fgCut_again hlive hd hcut)
  · exact fun x d hcut hx hd => exec_act_finds (exec_fgRecovery g s) hs (Core.fgRecovery_cut hlive hcut hx hd)
  · exact fun t ht => exec_act_finds (exec_fgHoldEnd g s) hs (Core.fgHoldEnd_holding hlive ht)
  · exact fun htrip => exec_act_finds (exec_fgTrip g s) hs (Core.fgTrip_trips hlive htrip)
  · exact (exec_fgAck p g 1 above s).trans (State.act_fgAck hs hm above)

/-! ## Test pulses -/

/-- An update of a place of a list is read back at it. -/
theorem getD_updAt_same {α : Type} (f : α → α) (l : List α) {n : Nat} (d : α) (h : n < l.length) :
    (updAt f l n).getD n d = f (l.getD n d) := by
  induction l generalizing n with
  | nil => exact absurd h (Nat.not_lt_zero n)
  | cons x xs ih => cases n with
    | zero => rfl
    | succ n => exact ih (Nat.lt_of_succ_lt_succ h)

/-- An update of a source is read back from it. -/
theorem Core.tpSource_updTp {c : Core} {k : Nat} (f : TpSource → TpSource) (h : k < c.io.tp.length) :
    (c.updTp k f).tpSource k = f (c.tpSource k) := getD_updAt_same f c.io.tp TpSource.fresh h

/-- A bit of TP.STATUS that is written on a condition leaves what the sources hold beside their registers. -/
theorem Core.ite_setTpBit_io (c : Core) (k b : Nat) (v : Bool) (P : Prop) [Decidable P] :
    (if P then c else c.setTpBit k b v).io = c.io := by
  split <;> rfl

section Pulses

variable {c : Core} {k : Nat} (hrun : c.clk.running = true)
include hrun

section Start

variable {gap : Nat} {x d : Core} (hpulsing : c.tpPulsing k = true)
  (hgap : gap = match (c.tpSource k).pulse with | some t => t + us 300 + us 5000 - c.clk.cyc | none => 0)
  (hx : x = c.atTime (tpInstant k (c.clk.now + gap)))
  (hd : d = (if (c.tpSource k).ext then x else x.setTpBit k 3 false).updTp k fun y => { y with
    pulse := some x.clk.cyc, before := (y.pulse.toList ++ y.before).take 3, ext := false })
include hpulsing hgap hx hd

/-- The next pulse begins at its staggered instant (R245, R246). -/
theorem Core.pulseStart_pulsing : c.pulseStart k = d := by
  subst hd hx hgap
  refine (if_neg (by simp [hrun, hpulsing])).trans ?_
  cases hext : (c.tpSource k).ext <;> simp only [hext, Bool.false_eq_true, if_false, if_true] <;> rfl

/-- A pulse that begins anew keeps the levels of the channels fed from its source (R303). -/
theorem Core.testPulse_started (hnew : (c.tpSource k).pulse ≠ some x.clk.cyc) (hk : k < c.io.tp.length) :
    c.testPulse k = (d.fedFrom k).foldl (fun c i =>
      c.updSafety fun y => { y with atPulse := putBit y.atPulse i (c.dioBit i dsLevel) }) d := by
  have hstart : c.pulseStart k = d := Core.pulseStart_pulsing hrun hpulsing hgap hx hd
  have hio : (if (c.tpSource k).ext then x else x.setTpBit k 3 false).io = c.io :=
    (x.ite_setTpBit_io k 3 false _).trans (by rw [hx]; rfl)
  have hpulse : (d.tpSource k).pulse = some x.clk.cyc := by
    rw [hd, Core.tpSource_updTp _ (hio.symm ▸ hk)]
  unfold Core.testPulse
  rw [hstart]
  exact if_neg (hpulse ▸ hnew.symm)

end Start

/-- A source in its current limit for 2 ms (R247). -/
theorem Core.tpOverload_active (hact : c.tpActive k = true) : c.tpOverload k =
    ((c.setTpFault k 2).setTpBit k 5 true).updTp k fun x => { x with shutAt := c.clk.cyc } :=
  if_neg (by simp [hrun, hact])

/-- The pin of a source is not below 5 V 60 µs into a pulse (R247). -/
theorem Core.tpExtVoltage_pulsing (hpulsing : c.tpPulsing k = true) {t : Nat} (ht : (c.tpSource k).pulse = some t) :
    c.tpExtVoltage k = ((c.atCyc (t + us 60)).setTpFault k 3).updTp k fun x => { x with ext := true } := by
  refine (if_neg (by simp [hrun, hpulsing])).trans ?_
  rw [ht]

/-! ## Safe outputs -/

/-- A dark test of a safe output that is on (R249). -/
theorem Core.darkTest_on (hen : c.rd (Od.SO_DARK_EN k) ≠ 0) (hon : c.soBit k 1 = true) {m : Bool} {d : Core}
    (hd : d = c.atTime (darkInstant (ms (c.rd Od.SO_DARK_PERIOD)) k
      (c.clk.now + b2n (c.io.dark.any fun x => x.so == k && x.m == m && decide (c.clk.cyc < x.stop))) m))
    (reached : Bool) (openNs : Nat) : c.darkTest k m reached openNs =
      let e := d.updField fun x => { x with
        dark := x.dark.filter (fun y => decide (d.clk.cyc < y.stop)) ++ [⟨k, m, d.clk.cyc, d.clk.cyc + openNs⟩] }
      if reached then e else (e.atCyc (d.clk.cyc + us 250)).latchSo k (if m then 5 else 4) := by
  subst hd
  exact if_neg (by simp [hrun, hen, hon])

section Detections

variable (hfuse : c.safetyFuse ≠ 0)
include hfuse

/-- A readback mismatch outside a dark test (R250). -/
theorem Core.soReadback_undarkened (hdark : c.darkNow k = false) (m : Bool) :
    c.soReadback k m = c.latchSo k (if m then 5 else 4) :=
  if_neg (by simp [hrun, hfuse, hdark])

/-- An external voltage on an output that is off (R250). -/
theorem Core.soExtVoltage_off (hoff : c.soBit k 1 = false) : c.soExtVoltage k = c.latchSo k 6 :=
  if_neg (by simp [hrun, hfuse, hoff])

/-- An overload of an output that is on (R250). -/
theorem Core.soOverload_on (hon : c.soBit k 1 = true) : c.soOverload k = c.latchSo k 7 :=
  if_neg (by simp [hrun, hfuse, hon])

end Detections

end Pulses

/-- SO.ACK keeps the conditions that its command gives (R251). -/
theorem Core.applyNumber_soAck (c : Core) (p : Path) (v : Nat) (f : Facts) :
    c.applyNumber p Od.SO_ACK soAckRow v f = c.soAck f.persist := by
  obtain ⟨-, hcmd, hp, hgroup, hcount⟩ := soAck_key
  obtain ⟨-, happly⟩ := Core.applyNumber_fieldCommand hcmd hp c p v f
  obtain ⟨-, hack⟩ := happly hgroup
  exact hack hcount rfl

/-- Settles O16: none of the guards stops the commands of a source and of a safe output in the state that the clause gives;
an SO.ACK passes the checks and is kept with the conditions that its command gives. -/
theorem testPulseAndSafeOutputCommandsComplete : Obligations.TestPulseAndSafeOutputCommandsComplete := by
  intro s c hs
  refine ⟨fun k hrun => ⟨?_, ?_, ?_, ?_, fun hfuse => ⟨?_, ?_, ?_⟩⟩, fun p persist hm => ?_⟩
  · exact fun gap d hpulsing hgap hnew hk hd => exec_act_finds (exec_testPulseStart k s) hs
      (Core.testPulse_started hrun hpulsing hgap rfl hd hnew hk)
  · exact fun hact => exec_act_finds (exec_tpOverload k s) hs (Core.tpOverload_active hrun hact)
  · exact fun t hpulsing ht => exec_act_finds (exec_tpExtVoltage k s) hs (Core.tpExtVoltage_pulsing hrun hpulsing ht)
  · exact fun m reached openNs d hen hon hd => exec_act_finds (exec_soDarkTest k m reached openNs s) hs
      (Core.darkTest_on hrun hen hon hd reached openNs)
  · exact fun m hdark => exec_act_finds (exec_soReadbackMismatch k m s) hs
      (Core.soReadback_undarkened hrun hfuse hdark m)
  · exact fun hoff => exec_act_finds (exec_soExtVoltage k s) hs (Core.soExtVoltage_off hrun hfuse hoff)
  · exact fun hon => exec_act_finds (exec_soOverload k s) hs (Core.soOverload_on hrun hfuse hon)
  · obtain ⟨hrow, -⟩ := soAck_key
    refine (State.act_pathFacts hs hm hrow (.inl (by decide)) (.inl rfl)
      (by decide) fun c => { c.freeFacts with persist := persist }).trans ?_
    rw [Core.applyNumber_soAck]
    rfl

end Sys2Proof.Machine
end

section
/-! The statements of the universal channels (chapter 07): inputs (O17), outputs (O18), HART (O19). -/

namespace Sys2Proof.Machine

/-! ## Universal inputs -/

/-- The physical value of a sigma-delta result: a temperature, a resistance, or the value measured (R265, R269, R270). -/
def Core.sdPhysical (c : Core) (i raw cj : Nat) : Nat :=
  match c.uioMode i with
  | 7 => rtdTemp (c.uioRange i) (c.leadFree i raw)
  | 8 => c.leadFree i raw
  | 9 => tcTemp (c.uioRange i) raw cj
  | _ => raw

/-- What a thermocouple shows of its cold junction: the readings of an external source, and CJ_FALLBACK (R270). -/
def Core.cjShown (c : Core) (i ext stat : Nat) (fb : Bool) : Core :=
  if c.uioMode i = 9 then
    (if c.rd (Od.UIO_CJ_SRC i) = 1 then (c.wr Od.UIO_CJ_EXT_TEMP ext).wr Od.UIO_CJ_EXT_STATUS stat else c).flagUio i
      usCjFallback fb 0x0709
  else c

/-- A converted result with physical value `p` and delivered value `y` waits for the latch, unless the last delivered value
holds (R265, R271, R273). -/
def Core.sdWaits (c : Core) (i p y : Nat) : Core :=
  c.updAch i fun a => { a with
    sd := a.sd ++ [⟨c.clk.cyc, c.clk.now, p, if c.uioHolds i then c.rd (Od.PI_UIO_IN i) else y,
      c.uioFlags i &&& c.sdOwn i⟩] }

section UniversalInputs

variable {c : Core} {i : Nat} (hlive : c.uioLive i = true)
include hlive

/-- A result of a channel on the sigma-delta path is converted and waits (R265, R270). -/
theorem Core.sdResult_converted {raw int ext stat cj p y : Nat} {fb : Bool} {d e : Core} (hsd : c.uioSd i = true)
    (hcj : c.coldJunction i int ext (stat == 1) = (cj, fb)) (hd : d = c.cjShown i ext stat fb)
    (he : d.uioConvert i (d.sdPhysical i raw cj) (d.sdSpacing i) = (e, p, y)) :
    c.sdResult i raw int ext stat = e.sdWaits i p y := by
  subst hd
  refine (if_neg (by simp [hlive, hsd])).trans ?_
  refine Eq.trans ?_ (congrArg (fun x : Core × Nat × Nat => x.1.sdWaits i x.2.1 x.2.2) he)
  by_cases h9 : c.uioMode i = 9
  · simp only [hcj, Core.cjShown, h9, beq_self_eq_true, Bool.true_and, if_true, beq_iff_eq]
    rfl
  · simp only [hcj, Core.cjShown, h9, beq_eq_false_iff_ne.mpr h9, Bool.false_and, Bool.false_eq_true, if_false]
    rfl

/-- A failed open-wire check sets OPEN_WIRE and ends the row of those passed (R271). -/
theorem Core.uioOpenCheck_failed (hen : c.uioOpenEn i = true) (hlo : 7 ≤ c.uioMode i) (hhi : c.uioMode i ≤ 9) :
    c.uioOpenCheck i true = (c.updAch i fun a => { a with passes := 0 }).flagUio i usOpenWire true 0x0701 :=
  if_neg (by simp [hlive, hen, hlo, hhi])

/-- The second passed in succession clears it (R271). -/
theorem Core.uioOpenCheck_passed (hen : c.uioOpenEn i = true) (hlo : 7 ≤ c.uioMode i) (hhi : c.uioMode i ≤ 9) {d : Core}
    (hd : d = c.updAch i fun a => { a with passes := a.passes + 1 }) :
    c.uioOpenCheck i false = if 2 ≤ (d.ach i).passes then d.flagUio i usOpenWire false 0x0701 else d := by
  subst hd
  exact if_neg (by simp [hlive, hen, hlo, hhi])

/-- SHORT of a transmitter supply (R272). -/
theorem Core.transmitterShort_supply (hmode : c.uioMode i = 2) (on : Bool) :
    c.transmitterShort i on = c.flagUio i usShort on 0x0702 :=
  if_pos (by simp [hlive, hmode])

/-- SHORT and OPEN_WIRE of a NAMUR input whose check is enabled (R273). -/
theorem Core.namurFault_checked (hmode : c.uioMode i = 10) (hen : c.uioOpenEn i = true) (short on : Bool) :
    c.namurFault i short on =
      if short then c.flagUio i usShort on 0x0702 else c.flagUio i usOpenWire on 0x0701 :=
  if_neg (by simp [hlive, hmode, hen])

end UniversalInputs

/-- Settles O17: none of the guards stops the detections of an input that is measured, and a result on the sigma-delta path
is converted as its mode says. -/
theorem universalInputEventsComplete : Obligations.UniversalInputEventsComplete := by
  intro s c i hs hlive
  refine ⟨?_, fun hen hlo hhi => ⟨?_, ?_⟩, fun present => ⟨?_, fun hmode hen => ⟨?_, ?_⟩⟩⟩
  · exact fun raw int ext stat cj p y fb d e hsd hcj hd he => exec_act_finds (exec_sdResult i raw int ext stat s) hs
      (Core.sdResult_converted hlive hsd hcj hd he)
  · exact exec_act_finds (exec_uioOpenWireCheck i true s) hs (Core.uioOpenCheck_failed hlive hen hlo hhi)
  · exact fun d hd => exec_act_finds (exec_uioOpenWireCheck i false s) hs
      (Core.uioOpenCheck_passed hlive hen hlo hhi hd)
  · exact fun hmode => exec_act_finds (exec_transmitterShort i present s) hs
      (Core.transmitterShort_supply hlive hmode present)
  · exact exec_act_finds (exec_namurFault i true present s) hs (Core.namurFault_checked hlive hmode hen true present)
  · exact exec_act_finds (exec_namurFault i false present s) hs (Core.namurFault_checked hlive hmode hen false present)

/-! ## The keys of UIO.ACK, HART.CANCEL and HART.REQ -/

/-- The key is of no entry that a write reaches before UIO.ACK and HART.CANCEL are asked for. -/
def universalCommandKey (k : Nat) : Bool :=
  fieldCommandKey k && k != Od.SO_ACK && (elem? (Od.FG_ACK 0) 6 k).isNone && (elem? (Od.COUNT_CMD 0) 8 k).isNone

/-- The row of UIO.ACK. -/
def uioAckRow : OdRow := ⟨0x2715, 0x2715, 0x01, 0x18, .u8, .wo, 0, .nat 1 1 []⟩

/-- The row of HART.CANCEL. -/
def hartCancelRow : OdRow := ⟨0x2760, 0x2777, 0x0F, 0x0F, .u8, .wo, 0, .nat 1 1 []⟩

/-- The row of HART.REQ. -/
def hartReqRow : OdRow := ⟨0x2760, 0x2777, 0x07, 0x07, .domain, .wo, 0, .any⟩

/-- What the dictionary says of the keys of UIO.ACK. -/
theorem uioAck_keys : ∀ i : Fin 24, odRow? (Od.UIO_ACK i) = some uioAckRow ∧ Od.UIO_ACK i / 256 < 0x6000 ∧
    universalCommandKey (Od.UIO_ACK i) = true ∧ protectedKey (Od.UIO_ACK i) uioAckRow = false ∧
    elem? (Od.UIO_ACK 0) 24 (Od.UIO_ACK i) = some i.val := by
  decide +kernel

/-- What it says of those of HART.CANCEL. -/
theorem hartCancel_keys : ∀ i : Fin 24, odRow? (Od.HART_CANCEL i) = some hartCancelRow ∧
    Od.HART_CANCEL i / 256 < 0x6000 ∧ universalCommandKey (Od.HART_CANCEL i) = true ∧
    protectedKey (Od.HART_CANCEL i) hartCancelRow = false ∧ elem? (Od.UIO_ACK 0) 24 (Od.HART_CANCEL i) = none ∧
    record? (Od.HART_CANCEL 0) 24 (Od.HART_CANCEL i) = some i.val := by
  decide +kernel

/-- What it says of those of HART.REQ, which no content is asked for before. -/
theorem hartReq_keys : ∀ i : Fin 24, odRow? (Od.HART_REQ i) = some hartReqRow ∧ Od.HART_REQ i / 256 < 0x6000 ∧
    protectedKey (Od.HART_REQ i) hartReqRow = false ∧
    [Od.PROG_IMAGE, Od.CS_SIGN, Od.COMP_DATA, Od.LOOP_TABLE, Od.COMP_TABLES].all (Od.HART_REQ i != ·) = true ∧
    domLength (Od.HART_REQ i) = (3, 253) ∧ record? (Od.HART_REQ 0) 24 (Od.HART_REQ i) = some i.val := by
  decide +kernel

/-- A write that reaches them has the effect of the first whose key it is (R280, R291). -/
theorem Core.applyNumber_universalCommand {k : Nat} {r : OdRow} (hk : universalCommandKey k = true)
    (hp : protectedKey k r = false) (c : Core) (p : Path) (v : Nat) (f : Facts) :
    (∀ i, elem? (Od.UIO_ACK 0) 24 k = some i → c.applyNumber p k r v f = c.uioAck i) ∧
    (elem? (Od.UIO_ACK 0) 24 k = none → ∀ i, record? (Od.HART_CANCEL 0) 24 k = some i →
      c.applyNumber p k r v f = (c.hartCancel i).answer .done) := by
  simp only [universalCommandKey, fieldCommandKey, Bool.and_eq_true, List.all_cons, List.all_nil, bne_iff_ne, ne_eq,
    Option.isNone_iff_eq_none] at hk
  unfold Core.applyNumber
  refine ⟨fun i hi => ?_, fun hu i hi => ?_⟩
  · simp [hk, hp, hi]
  · simp [hk, hp, hu, hi]

/-- A 1 that the checks of R465 let through to UIO.ACK waits for the commit (R280). -/
theorem State.act_uioAck {s : State} {c : Core} {p : Path} {i : Fin 24} (hs : s.finds c)
    (hm : c.mayWrite p (Od.UIO_ACK i) 1 = true) : (s.act fun c _ => c.pathNumber p (Od.UIO_ACK i) 1) =
      .next (s.finishing (((c.used 3).uioAck i).shown p)) := by
  obtain ⟨hrow, hidx, hcmd, hp, hack⟩ := uioAck_keys i
  obtain ⟨happly, -⟩ := Core.applyNumber_universalCommand hcmd hp (c.used 3) p 1 c.freeFacts
  rw [State.act_pathNumber hs hm hrow (.inl hidx) (.inl rfl) (by decide), happly _ hack]

/-- One that they let through to HART.CANCEL ends a transaction in progress (R291). -/
theorem State.act_hartCancel {s : State} {c : Core} {p : Path} {i : Fin 24} (hs : s.finds c)
    (hm : c.mayWrite p (Od.HART_CANCEL i) 1 = true) : (s.act fun c _ => c.pathNumber p (Od.HART_CANCEL i) 1) =
      .next (s.finishing ((((c.used 3).hartCancel i).answer .done).shown p)) := by
  obtain ⟨hrow, hidx, hcmd, hp, hack, hcancel⟩ := hartCancel_keys i
  obtain ⟨-, happly⟩ := Core.applyNumber_universalCommand hcmd hp (c.used 3) p 1 c.freeFacts
  rw [State.act_pathNumber hs hm hrow (.inl hidx) (.inl rfl) (by decide), happly hack _ hcancel]

/-- A request that they let through to HART.REQ, of the length that it states of itself, is accepted (R291). -/
theorem State.act_hartReq {s : State} {c : Core} {p : Path} {i : Fin 24} {req : Bytes} (hs : s.finds c)
    (hm : c.mayWriteBytes p (Od.HART_REQ i) = true) (hmin : 3 ≤ req.length) (hlen : req.length = 3 + leAt req 2 1)
    (hmax : req.length ≤ 253) (hok : Core.domOk (Od.HART_REQ i) req = true) :
    (s.act fun c _ => c.pathData p (Od.HART_REQ i) req) = .next (s.finishing
      (((((c.used 3).unlock p (Od.HART_REQ i)).hartRequest i req).answer .done).shown p)) := by
  obtain ⟨hrow, hidx, hp, hk, hdom, hreq⟩ := hartReq_keys i
  simp only [List.all_cons, List.all_nil, Bool.and_eq_true, bne_iff_ne, ne_eq] at hk
  obtain ⟨himage, hk⟩ := hk
  rw [State.act_pathContent hs hm hrow (.inl hidx) himage (hdom ▸ hmin) (hdom ▸ hmax) (by simp [hartLengthOk, hlen]) hok]
  simp [Core.applyDomain, hk, hp, hreq]

/-! ## Universal outputs -/

section UniversalOutputs

variable {c : Core} {i : Nat}

/-- COMPLIANCE of an output that drives, with its record when the headroom is lost anew (R279). -/
theorem Core.complianceChange_lost (hdriving : c.uioDriving i = true) {d : Core}
    (hd : d = if (c.ach i).headLow then c else c.log1 0x0703 i) :
    c.complianceChange i true = (d.updAch i fun a => { a with headLow := true }).setCompliance i := by
  have ⟨⟨hlive, hout⟩, _⟩ : (c.uioLive i = true ∧ c.uioIsCurrentOut i = true) ∧ c.uioBit i usDriveOn = true := by
    simpa only [Core.uioDriving, Bool.and_eq_true] using hdriving
  subst hd
  refine (if_neg (by simp [hdriving, hlive, hout])).trans ?_
  cases (c.ach i).headLow <;> rfl

/-- Its return (R279). -/
theorem Core.complianceChange_returned (hlive : c.uioLive i = true) (hout : c.uioIsCurrentOut i = true) :
    c.complianceChange i false = (c.updAch i fun a => { a with headLow := false }).setCompliance i :=
  if_neg (by simp [hlive, hout])

/-- FAIL_ACTIVE of an output that drives and does not show it yet (R279). -/
theorem Core.failActive_driving (hdriving : c.uioDriving i = true) (hfail : c.uioBit i usFail = false) :
    c.failActive i = ((((((c.updAch i fun a => { a with headLow := true }).setCompliance i).setUioBit i usFail true).inc32
      (Od.UIO_FAILS i)).driveUio i).uioFaulted 0x0704 i) :=
  if_neg (by simp [hdriving, hfail])

/-- A channel whose detections run is bonded (R294). -/
theorem Core.uioLive_count (hlive : c.uioLive i = true) : i < c.uioCount := by
  simp only [Core.uioLive, Bool.and_eq_true, decide_eq_true_eq] at hlive
  exact hlive.2

section Live

variable (hlive : c.uioLive i = true)
include hlive

/-- An IOUT_PASSIVE front end without updates or loop voltage drops to its stored off state (R281). -/
theorem Core.contactLoss_passive (hmode : c.uioMode i = 6) (loopLost : Bool) {d : Core}
    (hd : d = c.updAch i fun a => { a with contact := false, looped := a.looped && !loopLost }) :
    c.contactLoss i loopLost = (if loopLost then d.flagUio i usOpenWire true 0x0701 else d).driveUio i := by
  subst hd
  exact if_neg (by simp [Core.uioLive_count hlive, hmode])

/-- It starts up there (R281). -/
theorem Core.passiveStart_passive (hmode : c.uioMode i = 6) : c.passiveStart i =
    ((c.updAch i fun a => { a with looped := true, contact := false }).flagUio i usOpenWire false 0x0701).driveUio i :=
  if_neg (by simp [Core.uioLive_count hlive, hmode])

/-- A junction above 140 °C limits the current (R282). -/
theorem Core.thermalLimited_hot (hmode : c.uioMode i = 2 ∨ c.uioIsCurrentOut i = true) {tj : Nat}
    (hhot : F32.lt (F32.ofNat 140) tj = true) :
    c.thermalLimited i tj = (c.updAch i fun a => { a with limit := some (thermalLimit tj) }).driveUio i :=
  have hthermal : c.uioThermal i = true := by simpa [Core.uioThermal, hlive] using hmode
  if_neg (by simp [hthermal, hhot])

/-- A channel in use shuts down at 155 °C (R282). -/
theorem Core.thermalOff_used (hmode : c.uioMode i ≠ 0) (hoff : c.uioBit i usThermOff = false) :
    c.thermalOff i = ((c.setUioBit i usThermOff true).driveUio i).uioFaulted 0x0707 i :=
  if_neg (by simp [hlive, hmode, hoff])

/-- It returns below 135 °C; a limit ends at 140 °C (R282). -/
theorem Core.thermalRestart_live (tj : Nat) {d : Core}
    (hd : d = if F32.lt tj (F32.ofNat 135) then c.setUioBit i usThermOff false else c) :
    c.thermalRestart i tj = (d.updAch i fun a => { a with
      limit := if a.limit.isNone then none else if F32.lt (F32.ofNat 140) tj then some (thermalLimit tj) else none
      }).driveUio i := by
  have hnone (a : UioChan) (l : Option Nat) :
      (if a.limit.isSome then l else none) = if a.limit.isNone then none else l := by cases a.limit <;> rfl
  subst hd
  refine (if_neg (by simp [hlive])).trans ?_
  simp only [hnone]

/-- SHORT of a voltage output (R283). -/
theorem Core.voutShort_voltage (hmode : c.uioMode i = 4) (short : Bool) :
    c.voutShort i short = c.flagUio i usShort short 0x0702 :=
  if_pos (by simp [hlive, hmode])

end Live
end UniversalOutputs

/-! ## Group supplies -/

section GroupSupplies

variable {c : Core} {u : Nat} (hrun : c.clk.running = true)
include hrun

section Low

variable (hcount : 8 * u < c.uioCount) {d : Core}
  (hd : d = ((c.setBit (Od.UG_STATUS u) 0 true).setBit (Od.UG_STATUS u) 1 false).updUio fun x =>
    { x with ugWait := x.ugWait.filter (· != u) ++ [u], ugStart := x.ugStart.filter (·.1 != u) })
include hcount hd

/-- The first dip of a supply turns its channels off (R284). -/
theorem Core.ugSupplyLow_first (hlow : c.ugLow u = false) : c.ugSupplyLow u =
    (((ugChans u).foldl Core.driveUio d).fault 0x0708 (unitUg u) u (c.fresh 32)).used 1 := by
  subst hd
  exact (if_neg (by simp [hrun, hcount])).trans (if_neg (ne_true_of_eq_false hlow))

/-- A later one ends the recovery in progress (R284). -/
theorem Core.ugSupplyLow_again (hlow : c.ugLow u = true) : c.ugSupplyLow u = d := by
  subst hd
  exact (if_neg (by simp [hrun, hcount])).trans (if_pos hlow)

end Low

/-- Regulation is back from cycle `t` on, and has lasted 100 ms where `done` says so (R284). -/
theorem Core.ugRecovered_low (hlow : c.ugLow u = true) {t : Nat} {d : Core}
    (ht : t = ((c.uio.ugStart.find? (·.1 == u)).map (·.2)).getD c.clk.cyc)
    (hd : d = (c.setBit (Od.UG_STATUS u) 1 true).updUio fun x => { x with
      ugStart := x.ugStart.filter (·.1 != u) ++ [(u, t)] }) (done : Bool) : c.ugRecovered u done =
    if done then
      ((((d.atCyc (t + ms 100)).updUio fun x => { x with ugStart := x.ugStart.filter (·.1 != u) }).setBit
        (Od.UG_STATUS u) 0 false).setBit (Od.UG_STATUS u) 1 false).log1 0x070C u
    else d := by
  subst hd ht
  refine (if_neg (by simp [hrun, hlow])).trans ?_
  cases done <;> rfl

end GroupSupplies

/-- Settles O18: none of the guards stops the events of a stage in the state that the clause gives, nor those of a group's
supply; a UIO.ACK passes the checks and waits. -/
theorem universalOutputEventsComplete : Obligations.UniversalOutputEventsComplete := by
  intro s c hs
  refine ⟨fun i hlive => ⟨fun hdriving => ⟨?_, ?_⟩, ?_, fun hmode d hd => ⟨?_, ?_, ?_⟩, ?_, ?_, ?_, ?_⟩, fun p i hm => ?_,
    fun u hrun => ⟨?_, ?_, fun t d hlow ht hd => ⟨?_, ?_⟩⟩⟩
  · exact fun d hd => exec_act_finds (exec_compliance i true s) hs (Core.complianceChange_lost hdriving hd)
  · exact fun hfail => exec_act_finds (exec_failActive i s) hs (Core.failActive_driving hdriving hfail)
  · exact fun hout => exec_act_finds (exec_compliance i false s) hs (Core.complianceChange_returned hlive hout)
  · exact exec_act_finds (exec_passiveContactLoss i true s) hs
      (Core.contactLoss_passive hlive hmode true (by simp only [Bool.not_true, Bool.and_false, hd]))
  · exact exec_act_finds (exec_passiveContactLoss i false s) hs (Core.contactLoss_passive hlive hmode false rfl)
  · exact exec_act_finds (exec_passiveStartUp i s) hs (Core.passiveStart_passive hlive hmode)
  · exact fun tj hmode hhot => exec_act_finds (exec_thermalLimit i tj s) hs (Core.thermalLimited_hot hlive hmode hhot)
  · exact fun hmode hoff => exec_act_finds (exec_thermalOff i s) hs (Core.thermalOff_used hlive hmode hoff)
  · exact fun tj d hd => exec_act_finds (exec_uioThermalRestart i tj s) hs (Core.thermalRestart_live hlive tj hd)
  · exact fun short hmode => exec_act_finds (exec_voutShort i short s) hs (Core.voutShort_voltage hlive hmode short)
  · exact (exec_uioAck p i 1 s).trans (State.act_uioAck hs hm)
  · exact fun hcount hlow => exec_act_finds (exec_ugSupplyLow u s) hs (Core.ugSupplyLow_first hrun hcount rfl hlow)
  · exact fun hcount hlow => exec_act_finds (exec_ugSupplyLow u s) hs (Core.ugSupplyLow_again hrun hcount rfl hlow)
  · exact exec_act_finds (exec_ugSupplyRecovered u false s) hs (Core.ugRecovered_low hrun hlow ht hd false)
  · exact exec_act_finds (exec_ugSupplyRecovered u true s) hs (Core.ugRecovered_low hrun hlow ht hd true)

/-! ## HART -/

/-- A long frame without a device address ends its transaction at once (R291). -/
theorem Core.hartRequest_addressless {c : Core} {i : Nat} {req : Bytes} (hlong : (leAt req 0 1).testBit 0 = false)
    (hid : c.rd (Od.HART_UNIQUE_ID i) = 0) : c.hartRequest i req =
      ((c.updHart i fun h => { h with req := some req, ident := false, attempts := 1 }).setHart i 3).hartEnd i 5 :=
  if_pos (by simp only [hlong, hid]; decide)

/-- Any other request begins with its first attempt (R289, R291). -/
theorem Core.hartRequest_addressed {c : Core} {i : Nat} {req : Bytes}
    (h : (leAt req 0 1).testBit 0 = true ∨ c.rd (Od.HART_UNIQUE_ID i) ≠ 0) :
    c.hartRequest i req = (c.hartBegin i req false).setHart i 3 := by
  have hgo : (!(leAt req 0 1).testBit 0 && c.rd (Od.HART_UNIQUE_ID i) == 0) = false := by
    rcases h with hshort | hid
    · rw [hshort]; rfl
    · rw [beq_eq_false_iff_ne.mpr hid, Bool.and_false]
  exact if_neg (ne_true_of_eq_false hgo)

/-- What a right answer to a request of identification makes of the core (R290, R292). -/
def Core.hartIdentified (c : Core) (i : Nat) (f : HartFrame) : Core :=
  ((((c.wr (Od.HART_UNIQUE_ID i) (Config.hartAddress (f.data.drop 2) % 2 ^ 40)).deviceStatus i f).updHart i fun h =>
    { h with req := none, ident := false, attempts := 0 }).hartHeard i).setHart i 2

/-- What one to a request of the user makes of it (R291, R292). -/
def Core.hartAnswered (c : Core) (i : Nat) (f : HartFrame) : Core :=
  (((((c.setDom (Od.HART_RSP i) (c.hartValid f (c.hart i).attempts)).inc32 (Od.HART_TRANSACTIONS i)).deviceStatus
    i f).hartHeard i).updHart i fun h => { h with req := none, attempts := 0 }).setHart i 2

section Frames

variable {c : Core} {i : Nat} {bytes : Bytes} {f : HartFrame}

/-- HART that can transact is on (R288). -/
theorem Core.hartOn_of_hartCan (hcan : c.hartCan i = true) : c.hartOn i = true := by
  simp only [Core.hartCan, Bool.and_eq_true] at hcan
  exact hcan.1

section Requests

variable (hf : f = hartParse bytes) (hcan : c.hartCan i = true) (hreq : (c.hart i).req.isSome = true)
include hf hcan hreq

/-- A response heard while a request is in progress (R289, R290, R292). -/
theorem Core.hartResponse_requested (parity : Bool) : c.hartResponse i bytes parity =
    if !parity || !f.checkOk || f.count < 2 then c.hartFailed i 3
    else if !hartAnswers (hartParse (c.hart i).frame) f then if c.hartHears i f then c.deviceStatus i f else c
    else if (c.hart i).ident then c.hartIdentified i f else c.hartAnswered i f := by
  subst hf
  exact (if_neg (by simp [Core.hartOn_of_hartCan hcan])).trans
    (if_neg (by simp [hcan, Option.isSome_iff_ne_none.mp hreq]))

/-- One with a parity or check error, or too short for one, is a failed attempt (R289). -/
theorem Core.hartResponse_wrong {parity : Bool} (hwrong : parity = false ∨ f.checkOk = false ∨ f.count < 2) :
    c.hartResponse i bytes parity = c.hartFailed i 3 := by
  rw [Core.hartResponse_requested hf hcan hreq]
  exact if_pos (by simpa [or_assoc] using hwrong)

/-- A right one that answers the request ends the transaction, as identification or for the user (R290, R291). -/
theorem Core.hartResponse_answering (hok : f.checkOk = true) (hcount : 2 ≤ f.count)
    (hanswers : hartAnswers (hartParse (c.hart i).frame) f = true) : c.hartResponse i bytes true =
    if (c.hart i).ident then c.hartIdentified i f else c.hartAnswered i f := by
  rw [Core.hartResponse_requested hf hcan hreq]
  exact (if_neg (by simp [hok, Nat.not_lt.mpr hcount])).trans (if_neg (by simp [hanswers]))

end Requests

section Heard

variable (hf : f = hartParse bytes) (hon : c.hartOn i = true)
include hf hon

/-- A right frame of the configured device that answers no request (R292). -/
theorem Core.hartResponse_unasked (hhears : c.hartHears i f = true)
    (hno : c.hartCan i = false ∨ (c.hart i).req = none ∨ hartAnswers (hartParse (c.hart i).frame) f = false) :
    c.hartResponse i bytes true = c.deviceStatus i f := by
  by_cases hgo : c.hartCan i = true ∧ (c.hart i).req.isSome = true
  · obtain ⟨hcan, hreq⟩ := hgo
    have hanswers : hartAnswers (hartParse (c.hart i).frame) f = false := by
      simpa [hcan, Option.isSome_iff_ne_none.mp hreq] using hno
    have ⟨⟨hok, hcount⟩, _⟩ : (f.checkOk = true ∧ 2 ≤ f.count) ∧ c.hartFrom i f = true := by
      simpa only [Core.hartHears, Bool.and_eq_true, decide_eq_true_eq] using hhears
    rw [Core.hartResponse_requested hf hcan hreq]
    exact (if_neg (by simp [hok, Nat.not_lt.mpr hcount])).trans ((if_pos (by simp [hanswers])).trans (if_pos hhears))
  · subst hf
    refine (if_neg (by simp [hon])).trans ((if_pos ?_).trans (if_pos (by simp [hhears])))
    simpa [imp_iff_not_or] using hgo

/-- A burst frame of the device (R292). -/
theorem Core.hartBurst_heard (hhears : c.hartHears i f = true) : c.hartBurst i bytes =
    (((c.setDom (Od.HART_BURST i) (c.hartValid f (c.fresh 8))).used 1).inc32 (Od.HART_BURST_COUNT i)).deviceStatus i f := by
  subst hf
  exact if_neg (by simp [hon, hhears])

/-- A frame of the device to another master (R292). -/
theorem Core.hartOther_heard (hhears : c.hartHears i f = true) : c.hartOther i bytes = c.deviceStatus i f := by
  subst hf
  exact if_neg (by simp [hon, hhears])

end Heard

section Foreign

variable (hf : f = hartParse bytes) (hforeign : c.hartHears i f = false)
include hf hforeign

/-- A burst frame of another device (R292). -/
theorem Core.hartBurst_foreign : c.hartBurst i bytes = c := by
  subst hf
  exact if_pos (by simp [hforeign])

/-- A frame of another device to another master (R292). -/
theorem Core.hartOther_foreign : c.hartOther i bytes = c := by
  subst hf
  exact if_pos (by simp [hforeign])

end Foreign

/-- No response to a request in progress is a failed attempt (R289). -/
theorem Core.hartTimeout_requested (hon : c.hartOn i = true) (hreq : (c.hart i).req.isSome = true) :
    c.hartTimeout i = c.hartFailed i 2 :=
  if_pos (by simp [hon, hreq])

/-- The poll of a channel that identifies begins with command 0, 5 s after the last (R290). -/
theorem Core.hartPoll_identifying (hcan : c.hartCan i = true) (hstate : c.rd (Od.HART_STATE i) = 1) {d : Core}
    (hd : d = match (c.hart i).polled with | some t => c.atCyc (t + ms 5000) | none => c) :
    c.hartPoll i = (d.hartBegin i hartIdentReq true).updHart i fun h => { h with polled := some d.clk.cyc } := by
  subst hd
  exact if_neg (by simp [hcan, hstate])

end Frames

/-- Settles O19: a request and a cancellation pass the checks; whether a request is in progress and a frame answers it, and
whether it is the device's, decide what a frame heard does. -/
theorem hartCommandsComplete : Obligations.HartCommandsComplete := by
  intro s c i hs
  refine ⟨fun p req hm hmin hlen hmax hok d hd => ⟨fun hlong hid => ?_, fun haddr e he => ?_⟩, fun p hm => ?_,
    fun bytes f hf => ⟨fun hcan hreq => ⟨fun parity hwrong => ?_, fun hcheck hcount hanswers => ⟨fun hident => ?_,
      fun huser => ?_⟩⟩, fun hon => ⟨fun hhears hno => ?_, fun hreq => ?_, fun hhears => ⟨?_, ?_⟩, fun hforeign => ⟨?_, ?_⟩⟩⟩,
    fun d e hcan hstate hd he => ?_⟩
  · rw [exec_hartReq, State.act_hartReq hs hm hmin hlen hmax hok, ← hd, Core.hartRequest_addressless hlong hid]
  · rw [exec_hartReq, State.act_hartReq hs hm hmin hlen hmax hok, ← hd, Core.hartRequest_addressed haddr, he]
    rfl
  · exact (exec_hartCancel p i 1 s).trans (State.act_hartCancel hs hm)
  · exact exec_act_finds (exec_hartResponseRx i bytes parity s) hs (Core.hartResponse_wrong hf hcan hreq hwrong)
  · exact exec_act_finds (exec_hartResponseRx i bytes true s) hs
      ((Core.hartResponse_answering hf hcan hreq hcheck hcount hanswers).trans (if_pos hident))
  · exact exec_act_finds (exec_hartResponseRx i bytes true s) hs
      ((Core.hartResponse_answering hf hcan hreq hcheck hcount hanswers).trans (if_neg (ne_true_of_eq_false huser)))
  · exact exec_act_finds (exec_hartResponseRx i bytes true s) hs (Core.hartResponse_unasked hf hon hhears hno)
  · exact exec_act_finds (exec_hartTimeout i s) hs (Core.hartTimeout_requested hon hreq)
  · exact exec_act_finds (exec_hartBurstRx i bytes s) hs (Core.hartBurst_heard hf hon hhears)
  · exact exec_act_finds (exec_hartOtherMasterFrameRx i bytes s) hs (Core.hartOther_heard hf hon hhears)
  · exact exec_act_finds (exec_hartBurstRx i bytes s) hs (Core.hartBurst_foreign hf hforeign)
  · exact exec_act_finds (exec_hartOtherMasterFrameRx i bytes s) hs (Core.hartOther_foreign hf hforeign)
  · subst he
    exact exec_act_finds (exec_hartIdentifyPoll i s) hs (Core.hartPoll_identifying hcan hstate hd)

end Sys2Proof.Machine
end

section
/-! The statements of the safety functions (chapter 08): the times of safe-input pairs and axes with the check of the
safety configuration (O20), and the reception of Scrim (O21). -/

namespace Sys2Proof.Machine

/-! ## The passing of time -/

/-- Time that passes leaves the copies of a pair. -/
@[simp] theorem Core.atCyc_sinEval (c : Core) (t p : Nat) : (c.atCyc t).sinEval p = c.sinEval p := rfl

/-- Time that passes leaves whether a pair runs. -/
@[simp] theorem Core.atCyc_sinRuns (c : Core) (t p : Nat) : (c.atCyc t).sinRuns p = c.sinRuns p := rfl

/-- Time that passes leaves FAULT of an axis. -/
@[simp] theorem Core.atCyc_axisFault (c : Core) (t k : Nat) : (c.atCyc t).axisFault k = c.axisFault k := rfl

/-- Time that passes leaves SCRIM.STATE. -/
@[simp] theorem Core.atTime_scrimLive (c : Core) (t r : Nat) : (c.atTime t).scrimLive r = c.scrimLive r := rfl

/-! ## Safe-input pairs and the safety configuration -/

/-- The time of a pair that is not in FAULT passes; a majority that it brings to FAULT is counted and reported (R302). -/
theorem Core.sinElapse_unfaulted {c : Core} {p : Nat} (hruns : c.sinRuns p = true) (heval : c.sinEval p ≠ 4)
    (new : Bool) {d : Core} (hd : d = c.updEvals p (PairEval.elapse (ms (c.rd (Od.SIN_DISC_MS p))) c.clk.cyc new
      (!(c.sinLevels p).1 && !(c.sinLevels p).2) (c.sinTpFault p))) :
    c.sinElapse p new = if d.sinEval p = 4 then d.sinFaulted p 1 else d := by
  subst hd
  refine (if_neg (by simp [hruns])).trans ?_
  simp only [bne_iff_ne.mpr heval, Bool.true_and, decide_eq_true_eq]

/-- A pair in CLOSING or OPENING reaches its discrepancy time (R302). -/
theorem Core.sinDiscrepancy_reached {c : Core} {p t : Nat} (hruns : c.sinRuns p = true)
    (heval : c.sinEval p = 1 ∨ c.sinEval p = 3) (ht : t = ((c.safety.evals.getD 0 []).getD p PairEval.fresh).t) :
    c.sinDiscrepancy p = (c.atCyc (t + ms (c.rd (Od.SIN_DISC_MS p)))).sinElapse p false := by
  subst ht
  exact if_neg (by simpa [hruns] using or_iff_not_imp_left.mp heval)

/-- The check of the safety configuration, one second after the last (R310). -/
theorem Core.crcCheck_made {c : Core} (hfuse : c.safetyFuse ≠ 0) (hwork : c.tickWork = true) {d : Core}
    (hd : d = c.atCyc (c.safety.crcAt + ms 1000)) :
    c.crcCheck =
      ((d.updSafety fun x => { x with crcAt := d.clk.cyc }).wr Od.SAFE_CFG_CRC d.safetyCrc).judgeAvailable := by
  subst hd
  exact if_neg (by simp [hfuse, hwork])

/-! ## Axes -/

section Axes

variable {c : Core} {k t : Nat}

/-- An axis in FAULT whose sources have agreed for the tolerance time (R313). -/
theorem Core.axisJudge_clears (hfault : c.axisFault k = true)
    (hgood : lasted (c.axis k).good (ms (c.rd (Od.AXIS_SRC_TOL_MS k))) c.clk.cyc = true) :
    c.axisJudge k = c.setBit (Od.AXIS_STATUS k) 4 false :=
  (if_pos hfault).trans (if_pos hgood)

/-- An axis whose sources have differed, or one been invalid, for the tolerance time (R313). -/
theorem Core.axisJudge_faults (hfault : c.axisFault k = false)
    (hbad : lasted (c.axis k).apart (ms (c.rd (Od.AXIS_SRC_TOL_MS k))) c.clk.cyc = true ∨
      lasted (c.axis k).invalid (ms (c.rd (Od.AXIS_SRC_TOL_MS k))) c.clk.cyc = true) :
    c.axisJudge k = (c.setBit (Od.AXIS_STATUS k) 4 true).fault' 0x0806 (unitSf ((c.axisFn k).getD k)) :=
  (if_neg (ne_true_of_eq_false hfault)).trans (if_pos (Bool.or_eq_true_iff.mpr hbad))

variable (hcnt : c.rd (Od.AXIS_CNT k) ≠ 0xFF) (hwork : c.tickWork = true)
include hcnt hwork

/-- In FAULT the agreement of the sources is timed (R313). -/
theorem Core.axisDeadline_faulted (hfault : c.axisFault k = true) (hgood : (c.axis k).good = some t) :
    c.axisDeadline k = (c.atCyc (t + ms (c.rd (Od.AXIS_SRC_TOL_MS k)))).axisJudge k := by
  refine (if_neg (by simp [hcnt, hwork])).trans ?_
  simp only [hfault, hgood, if_true]

/-- Without a fault their difference is timed, or the invalid source (R313). -/
theorem Core.axisDeadline_unfaulted (hfault : c.axisFault k = false)
    (hbad : (c.axis k).apart = some t ∧ (c.axis k).invalid = none ∨
      (c.axis k).apart = none ∧ (c.axis k).invalid = some t) :
    c.axisDeadline k = (c.atCyc (t + ms (c.rd (Od.AXIS_SRC_TOL_MS k)))).axisJudge k := by
  refine (if_neg (by simp [hcnt, hwork])).trans ?_
  rcases hbad with ⟨hapart, hinvalid⟩ | ⟨hapart, hinvalid⟩ <;>
    simp only [hfault, hapart, hinvalid, Bool.false_eq_true, if_false]

end Axes

/-- Settles O20: none of the guards stops the three commands; time that passes leaves the states of a pair and FAULT of an
axis, which decide what its end does. -/
theorem safetyInputAndAxisTimersComplete : Obligations.SafetyInputAndAxisTimersComplete := by
  intro s c hs
  refine ⟨fun p t d hruns heval ht hd => exec_act_finds (exec_sinDiscrepancy p s) hs ?_,
    fun hfuse hwork d hd => exec_act_finds (exec_safetyCrcCheck s) hs (Core.crcCheck_made hfuse hwork hd),
    fun k t d hcnt hwork hd => ⟨fun hfault hgood hlasted => exec_act_finds (exec_axisFault k s) hs ?_,
      fun hfault hbad hlasted => exec_act_finds (exec_axisFault k s) hs ?_⟩⟩
  · rw [Core.sinDiscrepancy_reached hruns heval ht]
    exact Core.sinElapse_unfaulted ((c.atCyc_sinRuns _ p).trans hruns) (by rw [c.atCyc_sinEval]; omega) false hd
  · subst hd
    rw [Core.axisDeadline_faulted hcnt hwork hfault hgood]
    exact Core.axisJudge_clears ((c.atCyc_axisFault _ k).trans hfault) hlasted
  · subst hd
    rw [Core.axisDeadline_unfaulted hcnt hwork hfault hbad]
    exact Core.axisJudge_faults ((c.atCyc_axisFault _ k).trans hfault) hlasted

/-! ## Copies of Scrim telegrams -/

/-- A frame of its KIND with a right header is taken without it (R386). -/
theorem Core.kindRx_header {c : Core} {kind : Nat} {frame : Bytes} (hrun : c.clk.running = true)
    (hlen : 4 ≤ frame.length) (hkind : beAt frame 0 1 = kind) (hver : beAt frame 1 1 = 1)
    (hsize : beAt frame 2 2 + 4 = frame.length) (n : Nat) (take : Core → Bytes → Core) : c.kindRx kind n frame take = take c (frame.drop 4) := by
  unfold Core.kindRx
  rw [if_neg (by simp [hrun]), if_pos (by simp [hkind, hver, hsize, hlen])]

/-- A copy that names an RX connection is checked there (R319). -/
theorem Core.scrimCopyRx_named {c : Core} {r : Nat} {x : Bytes} (hfuse : c.safetyFuse ≠ 0) (htimed : c.timed = true)
    (hconn : c.rxConn (beAt x 2 2) = some r) (path : Nat) :
    c.scrimCopyRx path x =
      if c.copyValid r path x then c.scrimArrive r ⟨path, c.clk.now, beAt x 0xC 8, x⟩
      else c.inc32 (if path = 0 then Od.SCRIM_INVALID_A r else Od.SCRIM_INVALID_B r) := by
  refine (if_neg (by simp [hfuse, htimed])).trans ?_
  simp only [hconn]

section Arrival

variable {c d : Core} {r : Nat} (hd : d = c.scrimExpire r)
include hd

/-- A copy is held where none is (R319). -/
theorem Core.scrimArrive_first (hpend : (d.conn r).pend = none) (x : ScrimCopy) :
    c.scrimArrive r x = d.updConn r fun k => { k with pend := some x } := by
  subst hd
  simp only [Core.scrimArrive, hpend]

variable {q x : ScrimCopy} (hpend : (d.conn r).pend = some q)
include hpend

/-- Its twin on the other network is decided with it if they agree (R319). -/
theorem Core.scrimArrive_twin (hseq : beAt q.bytes 8 4 = beAt x.bytes 8 4) (hpath : q.path ≠ x.path) :
    c.scrimArrive r x =
      let e := d.updConn r fun k => { k with pend := none }
      if samePart q.bytes = samePart x.bytes then e.scrimDecide r x 2
      else (e.inc32 (Od.SCRIM_DISAGREE r)).log1 0x0807 r := by
  subst hd
  simp only [Core.scrimArrive, hpend]
  exact if_pos (by simp [hseq, hpath])

/-- Any other copy takes the place of the one held, which is decided alone (R319). -/
theorem Core.scrimArrive_other (hother : beAt q.bytes 8 4 ≠ beAt x.bytes 8 4 ∨ q.path = x.path) :
    c.scrimArrive r x = (d.scrimAlone r q).updConn r fun k => { k with pend := some x } := by
  subst hd
  simp only [Core.scrimArrive, hpend]
  refine if_neg ?_
  rw [Bool.and_eq_true, beq_iff_eq, bne_iff_ne]
  rintro ⟨hseq, hpath⟩
  exact hother.elim (· hseq) hpath

end Arrival

/-- The wait of a held copy ends (R319). -/
theorem Core.scrimSkew_held {c : Core} {r : Nat} {q : ScrimCopy} (hpend : (c.conn r).pend = some q) :
    c.scrimSkew r = ((c.atTime (q.arrival + us (c.rd (Od.SCRIM_SKEW_US r)))).updConn r fun k =>
      { k with pend := none }).scrimAlone r q := by
  simp only [Core.scrimSkew, hpend]

/-! ## The watchdog of a connection -/

/-- A live connection without a new telegram at the boundary after its watchdog time (R321). -/
theorem Core.scrimWatch_timedOut {c : Core} {r n : Nat} (hlive : c.scrimLive r = true) (hperiod : c.period ≠ 0)
    (hnone : (c.conn r).waiting = [])
    (hlate : (c.conn r).tick + (ms (c.rd (Od.SCRIM_WD_MS r)) + c.period - 1) / c.period < n) :
    c.scrimWatch r n = ((c.inc32 (Od.SCRIM_TIMEOUTS r)).updConn r fun k => { k with snap := none }).setScrim r 4 := by
  unfold Core.scrimWatch
  dsimp only
  rw [if_neg hperiod]
  exact if_pos (by simp [hlive, hnone, hlate])

/-- An RX connection that is live is watched at the next boundary (R321). -/
theorem Core.scrimWatchdog_live {c : Core} {r : Nat} (hdir : c.rd (Od.SCRIM_DIR r) = 2) (hrun : c.clk.running = true)
    (hlive : c.scrimLive r = true) :
    c.scrimWatchdog r = (c.atTime c.clk.nextB).scrimWatch r (c.rd Od.TICK_COUNT + 1) :=
  if_neg (by simp [hdir, hrun, hlive])

/-- Settles O21: a right header leads a copy to the connection it names, whose checks and held copy decide what it does; a
held copy whose wait ends and a live connection past its watchdog time are stopped by no guard. -/
theorem scrimCommandsComplete : Obligations.ScrimCommandsComplete := by
  intro s c r hs
  refine ⟨fun n frame x hrun htimed hfuse hlen hkind hver hsize hx hconn => ?_,
    fun q hpend => exec_act_finds (exec_scrimSkewExpiry r s) hs (Core.scrimSkew_held hpend),
    fun d hdir hrun hlive hd hperiod hnone hlate => exec_act_finds (exec_scrimWatchdog r s) hs ?_⟩
  · subst hx
    have hrx := (Core.kindRx_header hrun hlen hkind hver hsize n fun c x => c.scrimCopyRx n x).trans
      (Core.scrimCopyRx_named hfuse htimed hconn n)
    refine ⟨fun hwrong => exec_act_finds (exec_scrimCopyRx n frame s) hs
        (hrx.trans (if_neg (ne_true_of_eq_false hwrong))),
      fun d y hvalid hd hy => ?_⟩
    subst hy
    have harrive := hrx.trans (if_pos hvalid)
    refine ⟨fun hpend => exec_act_finds (exec_scrimCopyRx n frame s) hs
        (harrive.trans (Core.scrimArrive_first hd hpend _)),
      fun q hpend => ⟨fun hseq hpath => exec_act_finds (exec_scrimCopyRx n frame s) hs
          (harrive.trans (Core.scrimArrive_twin hd hpend hseq hpath)),
        fun hother => exec_act_finds (exec_scrimCopyRx n frame s) hs
          (harrive.trans (Core.scrimArrive_other hd hpend hother))⟩⟩
  · subst hd
    rw [Core.scrimWatchdog_live hdir hrun hlive]
    exact Core.scrimWatch_timedOut ((c.atTime_scrimLive _ r).trans hlive) hperiod hnone hlate

end Sys2Proof.Machine
end

section
/-! The statements of the redundant pair (chapter 09): the partner, the lanes and the field (O22), steps, copies and roles
(O23), heartbeats (O24) and the orders of the witness (O25). -/

namespace Sys2Proof.Machine

/-! ## The partner and the lanes -/

section Partner

variable {c : Core} (halive : c.alive = true)
include halive

/-- The identity of a pair member's partner is judged, and UNFIT clears (R334, R346; log entry 197). -/
theorem Core.identityExchange_member (hmember : c.pairMember = true) {x : Identity} {why : Nat} {d : Core}
    (hwhy : why = c.refuseReason x)
    (hd : d = (((c.updPair fun p => { p with present := true, announced := x.role }).wr Od.PAIR_REFUSE_REASON why).setPairBit
      psPartnerAbsent false).setPairBit psUnfit false) :
    c.identityExchange x =
      if why = 0 then d.setPairBit psPartnerRefused false
      else if d.role = .active ∧ d.pair.detected = true then d.setPairBit psPartnerRefused true
      else ({ d with role := .alone }.setPairBit psRefused true).fault' 0x0902 unitPair := by
  subst hwhy hd
  refine (if_neg (by simp [halive, hmember])).trans ?_
  simp only [Bool.and_eq_true, beq_iff_eq]

section Lanes

variable (hpair : c.pairEn = true)
include hpair

/-- A lane that was up goes down (R335). -/
theorem Core.laneChange_down {l : Nat} (hup : c.pair.lanes.getD l true = true) (hl : l < c.pair.lanes.length) :
    c.laneChange l false =
      ((c.updPair fun p => { p with lanes := setAt p.lanes l false }).inc32 Od.PAIR_LANE_ERRORS).log 0x090C := by
  have hstood : c.pair.lanes.getD l false = true := by
    rwa [List.getD_eq_getElem _ _ hl] at hup ⊢
  exact if_neg (by simp only [halive, hpair, hstood]; decide)

/-- A lane that was down comes up (R335). -/
theorem Core.laneChange_up {l : Nat} (hdown : c.pair.lanes.getD l true = false) :
    c.laneChange l true = (c.updPair fun p => { p with lanes := setAt p.lanes l true }).log 0x090C :=
  if_neg (by simp only [halive, hpair, hdown]; decide)

/-- The detector finds the partner toggling (R337). -/
theorem Core.togglingDetected_pair : c.togglingDetected = c.setPairBit psPartnerToggling true :=
  if_pos (by simp [halive, hpair])

section Loss

variable (htoggling : c.partnerToggling = true) {d : Core} (hd : d = c.setPairBit psPartnerToggling false) (gap : Nat)
include htoggling hd

/-- A STANDBY that may take the field takes it when its partner is lost (R340, R352). -/
theorem Core.takeoverOnLoss_standby (hrole : d.pairRole = .standby) (hmoves : d.roleMoves = true) :
    c.takeoverOnLoss gap = (((if d.pair.order.isSome then d.orderIgnored else d).takeField gap).inc32
      Od.PAIR_TAKEOVERS_LOSS).fault' 0x0903 unitPair := by
  subst hd
  refine (if_neg (by simp [halive, hpair, htoggling])).trans ?_
  simp only [hrole, hmoves, Bool.not_true, Bool.false_eq_true, if_false]

/-- A SYNCING module that waits for nothing starts cold when its partner is lost (R354; log entry 94). -/
theorem Core.takeoverOnLoss_syncing (hrole : d.pairRole = .syncing) (hcold : d.coldMay = true) :
    c.takeoverOnLoss gap = d.coldStart := by
  subst hd
  refine (if_neg (by simp [halive, hpair, htoggling])).trans ?_
  simp only [hrole, hcold, if_true]

end Loss

section Release

variable {d : Core} (hd : d =
  (c.updPair fun p => { p with released := some (c.rd Od.TICK_COUNT) }).setPairBit psPartnerToggling false) (gap : Nat)
include hd

/-- A STANDBY that took the order takes the field with the RELEASE of its partner (R341). -/
theorem Core.releaseRx_ordered (hrole : d.pairRole = .standby) (hacked : d.pair.acked = true)
    (horder : d.pair.order.isSome = true) (hmoves : d.roleMoves = true) :
    c.releaseRx gap = (((d.updPair fun p => { p with order := none, acked := false }).takeField gap).inc32
      Od.PAIR_HANDOVERS).log 0x0904 := by
  subst hd
  exact (if_neg (by simp [halive, hpair])).trans (if_pos (by simp [hrole, hacked, horder, hmoves]))

/-- In any other module a RELEASE ends the partner's toggling alone (R341). -/
theorem Core.releaseRx_unordered (hno : d.pairRole ≠ .standby ∨ d.pair.order = none) : c.releaseRx gap = d := by
  subst hd
  refine (if_neg (by simp [halive, hpair])).trans (if_neg ?_)
  rcases hno with hrole | horder
  · simp [hrole]
  · simp [horder]

end Release
end Lanes

/-- Both lines have toggled for 20 µs: the secondary yields (R339). -/
theorem Core.tiebreak_secondary (hmember : c.pairMember = true) (hunit : c.rd Od.PAIR_UNIT = 1) {t : Nat}
    (hboth : c.pair.both = some t) :
    c.tiebreak = ((c.atCyc (t + us 20)).becomeSyncing.inc32 Od.PAIR_TIEBREAKS).fault' 0x090D unitPair := by
  unfold Core.tiebreak
  simp only [hboth]
  exact if_neg (by simp [halive, hmember, hunit])

end Partner

/-- Settles O22: a powered module of a pair is stopped by no guard; its role and what it may do decide what the loss of its
partner and a RELEASE make of it. -/
theorem pairPresenceCommandsComplete : Obligations.PairPresenceCommandsComplete := by
  intro s c hs
  have ⟨_, halive⟩ := hs
  refine ⟨fun x why d hmember hwhy hd => exec_act_finds (exec_pairingIdentityExchange x s) hs
      (Core.identityExchange_member halive hmember hwhy hd),
    fun hpair => ⟨fun l => ⟨fun hup hl => ?_, fun hdown => ?_⟩, ?_,
      fun gap d htoggling hd => ⟨fun hrole hmoves => ?_, fun hrole hcold => ?_⟩,
      fun gap d hd => ⟨fun hrole hacked horder hmoves => ?_, fun hno => ?_⟩⟩,
    fun htoggling => exec_act_finds (exec_activeToggleStop s) hs (if_pos htoggling),
    fun t hboth hunit hmember => exec_act_finds (exec_tiebreak s) hs
      (Core.tiebreak_secondary halive hmember hunit hboth)⟩
  · exact exec_act_finds (exec_laneDown l s) hs (Core.laneChange_down halive hpair hup hl)
  · exact exec_act_finds (exec_laneUp l s) hs (Core.laneChange_up halive hpair hdown)
  · exact exec_act_finds (exec_partnerTogglingDetected s) hs (Core.togglingDetected_pair halive hpair)
  · exact exec_act_finds (exec_takeoverOnLoss gap s) hs
      (Core.takeoverOnLoss_standby halive hpair htoggling hd gap hrole hmoves)
  · exact exec_act_finds (exec_takeoverOnLoss gap s) hs
      (Core.takeoverOnLoss_syncing halive hpair htoggling hd gap hrole hcold)
  · exact exec_act_finds (exec_releaseRx gap s) hs
      (Core.releaseRx_ordered halive hpair hd gap hrole hacked horder hmoves)
  · exact exec_act_finds (exec_releaseRx gap s) hs (Core.releaseRx_unordered halive hpair hd gap hno)

/-! ## Step records and copies -/

/-- The records that a module of a pair which follows its partner keeps, and the copies with a wrong CRC (R335, R344). -/
theorem Core.stepRecordRx_follower {c : Core} (halive : c.alive = true) (hmember : c.pairMember = true)
    (hrole : c.role = .standby ∨ c.role = .syncing) {x : StepRecord} {d : Core}
    (hd : d = c.addW 32 Od.PAIR_LANE_ERRORS (x.lanes.filter not).length) :
    c.stepRecordRx x = if true ∈ x.lanes then
      (d.updPair fun p => { p with record := some x, recordAt := d.clk.cyc }).wr Od.PAIR_REC_BYTES x.size else d := by
  have hcrc : x.crcOk = true ↔ true ∈ x.lanes := by simp [StepRecord.crcOk]
  subst hd
  refine (if_neg (by simpa [halive, hmember, imp_iff_not_or] using hrole)).trans ?_
  by_cases hkept : true ∈ x.lanes
  · exact (if_neg (by simp [hcrc.mpr hkept])).trans (if_pos hkept).symm
  · exact (if_pos (by simpa using mt hcrc.mp hkept)).trans (if_neg hkept).symm

/-- A STANDBY without a record is demoted (R347). -/
theorem Core.recordWaitExpiry_standby {c : Core} (halive : c.alive = true) (hrole : c.role = .standby)
    (hheld : c.roleHeld = false) :
    c.recordWaitExpiry = (c.atCyc (c.pair.recordAt + ms (c.rd Od.PAIR_RECORD_WAIT_MS))).demote :=
  if_neg (by simp [halive, hrole, hheld])

/-- A STANDBY that re-synchronises adopts the copy (R346). -/
theorem Core.resyncAdopt_resyncing {c : Core} (hrun : c.clk.running = true) (hrole : c.role = .standby)
    (hresync : c.pairBit psResyncing = true) (x : PairCopy) :
    c.resyncAdopt x =
      ((((c.atTime c.clk.nextB).adopt x).setPairBit psResyncing false).inc32 Od.PAIR_RESYNCS).log 0x0906 :=
  if_neg (by simp [hrun, hrole, hresync])

/-- A SYNCING module that is locked and waits for nothing becomes STANDBY with the transfer (R351; log entry 153). -/
theorem Core.creelAdopt_locked {c : Core} (hrun : c.clk.running = true) (hmember : c.pairMember = true)
    (hrole : c.role = .syncing) (hheld : c.pair.held = false) (hwait : c.pair.startWait = none)
    (hlocked : c.clk.state = TimeState.locked) (hmay : c.mayTake = true ∨ c.run = .init) {x : PairCopy} {d e : Core}
    (hd : d = (c.atTime c.clk.nextB).adopt x)
    (he : e = if d.run = .run then { d with role := .standby }.armRunning else { d with role := .standby }) :
    c.creelAdopt x = (e.updPair fun p => { p with recordAt := e.clk.cyc, runs := [], latch := [] }).log 0x0901 := by
  subst he hd
  refine (if_neg (by simpa [hrun, hmember, hrole, hheld, hwait, hlocked, imp_iff_not_or] using hmay)).trans ?_
  simp only [beq_iff_eq]

/-! ## Roles at the start -/

/-- The role of R350. -/
theorem Core.partnerDetection_role {c : Core} (hinit : c.run = .init) (hstart : c.react.startDone = true)
    (htime : c.pwr.acqOver = true ∨ c.clk.locked = true ∨ c.clk.source = 0) (hnew : c.pair.detected = false)
    (hheld : c.roleHeld = false) {d : Core} (hd : d = c.updPair fun p => { p with startWait := none, detected := true }) :
    c.partnerDetection =
      if d.pairMember = false then
        { d with role := if d.roleFuse = 3 ∨ d.rd Od.WIT_ENABLE = 1 then .witness else .alone }
      else if d.pairBit psRefused then { d with role := .alone }
      else if d.partnerToggling then { d with role := .syncing }
      else if d.rd Od.PAIR_UNIT = 0 then d.startActive
      else { d with role := .syncing }.updPair fun p => { p with startWait := some d.clk.cyc } := by
  subst hd
  refine (if_pos (by simpa [hinit, hstart, hnew, hheld, or_assoc] using htime)).trans ?_
  simp only [Core.detectRole, Bool.not_eq_true', Bool.or_eq_true, beq_iff_eq]

/-- The end of a secondary's wait at its start (R350). -/
theorem Core.startWaitExpiry_waiting {c : Core} (halive : c.alive = true) (hheld : c.roleHeld = false) {t : Nat} {d : Core}
    (hwait : c.pair.startWait = some t)
    (hd : d = (c.atCyc (t + ms (c.rd Od.PAIR_START_WAIT_MS))).updPair fun p => { p with startWait := none }) :
    c.startWaitExpiry = if d.partnerToggling then d else d.startActive := by
  subst hd
  unfold Core.startWaitExpiry
  simp only [hwait]
  exact if_neg (by simp [halive, hheld])

/-! ## PAIR.CMD -/

/-- The row of PAIR.CMD. -/
def pairCmdRow : OdRow := ⟨0x2930, 0x2930, 0x01, 0x01, .u8, .wo, 0, .nat 1 3 []⟩

/-- What the dictionary says of the key of PAIR.CMD. -/
theorem pairCmd_key : odRow? Od.PAIR_CMD = some pairCmdRow ∧ universalCommandKey Od.PAIR_CMD = true ∧
    protectedKey Od.PAIR_CMD pairCmdRow = false ∧ elem? (Od.UIO_ACK 0) 24 Od.PAIR_CMD = none ∧
    record? (Od.HART_CANCEL 0) 24 Od.PAIR_CMD = none := by
  decide +kernel

/-- A write of PAIR.CMD is a command of the pair (R363). -/
theorem Core.applyNumber_pairCmd (c : Core) (p : Path) (v : Nat) (f : Facts) :
    c.applyNumber p Od.PAIR_CMD pairCmdRow v f = c.pairCmd v := by
  obtain ⟨-, hcmd, hp, hack, hcancel⟩ := pairCmd_key
  simp only [universalCommandKey, fieldCommandKey, Bool.and_eq_true, List.all_cons, List.all_nil, bne_iff_ne, ne_eq,
    Option.isNone_iff_eq_none] at hcmd
  unfold Core.applyNumber
  simp [hcmd, hp, hack, hcancel]

/-- A PAIR.CMD that the checks of R465 let through is carried out. -/
theorem State.act_pairCmd {s : State} {c e : Core} {p : Path} {v : Nat} (hs : s.finds c)
    (hm : c.mayWrite p Od.PAIR_CMD v = true) (he : (c.used 3).pairCmd v = e) :
    (s.act fun c _ => c.pathNumber p Od.PAIR_CMD v) = .next (s.finishing (e.shown p)) := by
  obtain ⟨hrow, -⟩ := pairCmd_key
  rw [State.act_pathNumber hs hm hrow (by decide) (.inl rfl) (Core.mayWrite_u8 hm hrow (by decide) rfl rfl (by decide)),
    Core.applyNumber_pairCmd, he]

/-- PAIR.CMD 1 asks for an ordered handover in a module that has the field or may have it (R363). -/
theorem Core.pairHandover_eq (c : Core) : c.pairHandover =
    if c.role = .active ∨ c.role = .standby then
      ((c.setPairBit psRequest true).updPair fun p => { p with requestAt := some c.clk.cyc }).answer .done
    else c.abort 0x08000022 := by
  simp only [Core.pairHandover, Bool.or_eq_true, beq_iff_eq]

/-- PAIR.CMD 2 starts synchronisation anew in a module that follows its partner (R363; log entries 94, 131). -/
theorem Core.pairResync_eq (c : Core) : c.pairResync =
    if c.role = .standby ∨ c.role = .syncing then
      (c.becomeSyncing.updPair fun p => { p with held := false }).answer .done
    else c.abort 0x08000022 := by
  simp only [Core.pairResync, Bool.or_eq_true, beq_iff_eq]

/-- The request for a handover lapses (R363). -/
theorem Core.requestLapse_pending {c : Core} (halive : c.alive = true) {t : Nat} (hreq : c.pair.requestAt = some t) :
    c.requestLapse = ((c.atCyc (t + ms (c.rd Od.WIT_JUDGE_MS))).setPairBit psRequest false).updPair fun p =>
      { p with requestAt := none } := by
  unfold Core.requestLapse
  simp only [hreq]
  exact if_neg (by simp [halive])

/-- A module that has been fit for long enough asks for the return (R361). -/
theorem Core.returnRequest_quiet {c : Core} (halive : c.alive = true) {t : Nat} (hquiet : c.pair.quiet = some t)
    (hreturn : c.pairBit psReturn = false) :
    c.returnRequest =
      ((c.atCyc (t + ms (1000 * c.rd Od.PAIR_RETURN_HOLD_S))).setPairBit psReturn true).log 0x090E := by
  unfold Core.returnRequest
  simp only [hquiet]
  exact if_neg (by simp [halive, hreturn])

/-- Settles O23: a module in the role that the clause gives is stopped by no guard; a PAIR.CMD passes the checks, and the
role decides whether it is carried out. -/
theorem pairStepAndRoleCommandsComplete : Obligations.PairStepAndRoleCommandsComplete := by
  intro s c hs
  have ⟨_, halive⟩ := hs
  refine ⟨fun x d hmember hrole hd => exec_act_finds (exec_stepRecordRx x s) hs
      (Core.stepRecordRx_follower halive hmember hrole hd),
    fun hrole hheld => exec_act_finds (exec_recordWaitExpiry s) hs (Core.recordWaitExpiry_standby halive hrole hheld),
    fun x hrun => ⟨fun hrole hresync => ?_, fun d e hmember hrole hheld hwait hlocked hmay hd he => ?_⟩,
    fun hheld => ⟨fun d hinit hstart htime hnew hd => ?_, fun t d hwait hd => ?_⟩,
    fun p d hd => ⟨fun hm => ?_, fun hm => ?_, fun hm => ?_⟩,
    fun t hreq => exec_act_finds (exec_handoverReqLapse s) hs (Core.requestLapse_pending halive hreq),
    fun t hquiet hreturn => exec_act_finds (exec_returnRequest s) hs (Core.returnRequest_quiet halive hquiet hreturn)⟩
  · exact exec_act_finds (exec_resyncAdopt x s) hs (Core.resyncAdopt_resyncing hrun hrole hresync x)
  · exact exec_act_finds (exec_creelTransferAdopt x s) hs
      (Core.creelAdopt_locked hrun hmember hrole hheld hwait hlocked hmay hd he)
  · exact exec_act_finds (exec_partnerDetection s) hs
      (Core.partnerDetection_role hinit hstart htime hnew hheld hd)
  · exact exec_act_finds (exec_startWaitExpiry s) hs (Core.startWaitExpiry_waiting halive hheld hwait hd)
  · subst hd
    exact (exec_pairCmdHandover p s).trans (State.act_pairCmd hs hm (Core.pairHandover_eq _))
  · subst hd
    exact (exec_pairCmdResync p s).trans (State.act_pairCmd hs hm (Core.pairResync_eq _))
  · subst hd
    exact (exec_pairCmdClearUnfit p s).trans (State.act_pairCmd hs hm rfl)

/-! ## Heartbeats -/

/-- With the tick generator running and no un-votable event the executive sends and receives (R356). -/
theorem Core.execSends_of_voted {c : Core} (hrun : c.clk.running = true) (hun : c.ply.unvoted = none) :
    c.execSends = true := by
  simp [Core.execSends, hrun, hun]

section Heartbeats

variable {c : Core} (hsends : c.execSends = true)
include hsends

/-- A module of a pair sends its heartbeat (R356). -/
theorem Core.moduleBeat_member (hmember : c.pairMember = true) {d : Core}
    (hd : d = c.atCyc (c.pair.beatAt + ms (c.rd Od.PAIR_HB_MS))) :
    c.moduleBeat = (d.updPair fun p => { p with beatAt := d.clk.cyc }).sendPair 1 (d.rd Od.PAIR_PAIR_ID)
      (d.role.code + (d.pairStatus &&& 0xFFF8)) d.health (d.rd Od.PAIR_STEP) := by
  subst hd
  exact if_neg (by simp [hsends, hmember])

/-- A witness outside SAFE sends one to each module it serves (R355, R356). -/
theorem Core.witnessBeat_witness (hrole : c.role = .witness) (hsafe : c.run ≠ .safe) {d : Core}
    (hd : d = c.atCyc (c.pair.beatAt + ms (c.rd Od.WIT_HB_MS))) :
    c.witnessBeat = (List.range 8).foldl (fun (c : Core) i =>
      if c.rd (Od.WIT_P_PAIR_ID i) = 0 then c
      else [0, 1].foldl (fun (c : Core) u =>
        if c.servedId i u = 0 then c else c.sendPair 2 (c.rd (Od.WIT_P_PAIR_ID i)) (c.stateWordFor i u) 0 0) c)
      (d.updPair fun p => { p with beatAt := d.clk.cyc }) := by
  subst hd
  exact if_neg (by simp [hsends, Core.isWitness, hrole, hsafe])

/-- At a witness a heartbeat is one of a module that it may serve, not of a partner (R355). -/
theorem Core.moduleBeatRx_witness (hrole : c.role = .witness) (n : Nat) (m : Bytes) :
    c.moduleBeatRx n m = c.witnessHears n m :=
  (if_neg (by simp [hsends])).trans (if_pos (by simp [Core.isWitness, hrole]))

/-- The heartbeat of the partner (R356). -/
theorem Core.moduleBeatRx_partner (hmember : c.pairMember = true) (hrole : c.role ≠ .witness) {n : Nat} {m : Bytes}
    (hsrc : msgSrc m = c.rd Od.PAIR_PARTNER_ID) (hvalid : c.pairValid n 1 (c.rd Od.PAIR_PAIR_ID) m = true) :
    c.moduleBeatRx n m = (c.wr Od.PAIR_PARTNER_HEALTH (msgWord2 m)).updPair fun p =>
      { p with announced := field (msgWord1 m) 0 3 + 1 } :=
  (if_neg (by simp [hsends])).trans ((if_neg (by simp [Core.isWitness, hrole])).trans
    (if_pos (by simp [hmember, hsrc, hvalid])))

/-- The heartbeat of the witness (R357, R360; log entry 96). -/
theorem Core.witnessBeatRx_witness (hmember : c.pairMember = true) {n : Nat} {m : Bytes} {d : Core}
    (hsrc : msgSrc m = c.rd Od.PAIR_WITNESS_ID) (hvalid : c.pairValid n 2 (c.rd Od.PAIR_PAIR_ID) m = true)
    (hd : d = c.updPair fun p => { p with
      witness := setAt p.witness n (some c.clk.cyc), witnessWord := msgWord1 m &&& 0xF4 }) :
    c.witnessBeatRx n m = if d.pairBit psWitnessLost then (d.setPairBit psWitnessLost false).log 0x090A else d := by
  subst hd
  exact if_neg (by simp [hsends, hmember, hsrc, hvalid])

/-- The heartbeats of the witness stay away (R360). -/
theorem Core.witnessLost_new (hmember : c.pairMember = true) (hlost : c.pairBit psWitnessLost = false) :
    c.witnessLost =
      ((c.atCyc (c.pair.witness.foldl (fun m h => max m (h.getD 0)) 0 + ms (c.rd Od.PAIR_WIT_LOSS_MS))).setPairBit
        psWitnessLost true).log 0x090A :=
  if_neg (by simp [hsends, hmember, hlost])

end Heartbeats

/-- A witness keeps what a module that it serves says in a right message, and judges the pair (R355, R358). -/
theorem Core.witnessHears_served {c d e : Core} {n i u : Nat} {m : Bytes} (hserved : c.servedBy (msgPair m) = some i)
    (hunit : [0, 1].find? (fun u => c.servedId i u == msgSrc m) = some u)
    (hvalid : c.pairValid n 1 (msgPair m) m = true)
    (hd : d = (c.updServed i fun p => { p with
        units := updAt (fun x => { x with
          heard := setAt x.heard n (some c.clk.cyc), role := field (msgWord1 m) 0 3, status := msgWord1 m,
          health := msgWord2 m }) p.units u }).wr
      (if u = 0 then Od.WIT_P_HEALTH_PRIMARY i else Od.WIT_P_HEALTH_SECONDARY i) (msgWord2 m))
    (he : e = if field (msgWord1 m) 0 3 = 1 then d.wr (Od.WIT_P_ACTIVE_ID i) (msgSrc m) else d) :
    c.witnessHears n m = if e.run = .safe then e else e.judgePair i := by
  subst he hd
  unfold Core.witnessHears
  simp only [hserved, hunit, beq_iff_eq]
  exact if_neg (by simp [hvalid])

/-- Settles O24: a right header leads a message to the witness, the partner or the module served; running and voted, none of
them is stopped by a guard. -/
theorem heartbeatCommandsComplete : Obligations.HeartbeatCommandsComplete := by
  intro s c hs hrun hun
  have hsends := Core.execSends_of_voted hrun hun
  refine ⟨fun d hmember hd => exec_act_finds (exec_moduleHeartbeatSend s) hs (Core.moduleBeat_member hsends hmember hd),
    fun d hrole hsafe hd => exec_act_finds (exec_witnessHeartbeatSend s) hs
      (Core.witnessBeat_witness hsends hrole hsafe hd),
    fun n frame m hlen hkind hver hsize hm => ?_,
    fun hmember hlost => exec_act_finds (exec_witnessLost s) hs (Core.witnessLost_new hsends hmember hlost)⟩
  subst hm
  have hrx := Core.kindRx_header hrun hlen hkind hver hsize n
  refine ⟨fun i u d e hrole hserved hunit hvalid hd he => exec_act_finds (exec_moduleHeartbeatRx n frame s) hs
      ((hrx _).trans ?_),
    fun hmember => ⟨fun hrole hsrc hvalid => exec_act_finds (exec_moduleHeartbeatRx n frame s) hs ((hrx _).trans ?_),
      fun d hsrc hvalid hd => exec_act_finds (exec_witnessHeartbeatRx n frame s) hs ((hrx _).trans ?_)⟩⟩
  · exact (Core.moduleBeatRx_witness hsends hrole _ _).trans (Core.witnessHears_served hserved hunit hvalid hd he)
  · exact Core.moduleBeatRx_partner hsends hmember hrole hsrc hvalid
  · exact Core.witnessBeatRx_witness hsends hmember hsrc hvalid hd

/-! ## Orders of the witness -/

section Orders

variable {c : Core} (hsends : c.execSends = true)
include hsends

section Valid

variable {n : Nat} {m : Bytes} (hvalid : c.orderValid n m = true)
include hvalid

/-- A TAKE order that is not known: one answered with TAKE_NAK is kept too (R359; log entry 95). -/
theorem Core.takeOrderRx_new (hword : msgWord1 m = 2) (hserial : msgWord2 m = c.rd Od.SERIAL)
    (hknown : c.orderKnown m = false) {ok : Bool} {d : Core} (hok : ok = (c.role == .standby && c.syncedNow))
    (hd : d = (c.emit (.symbol (if ok then 2 else 3))).emit (.relay m)) :
    c.takeOrderRx n m =
      (if d.role = .active then d
        else d.updPair fun p => { p with order := some ⟨msgSeq m, msgTick m⟩, acked := ok }).ackOrder m ok := by
  subst hd hok
  refine (if_neg (by simp [hsends, hvalid, hword, hserial, hknown])).trans ?_
  simp only [beq_iff_eq]

section New

variable (hnew : ∀ o : PairOrder, c.pair.order = some o → o.due ≠ msgTick m)
include hnew

/-- A RELEASE order for this module with a new instant is kept and acknowledged (R359). -/
theorem Core.releaseOrderRx_own (hword : msgWord1 m = 1) (hserial : msgWord2 m = c.rd Od.SERIAL) (relay : Bool) :
    c.releaseOrderRx relay n m = (c.updPair fun p => { p with
      order := some ⟨msgSeq m, msgTick m⟩, acked := c.role == .active && p.acked }).ackOrder m (c.role == .active) := by
  unfold Core.releaseOrderRx
  cases horder : c.pair.order with
  | none => simp [hsends, hvalid, hword, hserial]
  | some o => simp [hsends, hvalid, hword, hserial, hnew o horder]

/-- The order of the standby, relayed to the active with a new instant, is kept (R359; log entry 95). -/
theorem Core.releaseOrderRx_relayed (hword : msgWord1 m = 2) (hpartner : msgWord2 m = c.rd Od.PAIR_PARTNER_ID)
    (hrole : c.role = .active) :
    c.releaseOrderRx true n m = c.updPair fun p => { p with
      order := some ⟨msgSeq m, msgTick m⟩, acked := p.acked } := by
  unfold Core.releaseOrderRx
  cases horder : c.pair.order with
  | none => simp [hsends, hvalid, hword, hpartner, hrole]
  | some o => simp [hsends, hvalid, hword, hpartner, hrole, hnew o horder]

end New
end Valid

/-- The witness keeps an acknowledgement of its last order that it has not yet (R359). -/
theorem Core.orderAckRx_new {n i u : Nat} {m : Bytes} {o : WitnessOrder} (hserved : c.servedBy (msgPair m) = some i)
    (hrole : c.role = .witness) (hvalid : c.pairValid n 4 (msgPair m) m = true)
    (horder : (c.servedPair i).order = some o)
    (hunit : msgWord2 m = o.seq ∧ u = 1 - o.taker ∨
      msgWord2 m ≠ o.seq ∧ msgWord2 m = (o.seq + 1) % 2 ^ 32 ∧ u = o.taker)
    (hid : c.servedId i u = msgSrc m) (hack : o.acks.contains (u, msgWord1 m == 1) = false) :
    c.orderAckRx n m = c.updServed i fun p => { p with
      order := some { o with acks := o.acks ++ [(u, msgWord1 m == 1)] } } := by
  have hseq : ¬(msgWord2 m != o.seq && msgWord2 m != (o.seq + 1) % 2 ^ 32) = true := by
    rw [Bool.and_eq_true, bne_iff_ne, bne_iff_ne]
    rcases hunit with ⟨hrelease, -⟩ | ⟨-, htake, -⟩
    · exact fun h => h.1 hrelease
    · exact fun h => h.2 htake
  have hu : (if msgWord2 m == o.seq then 1 - o.taker else o.taker) = u := by
    rcases hunit with ⟨hrelease, hu⟩ | ⟨htake, -, hu⟩
    · rw [if_pos (by simp [hrelease]), hu]
    · rw [if_neg (by simp [htake]), hu]
  unfold Core.orderAckRx
  simp only [hserved]
  rw [if_neg (by simp [hsends, Core.isWitness, hrole, hvalid])]
  simp only [horder, hu]
  rw [if_neg hseq, if_neg (by simp only [hid, hack]; simp)]

/-- TAKE_ACK and TAKE_NAK at the active (R359). -/
theorem Core.takeSymbol_active (hmember : c.pairMember = true) (hrole : c.role = .active) (ack : Bool) :
    c.takeSymbol ack = c.updPair fun p => { p with acked := ack } :=
  if_pos (by simp [hsends, hmember, hrole])

end Orders

/-- Settles O25: a right header leads an order and an acknowledgement to its receiver, where a right one that is not known is
stopped by no guard; a relayed order comes without a header. -/
theorem witnessOrderCommandsComplete : Obligations.WitnessOrderCommandsComplete := by
  intro s c hs hrun hun
  have hsends := Core.execSends_of_voted hrun hun
  refine ⟨fun n frame m hlen hkind hver hsize hm => ?_,
    fun n m hvalid hword hpartner hrole hnew => exec_act_finds (exec_releaseOrderRx true n m s) hs
      (Core.releaseOrderRx_relayed hsends hvalid hnew hword hpartner hrole),
    fun hmember hrole => ⟨exec_act_finds (exec_takeAckRx s) hs (Core.takeSymbol_active hsends hmember hrole true),
      exec_act_finds (exec_takeNakRx s) hs (Core.takeSymbol_active hsends hmember hrole false)⟩⟩
  subst hm
  have hrx := Core.kindRx_header hrun hlen hkind hver hsize n
  refine ⟨fun ok d hvalid hword hserial hknown hok hd => exec_act_finds (exec_takeOrderRx n frame s) hs
      ((hrx _).trans ?_),
    fun d hvalid hword hserial hnew hd => exec_act_finds (exec_releaseOrderRx false n frame s) hs
      ((if_neg Bool.false_ne_true).trans ((hrx _).trans ?_)),
    fun i u o hserved hrole hvalid horder hunit hid hack => exec_act_finds (exec_orderAckRx n frame s) hs
      ((hrx _).trans ?_)⟩
  · exact Core.takeOrderRx_new hsends hvalid hword hserial hknown hok hd
  · subst hd
    exact Core.releaseOrderRx_own hsends hvalid hnew hword hserial false
  · exact Core.orderAckRx_new hsends hserved hrole hvalid horder hunit hid hack

end Sys2Proof.Machine
end

section
/-! The statements of Ethernet and time stamping (chapter 10): the switch (O26), PTP (O27), launches and received frames (O28),
the sessions of the dictionary service (O29) and its messages (O30). -/

namespace Sys2Proof.Machine

/-! ## The switch -/

/-- A new speed of a port (R376, R377; log entry 26). -/
theorem Core.portLink_new {c : Core} (halive : c.alive = true) {n p speed : Nat} (hnew : c.portSpeed n p ≠ speed)
    (hspeed : speed ≤ 2) {d e : Core}
    (hd : d = (c.setFld (Od.NET_STATUS n) (2 * p) 2 speed).logA 0x0A01 (2 * n + p) speed)
    (he : e = ((if speed = 0 then (d.inc32 (Od.NET_LINK_LOSSES n)).updPort n p fun x => { x with queue := [] }
      else d.updPort n p fun x => { x with free := d.clk.now, launchEnd := d.clk.now }).updPort n p
        fun x => { x with linkAt := d.clk.cyc }).judgeLost n) :
    c.portLink n p speed =
      if e.rd (Od.NET_MRP_EN n) = 1 ∧ (c.portSpeed n p = 0 ∨ speed = 0) then
        e.hostSend n 7 0x01154E000002 46 (.mrpLinkChange p (speed != 0)) else e := by
  subst he hd
  refine (if_neg (by simp [halive, hnew, hspeed])).trans ?_
  simp only [Bool.and_eq_true, Bool.or_eq_true, decide_eq_true_eq]
  by_cases hdown : speed = 0
  · subst hdown
    rfl
  · simp only [if_neg hdown]
    rfl

/-- A learnt source is no entry. -/
@[simp] theorem Core.learn_rd (c : Core) (n mac p k : Nat) : (c.learn n mac p).rd k = c.rd k := by
  unfold Core.learn
  split <;> rfl

section Forward

variable {c : Core} (hrun : c.clk.running = true) {n p : Nat} (hup : c.portUp n p = true) {f : Bytes} {d : Core}
  (hd : d = if frameDst f = c.rd (Od.NET_MAC n) ∨ isGroup (frameDst f) = true then
      (c.learn n (frameSrc f) p).inc64 (Od.NET_RX_FRAMES n) else c.learn n (frameSrc f) p)
include hrun hup hd

/-- A frame for the station ends there (R367). -/
theorem Core.frameForward_own (hown : frameDst f = c.rd (Od.NET_MAC n)) (residence : Nat) :
    c.frameForward n p f true residence = d := by
  subst hd
  refine (if_neg (by simp [hrun, hup])).trans ?_
  simp [hown]

/-- A frame whose destination lies on the other port goes out there (R367, R371). -/
theorem Core.frameForward_passed (hother : frameDst f ≠ c.rd (Od.NET_MAC n)) (hpeer : d.peerMessage n f = false)
    (hout : (d.outPorts n (frameDst f)).contains (1 - p) = true) {residence : Nat} {e : Core} {g : Bytes}
    (hpass : d.transparent n p f residence = (e, g)) :
    c.frameForward n p f true residence =
      (e.hold n (1 - p) ⟨pcpQueue (framePcp g), e.clk.now, frameLen g.length, .forwarded g⟩).egressAll := by
  simp only [hother, false_or] at hd
  subst hd
  rw [List.contains_iff_mem] at hout
  refine (if_neg (by simp [hrun, hup])).trans ?_
  simp [hother, hpeer, hout, hpass]

end Forward

/-- Settles O26: none of the guards of the commands stops them; the destination of a frame decides whether it ends at the
station or goes out on the other port, and a fragment is answered by nothing. -/
theorem switchCommandsComplete : Obligations.SwitchCommandsComplete := by
  intro s c n hs
  have ⟨_, halive⟩ := hs
  refine ⟨fun p speed d e hnew hspeed hd he => exec_act_finds (exec_portLinkChange n p speed s) hs
      (Core.portLink_new halive hnew hspeed hd he),
    fun hrun => ⟨fun p f g residence d e hup hd => ⟨fun hown => ?_, fun hother hpeer hout hpass => ?_⟩,
      fun interval hmrp => exec_act_finds (exec_mrpTopologyChangeRx n interval s) hs (if_neg (by simp [hrun, hmrp])),
      fun mac e he => exec_act_finds (exec_fdbEntryAgeing n mac s) hs ?_,
      fun mac ip body hip hlost => ⟨?_, ?_, ?_⟩⟩,
    fun t hflush => exec_act_finds (exec_mrpFlush n s) hs ?_⟩
  · exact exec_act_finds (exec_frameForward n p f true residence s) hs (Core.frameForward_own hrun hup hd hown residence)
  · exact exec_act_finds (exec_frameForward n p f true residence s) hs
      (Core.frameForward_passed hrun hup hd hother hpeer hout hpass)
  · simp [Core.fdbAge, he, hrun]
  · exact exec_act_finds (exec_arpRequestRx n mac ip _ s) hs (if_neg (by simp [hrun, hip, hlost]))
  · exact exec_act_finds (exec_icmpEchoRx n mac ip _ body false s) hs (if_neg (by simp [hrun, hip, hlost]))
  · exact exec_act_finds (exec_icmpEchoRx n mac ip _ body true s) hs (if_pos (by simp))
  · simp only [Core.mrpFlush, hflush]

/-! ## PTP -/

section Master

variable {c : Core} {n : Nat} (hon : c.ptpOn n = true)
include hon

/-- An Announce of the configured domain (R373). -/
theorem Core.announceRx_domain {a : Announce} {d : Core} (hd : d =
    (c.updPtp n fun p => { p with masters := p.masters.filter (·.source != a.source) ++ [a] }).selectMaster n) :
    c.announceRx n (c.rd (Od.PTP_DOMAIN n)) a =
      if (d.ptp n).best.map (·.source) = some a.source then d.judgeMove n else d := by
  subst hd
  exact if_neg (by simp [hon])

section Wins

variable (hmaster : c.ptpMaster n = true)
include hmaster

/-- The master's Sync is queued for the next multiple of its interval (R374). -/
theorem Core.masterSync_master {i t seq : Nat} {frame : Bytes} (hi : i = logInterval (c.rd (Od.PTP_LOG_SYNC n)))
    (ht : t = ceilMul (max c.clk.now ((c.ptp n).syncAt + 1)) i) (hseq : seq = ((c.ptp n).syncSeq + 1) % 65536)
    (hframe : frame = c.syncFrame n seq) :
    c.masterSync n = ((c.used 1).updPtp n fun p => { p with syncAt := t, syncSeq := seq }).queueLaunch n ⟨1, seq, t, true,
      if c.rd Od.NET_VLAN = 0 then frame
      else frame.take 12 ++ beBytes 2 0x8100 ++ beBytes 2 (7 * 8192 + c.rd Od.NET_VLAN) ++ frame.drop 12⟩ := by
  subst hframe hseq ht hi
  exact if_neg (by simp [hon, hmaster])

/-- The master's Announce goes out at its interval (R374). -/
theorem Core.masterAnnounce_master {d e : Core}
    (hd : d = c.atCyc ((c.ptp n).annAt + logInterval (c.rd (Od.PTP_LOG_ANNOUNCE n))))
    (he : e = d.updPtp n fun p => { p with annAt := d.clk.cyc, annSeq := ((d.ptp n).annSeq + 1) % 65536 }) :
    c.masterAnnounce n = e.hostSend n 4 ptpEventMac (e.ptpLen n 64)
      (.announce (((d.ptp n).annSeq + 1) % 65536) (e.ownClock n) 0xA0) := by
  subst he hd
  exact if_neg (by simp [hon, hmaster])

end Wins
end Master

section Delay

variable {c : Core} (hrun : c.clk.running = true) {n : Nat}
include hrun

/-- The best master is lost (R373; log entry 24). -/
theorem Core.announceTimeout_best {a : Announce} (hbest : (c.ptp n).best = some a) :
    c.announceTimeout n =
      (c.updPtp n fun p => { p with masters := p.masters.filter (·.source != a.source) }).selectMaster n := by
  unfold Core.announceTimeout
  simp only [hbest]
  exact if_neg (by simp [hrun])

section Answer

variable (hlink : c.netLost n = false) {m : DelayMsg} (hdomain : m.domain = c.rd (Od.PTP_DOMAIN n))
  (hseq : m.seq = (c.ptp n).reqSeq)
include hlink hdomain hseq

/-- The answer to the last Pdelay_Req (R372). -/
theorem Core.delayRespRx_peer (hmech : c.rd (Od.PTP_DELAY_MECH n) = 1) {d : Int}
    (hd : d = halfTime (m.t4 - m.t1 - (m.t3 - m.t2) - m.correction)) :
    c.delayRespRx n m =
      (c.updPtp n fun p => { p with peer := setAt p.peer m.port (some (d, c.clk.cyc)) }).showDelay n d := by
  subst hd
  exact (if_neg (by simp [hrun, hlink, hdomain, hseq])).trans (if_pos hmech)

/-- The Delay_Resp of the best master to the last Delay_Req (R372). -/
theorem Core.delayRespRx_master (hmech : c.rd (Od.PTP_DELAY_MECH n) ≠ 1) (hon : c.ptpOn n = true) {b : Announce}
    (hbest : (c.ptp n).best = some b) (hsource : b.source = m.source) {t1 t2 d : Int}
    (hsync : (c.ptp n).sync = some (t1, t2)) (hd : d = halfTime (t2 - t1 + (m.t4 - m.t3) - m.correction)) :
    c.delayRespRx n m = (c.updPtp n fun p => { p with delay := some (d, c.clk.cyc) }).showDelay n d := by
  subst hd
  refine (if_neg (by simp [hrun, hlink, hdomain, hseq])).trans ((if_neg hmech).trans ?_)
  simp only [hbest, hsync]
  exact if_neg (by simp [hon, hsource])

end Answer

section Request

variable (hlink : c.netLost n = false) {d e : Core} {seq : Nat}
  (hd : d = c.atCyc ((c.ptp n).reqAt + logInterval (c.rd (Od.PTP_LOG_DELAY n))))
  (hseq : seq = ((d.ptp n).reqSeq + 1) % 65536) (he : e = d.updPtp n fun p => { p with reqAt := d.clk.cyc, reqSeq := seq })
include hlink hd hseq he

/-- A Pdelay_Req goes out at its interval (R372). -/
theorem Core.delayReqSend_peer (hmech : c.rd (Od.PTP_DELAY_MECH n) = 1) :
    c.delayReqSend n = e.hostSend n 7 ptpPeerMac (e.ptpLen n 54) (.ptp 2 seq 0) := by
  subst he hseq hd
  exact (if_neg (by simp [hrun, hlink, hmech])).trans (if_pos (by simp [hmech]))

/-- A Delay_Req to the best master goes out at its interval (R372; log entry 25). -/
theorem Core.delayReqSend_master (hmech : c.rd (Od.PTP_DELAY_MECH n) ≠ 1) (hon : c.ptpOn n = true)
    (hbest : (c.ptp n).best.isSome = true) :
    c.delayReqSend n = e.hostSend n 7 ptpEventMac (e.ptpLen n 44) (.ptp 1 seq 0) := by
  subst he hseq hd
  exact (if_neg (by simp [hrun, hlink, hon, Option.isSome_iff_ne_none.mp hbest])).trans (if_neg (by simp [hmech]))

end Request

section Requested

variable {p : Nat} (hup : c.portUp n p = true) (seq : Nat) (stamp : Int)
include hup

/-- A Pdelay_Req is answered on its port, in two steps (R372). -/
theorem Core.delayReqRx_peer (hmech : c.rd (Od.PTP_DELAY_MECH n) = 1) :
    c.delayReqRx n p (c.rd (Od.PTP_DOMAIN n)) seq stamp true =
      ((((c.hold n p ⟨3, c.clk.now, frameLen (c.ptpLen n 54), .ptp 3 seq stamp⟩).hold n p
        ⟨2, c.clk.now, frameLen (c.ptpLen n 54), .ptp 10 seq c.clk.now⟩).inc64 (Od.NET_TX_FRAMES n)).inc64
          (Od.NET_TX_FRAMES n)).egressAll :=
  (if_neg (by simp [hrun, hup])).trans ((if_pos rfl).trans (if_pos hmech))

/-- A Delay_Req is answered by the master (R374). -/
theorem Core.delayReqRx_master (hmech : c.rd (Od.PTP_DELAY_MECH n) = 0) (hon : c.ptpOn n = true)
    (hmaster : c.ptpMaster n = true) :
    c.delayReqRx n p (c.rd (Od.PTP_DOMAIN n)) seq stamp false =
      c.hostSend n 4 ptpEventMac (c.ptpLen n 54) (.ptp 9 seq stamp) :=
  (if_neg (by simp [hrun, hup])).trans ((if_neg Bool.false_ne_true).trans (if_pos (by simp [hmech, hon, hmaster])))

end Requested

/-- Only the other network has had a valid measurement since the last one of the followed network (R373). -/
theorem Core.followTimeout_other (hsource : c.clk.source = 3) {f last o : Nat} (hf : c.rd Od.PTP_FOLLOWED = f) (hsome : f ≠ 0)
    (hlast : last = (c.ptp (f - 1)).lastValid.getD 0) (hother : (c.ptp (2 - f)).lastValid = some o) (hlate : last < o) :
    c.followTimeout = (c.atCyc (last + ms 500)).follow (3 - f) := by
  subst hlast hf
  refine (if_neg (by simp [hsource, hsome, hrun])).trans ?_
  simp only [hother]
  exact if_neg hlate.not_ge

end Delay

/-- Settles O27: none of the guards stops the commands; the delay mechanism decides between the peer's messages and those of a
master. -/
theorem ptpCommandsComplete : Obligations.PtpCommandsComplete := by
  intro s c n hs
  refine ⟨fun hon => ⟨fun a d hd => exec_act_finds (exec_ptpAnnounceRx n _ a s) hs (Core.announceRx_domain hon hd),
      fun hmaster => ⟨fun i t seq frame hi ht hseq hframe => exec_act_finds (exec_ptpMasterSync n s) hs
          (Core.masterSync_master hon hmaster hi ht hseq hframe),
        fun d hd => exec_act_finds (exec_ptpMasterAnnounce n s) hs (Core.masterAnnounce_master hon hmaster hd rfl)⟩⟩,
    fun hrun => ⟨fun a hbest => exec_act_finds (exec_ptpAnnounceReceiptTimeout n s) hs
        (Core.announceTimeout_best hrun hbest),
      fun m hlink hdomain hseq => ⟨fun d hmech hd => ?_, fun d t1 t2 b hmech hon hbest hsource hsync hd => ?_⟩,
      fun d e seq hlink hd hseq he => ⟨fun hmech => ?_, fun hmech hon hbest => ?_⟩,
      fun p seq stamp hup => ⟨fun hmech => ?_, fun hmech hon hmaster => ?_⟩,
      fun f last o hsource hf hsome hlast hother hlate => exec_act_finds (exec_ptpFollowTimeout s) hs
        (Core.followTimeout_other hrun hsource hf (by omega) hlast hother hlate)⟩⟩
  · exact exec_act_finds (exec_ptpDelayRespRx n m s) hs (Core.delayRespRx_peer hrun hlink hdomain hseq hmech hd)
  · exact exec_act_finds (exec_ptpDelayRespRx n m s) hs
      (Core.delayRespRx_master hrun hlink hdomain hseq hmech hon hbest hsource hsync hd)
  · exact exec_act_finds (exec_ptpDelayReqSend n s) hs (Core.delayReqSend_peer hrun hlink hd hseq he hmech)
  · exact exec_act_finds (exec_ptpDelayReqSend n s) hs (Core.delayReqSend_master hrun hlink hd hseq he hmech hon hbest)
  · exact exec_act_finds (exec_ptpDelayReqRx n p _ seq stamp true s) hs (Core.delayReqRx_peer hrun hup seq stamp hmech)
  · exact exec_act_finds (exec_ptpDelayReqRx n p _ seq stamp false s) hs
      (Core.delayReqRx_master hrun hup seq stamp hmech hon hmaster)

/-! ## Launches and received frames -/

/-- A class that no gating concerns is sent, and the others as their gating says (R384, R497). -/
theorem Core.classSends_eq_true {c : Core} {cls : Nat} (hnet : cls = 2 ∨ cls = 3 ∨ cls = 5 → c.netGate = true)
    (hpair : cls = 4 ∨ cls = 6 → c.pairSends = true) : c.classSends cls = true := by
  unfold Core.classSends
  split_ifs with hown hfield
  exacts [hpair hown, hnet hfield, rfl]

/-- A class is withheld by its gating (R384, R497). -/
theorem Core.classSends_eq_false {c : Core} {cls : Nat}
    (h : c.netGate = false ∧ (cls = 2 ∨ cls = 3 ∨ cls = 5) ∨ c.pairSends = false ∧ (cls = 4 ∨ cls = 6)) :
    c.classSends cls = false := by
  rcases h with ⟨hgate, hcls⟩ | ⟨hsends, hcls⟩
  · exact (if_neg (by omega)).trans ((if_pos hcls).trans hgate)
  · exact (if_pos hcls).trans hsends

section Ready

variable {c : Core} (hrun : c.clk.running = true) {r : Ready} (hr : firstReady c.net.ready = some r) {d e : Core}
  (hd : d = (c.atTime r.ready).updNet fun x => { x with ready := x.ready.erase r })
  (he : e = if r.cls = 5 then d.setFld (Od.FRAME_TX_STATUS r.num) 1 5 0 else d)
include hrun hr hd he

/-- A frame that its gating withholds (R384). -/
theorem Core.frameReady_gated (hgated : d.classSends r.cls = false) :
    c.frameReady = (e.txBit r.cls r.num 5).txBit r.cls r.num 1 := by
  subst he hd
  unfold Core.frameReady
  simp only [hr]
  exact (if_neg (by simp [hrun])).trans (if_pos (by simp [hgated]))

/-- A frame with a payload goes to the launch queues of its networks (R378, R383). -/
theorem Core.frameReady_queued (hsends : d.classSends r.cls = true) (hfilled : r.cls = 5 ∨ r.payload ≠ []) :
    c.frameReady = [0, 1].foldl (fun c n => c.readyOn r n)
      (if r.cls = 5 ∧ r.num ∉ e.net.copied then e.txBit 5 r.num 4 else e) := by
  subst he hd
  unfold Core.frameReady
  simp only [hr]
  refine (if_neg (by simp [hrun])).trans ((if_neg (by simp [hsends])).trans ((if_neg ?_).trans ?_))
  · simpa [imp_iff_not_or] using hfilled
  · simp

end Ready

section Due

variable {c : Core} (hrun : c.clk.running = true) {n : Nat} {x : Launch} (hx : firstLaunch (c.side n).launch = some x)
  {d : Core} (hd : d = (c.atTime x.time).updSide n fun y => { y with launch := y.launch.erase x })
include hrun hx hd

/-- The next launch of a network without a link (R381). -/
theorem Core.launchNext_linkDown (hlost : d.netLost n = true) :
    c.launchNext n = (d.inc32 Od.LQ_LINKDOWN).dropFrame n x.cls x.num := by
  subst hd
  unfold Core.launchNext
  simp only [hx]
  exact (if_neg (by simp [hrun])).trans (if_pos hlost)

/-- The next launch at its instant (R380, R381). -/
theorem Core.launchNext_onTime (hlink : d.netLost n = false) (htime : c.clk.now ≤ x.time) :
    c.launchNext n =
      if d.outPorts n (beAt x.bytes 0 6) = [] then d.dropFrame n x.cls x.num else d.sendLaunch n x := by
  subst hd
  unfold Core.launchNext
  simp only [hx]
  refine (if_neg (by simp [hrun])).trans ((if_neg (by simp [hlink])).trans ?_)
  simp [htime.not_gt]

/-- The next launch past its instant (R380, R381). -/
theorem Core.launchNext_late (hlink : d.netLost n = false) (hlate : x.time < c.clk.now) {e : Core}
    (he : e = d.lateFrame x.cls x.num) :
    c.launchNext n =
      if x.sendNow = false ∨ e.outPorts n (beAt x.bytes 0 6) = [] then e.dropFrame n x.cls x.num
      else e.sendLaunch n x := by
  subst he hd
  unfold Core.launchNext
  simp only [hx]
  refine (if_neg (by simp [hrun])).trans ((if_neg (by simp [hlink])).trans ?_)
  simp [hlate]

end Due

section Received

variable {c : Core} (hrun : c.clk.running = true) (hremote : c.roleFuse ≠ 1) (hwitness : c.roleFuse ≠ 3)
  {n src ethertype o : Nat} {body : Bytes} (ho : (List.range 128).find? (c.objectTakes n src ethertype body) = some o)
include hrun hremote hwitness ho

/-- The second copy of a frame expected on both networks (R385). -/
theorem Core.appFrameRx_second {t : TakenFrame} (hnet : (c.rxDesc o).net = 3)
    (ht : (c.net.taken.filter (·.obj == o)).getLast? = some t) (hsame : t.payload = body) :
    c.appFrameRx n src ethertype body = c := by
  refine (if_neg (by simp [hrun, hremote, hwitness])).trans ?_
  simp only [ho]
  exact if_pos (by simp [hnet, ht, hsame])

/-- A new frame is kept by the object that matches it (R385). -/
theorem Core.appFrameRx_new (hnew : (c.rxDesc o).net ≠ 3 ∨
      ∀ t : TakenFrame, (c.net.taken.filter (·.obj == o)).getLast? = some t → t.payload ≠ body) :
    c.appFrameRx n src ethertype body =
      (((((c.updNet fun x => { x with taken := x.taken ++ [⟨o, c.clk.now, n, body⟩] }).setBit (Od.FRAME_RX_STATUS o) 1
        true).setBit (Od.FRAME_RX_STATUS o) 2 false).setBit (Od.FRAME_RX_STATUS o) 3 (n == 0)).setBit
          (Od.FRAME_RX_STATUS o) 4 (n == 1)).evPulse (169 + o) := by
  refine (if_neg (by simp [hrun, hremote, hwitness])).trans ?_
  simp only [ho]
  refine if_neg ?_
  cases ht : (c.net.taken.filter (·.obj == o)).getLast? with
  | none => simp
  | some t =>
    rcases hnew with hnet | hother
    · simp [hnet]
    · simp [hother t ht]

end Received

/-- An object whose age reaches its limit at the boundary (R385). -/
theorem Core.objectAged_limit {c : Core} (hrun : c.clk.running = true) {o : Nat} (hnone : ∀ t ∈ c.net.taken, t.obj ≠ o) {d : Core}
    (hd : d = c.atTime c.clk.nextB) (hnet : (d.rxDesc o).net ≠ 0) (hmax : (d.rxDesc o).maxAge ≠ 0)
    (hage : (d.rxDesc o).maxAge ≤ c.rd (Od.FRAME_RX_AGE o) + 1) (hnew : d.bit (Od.FRAME_RX_STATUS o) 2 = false) :
    c.objectAged o = (d.setBit (Od.FRAME_RX_STATUS o) 2 true).log1 0x0A06 o := by
  subst hd
  exact (if_neg (by simpa [hrun] using hnone)).trans (if_neg (by simp [hnet, hmax, hage, hnew]))

/-- Settles O28: the class of a frame decides which gating withholds it; the link, the instant and the ports decide what
becomes of a launch, and the object that matches whether a frame is new. -/
theorem launchCommandsComplete : Obligations.LaunchCommandsComplete := by
  intro s c hs hrun
  refine ⟨fun r d e hr hd he => ⟨fun hgated => exec_act_finds (exec_frameReady s) hs
        (Core.frameReady_gated hrun hr hd he (Core.classSends_eq_false hgated)),
      fun hnet hpair hfilled => exec_act_finds (exec_frameReady s) hs
        (Core.frameReady_queued hrun hr hd he (Core.classSends_eq_true hnet hpair) hfilled)⟩,
    fun n x d hx hd => ⟨fun hlost => exec_act_finds (exec_launch n s) hs (Core.launchNext_linkDown hrun hx hd hlost),
      fun hlink => ⟨fun htime => exec_act_finds (exec_launch n s) hs (Core.launchNext_onTime hrun hx hd hlink htime),
        fun e hlate he => exec_act_finds (exec_launch n s) hs (Core.launchNext_late hrun hx hd hlink hlate he)⟩⟩,
    fun hremote hwitness n src ethertype o body ho => ⟨fun hnet hsame hsome => ?_, fun hnew => ?_⟩,
    fun o d hnone hd hnet hmax hage hnew => exec_act_finds (exec_rxObjectAged o s) hs
      (Core.objectAged_limit hrun hnone hd hnet hmax hage hnew)⟩
  · have hlast := List.getLast?_eq_some_getLast hsome
    exact exec_act_finds (exec_appFrameRx n src ethertype body s) hs
      (Core.appFrameRx_second hrun hremote hwitness ho hnet hlast (hsame _ hlast))
  · exact exec_act_finds (exec_appFrameRx n src ethertype body s) hs
      (Core.appFrameRx_new hrun hremote hwitness ho hnew)

/-! ## Sessions -/

section Datagrams

variable {c : Core} {n : Nat} (hlistens : c.dsListens n = true) {data : Bytes} {h : DsHeader}
  (hheader : dsHeader data = some h)
include hlistens hheader

section Open

variable (hopen : h.flags.testBit 2 = true) (hsession : h.session = 0) (hseq : h.seq = 0) (mac : Nat)
include hopen hsession hseq

/-- An OPEN that is refused (R391; log entry 90). -/
theorem Core.dsOpen_refused
    (hfull : 8 ≤ c.srv.sessions.length ∨ (h.flags.testBit 0 = false ∧ c.rd Od.NET_DS_PLAIN = 0)) :
    c.dsOpen n mac data = c.sendDatagram n mac (b2n (h.flags.testBit 0) + dsClose) 0 0 0 [] := by
  refine (if_neg (by simp [hlistens])).trans ?_
  simp only [hheader]
  exact (if_neg (by simp [hopen, hsession, hseq])).trans (if_pos (by simpa using hfull))

/-- An OPEN that opens a session (R391; log entry 90). -/
theorem Core.dsOpen_opened (hfree : c.srv.sessions.length < 8)
    (hallowed : h.flags.testBit 0 = true ∨ c.rd Od.NET_DS_PLAIN ≠ 0) {num : Nat} {x : Session}
    (hnum : num = if c.fresh 16 = 0 ∨ (c.session? (c.fresh 16)).isSome then c.unusedSession else c.fresh 16)
    (hx : x = ⟨num, n, mac, h.flags.testBit 0, none, 0, 0, [], [], c.clk.cyc, c.clk.cyc⟩) :
    c.dsOpen n mac data =
      (((c.used 1).updSrv fun y => { y with sessions := y.sessions ++ [x] }).log 0x0A07).sendPlain x dsOpenFlag := by
  subst hx hnum
  refine (if_neg (by simp [hlistens])).trans ?_
  simp only [hheader]
  refine (if_neg (by simp [hopen, hsession, hseq])).trans (if_neg ?_)
  simpa [hfree, imp_iff_not_or] using hallowed

end Open

section InSession

variable {x : Session} (hx : c.dsSession n h = some x)
include hx

/-- A CLOSE of the client (R391; log entry 91). -/
theorem Core.dsCloseRx_session (hclose : h.flags.testBit 3 = true) : c.dsCloseRx n data = c.endSession x.num false := by
  refine (if_neg (by simp [hlistens])).trans ?_
  simp only [hheader, hx]
  exact if_pos hclose

/-- An acknowledgement alone (R392). -/
theorem Core.dsAck_session (hack : h.flags.testBit 1 = true) :
    c.dsAck n data = (c.updSession x.num fun y => { y with heard := c.clk.cyc }).ackTo x.num h.ack := by
  refine (if_neg (by simp [hlistens])).trans ?_
  simp only [hheader, hx]
  exact if_pos hack

section Payload

variable (hflags : h.flags ≤ 1) {d : Core}
  (hd : d = (c.updSession x.num fun y => { y with heard := c.clk.cyc }).ackTo x.num h.ack) (hpayload : data.drop 16 ≠ [])
  (r : Recorder) (tls : Handshake)
include hflags hd hpayload

/-- A payload datagram already received is acknowledged anew (R392). -/
theorem Core.dsDatagram_again (hseq : h.seq ≤ x.rx) :
    c.dsDatagram r n data tls = match d.session? x.num with | some y => d.sendPlain y dsAckOnly | none => d := by
  subst hd
  refine (if_neg (by simp [hlistens])).trans ?_
  simp only [hheader, hx]
  exact (if_neg hflags.not_gt).trans ((if_neg (by simpa using hpayload)).trans (if_pos hseq))

/-- The payload datagram that is next is taken (R392; R476). -/
theorem Core.dsDatagram_next (hseq : h.seq = x.rx + 1) {e f : Core}
    (he : e = d.updSession x.num fun y => { y with rx := h.seq })
    (hf : f = if x.secure = true ∧ x.cred = none then e.handshake x.num tls
      else (dsMessages (data.drop 16) 80).foldl (fun (c : Core) m => c.dsRequest r x.num m) e) :
    c.dsDatagram r n data tls = match f.session? x.num with
      | some y => if f.sent.length = e.sent.length then f.sendPlain y dsAckOnly else f
      | none => f := by
  simp only [← Option.isNone_iff_eq_none] at hf
  subst hf he hd
  refine (if_neg (by simp [hlistens])).trans ?_
  simp only [hheader, hx]
  exact (if_neg hflags.not_gt).trans ((if_neg (by simpa using hpayload)).trans
    ((if_neg (by omega)).trans (if_neg (not_not_intro hseq))))

end Payload
end InSession
end Datagrams

section Timeouts

variable {c : Core} (hrun : c.clk.running = true) {num : Nat} {x : Session} (hx : c.session? num = some x)
include hrun hx

section Repeat

variable {y : Datagram} {ys : List Datagram} (hout : x.out = y :: ys) {first : Datagram}
  (hfirst : first = ys.foldl (fun (m : Datagram) z => if z.cyc < m.cyc then z else m) y) {d : Core}
  (hd : d = c.atCyc (first.cyc + ms 200))
include hout hfirst hd

/-- A datagram repeated five times closes its session (R392). -/
theorem Core.dsRetransmit_last (hrepeats : 5 ≤ first.repeats) : c.dsRetransmit num = d.endSession num true := by
  subst hd hfirst
  unfold Core.dsRetransmit
  simp only [hx, hout]
  exact (if_neg (by simp [hrun])).trans (if_pos hrepeats)

/-- The oldest datagram that is not acknowledged is repeated (R392; log entry 108). -/
theorem Core.dsRetransmit_again (hrepeats : first.repeats < 5) :
    c.dsRetransmit num = (d.updSession num fun z => { z with out := z.out.map fun q =>
        if q.seq = first.seq then { first with cyc := d.clk.cyc, repeats := first.repeats + 1 } else q }).sendDatagram
      x.net x.mac x.flags x.num first.seq x.rx first.payload := by
  subst hd hfirst
  unfold Core.dsRetransmit
  simp only [hx, hout]
  exact (if_neg (by simp [hrun])).trans (if_neg hrepeats.not_ge)

end Repeat

/-- A client that is silent for 60 s (R391). -/
theorem Core.dsIdle_session : c.dsIdle num = (c.atCyc (x.heard + ms 60000)).endSession num true := by
  unfold Core.dsIdle
  simp only [hx]
  exact if_pos hrun

/-- A handshake that takes 10 s (R476). -/
theorem Core.tlsTimeout_session (hsecure : x.secure = true) (hcred : x.cred = none) :
    c.tlsTimeout num = (c.atCyc (x.opened + ms 10000)).endSession num true := by
  unfold Core.tlsTimeout
  simp only [hx]
  exact if_pos (by simp [hrun, hsecure, hcred])

end Timeouts

/-- Settles O29: a right header leads a datagram to the session that it names, whose numbers decide what it does; none of the
guards of the three time-outs stops them. -/
theorem sessionCommandsComplete : Obligations.SessionCommandsComplete := by
  intro s c hs
  refine ⟨fun n data h hlistens hheader => ⟨fun mac hopen hsession hseq => ⟨fun hfull => ?_,
        fun num x hfree hallowed hnum hx => ?_⟩,
      fun x hx => ⟨fun hclose => ?_, fun hack => ?_, fun tls d hflags hd hpayload => ⟨fun hseq => ?_,
        fun e f hseq he hf => ?_⟩⟩⟩,
    fun num x hrun hx => ⟨fun y ys first d hout hfirst hd => ⟨fun hrepeats => ?_, fun hrepeats => ?_⟩,
      exec_act_finds (exec_dsIdleTimeout num s) hs (Core.dsIdle_session hrun hx),
      fun hsecure hcred => exec_act_finds (exec_tlsHandshakeTimeout num s) hs
        (Core.tlsTimeout_session hrun hx hsecure hcred)⟩⟩
  · exact exec_act_finds (exec_dsOpen n mac data s) hs
      (Core.dsOpen_refused hlistens hheader hopen hsession hseq mac hfull)
  · exact exec_act_finds (exec_dsOpen n mac data s) hs
      (Core.dsOpen_opened hlistens hheader hopen hsession hseq mac hfree hallowed hnum hx)
  · exact exec_act_finds (exec_dsClose n data s) hs (Core.dsCloseRx_session hlistens hheader hx hclose)
  · exact exec_act_finds (exec_dsAckOnly n data s) hs (Core.dsAck_session hlistens hheader hx hack)
  · exact exec_act_finds (exec_dsDatagram n data tls s) hs
      (Core.dsDatagram_again hlistens hheader hx hflags hd hpayload s.skein tls hseq)
  · exact exec_act_finds (exec_dsDatagram n data tls s) hs
      (Core.dsDatagram_next hlistens hheader hx hflags hd hpayload s.skein tls hseq he hf)
  · exact exec_act_finds (exec_dsRetransmitTimeout num s) hs (Core.dsRetransmit_last hrun hx hout hfirst hd hrepeats)
  · exact exec_act_finds (exec_dsRetransmitTimeout num s) hs (Core.dsRetransmit_again hrun hx hout hfirst hd hrepeats)

/-! ## Messages of the dictionary service -/

/-- What serves a request of each OP (Table 10.11). -/
def Core.dsByOp (c : Core) (r : Recorder) (num : Nat) (m : DsMessage) : Nat → Core
  | 1 => c.dsRead r num m
  | 2 => c.dsWrite num m
  | 3 => c.dsReadSegment r num m
  | 4 => c.dsWriteSegment num m
  | _ => c.dsStatus num m false abCommand []

/-- A whole message of a session that carries messages, with no reserved bit set, is served by its OP (R393). -/
theorem Core.dsRow_whole {c : Core} (hserves : c.dictServes = true) {num : Nat}
    (hsession : (c.session? num).any Session.serves = true) (hvoted : c.ply.unvoted = none) {msg : Bytes}
    {m : DsMessage} (hm : m = dsMessage msg) (hlen : msg.length = 16 + m.len) (hmax : m.len ≤ 1024) (hflags : m.flags ≤ 1)
    (hstatus : m.status = 0) (r : Recorder) {op : Nat} (hop : m.op = op) :
    c.dsRow r op num msg = c.dsByOp r num m op := by
  subst hop hm
  have hsome : (c.session? num).isNone = false := by
    rw [Option.isNone_eq_false_iff]
    exact Option.isSome_of_any hsession
  calc c.dsRow r (dsMessage msg).op num msg
      = c.dsRequest r num msg := if_pos ⟨rfl, hlen⟩
    _ = c.dsServe r num msg := (if_neg (by simp [hserves, hsession])).trans (if_neg (by simp [hvoted]))
    _ = c.dsByOp r num (dsMessage msg) (dsMessage msg).op :=
      (if_neg (by simp [hsome])).trans ((if_neg hmax.not_gt).trans (if_neg (by simp [hflags, hstatus])))

section Entry

variable {c : Core} {num : Nat} {m : DsMessage} {row : OdRow} (hrow : c.entry? m.key = some row)
include hrow

section Number

variable (htype : row.type ≠ .domain)
include htype

/-- A read that the checks let through, and one that they refuse (R464). -/
theorem Core.dsRead_entry (r : Recorder) :
    (∀ b, c.readBytes r (.session num) m.key .be = .ok b → c.dsRead r num m = (c.used 1).dsStatus num m false 0 b) ∧
      ∀ code, c.readBytes r (.session num) m.key .be = .error code → c.dsRead r num m = c.dsStatus num m false code [] := by
  unfold Core.dsRead
  simp only [hrow, if_neg htype]
  exact ⟨fun b hread => by simp only [hread], fun code hread => by simp only [hread]⟩

/-- A write is answered with its abort code or 0 (R465). -/
theorem Core.dsWrite_entry {d : Core} (hd : d = c.writeFree (.session num) m.key .be m.data) :
    c.dsWrite num m = d.dsStatus num m false d.replyCode [] := by
  subst hd
  unfold Core.dsWrite
  simp only [hrow, if_neg htype]

end Number

section Content

variable (hdomain : row.isDomain = true)
include hdomain

/-- A segment of a content that the checks let through, and one that they refuse (R466). -/
theorem Core.dsReadSegment_domain (r : Recorder) :
    (∀ b, c.readBytes r (.session num) m.key .be = .ok b → c.dsReadSegment r num m =
      c.dsStatus num m (decide (b.length ≤ m.offset + 1024)) 0 (slice b m.offset 1024)) ∧
      ∀ code, c.readBytes r (.session num) m.key .be = .error code →
        c.dsReadSegment r num m = c.dsStatus num m false code [] := by
  unfold Core.dsReadSegment
  simp only [hrow, hdomain, Bool.not_true, Bool.false_eq_true, if_false]
  exact ⟨fun b hread => by simp only [hread], fun code hread => by simp only [hread]⟩

/-- A segment written is answered with its abort code or 0 (R466). -/
theorem Core.dsWriteSegment_domain {d : Core}
    (hd : d = c.writeSegment (.session num) m.key m.offset m.data (m.flags.testBit 0)) :
    c.dsWriteSegment num m = d.dsStatus num m false d.replyCode [] := by
  subst hd
  unfold Core.dsWriteSegment
  simp only [hrow, hdomain, Bool.not_true, Bool.false_eq_true, if_false]

end Content
end Entry

/-- Settles O30: a whole message of a session is served by its OP, and the kind of its entry and what the checks answer decide
the response. -/
theorem dictionaryMessagesComplete : Obligations.DictionaryMessagesComplete := by
  intro s c num msg m row hs hserves hsession hvoted hm hlen hmax hflags hstatus hrow
  have hserved {op : Nat} (hop : m.op = op) : c.dsRow s.skein op num msg = c.dsByOp s.skein num m op :=
    Core.dsRow_whole hserves hsession hvoted hm hlen hmax hflags hstatus s.skein hop
  refine ⟨fun hop htype => ?_, fun hop htype d hd => exec_act_finds (exec_dsWrite num msg s) hs
      ((hserved hop).trans (Core.dsWrite_entry hrow htype hd)),
    fun hdomain => ⟨fun hop => ?_, fun hop d hd => exec_act_finds (exec_dsWriteSegment num msg s) hs
      ((hserved hop).trans (Core.dsWriteSegment_domain hrow hdomain hd))⟩⟩
  · obtain ⟨hvalue, hrefused⟩ := Core.dsRead_entry (num := num) hrow htype s.skein
    exact ⟨fun b hread => exec_act_finds (exec_dsRead num msg s) hs ((hserved hop).trans (hvalue b hread)),
      fun code hread => exec_act_finds (exec_dsRead num msg s) hs ((hserved hop).trans (hrefused code hread))⟩
  · obtain ⟨hvalue, hrefused⟩ := Core.dsReadSegment_domain (num := num) hrow hdomain s.skein
    exact ⟨fun b hread => exec_act_finds (exec_dsReadSegment num msg s) hs ((hserved hop).trans (hvalue b hread)),
      fun code hread => exec_act_finds (exec_dsReadSegment num msg s) hs ((hserved hop).trans (hrefused code hread))⟩

end Sys2Proof.Machine
end

section
/-! The statements of the recorder (chapter 13): its bounds (O47), who touches the ring (O49), where an entry goes (O50), and
what its commands do (O37). -/

-- Elaborated in order, so that the memory of its proofs is not held beside that of the rest of the text.
set_option Elab.async false

namespace Sys2Proof.Machine

/-! ## The recorder's bounds along a step -/

/-- What follows a command keeps the bounds of the recorder that the command's own effect leaves. -/
theorem State.finish_ok {s : State} {b : Bool} {x : Core × Recorder} (h : x.2.Ok) : (s.finish b x).skein.Ok := h.report _ _

theorem State.record_ok {s t : State} {f : Core → Recorder → Core × Recorder} (h : s.skein.Ok)
    (hf : ∀ c, (f c s.skein).2.Ok) (ht : s.record f = .next t) : t.skein.Ok := by
  cases ht
  refine State.finish_ok ?_
  split
  · exact hf _
  · exact h

theorem State.act_ok {s t : State} {f : Core → Recorder → Core} (h : s.skein.Ok) (ht : s.act f = .next t) : t.skein.Ok :=
  State.record_ok h (fun _ => h) ht

theorem State.pop_ok {s t : State} {f : Core → Core} (h : s.skein.Ok) (ht : s.pop f = .next t) : t.skein.Ok := by
  cases ht
  refine State.finish_ok ?_
  split <;> exact h

theorem State.power_ok {s t : State} {f : Core → Recorder → Core × Recorder} (hf : ∀ c, (f c s.skein).2.Ok)
    (ht : s.power f = .next t) : t.skein.Ok := by
  cases ht
  exact State.finish_ok (hf _)

theorem Recorder.Ok.skeinWrite {r : Recorder} (h : r.Ok) (c : Core) : (c.skeinWrite r).2.Ok := by
  unfold Core.skeinWrite
  split
  · exact h
  · exact h.writeNext _

theorem Recorder.Ok.skeinRefill {r : Recorder} (h : r.Ok) (c : Core) (code : Nat) : (c.skeinRefill r code).2.Ok := by
  unfold Core.skeinRefill
  dsimp only
  split
  · exact h
  · exact h.refill _ _ _ _

theorem Recorder.Ok.corePowerFail {r : Recorder} (h : r.Ok) (c : Core) (n rtc : Nat) : (c.powerFail r n rtc).2.Ok := by
  unfold Core.powerFail
  split
  · exact h
  · refine Recorder.Ok.clearRam ?_
    split
    · exact (h.direct _ _).powerFail _
    · exact h

theorem Recorder.Ok.startUp {r : Recorder} (h : r.Ok) (c : Core) (x : StartUp) (cause : Nat) : (c.startUp r x cause).2.Ok := by
  unfold Core.startUp
  generalize c.bootRom x cause = boot
  obtain ⟨d, found, vstatus⟩ := boot
  cases found with
  | none => exact h
  | some bank =>
    have hstart := h.clearRam.startWriter rfl rfl (d.selfTest x).writer (if vstatus.testBit 1 then some d.vault.skeinSeq else none)
      (d.selfTest x).vault.bootCount
    dsimp only
    split <;> exact hstart

theorem Recorder.Ok.supplyRise {r : Recorder} (h : r.Ok) (c : Core) (x : StartUp) (recovered : Bool) :
    (c.supplyRise r x recovered).2.Ok := by
  unfold Core.supplyRise
  split
  · exact h
  · dsimp only
    split
    · exact h
    · exact h.startUp _ _ _

theorem Recorder.Ok.resetAssert {r : Recorder} (h : r.Ok) (c : Core) : (c.resetAssert r).2.Ok := by
  unfold Core.resetAssert
  dsimp only
  split
  · exact h.clearRam
  · exact h

theorem Recorder.Ok.resetRelease {r : Recorder} (h : r.Ok) (c : Core) (x : StartUp) (held : Nat) :
    (c.resetRelease r x held).2.Ok := by
  unfold Core.resetRelease
  split
  · exact h
  · dsimp only
    split
    · exact h
    · exact h.startUp _ _ _

/-- Every command keeps the recorder within its bounds. -/
theorem exec_ok {i : Instr} {s t : State} (h : s.skein.Ok) (ht : exec i s = .next t) : t.skein.Ok := by
  rcases exec_cases i s with ⟨-, -, ⟨f, e⟩ | ⟨f, e⟩⟩ | hr | ⟨hp, -⟩
  · exact State.act_ok h (e ▸ ht)
  · exact State.pop_ok h (e ▸ ht)
  · rcases hr with ⟨-, e⟩ | ⟨code, -, e⟩ | ⟨ok, -, e⟩ | ⟨ok, -, e⟩
    · exact State.record_ok h (fun c => h.skeinWrite c) (e ▸ ht)
    · exact State.record_ok h (fun c => h.skeinRefill c code) (e ▸ ht)
    · exact State.record_ok h (fun _ => h.mirrorProgram ok) (e ▸ ht)
    · exact State.record_ok h (fun _ => h.erase ok) (e ▸ ht)
  · rcases power_cases hp with ⟨n, rtc, rfl⟩ | ⟨x, b, rfl⟩ | rfl | ⟨x, held, rfl⟩ | rfl | rfl
    · exact State.power_ok (fun c => h.corePowerFail c n rtc) (exec_powerFail n rtc s ▸ ht)
    · exact State.power_ok (fun c => h.supplyRise c x b) (exec_logicSupplyRise x b s ▸ ht)
    · exact State.power_ok (fun c => h.resetAssert c) (exec_resetNAssert s ▸ ht)
    · exact State.power_ok (fun c => h.resetRelease c x held) (exec_resetNRelease x held s ▸ ht)
    · exact State.power_ok (fun _ => h) (exec_vbatSupervisorTrip s ▸ ht)
    · exact State.power_ok (fun _ => h) (exec_vbatRestore s ▸ ht)

/-- Settles O47: each command keeps the bounds, and the cycle that passes on an empty queue leaves the recorder to what
follows it. -/
theorem recorderStaysWithinItsBounds : Obligations.RecorderStaysWithinItsBounds := by
  intro s t h ht
  unfold step at ht
  split at ht
  next i rest _ => exact exec_ok (s := { s with pending := rest }) h ht
  next => cases ht; exact State.finish_ok h

end Sys2Proof.Machine
end

section
/-! The statements about the RAM ring (chapter 13): who touches it (O49) and where an entry goes (O50). -/

-- Elaborated in order, so that the memory of its proofs is not held beside that of the rest of the text.
set_option Elab.async false

namespace Sys2Proof.Machine

/-! ## What leaves the ring alone -/

/-- `r'` has the ring and the token buckets of `r`. -/
def Recorder.SameRing (r r' : Recorder) : Prop := r'.ring = r.ring ∧ r'.buckets = r.buckets

/-- `r'` has the ring, the token buckets and the last sequence number of `r`. -/
def Recorder.SameEntries (r r' : Recorder) : Prop := r.SameRing r' ∧ r'.lastSeq = r.lastSeq

/-- From `r` to `r'` at most one sequence number is assigned. -/
def Recorder.AtMostOne (r r' : Recorder) : Prop := r.lastSeq ≤ r'.lastSeq ∧ r'.lastSeq ≤ r.lastSeq + 1

theorem Recorder.SameRing.trans {r r' r'' : Recorder} (h : r.SameRing r') (h' : r'.SameRing r'') : r.SameRing r'' :=
  ⟨h'.1.trans h.1, h'.2.trans h.2⟩

theorem Recorder.SameEntries.trans {r r' r'' : Recorder} (h : r.SameEntries r') (h' : r'.SameEntries r'') :
    r.SameEntries r'' := ⟨h.1.trans h'.1, h'.2.trans h.2⟩

theorem Recorder.SameEntries.refl (r : Recorder) : r.SameEntries r := ⟨⟨rfl, rfl⟩, rfl⟩

theorem Recorder.SameEntries.atMostOne {r r' : Recorder} (h : r.SameEntries r') : r.AtMostOne r' :=
  ⟨Nat.le_of_eq h.2.symm, h.2 ▸ Nat.le_succ _⟩

theorem Recorder.AtMostOne.trans_same {r r' r'' : Recorder} (h : r.AtMostOne r') (h' : r''.lastSeq = r'.lastSeq) :
    r.AtMostOne r'' := ⟨h' ▸ h.1, h' ▸ h.2⟩

theorem Recorder.request_same (r : Recorder) (q : Request) : r.SameEntries (r.request q) := by
  unfold Recorder.request
  split <;> exact ⟨⟨rfl, rfl⟩, rfl⟩

theorem Recorder.requests_same (r : Recorder) (qs : List Request) : r.SameEntries (r.requests qs) := by
  unfold Recorder.requests
  induction qs generalizing r with
  | nil => exact .refl r
  | cons q qs ih => exact (r.request_same q).trans (ih _)

theorem Recorder.reportDrops_same (r : Recorder) : r.SameEntries r.reportDrops := by
  unfold Recorder.reportDrops
  split
  · exact .refl r
  · exact Recorder.request_same { r with dropRun := 0 } _

theorem Recorder.reportMirror_same (r : Recorder) : r.SameEntries r.reportMirror := by
  unfold Recorder.reportMirror
  split
  · exact .refl r
  · exact Recorder.request_same { r with mirrorRun := 0 } _

theorem Recorder.openSector_same {r r' : Recorder} (h : r.openSector = some r') : r.SameEntries r' := by
  unfold Recorder.openSector at h
  split at h
  · split at h
    · cases h; exact .refl _
    · split at h
      · cases h; exact ⟨⟨rfl, rfl⟩, rfl⟩
      · cases h
  · split at h
    · cases h; exact ⟨⟨rfl, rfl⟩, rfl⟩
    · cases h

theorem Recorder.program_same (r : Recorder) (e : Entry) : r.SameEntries (r.program e) := by
  unfold Recorder.program
  split
  · rename_i r' h
    exact ⟨(Recorder.openSector_same h).1, (Recorder.openSector_same h).2⟩
  · exact .refl r

theorem Recorder.mirrorProgram_same (r : Recorder) (ok : Bool) : r.SameEntries (r.mirrorProgram ok) := by
  unfold Recorder.mirrorProgram
  split
  · exact .refl r
  · rename_i e rest _
    split
    · exact .refl r
    · rename_i r' ho
      have hopen := Recorder.openSector_same ho
      split
      · exact hopen.trans (Recorder.reportMirror_same { r' with mirror := rest, flash := appendEntry e r'.flash })
      · split
        · exact hopen.trans (Recorder.request_same { r' with retired := _ } _)
        · exact hopen

theorem Recorder.erase_same (r : Recorder) (ok : Bool) : r.SameEntries (r.erase ok) := by
  unfold Recorder.erase
  split
  · exact .refl r
  · split
    · exact .refl r
    · split
      · exact ⟨⟨rfl, rfl⟩, rfl⟩
      · split
        · exact ⟨⟨rfl, rfl⟩, rfl⟩
        · exact Recorder.request_same { r with flash := _, retired := _ } _

/-- A request programmed directly leaves the ring alone and may take the next sequence number. -/
theorem Recorder.direct_ring (r : Recorder) (w : Writer) (q : Request) :
    r.SameRing (r.direct w q) ∧ r.lastSeq ≤ (r.direct w q).lastSeq := by
  unfold Recorder.direct
  split
  · exact ⟨⟨rfl, rfl⟩, Nat.le_refl _⟩
  · obtain ⟨hring, hseq⟩ := Recorder.program_same { r with lastSeq := r.lastSeq + 1 } ⟨r.lastSeq + 1, r.stamp w q, q.code, q.sev,
      w.flags + 8 * b2n q.step.isSome, w.tick, q.arg0, q.arg1⟩
    exact ⟨hring, hseq.symm ▸ Nat.le_succ _⟩

theorem Recorder.flush_ring (r : Recorder) (w : Writer) (l : List Request) :
    r.SameRing (r.flush w l) ∧ r.lastSeq ≤ (r.flush w l).lastSeq := by
  induction l generalizing r with
  | nil => exact ⟨⟨rfl, rfl⟩, Nat.le_refl _⟩
  | cons q l ih =>
    obtain ⟨hdirect, hseq⟩ := Recorder.direct_ring { r with queue := l } w q
    obtain ⟨hrest, hseq'⟩ := ih (Recorder.direct { r with queue := l } w q)
    exact ⟨Recorder.SameRing.trans hdirect hrest, Nat.le_trans hseq hseq'⟩

/-! ## What the writer does to the sequence numbers -/

@[simp] theorem Recorder.toMirror_lastSeq (r : Recorder) (e : Entry) : (r.toMirror e).lastSeq = r.lastSeq := by
  unfold Recorder.toMirror
  split
  · rfl
  · split <;> rfl

theorem Recorder.place_atMostOne (r : Recorder) (w : Writer) (q : Request) (b : Bool) : r.AtMostOne (r.place w q b).1 := by
  have next (x : Recorder) (hx : x.lastSeq = r.lastSeq + 1) (e : Entry) : r.AtMostOne (x.toMirror e) := by
    simp [Recorder.AtMostOne, hx]
  unfold Recorder.place
  dsimp only
  split
  · exact next _ rfl _
  · split
    · exact next _ rfl _
    · exact ⟨Nat.le_refl _, Nat.le_succ _⟩

theorem Recorder.serve_atMostOne (r : Recorder) (w : Writer) (q : Request) : r.AtMostOne (r.serve w q).1 := by
  unfold Recorder.serve
  dsimp only
  split
  · exact Recorder.place_atMostOne (r.setBucket _) _ _ _
  · exact ⟨Nat.le_refl _, Nat.le_succ _⟩

theorem Recorder.writeNext_atMostOne (r : Recorder) (w : Writer) : r.AtMostOne (r.writeNext w).1 := by
  unfold Recorder.writeNext
  split
  · exact (Recorder.SameEntries.refl r).atMostOne
  · rename_i q rest _
    exact (Recorder.serve_atMostOne { r with queue := rest } w q).trans_same (Recorder.reportDrops_same _).2

theorem Recorder.refill_atMostOne (r : Recorder) (w : Writer) (code ms : Nat) (b : Bool) :
    r.AtMostOne (r.refill w code ms b).1 := by
  unfold Recorder.refill
  dsimp only
  split
  · exact ⟨Nat.le_refl _, Nat.le_succ _⟩
  · split
    · exact Recorder.place_atMostOne (r.setBucket _) _ _ _
    · exact ⟨Nat.le_refl _, Nat.le_succ _⟩

theorem Core.skeinWrite_atMostOne (c : Core) (r : Recorder) : r.AtMostOne (c.skeinWrite r).2 := by
  unfold Core.skeinWrite
  split
  · exact (Recorder.SameEntries.refl r).atMostOne
  · exact r.writeNext_atMostOne _

theorem Core.skeinRefill_atMostOne (c : Core) (r : Recorder) (code : Nat) : r.AtMostOne (c.skeinRefill r code).2 := by
  unfold Core.skeinRefill
  dsimp only
  split
  · exact (Recorder.SameEntries.refl r).atMostOne
  · exact r.refill_atMostOne _ _ _ _

/-! ## Commands and the ring -/

/-- The requests of a command leave the ring alone, and assign no sequence number unless the station fails. -/
theorem Core.report_ring (c : Core) (qs : List Request) (r : Recorder) :
    r.SameRing (c.report qs r) ∧ r.lastSeq ≤ (c.report qs r).lastSeq ∧
      (c.run ≠ .failed → (c.report qs r).lastSeq = r.lastSeq) := by
  obtain ⟨hring, hseq⟩ := r.requests_same qs
  unfold Core.report
  dsimp only
  split
  next hfailed =>
    obtain ⟨hflush, hle⟩ := (r.requests qs).flush_ring c.writer (r.requests qs).queue
    exact ⟨hring.trans hflush, hseq ▸ hle, fun h => absurd hfailed h⟩
  next => exact ⟨hring, Nat.le_of_eq hseq.symm, fun _ => hseq⟩

/-- So does what follows a command. -/
theorem State.finish_ring (s : State) (b : Bool) (x : Core × Recorder) :
    x.2.SameRing (s.finish b x).skein ∧ x.2.lastSeq ≤ (s.finish b x).skein.lastSeq ∧
      ((s.finish b x).core.run ≠ .failed → (s.finish b x).skein.lastSeq = x.2.lastSeq) :=
  Core.report_ring _ _ _

/-- The effect of a command of the logic on the recorder, before what follows it: its own, or none without power. -/
theorem State.record_ring {s t : State} {f : Core → Recorder → Core × Recorder} {P : Recorder → Prop}
    (hsame : P s.skein) (hf : ∀ c, P (f c s.skein).2) (ht : s.record f = .next t) :
    ∃ r, P r ∧ r.SameRing t.skein ∧ r.lastSeq ≤ t.skein.lastSeq ∧ (t.core.run ≠ .failed → t.skein.lastSeq = r.lastSeq) := by
  cases ht
  refine ⟨_, ?_, State.finish_ring s true _⟩
  split
  · exact hf _
  · exact hsame

/-- A command other than the writer's and the supplies' leaves ring and sequence numbers to what follows it. -/
theorem exec_same {i : Instr} {s t : State} (ht : exec i s = .next t) (hp : powerCommand i = false)
    (hw : writerCommand i = false) :
    ∃ r, s.skein.SameEntries r ∧ r.SameRing t.skein ∧ r.lastSeq ≤ t.skein.lastSeq ∧
      (t.core.run ≠ .failed → t.skein.lastSeq = r.lastSeq) := by
  have hrefl := Recorder.SameEntries.refl s.skein
  rcases exec_cases i s with ⟨-, -, ⟨f, e⟩ | ⟨f, e⟩⟩ | hr | ⟨hp', -⟩
  · exact State.record_ring hrefl (fun _ => hrefl) (e ▸ ht)
  · rw [e] at ht
    cases ht
    refine ⟨_, ?_, State.finish_ring s true _⟩
    split <;> exact hrefl
  · rcases hr with ⟨rfl, -⟩ | ⟨code, rfl, -⟩ | ⟨ok, -, e⟩ | ⟨ok, -, e⟩
    · cases hw
    · cases hw
    · exact State.record_ring hrefl (fun _ => s.skein.mirrorProgram_same ok) (e ▸ ht)
    · exact State.record_ring hrefl (fun _ => s.skein.erase_same ok) (e ▸ ht)
  · rw [hp] at hp'; cases hp'

/-- The writer's own commands assign at most one sequence number before what follows them. -/
theorem exec_writer {i : Instr} {s t : State} (ht : exec i s = .next t) (hw : writerCommand i = true) :
    ∃ r, s.skein.AtMostOne r ∧ r.SameRing t.skein ∧ r.lastSeq ≤ t.skein.lastSeq ∧
      (t.core.run ≠ .failed → t.skein.lastSeq = r.lastSeq) := by
  have hrefl := (Recorder.SameEntries.refl s.skein).atMostOne
  unfold writerCommand at hw
  split at hw
  next => exact State.record_ring hrefl (fun c => c.skeinWrite_atMostOne _) ht
  next code => exact State.record_ring hrefl (fun c => c.skeinRefill_atMostOne _ code) (exec_skeinRefill code s ▸ ht)
  next => cases hw

/-- Settles O49: a command is the writer's, which assigns at most one number, or leaves ring and numbers as they are; what
follows it assigns numbers only in a station that fails. -/
theorem onlyTheWriterTouchesTheRing : Obligations.OnlyTheWriterTouchesTheRing := by
  intro i s t ht hp
  cases hw : writerCommand i with
  | false =>
    obtain ⟨r, ⟨hring, hseq⟩, hring', hle, hrun⟩ := exec_same ht hp hw
    exact ⟨fun _ => hring.trans hring', hseq ▸ hle, fun h =>
      ⟨(hrun h).trans hseq ▸ Nat.le_succ _, fun _ => (hrun h).trans hseq⟩⟩
  | true =>
    obtain ⟨r, ⟨hlow, hhigh⟩, -, hle, hrun⟩ := exec_writer ht hw
    exact ⟨fun h => by (cases h), Nat.le_trans hlow hle, fun h => ⟨(hrun h).symm ▸ hhigh, fun h => by (cases h)⟩⟩

/-! ## Where the ring takes an entry -/

@[simp] theorem Recorder.toMirror_ring (r : Recorder) (e : Entry) : (r.toMirror e).ring = r.ring := by
  unfold Recorder.toMirror
  split
  · rfl
  · split <;> rfl

@[simp] theorem Recorder.toMirror_overwritten (r : Recorder) (e : Entry) : (r.toMirror e).overwritten = r.overwritten := by
  unfold Recorder.toMirror
  split
  · rfl
  · split <;> rfl

@[simp] theorem Recorder.toMirror_lost (r : Recorder) (e : Entry) : (r.toMirror e).lost = r.lost := by
  unfold Recorder.toMirror
  split
  · rfl
  · split <;> rfl

/-- Nothing is dropped from a ring whose entries are all more severe. -/
theorem dropOldest_eq_none {sev : Nat} {l : List (Nat × Entry)} : dropOldest sev l = none ↔ ∀ x ∈ l, sev < x.2.sev := by
  induction l with
  | nil => simp [dropOldest]
  | cons p l ih =>
    obtain ⟨j, e⟩ := p
    unfold dropOldest
    split
    · simp; omega
    · simp only [Option.map_eq_none_iff, ih, List.mem_cons, forall_eq_or_imp]
      exact ⟨fun h => ⟨by show sev < e.sev; omega, h⟩, fun h => h.2⟩

/-- The ring without its oldest entry of severity at most `sev` is the ring before that entry and the ring behind it, and all
entries before it are more severe. -/
theorem dropOldest_split {sev i : Nat} {l rest : List (Nat × Entry)} (h : dropOldest sev l = some (i, rest)) :
    ∃ a e b, l = a ++ (i, e) :: b ∧ rest = a ++ b ∧ e.sev ≤ sev ∧ ∀ x ∈ a, sev < x.2.sev := by
  induction l generalizing rest with
  | nil => cases h
  | cons p l ih =>
    obtain ⟨j, e⟩ := p
    unfold dropOldest at h
    split at h
    next hle =>
      cases h
      exact ⟨[], e, l, rfl, rfl, hle, fun x hx => by cases hx⟩
    next hgt =>
      obtain ⟨⟨k, l'⟩, hd, hq⟩ := Option.map_eq_some_iff.1 h
      cases hq
      obtain ⟨a, e', b, rfl, rfl, hle, ha⟩ := ih hd
      exact ⟨(j, e) :: a, e', b, rfl, rfl, hle, fun x hx => by
        rcases List.mem_cons.1 hx with rfl | hx
        · show sev < e.sev; omega
        · exact ha x hx⟩

/-- In a rising list the entries behind an entry have higher numbers. -/
theorem seqRising_head_lt {lo : Nat} {l : List Entry} (h : seqRising lo l) : ∀ x ∈ l, lo < x.seq := by
  induction l generalizing lo with
  | nil => intro x hx; cases hx
  | cons e l ih =>
    intro x hx
    rcases List.mem_cons.1 hx with rfl | hx
    · exact h.1
    · exact Nat.lt_trans h.1 (ih h.2 x hx)

theorem seqRising_split {lo : Nat} {a b : List Entry} {e : Entry} (h : seqRising lo (a ++ e :: b)) : ∀ x ∈ b, e.seq < x.seq := by
  induction a generalizing lo with
  | nil => exact seqRising_head_lt h.2
  | cons x a ih => exact ih h.2

/-- The slots in use of a ring within its bounds are those below its length. -/
theorem Recorder.Ok.slot_iff {r : Recorder} (h : r.Ok) (i : Nat) : i ∈ r.ring.map Prod.fst ↔ i < r.ring.length := by
  refine ⟨h.slotsInUse i, fun hi => ?_⟩
  have hsub : (r.ring.map Prod.fst).toFinset ⊆ Finset.range r.ring.length := fun j hj =>
    Finset.mem_range.2 (h.slotsInUse j (List.mem_toFinset.1 hj))
  have hcard : (Finset.range r.ring.length).card ≤ (r.ring.map Prod.fst).toFinset.card := by
    rw [List.toFinset_card_of_nodup h.slotsDistinct]; simp
  have heq := Finset.eq_of_subset_of_card_le hsub hcard
  exact List.mem_toFinset.1 (heq ▸ Finset.mem_range.2 hi)

/-- One element counted at its place. -/
theorem updAt_getD (l : List Nat) {n : Nat} (hn : n < l.length) (k : Nat) :
    (updAt (· + 1) l n).getD k 0 = if k = n then l.getD k 0 + 1 else l.getD k 0 := by
  induction l generalizing n k with
  | nil => cases hn
  | cons x l ih =>
    cases n with
    | zero => cases k <;> simp [updAt]
    | succ n =>
      cases k with
      | zero => simp [updAt]
      | succ k => simpa [updAt] using ih (Nat.lt_of_succ_lt_succ hn) k

/-- Settles O50: the slots in use are those below the ring's length; what dropOldest takes is the oldest of the least severe,
since the ring rises. -/
theorem placementInTheRing : Obligations.PlacementInTheRing := by
  intro r r' w q summary written e hok hlo hhi hplace he
  have hslots : ringSlots = 65536 := rfl
  have hplaced := hplace
  unfold Recorder.place at hplaced
  simp only [hslots, ← he] at hplaced
  refine ⟨fun hroom => ?_, fun hfull hex => ?_, fun hfull hall => ?_⟩
  · rw [if_pos hroom] at hplaced
    cases hplaced
    refine ⟨rfl, by simp [he], by simp, by simp, r.ring.length, hroom, by simp, ?_, fun j hj => (hok.slot_iff j).2 hj⟩
    exact fun hmem => Nat.lt_irrefl _ ((hok.slot_iff _).1 hmem)
  · rw [if_neg (by omega)] at hplaced
    cases hdrop : dropOldest q.sev r.ring with
    | none =>
      obtain ⟨x, hx, hsev⟩ := hex
      exact absurd (dropOldest_eq_none.1 hdrop x hx) (by omega)
    | some p =>
      obtain ⟨i, rest⟩ := p
      simp only [hdrop] at hplaced
      cases hplaced
      obtain ⟨a, x, b, hring, rfl, hsev, hbefore⟩ := dropOldest_split hdrop
      refine ⟨rfl, by simp [he], by simp, by simp, (i, x), by simp [hring], hsev, ?_, ?_⟩
      · intro y hy hysev
        rw [hring, List.mem_append, List.mem_cons] at hy
        rcases hy with hy | rfl | hy
        · exact absurd (hbefore y hy) (by omega)
        · exact Nat.le_refl _
        · have hrise := hok.ringRising
          simp only [hring, List.map_append, List.map_cons] at hrise
          exact Nat.le_of_lt (seqRising_split hrise _ (List.mem_map_of_mem hy))
      · intro y
        have hdistinct := hok.slotsDistinct
        simp only [hring, List.map_append, List.map_cons] at hdistinct
        have hnot : (i, x) ∉ a ++ b := fun hmem =>
          (List.nodup_middle.1 hdistinct).notMem (by
            rw [← List.map_append]; exact List.mem_map_of_mem (f := Prod.fst) hmem)
        simp only [Recorder.toMirror_ring, hring, List.mem_append, List.mem_cons, List.not_mem_nil, or_false]
        simp only [List.mem_append] at hnot
        constructor
        · rintro (hy | hy)
          · exact .inr ⟨by tauto, fun h => hnot (h ▸ hy)⟩
          · exact .inl hy
        · rintro (hy | ⟨hy, hne⟩)
          · exact .inr hy
          · exact .inl (by tauto)
  · rw [if_neg (by omega), dropOldest_eq_none.2 hall] at hplaced
    cases hplaced
    exact ⟨rfl, rfl, rfl, rfl, updAt_getD _ (by rw [hok.lostLength]; omega)⟩

end Sys2Proof.Machine
end

section
/-! The commands of the recorder (chapter 13): requests, writes, refills, flash programs, erases and reads (O37). -/

-- Elaborated in order, so that the memory of its proofs is not held beside that of the rest of the text.
set_option Elab.async false

namespace Sys2Proof.Machine

/-- A command on the recorder answers what its function makes of the core as the command finds it and of the recorder. -/
theorem exec_record_finds {i : Instr} {s : State} {c d : Core} {r : Recorder} {f : Core → Recorder → Core × Recorder}
    (hi : exec i s = s.record f) (hs : s.finds c) (hd : f c s.skein = (d, r)) : exec i s = .next (s.finishingWith d r) := by
  rw [hi, State.record_finds hs, hd]

/-! ## The writer -/

section Serve
variable {r r1 r2 : Recorder} {w : Writer} {q : Request} {rest : List Request} {b : Bucket}

theorem Recorder.writeNext_nil (hq : r.queue = []) : r.writeNext w = (r, 0) := by
  simp only [Recorder.writeNext, hq]

/-- Without a token the oldest request is suppressed. -/
theorem Recorder.writeNext_suppressed (hq : r.queue = q :: rest) (hb : b = r.bucket w q.code) (hnone : b.tokens = 0)
    (hr2 : r2 = ({ ({ r with queue := rest }.setBucket
      { b with suppressed := b.suppressed + 1, sevMax := max b.sevMax q.sev, lastArg := q.arg0 }) with
      suppressed := r.suppressed + 1 }).reportDrops) : r.writeNext w = (r2, 0) := by
  subst hb hr2
  have hserve : { r with queue := rest }.serve w q = ({ ({ r with queue := rest }.setBucket { r.bucket w q.code with
      suppressed := (r.bucket w q.code).suppressed + 1, sevMax := max (r.bucket w q.code).sevMax q.sev, lastArg := q.arg0 }) with
      suppressed := r.suppressed + 1 }, false) := if_neg (by show ¬ 0 < (r.bucket w q.code).tokens; omega)
  simp only [Recorder.writeNext, hq, hserve, Bool.false_eq_true, if_false]

/-- With one it is placed. -/
theorem Recorder.writeNext_placed (hq : r.queue = q :: rest) (hb : b = r.bucket w q.code) (htoken : 0 < b.tokens)
    (hr1 : r1 = { r with queue := rest }.setBucket { b with tokens := b.tokens - 1 }) {ok : Bool}
    (hplace : r1.place w q false = (r2, ok)) : r.writeNext w = (r2.reportDrops, if ok then q.sev else 0) := by
  subst hb
  have hserve : { r with queue := rest }.serve w q = (r2, ok) := by rw [← hplace, hr1]; exact if_pos htoken
  simp only [Recorder.writeNext, hq, hserve]

end Serve

section Place
variable {r : Recorder} {w : Writer} {q : Request} {e : Entry}

theorem Recorder.place_room
    (he : e = ⟨r.lastSeq + 1, r.stamp w q, q.code, q.sev, w.flags + 8 * b2n q.step.isSome, w.tick, q.arg0, q.arg1⟩)
    (hroom : r.ring.length < 65536) : r.place w q false =
      ({ r with ring := r.ring ++ [(r.ring.length, e)], lastSeq := r.lastSeq + 1 }.toMirror e, true) := by
  subst he
  exact if_pos hroom

theorem Recorder.place_replaces
    (he : e = ⟨r.lastSeq + 1, r.stamp w q, q.code, q.sev, w.flags + 8 * b2n q.step.isSome, w.tick, q.arg0, q.arg1⟩)
    (hfull : 65536 ≤ r.ring.length) {i : Nat} {ring : List (Nat × Entry)} (hdrop : dropOldest q.sev r.ring = some (i, ring)) :
    r.place w q false = ({ r with ring := ring ++ [(i, e)], lastSeq := r.lastSeq + 1, overwritten := r.overwritten + 1 }.toMirror
      e, true) := by
  subst he
  unfold Recorder.place
  simp only [hdrop, if_neg (Nat.not_lt.2 hfull : ¬ r.ring.length < ringSlots)]
  rfl

theorem Recorder.place_dropped (hfull : 65536 ≤ r.ring.length) (hdrop : dropOldest q.sev r.ring = none) (summary : Bool) :
    r.place w q summary = (r.lose q.sev, false) := by
  unfold Recorder.place
  simp only [hdrop, if_neg (Nat.not_lt.2 hfull : ¬ r.ring.length < ringSlots)]

end Place

theorem Core.skeinWrite_writes {c : Core} (hwrites : c.skeinWrites = true) {r r' : Recorder} {sev : Nat}
    (hnext : r.writeNext c.writer = (r', sev)) : c.skeinWrite r = (c.skeinWritten r r' sev, r') := by
  unfold Core.skeinWrite
  simp only [hwrites, hnext]
  rfl

/-- An entry written pulses source 490 from EV.SKEIN_SEV on, and its number goes to the vault. -/
theorem Core.skeinWritten_written (c : Core) {r r' : Recorder} (sev : Nat) (hseq : r'.lastSeq = r.lastSeq + 1) :
    c.skeinWritten r r' sev = (if sev ≠ 0 ∧ c.rd Od.EV_SKEIN_SEV ≤ sev then c.evPulse 490 else c).noteSeq r' := by
  unfold Core.skeinWritten
  rw [if_neg (by omega)]
  simp

@[simp] theorem Recorder.setBucket_lastSeq (r : Recorder) (b : Bucket) : (r.setBucket b).lastSeq = r.lastSeq := rfl
@[simp] theorem Recorder.lose_lastSeq (r : Recorder) (sev : Nat) : (r.lose sev).lastSeq = r.lastSeq := rfl
@[simp] theorem Recorder.reportDrops_lastSeq (r : Recorder) : r.reportDrops.lastSeq = r.lastSeq := r.reportDrops_same.2

/-- Nothing written leaves the core as it is. -/
theorem Core.skeinWritten_unwritten (c : Core) {r r' : Recorder} (hseq : r'.lastSeq = r.lastSeq) :
    c.skeinWritten r r' 0 = c := by
  unfold Core.skeinWritten
  simp [hseq]

/-! ## Refills -/

section Refill
variable {c : Core} {code period : Nat} (hrun : c.run ≠ .failed) (hperiod : period = c.rd (Od.SKEIN_REFILL_MS (codeSevMax code - 1)))
  (hsome : period ≠ 0) (hcode : (skeinCode? code).isSome = true)
include hrun hperiod hsome hcode

/-- A refill of a listed code at its instant. -/
theorem Core.skeinRefill_listed {r r' : Recorder} {t sev : Nat} (ht : t = r.refillInstant c.writer code period c.clk.cyc) {d : Core}
    (hd : d = c.atCyc (ms t)) (hrefill : r.refill d.writer code t d.skeinWrites = (r', sev)) :
    c.skeinRefill r code = (d.skeinWritten r r' sev, r') := by
  have hlisted : (skeinCode? code).isNone = false := by cases h : skeinCode? code <;> simp_all
  subst hperiod ht hd
  unfold Core.skeinRefill
  simp [hsome, hlisted, hrun, hrefill]

end Refill

section Bucket
variable {r : Recorder} {w : Writer} {code ms : Nat} {b : Bucket} (hb : b = { r.bucket w code with refilled := ms })
include hb

theorem Recorder.refill_full (hfull : w.depthOf code ≤ b.tokens) (canWrite : Bool) :
    r.refill w code ms canWrite = (r.setBucket b, 0) := by
  subst hb
  exact if_pos hfull

theorem Recorder.refill_token (hroom : b.tokens < w.depthOf code) (hnone : b.suppressed = 0) (canWrite : Bool) :
    r.refill w code ms canWrite = (r.setBucket { b with tokens := b.tokens + 1 }, 0) := by
  subst hb
  unfold Recorder.refill
  simp only at hroom hnone
  simp [Nat.not_le.2 hroom, hnone]

theorem Recorder.refill_summary (hroom : b.tokens < w.depthOf code) (hsome : 0 < b.suppressed) {canWrite : Bool}
    (hwrites : canWrite = true) {r' : Recorder} {ok : Bool}
    (hplace : (r.setBucket { b with suppressed := 0, sevMax := 0 }).place w
      ⟨code, b.sevMax, min b.suppressed (2 ^ 32 - 1), b.lastArg, none⟩ true = (r', ok)) :
    r.refill w code ms canWrite = ({ r' with summaries := r'.summaries + 1 }, if ok then b.sevMax else 0) := by
  subst hb hwrites
  unfold Recorder.refill
  dsimp only at hroom hsome hplace ⊢
  rw [if_neg (Nat.not_le.2 hroom), if_pos (by simp [hsome]), hplace]

end Bucket

/-! ## The flash ring -/

theorem Recorder.mirrorProgram_open {r r' : Recorder} {e : Entry} {rest : List Entry} {sec : Sector} (hmirror : r.mirror = e :: rest)
    (hopen : r.openSector = some r') (hlast : r'.flash.getLast? = some sec) :
    r.mirrorProgram true = ({ r' with mirror := rest, flash := appendEntry e r'.flash }).reportMirror ∧
      r.mirrorProgram false = ({ r' with retired := r'.retired ++ [sec.number] }).request
        ⟨0x0D04, codeSev 0x0D04, sec.number, 0, none⟩ := by
  unfold Recorder.mirrorProgram
  simp [hmirror, hopen, hlast]

theorem Recorder.erase_oldest {r : Recorder} {sec : Sector} {rest : List Sector} (hnone : r.erased = []) (hflash : r.flash = sec :: rest)
    (hused : sec.number ∉ r.retired) :
    r.erase true = { r with flash := rest, erased := [sec.number], flashErases := r.flashErases + 1 } ∧
      r.erase false = ({ r with flash := rest, retired := r.retired ++ [sec.number] }).request
        ⟨0x0D04, codeSev 0x0D04, sec.number, 0, none⟩ := by
  unfold Recorder.erase
  simp [hnone, hflash, hused]

theorem codeSev_sectorRetired : codeSev 0x0D04 = 5 := by decide

/-! ## Reads -/

/-- A path that serves requests is open, its station's dictionary serves, it stalls for no tentative job and the executive runs. -/
theorem Core.serves_iff {c : Core} {p : Path} : c.serves p = true ↔
    c.dictServes = true ∧ c.pathOpen p = true ∧ c.pathStalls p = none ∧ c.ply.unvoted = none := by
  simp [Core.serves, and_assoc]

/-- The row of SKEIN.READ. -/
def skeinReadRow : OdRow := ⟨0x2D20, 0x2D20, 0x04, 0x04, .domain, .ro, 0, .any⟩

theorem odRow_skeinRead : odRow? Od.SKEIN_READ = some skeinReadRow := by decide

theorem Core.checkRead_skeinRead {c : Core} {p : Path} {row : OdRow} (h : c.checkRead p Od.SKEIN_READ = .ok row) :
    row = skeinReadRow := by
  have hrow := Core.entry_row (Core.checkRead_row h) (by decide)
  rw [odRow_skeinRead] at hrow
  exact (Option.some.inj hrow).symm

/-- SKEIN.READ reads the entries that its path selects (R457). -/
theorem Core.domValue_skeinRead (c : Core) (r : Recorder) (p : Path) : c.domValue r p Od.SKEIN_READ skeinReadRow =
    r.read (c.sel p Od.SKEIN_READ_SRC) (c.sel p Od.SKEIN_READ_FROM) (c.sel p Od.SKEIN_READ_MIN_SEV) := rfl

theorem Core.readBytes_skeinRead {c : Core} {p : Path} {row : OdRow} (h : c.checkRead p Od.SKEIN_READ = .ok row) (r : Recorder)
    (w : Wire) : c.readBytes r p Od.SKEIN_READ w =
      .ok (r.read (c.sel p Od.SKEIN_READ_SRC) (c.sel p Od.SKEIN_READ_FROM) (c.sel p Od.SKEIN_READ_MIN_SEV)) := by
  rw [← Core.domValue_skeinRead, ← Core.checkRead_skeinRead h]
  unfold Core.readBytes
  rw [h]
  refine congrArg _ (if_pos ?_)
  rw [Core.checkRead_skeinRead h]
  rfl

theorem Core.pathRead_bytes {c : Core} {r : Recorder} {p : Path} {k : Nat} {b : Bytes} (hserves : c.serves p = true)
    (hmaster : p.master = none) (hread : c.readBytes r p k p.wire = .ok b) : c.pathRead r p k = c.answer (.bytes b) := by
  obtain ⟨hdict, hopen, -, hvoted⟩ := Core.serves_iff.1 hserves
  unfold Core.pathRead Core.readNow
  simp [hdict, hopen, hmaster, hvoted, hread]

theorem Core.pathRead_window {c : Core} {r : Recorder} {m k : Nat} (hserves : c.serves (masterPath m) = true) :
    c.pathRead r (masterPath m) k = c.access r m (winAddr k) 4 .load := by
  obtain ⟨hdict, hopen, -, -⟩ := Core.serves_iff.1 hserves
  unfold Core.pathRead
  simp [hdict, hopen, masterPath_master]

/-- Settles O37: the token, the room in the ring and the severity decide what the writer does, and what a bucket holds decides a
refill; none of the guards stops the commands. -/
theorem recorderCommandsComplete : Obligations.RecorderCommandsComplete := by
  intro s c r hs hr
  subst hr
  refine ⟨fun code sev a0 a1 => exec_act_finds (exec_skeinRequest code sev a0 a1 s) hs rfl, fun hwrites => ⟨?_, fun hq =>
      exec_record_finds (exec_skeinWrite s) hs (by
        rw [Core.skeinWrite_writes hwrites (Recorder.writeNext_nil hq), Core.skeinWritten_unwritten _ rfl])⟩,
    fun hrun => ?_, fun e rest r1 sec hmirror hopen hlast => ?_,
    fun sec rest hnone hflash hused => ?_, fun p row b hserves hread hb hmaster => ?_,
    fun m row d b hserves hpmp hd hread hb => ?_⟩
  · intro q rest b r1 e hq hb hr1 he
    have hring : s.skein.ring = r1.ring := by rw [hr1]; rfl
    have hlast : s.skein.lastSeq = r1.lastSeq := by rw [hr1]; rfl
    have hover : s.skein.overwritten = r1.overwritten := by rw [hr1]; rfl
    have hwritten {r2 : Recorder} {sev : Nat} (hnext : s.skein.writeNext c.writer = (r2, sev)) :
        exec .skeinWrite s = .next (s.finishingWith (c.skeinWritten s.skein r2 sev) r2) :=
      exec_record_finds (exec_skeinWrite s) hs (Core.skeinWrite_writes hwrites hnext)
    have hplaced {r2 : Recorder} {ok : Bool} (h : r1.place c.writer q false = (r2, ok)) (htoken : 0 < b.tokens) :=
      hwritten (Recorder.writeNext_placed hq hb htoken hr1 h)
    rw [hring, hlast, hover]
    rw [hlast] at he
    refine ⟨fun r2 htoken hroom hr2 => ?_, fun i ring r2 htoken hfull hdrop hr2 => ?_, fun htoken hfull hdrop => ?_, fun hnone => ?_⟩
    · rw [hplaced (Recorder.place_room he hroom) htoken, Core.skeinWritten_written c _ (by simp [hlast]), hr2]
      rfl
    · rw [hplaced (Recorder.place_replaces he hfull hdrop) htoken, Core.skeinWritten_written c _ (by simp [hlast]), hr2]
      rfl
    · rw [hplaced (Recorder.place_dropped hfull hdrop false) htoken]
      simp only [Bool.false_eq_true, if_false]
      rw [Core.skeinWritten_unwritten c (by simp [hlast])]
    · rw [hwritten (Recorder.writeNext_suppressed hq hb hnone rfl), Core.skeinWritten_unwritten c (by simp), hring, hlast, hover]
  · intro code period t d b hperiod hsome hcode ht hd hb
    have hrefill {r' : Recorder} {sev : Nat} (h : s.skein.refill d.writer code t d.skeinWrites = (r', sev)) :
        exec (.skeinRefill code) s = .next (s.finishingWith (d.skeinWritten s.skein r' sev) r') :=
      exec_record_finds (exec_skeinRefill code s) hs (Core.skeinRefill_listed hrun hperiod hsome hcode ht hd h)
    refine ⟨fun hfull => ?_, fun hroom hnone => ?_, fun hroom hsome hwrites r1 r2 ok hplace hr2 => ?_⟩
    · rw [hrefill (Recorder.refill_full hb hfull _), Core.skeinWritten_unwritten d (by simp)]
    · rw [hrefill (Recorder.refill_token hb hroom hnone _), Core.skeinWritten_unwritten d (by simp)]
    · rw [hrefill (Recorder.refill_summary hb hroom hsome hwrites hplace), hr2]
  · obtain ⟨hok, hfails⟩ := Recorder.mirrorProgram_open hmirror hopen hlast
    rw [codeSev_sectorRetired] at hfails
    exact ⟨exec_record_finds (exec_skeinMirrorProgram true s) hs (congrArg _ hok),
      exec_record_finds (exec_skeinMirrorProgram false s) hs (congrArg _ hfails)⟩
  · obtain ⟨hok, hfails⟩ := Recorder.erase_oldest hnone hflash hused
    rw [codeSev_sectorRetired] at hfails
    exact ⟨exec_record_finds (exec_skeinFlashErase true s) hs (congrArg _ hok),
      exec_record_finds (exec_skeinFlashErase false s) hs (congrArg _ hfails)⟩
  · exact exec_act_finds (exec_skeinRead p s) hs (Core.pathRead_bytes hserves hmaster
      (hb ▸ Core.readBytes_skeinRead hread s.skein p.wire))
  · refine exec_act_finds (exec_skeinRead _ s) hs ?_
    cases Core.checkRead_skeinRead hread
    rw [Core.pathRead_window hserves, (Core.access_window hserves (by decide)).1 hpmp, ← hd, Core.winLoad_domain hread rfl, hb,
      Core.domValue_skeinRead]

end Sys2Proof.Machine
end

section
/-! The statements of the whole machine: a step (O44), the commands without power (O48), what reset leaves (O46), the gating of the
outputs (O55) and the order of the checks of a write (O59). -/

-- Elaborated in order, so that the memory of its proofs is not held beside that of the rest of the text.
set_option Elab.async false

namespace Sys2Proof.Machine

/-- Settles O44: a step executes the front command or, on an empty queue, lets one core cycle pass. -/
theorem stepTakesTheFrontCommand : Obligations.StepTakesTheFrontCommand := by
  intro i s
  refine ⟨rfl, fun hempty halive => ?_, fun hempty hdead => ?_⟩
  · unfold step State.idle
    simp only [hempty, halive, if_true]
    rfl
  · unfold step State.idle
    simp only [hempty, hdead, Bool.false_eq_true, if_false, State.finish_dead hdead]

/-- Settles O48: each command but those of the supplies acts on a powered module only. -/
theorem withoutPowerNothingHappens : Obligations.WithoutPowerNothingHappens := by
  intro i s hdead hp
  rcases exec_cases i s with ⟨-, -, ⟨f, e⟩ | ⟨f, e⟩⟩ | hr | ⟨hp', -⟩
  · exact e.trans (State.record_dead hdead _)
  · exact e.trans (State.pop_dead hdead f)
  · obtain ⟨f, e⟩ := recorderCommand_record hr
    exact e.trans (State.record_dead hdead f)
  · rw [hp] at hp'; cases hp'

/-- The recorder that has recorded nothing is within its bounds. -/
theorem Recorder.blank_ok : Recorder.blank.Ok := by
  refine ⟨Nat.zero_le _, Nat.zero_le _, Nat.zero_le _, trivial, ?_, trivial, ?_, List.nodup_nil, ?_, ?_, rfl⟩ <;>
    exact fun _ h => absurd h List.not_mem_nil

/-- Settles O46: at reset no register is written, so that every entry reads its Default. -/
theorem resetLeaves : Obligations.ResetLeaves := by
  have hdefault (k : Nat) : State.reset.core.rd k = odDefault k := rfl
  refine ⟨rfl, rfl, rfl, rfl, hdefault, ?_, ?_, ?_, ?_, ?_, ?_, rfl, rfl, rfl, rfl, rfl, Recorder.blank_ok⟩ <;>
    simp only [hdefault] <;> decide

/-! ## Gating -/

/-- The hardware interlock lets a stage out (R338). -/
theorem Core.interlock_iff (c : Core) : c.interlock = true ↔
    c.pairEn = false ∨ c.toggling = true ∧ c.bit Od.PAIR_STATUS 2 = false := by
  unfold Core.interlock Core.partnerToggling
  cases c.pairEn <;> cases c.toggling <;> cases c.bit Od.PAIR_STATUS 2 <;> decide

/-- The roles whose outputs a row of Table 15.2 lets through. -/
theorem Core.drivingRole_eq (c : Core) : c.drivingRole = (c.role == .alone || c.role == .active || c.role == .witness) := by
  unfold Core.drivingRole
  cases c.role <;> rfl

/-- Settles O55, by the run state for Table 15.2. -/
theorem gatingByStateAndRole : Obligations.GatingByStateAndRole := by
  intro c driving passing hdriving hpassing
  rw [← c.drivingRole_eq] at hdriving
  subst hdriving hpassing
  refine ⟨?_, fun h => ?_, fun h => ?_, fun h => ?_, fun h => ?_, ?_, ?_, ?_⟩
  · rintro (h | h | h | h | h | h) <;> simp [Core.fieldGate, Core.safeGate, Core.netGate, h]
  · simp [Core.fieldGate, Core.safeGate, Core.netGate, h]
  · simp [Core.fieldGate, Core.safeGate, Core.netGate, h]
  · simp [Core.fieldGate, Core.safeGate, Core.netGate, h]
  · simp [Core.fieldGate, Core.safeGate, Core.netGate, h]
  · rw [← c.interlock_iff]
    simp only [Core.fieldEnable, Bool.and_eq_true, Bool.not_eq_true']
    tauto
  · rw [← c.interlock_iff]
    simp only [Core.safeEnable, Bool.and_eq_true, Bool.not_eq_true']
    tauto
  · unfold Core.alarmClosed
    cases c.run <;> decide

/-! ## The checks of a write -/

/-- A transfer by another path locks the entry. -/
theorem Core.lockedTo_iff (c : Core) (p : Path) (k : Nat) : c.lockedTo p k = true ↔ ∃ w ∈ c.srv.writes, w.key = k ∧ w.path ≠ p := by
  simp [Core.lockedTo]

/-- The steps of R465 for an entry that may be written, as one chain. -/
theorem Core.checkWrite_writable {c : Core} {p : Path} {k v : Nat} {row : OdRow} (hrow : c.entry? k = some row)
    (hconst : row.acc ≠ .const) (hro : row.acc ≠ .ro) : c.checkWrite p k v =
      if (match c.writeRight p k row v with | some b => !(c.rights (c.principal p)).testBit b | none => false) then .error abRight
      else if c.lockedTo p k || c.otherAuthor p k row then .error abLocked
      else if !c.permits p k row v then .error abState
      else .ok row := by
  unfold Core.checkWrite
  simp only [hrow]
  exact (if_neg (by simp [hconst, hro])).trans rfl

/-- Settles O59: the cases follow the chain. -/
theorem checksOfAWriteInOrder : Obligations.ChecksOfAWriteInOrder := by
  intro c p k v
  refine ⟨fun hnone => ?_, fun row hrow => ⟨fun hread => ?_, fun hconst hro => ?_⟩⟩
  · unfold Core.checkWrite
    simp only [hnone, abAbsent]
  · unfold Core.checkWrite
    simp only [hrow, if_pos hread, abReadOnly]
  · rw [Core.checkWrite_writable hrow hconst hro]
    refine ⟨fun b hright hlacks => ?_, fun hright => ?_⟩
    · simp only [hright, hlacks, Bool.not_false, if_true]
      rfl
    · have hpass : (match c.writeRight p k row v with | some b => !(c.rights (c.principal p)).testBit b | none => false) = false := by
        cases hb : c.writeRight p k row v with
        | none => rfl
        | some b => simp [hright b hb]
      rw [hpass]
      refine ⟨fun hlocked => ?_, fun hfree hother => ⟨fun hstate => ?_, fun hstate => ?_⟩⟩
      · rw [← c.lockedTo_iff p k] at hlocked
        rw [if_neg Bool.false_ne_true, if_pos (by simpa using hlocked)]
        rfl
      all_goals
        have hunlocked : c.lockedTo p k = false := by
          rw [← Bool.not_eq_true, c.lockedTo_iff p k]
          rintro ⟨w, hw, hkey, hpath⟩
          exact hpath (hfree w hw hkey)
        simp only [hunlocked, hother, hstate]
        rfl

end Sys2Proof.Machine
end

section
/-! The statements of fault reactions (chapter 15): the reaction queue (O53) and how a fault nests (O54). -/

-- Elaborated in order, so that the memory of its proofs is not held beside that of the rest of the text.
set_option Elab.async false

namespace Sys2Proof.Machine

/-! ## Updates that touch registers alone -/

/-- `d` is `c` but for registers of the dictionary. -/
def Core.OnlyOd (c d : Core) : Prop := ∃ od, d = { c with od := od }

theorem Core.OnlyOd.refl (c : Core) : c.OnlyOd c := ⟨c.od, rfl⟩

theorem Core.OnlyOd.trans {c d e : Core} (h : c.OnlyOd d) (h' : d.OnlyOd e) : c.OnlyOd e := by
  obtain ⟨_, rfl⟩ := h
  obtain ⟨od, rfl⟩ := h'
  exact ⟨od, rfl⟩

theorem Core.wr_onlyOd (c : Core) (k v : Nat) : c.OnlyOd (c.wr k v) := ⟨_, rfl⟩

theorem Core.inc32_onlyOd (c : Core) (k : Nat) : c.OnlyOd (c.inc32 k) := ⟨_, rfl⟩

/-- A fold of updates that each touch registers alone. -/
theorem Core.foldl_onlyOd {α : Type} {f : Core → α → Core} (hf : ∀ (c : Core) x, c.OnlyOd (f c x)) (l : List α) (c : Core) :
    c.OnlyOd (l.foldl f c) := by
  induction l generalizing c with
  | nil => exact .refl c
  | cons x l ih => exact (hf c x).trans (ih _)

theorem Core.sfToOff_onlyOd (c : Core) (f : Nat) : c.OnlyOd (c.sfToOff f) := by
  unfold Core.sfToOff
  split
  · exact .refl c
  · split
    · exact (c.inc32_onlyOd _).trans (Core.wr_onlyOd _ _ _)
    · exact c.wr_onlyOd _ _

theorem Core.sfOff_onlyOd (c : Core) : c.OnlyOd c.sfOff := Core.foldl_onlyOd Core.sfToOff_onlyOd _ c

theorem Core.peak_onlyOd (c : Core) (k v : Nat) : c.OnlyOd (c.peak k v) := by
  unfold Core.peak
  split
  · exact c.wr_onlyOd _ _
  · exact .refl c

theorem Core.OnlyOd.react {c d : Core} (h : c.OnlyOd d) : d.react = c.react := by obtain ⟨_, rfl⟩ := h; rfl
theorem Core.OnlyOd.run {c d : Core} (h : c.OnlyOd d) : d.run = c.run := by obtain ⟨_, rfl⟩ := h; rfl
theorem Core.OnlyOd.out {c d : Core} (h : c.OnlyOd d) : d.out = c.out := by obtain ⟨_, rfl⟩ := h; rfl

/-! ## The run state -/

@[simp] theorem Core.vaultWrite_run (c : Core) (f : Vault → Vault) : (c.vaultWrite f).run = c.run := by
  unfold Core.vaultWrite
  split <;> rfl

@[simp] theorem Core.vaultWrite_react (c : Core) (f : Vault → Vault) : (c.vaultWrite f).react = c.react := by
  unfold Core.vaultWrite
  split <;> rfl

@[simp] theorem Core.vaultWrite_out (c : Core) (f : Vault → Vault) : (c.vaultWrite f).out = c.out := by
  unfold Core.vaultWrite
  split <;> rfl

@[simp] theorem Core.setRun_run (c : Core) (r : RunState) : (c.setRun r).run = r := by
  unfold Core.setRun
  split
  · assumption
  · simp

@[simp] theorem Core.setRun_react (c : Core) (r : RunState) : (c.setRun r).react = c.react := by
  unfold Core.setRun
  split
  · rfl
  · simp [Core.logA, Core.logSev]

/-- A change of the run state keeps what has been requested. -/
theorem Core.setRun_out (c : Core) (r : RunState) : c.out ⊆ (c.setRun r).out := by
  unfold Core.setRun
  split
  · exact List.Subset.refl _
  · simp [Core.logA, Core.logSev]

theorem Core.enterFailed_run (c : Core) : c.enterFailed.run = .failed := by
  unfold Core.enterFailed
  rw [(Core.sfOff_onlyOd _).run, Core.setRun_run]

theorem Core.enterFailed_react (c : Core) : c.enterFailed.react = c.react := by
  unfold Core.enterFailed
  rw [(Core.sfOff_onlyOd _).react, Core.setRun_react]

theorem Core.enterFailed_out (c : Core) : c.out ⊆ c.enterFailed.out := by
  unfold Core.enterFailed
  rw [(Core.sfOff_onlyOd _).out]
  exact fun q hq => Core.setRun_out _ _ (by exact hq)

/-! ## A reaction starts -/

theorem Core.forceSoOff_react (c : Core) : c.forceSoOff.react = c.react := by
  have hoff := c.sfOff_onlyOd.react
  unfold Core.forceSoOff
  generalize c.sfOff = d at hoff
  dsimp only
  split <;> exact hoff

/-- SAFE changes nothing of the reactions in progress and of those that wait. -/
theorem Core.enterSafe_reactions (c : Core) (esc : Bool) :
    (c.enterSafe esc).react.queue = c.react.queue ∧ (c.enterSafe esc).react.active = c.react.active := by
  unfold Core.enterSafe
  rw [Core.forceSoOff_react, (Core.inc32_onlyOd _ _).react, Core.setRun_react]
  exact ⟨rfl, rfl⟩

theorem Core.stopForGood_react (c : Core) (t : Nat) : (c.stopForGood t).react = c.react := rfl

theorem Core.stopAtSpindle_react (c : Core) (h : Nat) : (c.stopAtSpindle h).react = c.react := by
  unfold Core.stopAtSpindle
  generalize c.pinnedTasks h = l
  induction l generalizing c with
  | nil => rfl
  | cons t l ih =>
    refine (ih _).trans ?_
    dsimp only
    split <;> rfl

theorem Core.becomeSyncing_react (c : Core) : c.becomeSyncing.react = c.react := rfl

theorem Core.escalateL2_react (c : Core) (u : Nat) : (c.escalateL2 u).react = c.react := by
  unfold Core.escalateL2
  split
  · exact c.forceSoOff_react
  · split
    · exact c.stopAtSpindle_react _
    · split
      · rfl
      · split
        · exact (c.sfToOff_onlyOd _).react
        · split
          · rfl
          · split
            · dsimp only
              split <;> rfl
            · rfl

/-- A reaction that starts is in progress, and leaves the reactions that wait as they are. -/
theorem Core.startReaction_reactions (c : Core) (f : Reaction) (queued : Bool) :
    (c.startReaction f queued).react.queue = c.react.queue ∧
      (c.startReaction f queued).react.active = c.react.active ++ [f] := by
  unfold Core.startReaction
  dsimp only
  split
  · rw [Core.enterFailed_react]
    exact ⟨rfl, rfl⟩
  · split <;> exact Core.enterSafe_reactions _ _
  · split
    · rw [Core.escalateL2_react]
      exact ⟨rfl, rfl⟩
    · exact ⟨rfl, rfl⟩
  · exact ⟨rfl, rfl⟩

/-- A reaction of level 4 is the hard stop. -/
theorem Core.startReaction_four (c : Core) (own code unit : Nat) (queued : Bool) : c.startReaction ⟨4, own, code, unit⟩ queued =
    ((({ c with react := { c.react with active := c.react.active ++ [⟨4, own, code, unit⟩] } } : Core).inc32
      (Od.REACT_COUNT 4)).wr Od.REACT_LAST (reactLast ⟨4, own, code, unit⟩ queued)).enterFailed := rfl

theorem Core.startReaction_four_run (c : Core) (own code unit : Nat) (queued : Bool) :
    (c.startReaction ⟨4, own, code, unit⟩ queued).run = .failed := by
  rw [Core.startReaction_four, Core.enterFailed_run]

theorem Core.startReaction_four_out (c : Core) (own code unit : Nat) (queued : Bool) :
    c.out ⊆ (c.startReaction ⟨4, own, code, unit⟩ queued).out := by
  rw [Core.startReaction_four]
  exact fun q hq => Core.enterFailed_out _ hq

/-! ## The reaction queue -/

theorem Core.queueReaction_room {c : Core} (hroom : c.react.queue.length < 64) (f : Reaction) :
    (c.queueReaction f).react = { c.react with queue := c.react.queue ++ [f] } ∧ (c.queueReaction f).run = c.run := by
  unfold Core.queueReaction
  rw [if_pos hroom]
  dsimp only
  rw [(Core.peak_onlyOd _ _ _).react, (Core.peak_onlyOd _ _ _).run]
  exact ⟨rfl, rfl⟩

theorem Core.queueReaction_full {c : Core} (hfull : 64 ≤ c.react.queue.length) (f : Reaction) :
    c.queueReaction f = (c.log 0x0F07).startReaction ⟨4, 4, 0x0F07, f.unit⟩ false :=
  if_neg (Nat.not_lt.2 hfull)

/-- The queue never grows beyond 64 reactions. -/
theorem Core.queueReaction_length {c : Core} (h : c.react.queue.length ≤ 64) (f : Reaction) :
    (c.queueReaction f).react.queue.length ≤ 64 := by
  rcases Nat.lt_or_ge c.react.queue.length 64 with hroom | hfull
  · rw [(Core.queueReaction_room hroom f).1]
    simpa using hroom
  · rw [Core.queueReaction_full hfull, (Core.startReaction_reactions _ _ _).1]
    exact h

/-! ## How a fault nests -/

/-- A reaction of the class and unit of a fault of level `l`, at its level or higher, is in progress at or above the fault. -/
def Core.again (c : Core) (code l unit : Nat) : Bool :=
  decide (l ≤ c.react.highest) && c.react.active.any fun a =>
    decide (l ≤ a.level) && codeClass a.code == codeClass code && a.unit == unit

/-- The core with the record and the count of a fault that is raised, if it is. -/
def Core.raised (c : Core) (code lvl : Nat) (again : Bool) : Core :=
  if again then (c.logA 0x0F04 code lvl).inc32 Od.REACT_ESCALATIONS else c

theorem Core.raised_false (c : Core) (code lvl : Nat) : c.raised code lvl false = c := rfl

theorem Core.raised_react (c : Core) (code lvl : Nat) (again : Bool) : (c.raised code lvl again).react = c.react := by
  cases again <;> rfl

theorem Core.raised_run (c : Core) (code lvl : Nat) (again : Bool) : (c.raised code lvl again).run = c.run := by
  cases again <;> rfl

section Nest
variable {c : Core} {code l unit : Nat}

theorem Core.nest_nothing (h : l = 0 ∨ c.react.highest = 4) : c.nest code l unit = c :=
  if_pos (by simpa using h)

theorem Core.nest_duringSafe (hl : 1 ≤ l) (h : c.react.highest = 3) :
    c.nest code l unit = (c.inc32 Od.REACT_ESCALATIONS).startReaction ⟨4, l, code, unit⟩ false := by
  unfold Core.nest
  simp only [h]
  rw [if_neg (by simp; omega), if_pos trivial]

/-- Below L3 a fault is raised where one of its kind is in progress, and waits or starts. -/
theorem Core.nest_below (hl : 1 ≤ l) (h : c.react.highest < 3) {lvl : Nat}
    (hlvl : lvl = if c.again code l unit then min (l + 1) 4 else l) :
    c.nest code l unit = if l ≤ c.react.highest ∧ lvl ≤ c.react.highest
      then (c.raised code lvl (c.again code l unit)).queueReaction ⟨lvl, l, code, unit⟩
      else (c.raised code lvl (c.again code l unit)).startReaction
        ⟨if lvl = 3 ∧ (c.run = .boot ∨ c.run = .selftest) then 4 else lvl, l, code, unit⟩ false := by
  subst hlvl
  have hrun := c.raised_run code (if c.again code l unit then min (l + 1) 4 else l) (c.again code l unit)
  conv_rhs => rw [← hrun]
  unfold Core.nest
  rw [if_neg (by simp; omega), if_neg (by omega)]
  rfl

end Nest

@[simp] theorem Core.log_react (c : Core) (code : Nat) : (c.log code).react = c.react := rfl

/-- A record logged is requested, with its code and its severity. -/
theorem Core.mem_log_out (c : Core) (code : Nat) : ∃ q ∈ (c.log code).out, q.code = code ∧ q.sev = codeSev code :=
  ⟨_, List.mem_append_right _ (List.mem_singleton.2 rfl), rfl, rfl⟩

theorem codeSev_queueFull : codeSev 0x0F07 = 7 := by decide

/-- Settles O53: of the outcomes of judging a fault only the wait touches the queue, and it finds room or not. -/
theorem fullReactionQueueIsAHardStop : Obligations.FullReactionQueueIsAHardStop := by
  intro c d code l unit lvl again hd hl hl4 hhi hagain hlvl
  subst hd
  replace hagain : again = c.again code l unit := hagain
  subst hagain
  refine ⟨fun hlen => ?_, fun hhi2 hle hwait => ?_⟩
  · rcases Nat.lt_or_ge c.react.highest 3 with h | h
    · rw [Core.nest_below hl h hlvl]
      split
      · exact Core.queueReaction_length (by rw [Core.raised_react]; exact hlen) _
      · rw [(Core.startReaction_reactions _ _ _).1, Core.raised_react]
        exact hlen
    · obtain h | h : c.react.highest = 3 ∨ c.react.highest = 4 := by omega
      · rw [Core.nest_duringSafe hl h, (Core.startReaction_reactions _ _ _).1]
        exact hlen
      · rw [Core.nest_nothing (.inr h)]
        exact hlen
  · rw [Core.nest_below hl (by omega) hlvl, if_pos ⟨hle, hwait⟩]
    have hreact := c.raised_react code lvl (c.again code l unit)
    have hrun := c.raised_run code lvl (c.again code l unit)
    refine ⟨fun hroom => ?_, fun hfull => ?_⟩
    · obtain ⟨hqueue, hrun'⟩ := Core.queueReaction_room (c := c.raised code lvl (c.again code l unit)) (by rw [hreact]; exact hroom)
        ⟨lvl, l, code, unit⟩
      rw [hqueue, hrun', hreact, hrun]
      exact ⟨rfl, rfl, rfl⟩
    · rw [Core.queueReaction_full (by rw [hreact]; exact hfull)]
      dsimp only
      obtain ⟨q, hq, hcode, hsev⟩ := Core.mem_log_out (c.raised code lvl (c.again code l unit)) 0x0F07
      obtain ⟨hqueue, hactive⟩ := Core.startReaction_reactions ((c.raised code lvl (c.again code l unit)).log 0x0F07)
        ⟨4, 4, 0x0F07, unit⟩ false
      rw [Core.log_react, hreact] at hqueue
      exact ⟨Core.startReaction_four_run _ _ _ _ _, hqueue, ⟨⟨4, 4, 0x0F07, unit⟩, by rw [hactive]; simp, rfl, rfl⟩,
        q, Core.startReaction_four_out _ _ _ _ _ hq, hcode, hsev.trans codeSev_queueFull⟩

/-- Settles O54, by the highest level in progress and by whether a reaction of the fault's kind is in progress. -/
theorem nestingOfReactions : Obligations.NestingOfReactions := by
  intro c code l unit hi hhi hl4 hhi4
  subst hhi
  refine ⟨Core.nest_nothing, fun h hl => ?_, fun hlt h3 => ?_, fun hl heq h3 hex hboot hself => ?_, fun hl hle h3 hall hroom => ?_⟩
  · rw [Core.nest_duringSafe hl h]
    exact ⟨rfl, Core.startReaction_four_run _ _ _ _ _⟩
  · have hagain : c.again code l unit = false := by simp [Core.again]; omega
    have hstart := Core.nest_below (c := c) (code := code) (unit := unit) (by omega : 1 ≤ l) h3 (lvl := l) (by simp [hagain])
    rw [if_neg (by omega), hagain] at hstart
    refine ⟨fun hboot hself => ?_, fun h hrun => ?_⟩
    · rw [hstart, if_neg (by simp [hboot, hself])]
      rfl
    · subst h
      rw [hstart, if_pos ⟨rfl, hrun⟩]
      exact ⟨rfl, Core.startReaction_four_run _ _ _ _ _⟩
  · have hagain : c.again code l unit = true := by
      obtain ⟨a, ha, hlevel, hclass, hunit⟩ := hex
      simp only [Core.again, Bool.and_eq_true, decide_eq_true_eq, List.any_eq_true, beq_iff_eq]
      exact ⟨by omega, a, ha, ⟨hlevel, hclass⟩, hunit⟩
    rw [Core.nest_below hl h3 (lvl := l + 1) (by rw [hagain, if_pos rfl]; omega), if_neg (by omega), hagain,
      if_neg (by simp [hboot, hself])]
    rfl
  · have hagain : c.again code l unit = false := by
      simp only [Core.again, Bool.and_eq_false_iff, List.any_eq_false]
      right
      intro a ha
      simpa using hall a ha
    rw [Core.nest_below hl h3 (lvl := l) (by rw [hagain]; rfl), if_pos ⟨hle, hle⟩, hagain, Core.raised_false,
      (Core.queueReaction_room hroom _).1]

end Sys2Proof.Machine
end

section
/-! What follows a command after which nothing falls due: nothing (O56, Settle). -/

-- Elaborated in order, so that the memory of its proofs is not held beside that of the rest of the text.
set_option Elab.async false

namespace Sys2Proof.Machine

/-- A fold of steps that each find nothing to do. -/
theorem foldl_idle {α β : Type} {f : β → α → β} {b : β} {l : List α} (h : ∀ x ∈ l, f b x = b) : l.foldl f b = b := by
  induction l with
  | nil => rfl
  | cons x l ih =>
    rw [List.foldl_cons, h x List.mem_cons_self]
    exact ih fun y hy => h y (List.mem_cons_of_mem _ hy)

variable {c : Core}

theorem Core.serveAll_idle (h : c.srv.waiting = []) (r : Recorder) : c.serveAll r = c := by simp [Core.serveAll, h]

theorem Core.drafted_idle (h : ∀ x ∈ c.arr.sp, x.draft = none) : c.drafted = c :=
  Core.drafted_none (by simpa using h)

theorem Core.endTransfers_idle (h : ∀ i < 3, (c.strand i).xfer = none) : c.endTransfers = c := by
  refine foldl_idle fun i hi => ?_
  unfold Core.endTransfer
  rw [h i (by simp at hi; omega)]

theorem Core.endForced_idle (h : c.ply.forced = true → c.soForced = true) : c.endForced = c :=
  if_neg (by cases hf : c.ply.forced <;> simp_all)

/-- No copy waits, so none is parked: `finishJob` is met in no spindle. -/
theorem Core.parkWaiting_idle (h : ∀ n < 32, (c.spin n).stalled ≠ some .park) : c.parkWaiting = c := by
  refine foldl_idle fun n hn => ?_
  have hs := h n (List.mem_range.mp hn)
  unfold Core.parkStalled
  split
  · next hpark _ => exact absurd hpark hs
  · rfl

theorem Core.refillLevel0_idle (h : c.prog.l0Mark.2 = 0 ∨ c.prog.l0Mark.1 ≠ c.rd Od.TICK_COUNT) : c.refillLevel0 = c :=
  if_pos (by rcases h with h | h <;> simp [h])

theorem Core.cancelReStep_idle (h : c.bit Od.TIME_FLAGS 6 = false) : c.cancelReStep = c := if_neg (by simp [h])

/-- What ends with the command, where nothing does. -/
theorem Core.endConditions_idle (hx : ∀ i < 3, (c.strand i).xfer = none) (hf : c.ply.forced = true → c.soForced = true)
    (hp : ∀ n < 32, (c.spin n).stalled ≠ some .park)
    (hl : c.prog.l0Mark.2 = 0 ∨ c.prog.l0Mark.1 ≠ c.rd Od.TICK_COUNT)
    (hr : c.run ≠ .stop → c.bit Od.TIME_FLAGS 6 = false) : c.endConditions = c := by
  unfold Core.endConditions
  rw [Core.endTransfers_idle hx, Core.endForced_idle hf, Core.parkWaiting_idle hp, Core.refillLevel0_idle hl]
  by_cases hs : c.run = .stop
  · exact if_pos hs
  · exact (if_neg hs).trans (Core.cancelReStep_idle (hr hs))

theorem Core.judgeAvailable_idle (h : c.sfAvailable = c.safety.avail) : c.judgeAvailable = c := if_pos h

/-- The pair hardware shows what it showed, and no return is to be withdrawn. -/
theorem Core.settlePair_idle (ht : c.toggling = c.toggleWant)
    (hb : c.pair.both = sinceWhen (c.toggling && c.partnerToggling) c.pair.both c.clk.cyc)
    (hq : c.pair.quiet = sinceWhen c.returnFit c.pair.quiet c.clk.cyc)
    (hr : c.returnFit = false → c.pairBit psReturn = false) : c.settlePair = c := by
  have h1 : ({ c with toggling := c.toggleWant } : Core) = c := by rw [← ht]
  have h2 : (c.updPair fun p => { p with
      both := sinceWhen (c.toggling && c.partnerToggling) p.both c.clk.cyc
      quiet := sinceWhen c.returnFit p.quiet c.clk.cyc }) = c := by
    unfold Core.updPair
    dsimp only
    rw [← hb, ← hq]
  unfold Core.settlePair
  rw [h1]
  dsimp only
  rw [h2]
  exact if_neg (by cases hf : c.returnFit <;> simp [hr, hf])

theorem Core.endHoldOff_idle (h : c.pwr.holdOff = true → (c.fieldGate && c.interlock) = false) : c.endHoldOff = c :=
  if_neg (by
    intro hon
    obtain ⟨⟨h1, h2⟩, h3⟩ : (c.pwr.holdOff = true ∧ c.fieldGate = true) ∧ c.interlock = true := by simpa using hon
    simpa [h2, h3] using h h1)

theorem Core.followScrim_idle {b : Core} (h : ∀ i < 16, c.scrimShown i = b.scrimShown i) : c.followScrim b = c :=
  foldl_idle fun i hi => if_pos (h i (List.mem_range.mp hi))

theorem Core.egressAll_idle (h : ∀ n < 2, ∀ p < 2, (c.port n p).queue = []) : c.egressAll = c := by
  unfold Core.egressAll
  split
  · rfl
  · refine foldl_idle fun n hn => foldl_idle fun p hp => ?_
    rw [h n (by simp at hn; omega) p (by simp at hp; omega)]
    rfl

/-- Settles O56: each part of what follows finds nothing to do, in the order of `Core.settle`. -/
theorem nothingFollowsAQuietCommand : Obligations.NothingFollowsAQuietCommand := by
  intro s d r halive hrun hwait hdraft hpark hlevel0 hxfer hforced hstep havail htoggle hboth hquiet hreturn hhold hgate
    htime hscrim hport
  have hdrafted : (if d.clk.cyc = s.core.clk.cyc then d else d.drafted) = d := by
    rcases hdraft with h | h
    · exact if_pos h
    · rw [Core.drafted_idle h, ite_self]
  have hsettle : d.settle s.core r = d := by
    unfold Core.settle
    rw [halive, hdrafted]
    dsimp only
    rw [Core.serveAll_idle hwait, Core.endConditions_idle hxfer hforced hpark hlevel0 hstep,
      Core.judgeAvailable_idle havail, Core.settlePair_idle htoggle hboth hquiet hreturn, Core.endHoldOff_idle hhold,
      Core.followGates, if_pos hgate, Core.followTime, if_pos htime, Core.followScrim_idle hscrim,
      Core.egressAll_idle hport]
    rfl
  unfold State.finishingWith State.finish
  dsimp only
  rw [hsettle, if_pos rfl, Core.report, if_neg hrun]

end Sys2Proof.Machine
end

section
/-! What follows every command leaves the creel, the loops, the program, the spindles, the dictionary server and the health
monitors alone (O57). -/

namespace Sys2Proof.Machine

/-- What the follow-up of a command leaves alone: the creel, the loop changes, the program exchange, the spindles, the
dictionary server and the health monitors. -/
def Core.work (c : Core) : Mem × Loops × Prog × Weave × Server × HealthMon :=
  (c.creel, c.loops, c.prog, c.arr, c.srv, c.monitor)

/-! ## Updates of other parts -/

@[simp] theorem Core.work_ite (p : Prop) [Decidable p] (a b : Core) : (if p then a else b).work = if p then a.work else b.work :=
  apply_ite _ _ _ _

/-- A fold of steps that each leave the work alone. -/
theorem Core.foldl_work {α : Type} {f : Core → α → Core} (hf : ∀ (c : Core) x, (f c x).work = c.work) (l : List α) (c : Core) :
    (l.foldl f c).work = c.work := by
  induction l generalizing c with
  | nil => rfl
  | cons x l ih => exact (ih _).trans (hf c x)

section
variable (c : Core)

@[simp] theorem Core.work_wr (k v : Nat) : (c.wr k v).work = c.work := rfl
@[simp] theorem Core.work_setBit (k i : Nat) (b : Bool) : (c.setBit k i b).work = c.work := rfl
@[simp] theorem Core.work_setFld (k lo n v : Nat) : (c.setFld k lo n v).work = c.work := rfl
@[simp] theorem Core.work_inc32 (k : Nat) : (c.inc32 k).work = c.work := rfl
@[simp] theorem Core.work_inc64 (k : Nat) : (c.inc64 k).work = c.work := rfl
@[simp] theorem Core.work_addW (w k n : Nat) : (c.addW w k n).work = c.work := rfl
@[simp] theorem Core.work_setDom (k : Nat) (b : Bytes) : (c.setDom k b).work = c.work := rfl
@[simp] theorem Core.work_used (n : Nat) : (c.used n).work = c.work := rfl
@[simp] theorem Core.work_logA (code a0 a1 : Nat) : (c.logA code a0 a1).work = c.work := rfl
@[simp] theorem Core.work_log1 (code a0 : Nat) : (c.log1 code a0).work = c.work := rfl
@[simp] theorem Core.work_log (code : Nat) : (c.log code).work = c.work := rfl
@[simp] theorem Core.work_emit (e : Emission) : (c.emit e).work = c.work := rfl
@[simp] theorem Core.work_updRouter (f : Router → Router) : (c.updRouter f).work = c.work := rfl
@[simp] theorem Core.work_updAch (i : Nat) (f : UioChan → UioChan) : (c.updAch i f).work = c.work := rfl
@[simp] theorem Core.work_updHart (i : Nat) (f : HartChan → HartChan) : (c.updHart i f).work = c.work := rfl
@[simp] theorem Core.work_updBuf (k b : Nat) (f : CanBuf → CanBuf) : (c.updBuf k b f).work = c.work := rfl
@[simp] theorem Core.work_updPort (n p : Nat) (f : Port → Port) : (c.updPort n p f).work = c.work := rfl
@[simp] theorem Core.work_updStrand (i : Nat) (f : Strand → Strand) : (c.updStrand i f).work = c.work := rfl
@[simp] theorem Core.work_updSafety (f : Safety → Safety) : (c.updSafety f).work = c.work := rfl
@[simp] theorem Core.work_updPair (f : Pair → Pair) : (c.updPair f).work = c.work := rfl

@[simp] theorem Core.work_vaultWrite (f : Vault → Vault) : (c.vaultWrite f).work = c.work := by
  unfold Core.vaultWrite
  split <;> rfl

@[simp] theorem Core.work_setRun (r : RunState) : (c.setRun r).work = c.work := by
  unfold Core.setRun
  split
  · rfl
  · exact Core.work_vaultWrite _ _

@[simp] theorem Core.work_peak (k v : Nat) : (c.peak k v).work = c.work := by simp [Core.peak]

/-! ## The safety functions and the reactions -/

@[simp] theorem Core.work_sfOff : c.sfOff.work = c.work := by
  obtain ⟨od, h⟩ := c.sfOff_onlyOd
  rw [h]
  rfl

@[simp] theorem Core.work_forceSoOff : c.forceSoOff.work = c.work := by
  have hoff := c.work_sfOff
  unfold Core.forceSoOff
  generalize c.sfOff = d at hoff
  dsimp only
  split <;> exact hoff

@[simp] theorem Core.work_enterSafe (esc : Bool) : (c.enterSafe esc).work = c.work := by
  unfold Core.enterSafe
  rw [Core.work_forceSoOff, Core.work_inc32, Core.work_setRun]
  rfl

@[simp] theorem Core.work_enterFailed : c.enterFailed.work = c.work := by
  unfold Core.enterFailed
  rw [Core.work_sfOff, Core.work_setRun]
  rfl

/-- A reaction of the executive as a whole, unit 0, has no action of Table 15.6. -/
theorem Core.work_startReaction {f : Reaction} (hu : f.unit = 0) (queued : Bool) :
    (c.startReaction f queued).work = c.work := by
  unfold Core.startReaction
  dsimp only
  split
  · rw [Core.work_enterFailed]
    rfl
  · split
    · rw [Core.work_enterSafe]
      rfl
    · rw [Core.work_enterSafe]
      rfl
  · rw [hu]
    split <;> rfl
  · rfl

theorem Core.work_queueReaction {f : Reaction} (hu : f.unit = 0) : (c.queueReaction f).work = c.work := by
  unfold Core.queueReaction
  split
  · rw [Core.work_peak]
    rfl
  · exact (Core.work_startReaction (c.log 0x0F07) (f := ⟨4, 4, 0x0F07, f.unit⟩) hu false).trans (Core.work_log c _)

@[simp] theorem Core.work_nest (code l : Nat) : (c.nest code l 0).work = c.work := by
  simp [Core.nest, Core.work_startReaction, Core.work_queueReaction]

@[simp] theorem Core.work_fault' (code : Nat) : (c.fault' code 0).work = c.work := Core.work_nest _ _ _

/-! ## The event router -/

@[simp] theorem Core.work_arbitrate (delay : Nat) : (c.arbitrate delay).work = c.work := by
  refine Core.foldl_work (fun d t => ?_) _ c
  simp [Core.arbitrateAt]

@[simp] theorem Core.work_evEdge (s : Nat) : (c.evEdge s).work = c.work := by
  unfold Core.evEdge
  split
  · rfl
  · have hcount : (c.evAccumulate s).work = c.work := rfl
    generalize c.evAccumulate s = d at hcount
    simp [Core.latchPending, hcount]

@[simp] theorem Core.work_evLevel (s : Nat) (on : Bool) : (c.evLevel s on).work = c.work := by
  simp [Core.evLevel]

@[simp] theorem Core.work_evPulse (s : Nat) : (c.evPulse s).work = c.work := by
  simp [Core.evPulse]

/-! ## The output stages, HART and the CAN buffers -/

@[simp] theorem Core.work_driveDios : c.driveDios.work = c.work := by
  refine Core.foldl_work (fun d i => ?_) _ c
  simp [Core.driveDio, Core.setDioBit, Core.dioCycles]

@[simp] theorem Core.work_driveSos : c.driveSos.work = c.work := by
  refine Core.foldl_work (fun d i => ?_) _ c
  simp [Core.driveSo, Core.setSoBit]

@[simp] theorem Core.work_setUioBit (i b : Nat) (v : Bool) : (c.setUioBit i b v).work = c.work := by
  simp [Core.setUioBit]

@[simp] theorem Core.work_driveUios : c.driveUios.work = c.work := by
  refine Core.foldl_work (fun d i => ?_) _ c
  simp [Core.driveUio, Core.setCompliance, Core.flagUio]

@[simp] theorem Core.work_hartDrives : c.hartDrives.work = c.work := by
  refine Core.foldl_work (fun d i => ?_) _ c
  simp [Core.hartCancel, Core.hartEnd, Core.setHart]

@[simp] theorem Core.work_canGate : c.canGate.work = c.work := by
  unfold Core.canGate
  split
  · rfl
  · refine Core.foldl_work (fun d k => Core.foldl_work (fun e b => ?_) _ d) _ c
    simp [Core.cancelBuf, Core.idleBuf, Core.txbBit, Core.refMissed, Core.canLog]

@[simp] theorem Core.work_followGates (b : Core) : (c.followGates b).work = c.work := by simp [Core.followGates]

@[simp] theorem Core.work_followTime (b : Core) : (c.followTime b).work = c.work := by simp [Core.followTime]

@[simp] theorem Core.work_followScrim (b : Core) : (c.followScrim b).work = c.work := by
  refine Core.foldl_work (fun d i => ?_) _ c
  simp

theorem Core.work_egress (n p fuel : Nat) : (c.egress n p fuel).work = c.work := by
  induction fuel generalizing c with
  | zero => rfl
  | succ fuel ih =>
    unfold Core.egress
    dsimp only
    split
    · rfl
    · split
      · rfl
      · simp [ih]

@[simp] theorem Core.work_egressAll : c.egressAll.work = c.work := by
  unfold Core.egressAll
  split
  · rfl
  · exact Core.foldl_work (fun d n => Core.foldl_work (fun e p => e.work_egress n p _) _ d) _ c

/-! ## Availability, the pair and the hold-off -/

@[simp] theorem Core.work_judgeAvailable : c.judgeAvailable.work = c.work := by
  have hlogs : ∀ (l : List Nat) (d : Core), (l.foldl (fun (c : Core) f => c.log1 0x0803 f) d).work = d.work :=
    Core.foldl_work fun _ _ => rfl
  simp [Core.judgeAvailable, hlogs]

@[simp] theorem Core.work_settlePair : c.settlePair.work = c.work := by
  unfold Core.settlePair
  dsimp only
  split <;> rfl

@[simp] theorem Core.work_endHoldOff : c.endHoldOff.work = c.work := by
  unfold Core.endHoldOff
  split <;> rfl

@[simp] theorem Core.work_cancelReStep : c.cancelReStep.work = c.work := by simp [Core.cancelReStep, Core.setTimeFlag]

/-! ## What ends with the command -/

theorem Core.work_endTransfers : c.endTransfers.work = c.work := by
  refine Core.foldl_work (fun d i => ?_) _ c
  have hmajority : (d.takeMajority i).work = d.work := by
    unfold Core.takeMajority
    split <;> rfl
  unfold Core.endTransfer
  split
  · rfl
  · simp [hmajority]

theorem Core.work_endForced : c.endForced.work = c.work := by
  unfold Core.endForced
  split
  · exact Core.work_sfOff _
  · rfl

/-! ### TICK.COUNT among the registers they write -/

theorem Core.endTransfers_tickCount : c.endTransfers.rd Od.TICK_COUNT = c.rd Od.TICK_COUNT := by
  have hone : ∀ (d : Core) (i : Nat), (d.endTransfer i).rd Od.TICK_COUNT = d.rd Od.TICK_COUNT := by
    intro d i
    have hmajority : (d.takeMajority i).rd Od.TICK_COUNT = d.rd Od.TICK_COUNT := by
      unfold Core.takeMajority
      split <;> rfl
    unfold Core.endTransfer
    split
    · rfl
    · dsimp only
      split
      · rfl
      · have hstatus : Od.TICK_COUNT ≠ Od.STRAND_STATUS i := by simp only [Od.STRAND_STATUS, Od.TICK_COUNT]; omega
        exact (Core.rd_wr_other _ _ (by decide)).trans <| (Core.rd_wr_other _ _ (by decide)).trans <|
          (Core.rd_wr_other _ _ hstatus).trans hmajority
  unfold Core.endTransfers
  simp [hone]

theorem Core.endForced_tickCount : c.endForced.rd Od.TICK_COUNT = c.rd Od.TICK_COUNT := by
  have hone : ∀ (d : Core) (f : Nat), (d.sfToOff f).rd Od.TICK_COUNT = d.rd Od.TICK_COUNT := by
    intro d f
    have hstate : Od.TICK_COUNT ≠ Od.SF_STATE f := by simp only [Od.SF_STATE, Od.TICK_COUNT]; omega
    have hdemands : Od.TICK_COUNT ≠ Od.SF_DEMANDS f := by simp only [Od.SF_DEMANDS, Od.TICK_COUNT]; omega
    unfold Core.sfToOff
    split
    · rfl
    · rw [Core.rd_wr_other _ _ hstate]
      split
      · exact Core.rd_wr_other _ _ hdemands
      · rfl
  have hall : ∀ (l : List Nat) (d : Core), (l.foldl Core.sfToOff d).rd Od.TICK_COUNT = d.rd Od.TICK_COUNT := by
    intro l
    induction l with
    | nil => exact fun _ => rfl
    | cons f l ih => exact fun d => (ih _).trans (hone d f)
  unfold Core.endForced
  split
  · exact hall _ _
  · rfl

/-- What ends with the command, where no copy waits and no level-0 entry has been placed. -/
theorem Core.work_endConditions {c : Core} (hpark : ∀ n < 32, (c.spin n).stalled ≠ some .park)
    (hlevel0 : c.prog.l0Mark.2 = 0 ∨ c.prog.l0Mark.1 ≠ c.rd Od.TICK_COUNT) : c.endConditions.work = c.work := by
  have hwork : c.endTransfers.endForced.work = c.work := c.endTransfers.work_endForced.trans c.work_endTransfers
  have htick : c.endTransfers.endForced.rd Od.TICK_COUNT = c.rd Od.TICK_COUNT :=
    c.endTransfers.endForced_tickCount.trans c.endTransfers_tickCount
  unfold Core.endConditions
  generalize c.endTransfers.endForced = d at hwork htick
  simp only [Core.work, Prod.mk.injEq] at hwork
  obtain ⟨-, -, hprog, harr, -⟩ := id hwork
  rw [Core.parkWaiting_idle (c := d) (by simpa [Core.spin, harr] using hpark),
    Core.refillLevel0_idle (by rw [hprog, htick]; exact hlevel0)]
  dsimp only
  rw [Core.work_ite, Core.work_cancelReStep, ite_self]
  simp [Core.work, hwork]

end

/-- Settles O57: part by part of `Core.settle`. -/
theorem followUpLeavesAlone : Obligations.FollowUpLeavesAlone := by
  intro s d r hwait hdraft hpark hlevel0
  have hdrafted : (if d.clk.cyc = s.core.clk.cyc then d else d.drafted) = d := by
    rw [Core.drafted_idle hdraft, ite_self]
  have hwork : (d.settle s.core r).work = d.work := by
    unfold Core.settle
    rw [hdrafted]
    dsimp only
    rw [Core.serveAll_idle hwait]
    split
    · rfl
    · simp [Core.work_endConditions hpark hlevel0]
  simpa [Core.work, State.finishingWith] using hwork

end Sys2Proof.Machine
end

section
/-! Writes of any entry and the accesses of a memory window (chapter 14): O38 and O52. -/

-- Elaborated in order, so that the memory of its proofs is not held beside that of the rest of the text.
set_option Elab.async false

namespace Sys2Proof.Machine

/-! ## Stored configuration -/

/-- An entry whose stored value nothing else follows. -/
def plainKey (k : Nat) : Bool :=
  !deferredKey k && (source? 0x2C10 k).isNone && k != Od.TICK_PERIOD && !blockGroupKey k &&
    (record? (Od.TASK_EVENT 0) 64 k).isNone && (record? (Od.HART_AUTO_ID 0) 24 k).isNone && (ptpSetting? k).isNone

/-- A configuration value of such an entry is written, and the configuration record is to follow. -/
theorem Core.storeValue_plain {k : Nat} {r : OdRow} (hk : plainKey k = true) (hacc : r.acc ≠ .rw) (c : Core) (v : Nat) :
    c.storeValue k r v = (c.wr k v).cfgChanged := by
  simp only [plainKey, Bool.and_eq_true, Bool.not_eq_true', bne_iff_ne, ne_eq, Option.isNone_iff_eq_none] at hk
  obtain ⟨⟨⟨⟨⟨⟨hdefer, hsource⟩, hperiod⟩, hblock⟩, htask⟩, hhart⟩, hptp⟩ := hk
  simp [Core.storeValue, Core.valueTaken, hdefer, hsource, hperiod, hblock, htask, hhart, hptp, hacc]

/-- The row of a refill period of Table 13.8. -/
def skeinRefillRow (i : Nat) : OdRow :=
  ⟨0x2D03, 0x2D03, i + 1, i + 1, .u16, .rws, [1000, 1000, 500, 250, 100, 10, 10].getD i 0, .nat 1 60000 []⟩

theorem odRow_skeinRefill : ∀ i : Fin 7, odRow? (Od.SKEIN_REFILL_MS i) = some (skeinRefillRow i) := by decide

theorem skeinRefill_kinds : ∀ i : Fin 7, Od.SKEIN_REFILL_MS i / 256 < 0x6000 ∧ storedKey (Od.SKEIN_REFILL_MS i) = true ∧
    protectedKey (Od.SKEIN_REFILL_MS i) (skeinRefillRow i) = false ∧ plainKey (Od.SKEIN_REFILL_MS i) = true := by decide

/-! ## The rows of the memory window -/

/-- A window row of an entry of its kind is an access of the entry's word. -/
theorem Core.winRow_access {c : Core} {m k : Nat} {row : OdRow} {domain : Bool} (he : c.entry? k = some row)
    (hd : row.isDomain = domain) (hw : domain = true ∨ row.type.width = 64) (r : Recorder) (store : Option Nat) :
    c.winRow r m k domain store = c.access r m (winAddr k) 4 (match store with | some v => .store v | none => .load) := by
  unfold Core.winRow
  rw [he]
  dsimp only
  exact if_neg (by rcases hw with h | h <;> simp [hd, h])

section
variable {s : State} {c d : Core} {m : Fin 33} {k : Nat} {row : OdRow} (hs : s.finds c)
  (hserves : c.serves (masterPath m) = true) (hk : k / 256 < 0x8000) (hd : d = c.accessing m) (he : d.entry? k = some row)
include hs hserves hk hd he

/-- A load through the window of an entry of the row's kind. -/
theorem State.act_winLoad {domain : Bool} (hdom : row.isDomain = domain) (hw : domain = true ∨ row.type.width = 64)
    (hpmp : c.pmpOk m (winAddr k) 4 0 = true) :
    (s.act fun c r => c.winRow r m k domain none) = .next (s.finishing (d.winLoad s.skein m k)) := by
  subst hd
  rw [State.act_finds hs, Core.winRow_access (by simpa using he) hdom hw]
  dsimp only
  rw [(Core.access_window hserves hk).1 hpmp]

/-- A store through the window to an entry of the row's kind. -/
theorem State.act_winStore {domain : Bool} (hdom : row.isDomain = domain) (hw : domain = true ∨ row.type.width = 64)
    (hpmp : c.pmpOk m (winAddr k) 4 1 = true) (x : Nat) :
    (s.act fun c r => c.winRow r m k domain (some x)) = .next (s.finishing (d.winStore m k x)) := by
  subst hd
  rw [State.act_finds hs, Core.winRow_access (by simpa using he) hdom hw]
  dsimp only
  rw [(Core.access_window hserves hk).2 hpmp]

end

/-- A wide entry's load leaves its upper half in WIN.HI and returns the lower. -/
theorem Core.winNumberLoad_wide {row : OdRow} (hw : row.type.width = 64) (c : Core) (m v : Nat) :
    c.winNumberLoad m row v =
      (c.updWindow m fun w => { w with hi := v / 2 ^ 32 % 2 ^ 32, status := 0 }).loaded m (v % 2 ^ 32) := if_pos hw

/-- A segment within the length of its entry is kept for the transfer, or with LAST is the end of it. -/
theorem Core.writeSegment_keeps {c : Core} {p : Path} {k ofs : Nat} {seg data : Bytes} {row : OdRow}
    (hc : c.checkWrite p k 0 = .ok row) (hdom : row.isDomain = true) (hk : k ≠ Od.PROG_IMAGE)
    (hdata : data = splice (((c.srv.writes.find? fun x => x.key == k && x.path == p).map DomWrite.data).getD []) ofs seg)
    (hlen : data.length ≤ (domLength k).2) :
    c.writeSegment p k ofs seg false = (((c.unlock p k).updSrv fun x =>
        { x with writes := x.writes ++ [⟨k, p, data, (c.unlock p k).clk.cyc⟩] }).answer .done) ∧
      c.writeSegment p k ofs seg true = (c.unlock p k).endDomain p k row data := by
  unfold Core.writeSegment
  simp only [hc, hdom, Bool.not_true, Bool.false_eq_true, if_false, if_true, if_neg hk]
  cases hf : c.srv.writes.find? fun x => x.key == k && x.path == p
  all_goals
    simp only [hf, Option.map_none, Option.map_some, Option.getD_none, Option.getD_some] at hdata
    simp only [← hdata, if_neg (Nat.not_lt.mpr hlen), and_self]

/-- The end of a transfer whose content is good is the content's effect. -/
theorem Core.endDomain_applies {c : Core} {p : Path} {k : Nat} {row : OdRow} {b : Bytes} (h1 : (domLength k).1 ≤ b.length)
    (h2 : b.length ≤ (domLength k).2) (h3 : hartLengthOk k b = true) (h4 : Core.domOk k b = true) :
    c.endDomain p k row b = c.applyDomain p k row b := by
  unfold Core.endDomain
  dsimp only
  rw [if_neg (by simp [h3]; omega), if_neg (by simp [h4])]

/-- Settles O38. -/
theorem dictionaryAndWindowCommandsComplete : Obligations.DictionaryAndWindowCommandsComplete := by
  intro s c hs
  refine ⟨fun p k v row data he hdom hdec => ⟨fun hm => ?_, fun code hsv hc => ?_, fun hsv hc hv => ?_⟩,
    fun p i v hm ha => ?_, fun p k row b hm hr hk hn h1 h2 h3 h4 => ?_,
    fun m k row p d w hp hsv hk hd he hw => ?_, fun p k w hf => ?_, fun copy hch hrun hun hcopy => ?_⟩
  · rw [exec_dictionaryWrite, State.act_pathDecoded hs hm he hdom hdec]
  · rw [exec_dictionaryWrite, State.act_pathRefused hs hsv he hdom hdec (.inl hc)]
  · rw [exec_dictionaryWrite, State.act_pathRefused hs hsv he hdom hdec (.inr ⟨hc, hv, rfl⟩)]
    rfl
  · obtain ⟨hk, hstored, hprot, hplain⟩ := skeinRefill_kinds i
    have hle : 1 ≤ v ∧ v ≤ 60000 := by
      simpa [skeinRefillRow, OdRange.admits] using Core.mayWrite_range hm (odRow_skeinRefill i) (.inl hk)
    have hv : v < 2 ^ (skeinRefillRow i).type.width := by
      have : 2 ^ (skeinRefillRow i).type.width = 65536 := rfl
      omega
    have h := State.act_stored hs hm ha (odRow_skeinRefill i) (.inl hk) (.inr (.inl rfl)) hv hstored hprot
    rw [Core.storeValue_plain hplain (by simp [skeinRefillRow])] at h
    exact h
  · rw [exec_dictionaryWrite, State.act_pathContent hs hm hr (.inl hk) hn h1 h2 h3 h4]
  · subst hp hw
    refine ⟨fun hdom hwide => ⟨fun v hpmp hc hv => ?_, fun v x hpmp hv hlt hc ho => ?_⟩,
      fun hdom => ⟨fun seg hpmp hc hseg => ?_, fun n data e hpmp h1 h2 hc hdata hlen hn he' => ?_⟩⟩
    · subst hv
      rw [exec_winWideLoad, State.act_winLoad hs hsv hk hd he hdom (.inr hwide) hpmp, Core.winLoad_number hc hdom,
        Core.winNumberLoad_wide hwide]
    · rw [exec_winWideStore, State.act_winStore hs hsv hk hd he hdom (.inr hwide) hpmp,
        Core.winStore_wide he hdom hwide hv hlt hc ho]
    · subst hseg
      rw [exec_winDomainLoad, State.act_winLoad hs hsv hk hd he hdom (.inl rfl) hpmp, Core.winLoad_domain hc hdom]
      rfl
    · obtain ⟨hkept, hended⟩ := Core.writeSegment_keeps hc hdom hn hdata hlen
      subst he'
      rw [exec_winDomainStore, State.act_winStore hs hsv hk hd he hdom (.inl rfl) hpmp, Core.winStore_domain he hdom h1 h2]
      refine ⟨fun hlast => ?_, fun hlast l1 l2 l3 => ?_⟩
      · rw [hlast, hkept]
      · rw [hlast, hended, Core.endDomain_applies l1 hlen l2 l3]
  · refine exec_act_finds (exec_domainLockTimeout p k s) hs ?_
    unfold Core.domainTimeout
    rw [hf]
  · refine exec_act_finds (exec_configRecordWrite s) hs ?_
    have hchanged : c.srv.changed.isNone = false := by
      obtain ⟨t, ht⟩ := Option.isSome_iff_exists.mp hch
      rw [ht]
      rfl
    subst hcopy
    unfold Core.writeRecord
    exact if_neg (by simp [hchanged, hs.2, hrun, hun])

/-! ## Both halves of a wide entry (R468) -/

@[simp] theorem Core.loaded_srv (c : Core) (m v : Nat) : (c.loaded m v).srv = c.srv := by
  unfold Core.loaded
  split <;> rfl

@[simp] theorem Core.loaded_od (c : Core) (m v : Nat) : (c.loaded m v).od = c.od := by
  unfold Core.loaded
  split <;> rfl

@[simp] theorem Core.loaded_window (c : Core) (m v n : Nat) : (c.loaded m v).window n = c.window n := by
  unfold Core.window
  rw [Core.loaded_srv]

@[simp] theorem Core.loaded_reply (c : Core) (m v : Nat) : (c.loaded m v).reply = .value v := rfl

/-- A load of a spindle arrives in its register. -/
theorem Core.loaded_spin {c : Core} {m v : Nat} (hm : m ≠ 0) (hlen : m - 1 < c.arr.sp.length) :
    ((c.loaded m v).spin (m - 1)).rd = v % 2 ^ 32 := by
  unfold Core.loaded
  rw [if_neg hm]
  have h := getD_updAt_same (fun x : Spindle => { x with rd := v % 2 ^ 32 }) c.arr.sp Spindle.idle hlen
  exact congrArg Spindle.rd h

/-- A write of the window block is read back. -/
theorem Core.window_updWindow {c : Core} {m : Nat} (hlen : m < c.srv.windows.length) (f : Window → Window) :
    (c.updWindow m f).window m = f (c.window m) := getD_updAt_same f c.srv.windows Window.fresh hlen

theorem Core.accessing_spindles (c : Core) (m : Nat) : (c.accessing m).arr.sp.length = c.arr.sp.length := by
  unfold Core.accessing
  split
  · rfl
  · exact updAt_length _ _ _

/-- A store to a wide entry that a check of R465 refuses. -/
theorem Core.winStore_refused {c : Core} {m k x code : Nat} {row : OdRow} (he : c.entry? k = some row)
    (hd : row.isDomain = false) (hw : row.type.width = 64) (hlt : (c.window m).hi * 2 ^ 32 + x < 2 ^ 64)
    (hc : c.checkWrite (masterPath m) k ((c.window m).hi * 2 ^ 32 + x) = .error code) :
    c.winStore m k x = ((c.used 3).abort code).winStatus m code := by
  have hdv : decodeValue row.type .word (leBytes 8 ((c.window m).hi * 2 ^ 32 + x)) = .ok ((c.window m).hi * 2 ^ 32 + x) := by
    simp only [decodeValue, hw, if_true, leNat_leBytes 8 _ (lt_of_lt_of_eq hlt (by norm_num))]
  have hf : c.writeFree (masterPath m) k .word (leBytes 8 ((c.window m).hi * 2 ^ 32 + x)) = (c.used 3).abort code := by
    have e1 : (c.used 3).entry? k = some row := he
    have e2 : (c.used 3).checkWrite (masterPath m) k ((c.window m).hi * 2 ^ 32 + x) = .error code := hc
    unfold Core.writeFree
    generalize c.freeFacts = f
    generalize c.used 3 = d at e1 e2 ⊢
    unfold Core.writeEntry Core.writeNumber
    simp only [e1, hd, hdv, e2, Bool.false_eq_true, if_false]
  unfold Core.winStore
  simp only [he, hd, hw, hf, Bool.false_eq_true, if_false, if_true]
  rfl

/-- Settles O52: the halves that a load leaves are those of one value, and a store makes the value of both halves or, refused,
writes nothing. -/
theorem wideEntriesAreNeverTorn : Obligations.WideEntriesAreNeverTorn := by
  intro s c d m k row p hs hp hsv hk hd he hdom hwide hwin hsp
  subst hp
  refine ⟨fun v hpmp hlt hc hv => ?_, fun v x hpmp hv hx hhi => ⟨fun hc ho => ?_, fun code hc => ?_⟩⟩
  · have hupper : v / 2 ^ 32 % 2 ^ 32 = v / 2 ^ 32 := Nat.mod_eq_of_lt (by omega)
    have hm : (m : Nat) < (d.used 1).srv.windows.length := by rw [Core.used_srv, hwin]; exact m.isLt
    have hspin : (m : Nat) ≠ 0 → (m : Nat) - 1 < d.arr.sp.length := by
      intro h0
      rw [hd, Core.accessing_spindles, hsp]
      omega
    refine ⟨((d.used 1).updWindow m fun w => { w with hi := v / 2 ^ 32 % 2 ^ 32, status := 0 }).loaded m (v % 2 ^ 32), ?_, ?_,
      fun h0 => ?_, ?_, ?_, ?_⟩
    · rw [exec_winWideLoad, State.act_winLoad hs hsv hk hd he hdom (.inr hwide) hpmp, Core.winLoad_number hc hdom,
        Core.winNumberLoad_wide hwide, ← hv]
    · rfl
    · have h0 : (m : Nat) ≠ 0 := by simpa using h0
      exact (Core.loaded_spin (c := (d.used 1).updWindow m _) h0 (hspin h0)).trans (Nat.mod_mod _ _)
    · rw [Core.loaded_window, Core.window_updWindow hm, hupper]
    · rw [Core.loaded_window, Core.window_updWindow hm, hupper]
      exact Nat.div_add_mod' v (2 ^ 32)
    · rw [Core.loaded_od]
      rfl
  · rw [exec_winWideStore, State.act_winStore hs hsv hk hd he hdom (.inr hwide) hpmp,
      Core.winStore_wide he hdom hwide hv (by omega) hc ho]
  · subst hv
    refine ⟨_, by rw [exec_winWideStore, State.act_winStore hs hsv hk hd he hdom (.inr hwide) hpmp], ?_⟩
    rw [Core.winStore_refused he hdom hwide (by omega) hc]
    exact ⟨rfl, rfl, rfl⟩

end Sys2Proof.Machine
end

section
/-! The commands of the run state and the reactions (O40). -/

-- Elaborated in order, so that the memory of its proofs is not held beside that of the rest of the text.
set_option Elab.async false

namespace Sys2Proof.Machine

/-! ## STATE.CMD (R495) -/

/-- The row of STATE.CMD. -/
def stateCmdRow : OdRow := ⟨0x2F00, 0x2F00, 0x02, 0x02, .u8, .wo, 0, .nat 1 2 []⟩

theorem odRow_stateCmd : odRow? Od.STATE_CMD = some stateCmdRow := by decide

/-- A write that the checks let through is one that the present state permits. -/
theorem Core.checkWrite_permits {c : Core} {p : Path} {k v : Nat} {r : OdRow} (h : c.checkWrite p k v = .ok r) :
    c.permits p k r v = true := by
  have he := Core.checkWrite_row h
  unfold Core.checkWrite at h
  rw [he] at h
  simp only [ite_eq_iff, reduceCtorEq, and_false, false_or, Bool.not_eq_true'] at h
  simpa using h.2.2.2.1

/-- A module that follows its partner is given no STATE.CMD: the step record carries it (R344). -/
theorem Core.mayWrite_stateCmd_role {c : Core} {p : Path} {v : Nat} (hm : c.mayWrite p Od.STATE_CMD v = true) :
    c.role ≠ .standby ∧ c.role ≠ .syncing := by
  simp only [Core.mayWrite, Bool.and_eq_true] at hm
  obtain ⟨-, hv⟩ := hm
  cases hc : c.checkWrite p Od.STATE_CMD v with
  | error e => simp [hc] at hv
  | ok r =>
    have hp := Core.checkWrite_permits hc
    have hcarried : c.carried p Od.STATE_CMD v = true := by simp [Core.carried]
    unfold Core.permits at hp
    rw [hcarried] at hp
    constructor <;> intro hr <;> simp [hr] at hp

/-- A STATE.CMD that the checks let through is answered by the present run state. -/
theorem State.act_stateCmd {s : State} {c d : Core} {p : Path} {v : Nat} (hs : s.finds c)
    (hm : c.mayWrite p Od.STATE_CMD v = true) (hd : (c.used 3).stateCmd (v == 2) = d) :
    (s.act fun c _ => c.pathNumber p Od.STATE_CMD v) = .next (s.finishing (d.shown p)) := by
  rw [State.act_pathNumber hs hm odRow_stateCmd (by decide) (.inl rfl)
    (Core.mayWrite_u8 hm odRow_stateCmd (by decide) rfl rfl (by decide)),
    Core.applyNumber_stateCmd _ _ _ _ _ (by decide), hd]

/-! ## Queued reactions and the end of SAFE (R504, R508) -/

/-- The first queued reaction that nothing holds back leaves the queue and starts. -/
theorem Core.queuedStart_starts {c : Core} {f : Reaction} (h4 : c.react.highest ≠ 4)
    (hf : c.react.queue.find? (fun x => !c.react.holdsBack x) = some f) :
    c.queuedStart =
      ({ c with react := { c.react with queue := c.react.queue.erase f } } : Core).startReaction f true := by
  unfold Core.queuedStart
  rw [if_neg h4, hf]

/-- A module that leaves SAFE returns to the state it came from, as SYNCING if its pair went on without it. -/
theorem Core.leaveSafe_eq {c e : Core}
    (he : e = { c with react := { c.react with active := c.react.active.filter (fun a => a.level != 3), safeEsc := false } }) :
    c.leaveSafe = (if c.pairMember = true ∧ (c.role = .active ∨ c.role = .standby) then e.becomeSyncing else e).setRun
      c.react.safeFrom := by
  have hmember : e.pairMember = c.pairMember := by subst he; rfl
  have hrole : e.role = c.role := by subst he; rfl
  have hfrom : e.react.safeFrom = c.react.safeFrom := by subst he; rfl
  have hsync : e.becomeSyncing.react.safeFrom = c.react.safeFrom := hfrom
  unfold Core.leaveSafe
  rw [← he]
  dsimp only
  rw [hmember, hrole]
  by_cases h : c.pairMember = true ∧ (c.role = .active ∨ c.role = .standby)
  · rw [if_pos h, if_pos (by simpa using h), hsync]
  · rw [if_neg h, if_neg (by simpa using h), hfrom]

/-- The resumption once every queued reaction of L2 or lower has started. -/
theorem Core.safeResume_resumes {c : Core} (hrun : c.run = .safe) (hesc : c.react.safeEsc = true)
    (hqueue : ∀ f ∈ c.react.queue, 2 < f.level) :
    c.safeResume = ((c.atCyc (c.react.safeQuiet + ms (c.rd Od.STATE_SAFE_HOLD_MS))).leaveSafe).log 0x0F06 := by
  have hnone : c.react.queue.any (fun f => decide (f.level ≤ 2)) = false := by
    simpa using hqueue
  unfold Core.safeResume
  rw [if_neg (by simp [hrun, hesc, hnone])]

/-- Settles O40. -/
theorem stateAndReactionCommandsComplete : Obligations.StateAndReactionCommandsComplete := by
  intro s c hs
  refine ⟨fun p d hd => ⟨fun hm => ?_, fun hm => ?_⟩, fun f h4 hf => ?_, fun d e hrun hesc hqueue hd he => ?_⟩
  · have hrole := Core.mayWrite_stateCmd_role hm
    subst hd
    refine ⟨fun h => ?_, fun h => ?_, fun h => ?_, fun h => ?_⟩
    · exact State.act_stateCmd hs hm (by rcases h with h | h <;> simp [Core.stateCmd, h, abState])
    · exact State.act_stateCmd hs hm (by simp [Core.stateCmd, h, hrole])
    · exact State.act_stateCmd hs hm (by simp [Core.stateCmd, h, hrole])
    · exact State.act_stateCmd hs hm (by simp [Core.stateCmd, h, hrole])
  · have hrole := Core.mayWrite_stateCmd_role hm
    subst hd
    refine ⟨fun h => ?_, fun hprog => ⟨fun h => ?_, fun h => ?_, fun h => ?_⟩⟩
    · exact State.act_stateCmd hs hm (by rcases h with h | h | h <;> simp [Core.stateCmd, h, abState])
    · exact State.act_stateCmd hs hm (by simp [Core.stateCmd, h, hrole, hprog])
    · exact State.act_stateCmd hs hm (by simp [Core.stateCmd, h, hrole, hprog])
    · exact State.act_stateCmd hs hm (by simp [Core.stateCmd, h, hrole, hprog])
  · exact exec_act_finds (exec_reactionQueuedStart s) hs (Core.queuedStart_starts h4 hf)
  · refine exec_act_finds (exec_safeResume s) hs ?_
    rw [Core.safeResume_resumes hrun hesc hqueue, ← hd, Core.leaveSafe_eq he]
    subst hd
    rfl

end Sys2Proof.Machine
end

section
/-! The change set, its signatures and COMMISSIONING (O39). -/

-- Elaborated in order, so that the memory of its proofs is not held beside that of the rest of the text.
set_option Elab.async false

namespace Sys2Proof.Machine

/-! ## Staging (R478) -/

/-- A protected write within the 64 changes of the set is staged. -/
theorem Core.csStage_adds {c : Core} {p : Path} {k : Nat} {b : Bytes} {set : ChangeSet} {l : List Change}
    (hset : set = c.srv.cset.getD ⟨c.authorOf (c.principal p), [], none, none, 0, none⟩)
    (hl : l = insertChange ⟨k, b⟩ set.changes) (hlen : l.length ≤ 64) :
    c.csStage p k b = (c.updSrv fun x => { x with cset := some { set with changes := l, staged := c.clk.cyc } }).answer .done := by
  subst hset hl
  unfold Core.csStage
  dsimp only
  rw [if_neg (by omega)]

/-- A write of a protected number is staged. -/
theorem Core.applyNumber_protected {k : Nat} {r : OdRow} (hp : protectedKey k r = true) (c : Core) (p : Path) (v : Nat)
    (f : Facts) : c.applyNumber p k r v f = c.csStage p k (beBytes r.type.bytes v) := by
  unfold Core.applyNumber
  rw [if_pos hp]

/-- A write of protected bytes is staged. -/
theorem Core.applyDomain_protected {k : Nat} {r : OdRow} (hk : k ≠ Od.CS_SIGN) (hp : protectedKey k r = true) (c : Core)
    (p : Path) (b : Bytes) : c.applyDomain p k r b = c.csStage p k b := by
  unfold Core.applyDomain
  rw [if_neg hk, if_pos hp]

/-- A staging write of a protected entry is a write on its path. -/
theorem Core.pathStage_protected {c : Core} {k : Nat} {r : OdRow} (he : c.entry? k = some r) (hp : protectedKey k r = true)
    (p : Path) (b : Bytes) : c.pathStage p k b = c.pathData p k b := by
  unfold Core.pathStage
  rw [he]
  exact if_pos hp

/-- A write of a whole content that the checks let through names an entry. -/
theorem Core.mayWriteBytes_entry {c : Core} {p : Path} {k : Nat} {r : OdRow} (hm : c.mayWriteBytes p k = true)
    (hr : odRow? k = some r) (hk : k / 256 < 0x6000) : c.entry? k = some r := by
  simp only [Core.mayWriteBytes, Bool.and_eq_true] at hm
  obtain ⟨-, hc⟩ := hm
  cases h : c.checkWrite p k 0 with
  | error e => simp [h] at hc
  | ok r' =>
    have he := Core.checkWrite_row h
    have := Core.entry_row he (.inl hk)
    rw [hr] at this
    cases this
    exact he

/-! ## CS.CMD and SEC.CMD -/

/-- The rows of CS.CMD, SEC.CMD and CS.SIGN. -/
def csCmdRow : OdRow := ⟨0x2E30, 0x2E30, 0x06, 0x06, .u8, .wo, 0, .nat 1 2 []⟩
def secCmdRow : OdRow := ⟨0x2E00, 0x2E00, 0x07, 0x07, .u8, .wo, 0, .nat 1 1 []⟩
def csSignRow : OdRow := ⟨0x2E30, 0x2E30, 0x07, 0x07, .domain, .wo, 0, .any⟩

theorem odRow_csCmd : odRow? Od.CS_CMD = some csCmdRow := by decide
theorem odRow_secCmd : odRow? Od.SEC_CMD = some secCmdRow := by decide
theorem odRow_csSign : odRow? Od.CS_SIGN = some csSignRow := by decide

/-- The entries whose effect comes before that of SEC.CMD in the order of `Core.applyNumber`. -/
def beforeSecCmd (k : Nat) : Bool :=
  !universalCommandKey k || k == Od.PAIR_CMD ||
    [elem? (Od.UIO_ACK 0) 24 k, record? (Od.HART_CANCEL 0) 24 k, record? (Od.CAN_CMD 0) 4 k, elem? (Od.CAN_TXB_CMD 0) 12 k,
      elem? (Od.CAN_Q_ACK 0) 16 k, source? 0x2C14 k, elem? (Od.EV_T_THRESH 0) 33 k].any Option.isSome

theorem securityCommand_keys : (beforeSecCmd Od.CS_CMD = false ∧ protectedKey Od.CS_CMD csCmdRow = false) ∧
    (beforeSecCmd Od.SEC_CMD = false ∧ protectedKey Od.SEC_CMD secCmdRow = false) := by decide

theorem Core.applyNumber_security {k : Nat} {r : OdRow} (hk : beforeSecCmd k = false) (hp : protectedKey k r = false)
    (c : Core) (p : Path) (v : Nat) (f : Facts) (hcmd : k = Od.SEC_CMD ∨ k = Od.CS_CMD) : c.applyNumber p k r v f =
      if k = Od.SEC_CMD then c.secCmd else if v = 1 then c.csSeal p else c.csAbandon := by
  simp only [beforeSecCmd, universalCommandKey, fieldCommandKey, Bool.or_eq_false_iff, Bool.not_eq_false', Bool.and_eq_true,
    List.all_cons, List.all_nil, List.any_cons, List.any_nil, bne_iff_ne, ne_eq, Option.isNone_iff_eq_none, beq_eq_false_iff_ne, Option.isSome_eq_false_iff] at hk
  unfold Core.applyNumber
  rcases hcmd with rfl | rfl
  · simp [hk, hp]
  · simp [hk, hp]

/-- A CS.CMD that the checks let through seals or abandons the set. -/
theorem State.act_csCmd {s : State} {c d : Core} {p : Path} {v : Nat} (hs : s.finds c)
    (hm : c.mayWrite p Od.CS_CMD v = true) (hd : (if v = 1 then (c.used 3).csSeal p else (c.used 3).csAbandon) = d) :
    (s.act fun c _ => c.pathNumber p Od.CS_CMD v) = .next (s.finishing (d.shown p)) := by
  obtain ⟨⟨hbefore, hprot⟩, -⟩ := securityCommand_keys
  rw [State.act_pathNumber hs hm odRow_csCmd (by decide) (.inl rfl)
    (Core.mayWrite_u8 hm odRow_csCmd (by decide) rfl rfl (by decide)),
    Core.applyNumber_security hbefore hprot _ _ _ _ (.inr rfl), if_neg (by decide), hd]

/-- A SEC.CMD that the checks let through asks for the end of COMMISSIONING. -/
theorem State.act_secCmd {s : State} {c : Core} {p : Path} {v : Nat} (hs : s.finds c)
    (hm : c.mayWrite p Od.SEC_CMD v = true) :
    (s.act fun c _ => c.pathNumber p Od.SEC_CMD v) = .next (s.finishing ((c.used 3).secCmd.shown p)) := by
  obtain ⟨-, hbefore, hprot⟩ := securityCommand_keys
  rw [State.act_pathNumber hs hm odRow_secCmd (by decide) (.inl rfl)
    (Core.mayWrite_u8 hm odRow_secCmd (by decide) rfl rfl (by decide)),
    Core.applyNumber_security hbefore hprot _ _ _ _ (.inl rfl), if_pos rfl]

/-! ## Sealing (R480, R484) -/

/-- The registers of a seal are none of those that say who may sign. -/
theorem Core.twoSigners_sealed {c e : Core} {f : Server → Server} {n : Nat}
    (he : e = ((((c.used 1).updSrv f).wr Od.CS_SEALED_MS n).wr Od.CS_SIGNER1 0).log 0x0E04) :
    e.twoSigners = c.twoSigners := by
  subst he
  refine Core.twoSigners_agree (fun k hk => ?_) (fun k => rfl)
  have h1 : k ≠ Od.CS_SIGNER1 := by simp only [Od.CS_SIGNER1]; omega
  have h2 : k ≠ Od.CS_SEALED_MS := by simp only [Od.CS_SEALED_MS]; omega
  exact (Core.rd_wr_other _ _ h1).trans (Core.rd_wr_other _ _ h2)

section
variable {c e : Core} {p : Path} {set sealed : ChangeSet} (hset : c.srv.cset = some set) (hopen : set.sealing = none)
  (hauthor : set.author = c.authorOf (c.principal p)) (hsealed : sealed = { set with sealing := some (c.fresh 64, c.monoMs) })
  (he : e = ((((c.used 1).updSrv fun x => { x with cset := some sealed }).wr Od.CS_SEALED_MS c.monoMs).wr
    Od.CS_SIGNER1 0).log 0x0E04)
include hset hopen hauthor hsealed he

theorem Core.csSeal_seals (hsign : c.twoSigners = true) : c.csSeal p = e.answer .done := by
  have htwo := Core.twoSigners_sealed he
  subst hsealed
  unfold Core.csSeal
  rw [hset]
  dsimp only
  rw [hopen, if_neg (by simp), if_neg (by simp [hauthor]), if_neg (by simp [hsign]), if_pos (by rw [← hsign, ← htwo, he]; rfl), he]
  rfl

/-- In an unprovisioned module the seal passes the set to the checks. -/
theorem Core.csSeal_judges (hsign : c.twoSigners = false) (hbar : c.csBarred set = false) :
    c.csSeal p = (e.csJudge sealed (0, 0)).answer .done := by
  have htwo := Core.twoSigners_sealed he
  subst hsealed
  unfold Core.csSeal
  rw [hset]
  dsimp only
  rw [hopen, if_neg (by simp), if_neg (by simp [hauthor]), if_neg (by simp [hbar]),
    if_neg (by rw [Bool.not_eq_true, ← hsign, ← htwo, he]; rfl), he]
  rfl

end

/-! ## Signatures (R481, R482) -/

section
variable {c : Core} {sig : Bytes} {set : ChangeSet} {nonce t i : Nat} (hset : c.srv.cset = some set)
  (hsealed : set.sealing = some (nonce, t)) (haccepted : set.accepted = none) (htime : c.monoMs < t + 1000 * c.rd Od.CS_WINDOW_S)
  (hzero : beAt sig 4 4 = 0)
  (hcred : (List.range 16).find? (fun j => c.credEnabled j && c.rd (Od.CRED_ID j) == beAt sig 0 4) = some i)
  (hlock : c.credLocked i = false) (hright : c.roleRight (c.credRole i) 5 = true)
include hset hsealed haccepted htime hzero hcred hlock hright

/-- A signature that says it is of a credential which may sign is judged by its MAC, then by the signature before it. -/
theorem Core.csSign_judged : c.csSign sig =
    if Sha.hmac (c.dom (Od.CRED_SECRET i)) c.csContent ≠ slice sig 8 32 then (c.authFailed i).abort abRight
    else match set.signer with
      | none => (((c.authDone i).updSrv fun x => { x with cset := some { set with signer := some i } }).wr Od.CS_SIGNER1
          (beAt sig 0 4)).answer .done
      | some j =>
        if i = j ∨ c.credRole i = c.credRole j then c.abort abRight
        else if c.csBarred set then c.abort abState
        else ((c.authDone i).csJudge set (c.rd (Od.CRED_ID j), beAt sig 0 4)).answer .done := by
  unfold Core.csSign
  rw [hset]
  dsimp only
  rw [hsealed, haccepted]
  dsimp only
  rw [if_neg (by simp [htime]), if_neg (by simp [hzero]), hcred]
  dsimp only
  exact if_neg (by simp [hlock, hright])

end

/-- A signature of 40 bytes that the checks let through is judged. -/
theorem State.act_csSign {s : State} {c d : Core} {p : Path} {sig : Bytes} (hs : s.finds c)
    (hm : c.mayWriteBytes p Od.CS_SIGN = true) (hlen : sig.length = 40)
    (hd : ((c.used 3).unlock p Od.CS_SIGN).csSign sig = d) :
    exec (.csSign p sig) s = .next (s.finishing (d.shown p)) := by
  have hbounds : domLength Od.CS_SIGN = (40, 40) := by decide
  have hhart : hartLengthOk Od.CS_SIGN sig = true := rfl
  have hcontent : Core.domOk Od.CS_SIGN sig = true := rfl
  rw [exec_csSign, State.act_pathContent hs hm odRow_csSign (.inl (by decide)) (by decide) (by rw [hbounds, hlen])
    (by rw [hbounds, hlen]) hhart hcontent, Core.applyDomain, if_pos rfl, hd]

/-! ## What time ends -/

theorem Core.csAbandon_ends {c : Core} (h : c.srv.cset.isSome = true) : c.csAbandon = (c.csEnd 2).answer .done := by
  obtain ⟨set, hset⟩ := Option.isSome_iff_exists.mp h
  unfold Core.csAbandon
  rw [hset]
  rfl

theorem Core.csExpiry_sealed {c : Core} {set : ChangeSet} {nonce t : Nat} (hset : c.srv.cset = some set)
    (hsealed : set.sealing = some (nonce, t)) (haccepted : set.accepted = none) :
    c.csExpiry = (c.atCyc (ms (t + 1000 * c.rd Od.CS_WINDOW_S))).csEnd 3 := by
  unfold Core.csExpiry
  rw [hset]
  dsimp only
  rw [hsealed]
  dsimp only
  rw [haccepted]
  rfl

theorem Core.csIdle_open {c : Core} {set : ChangeSet} (hset : c.srv.cset = some set) (hopen : set.sealing = none) :
    c.csIdle = (c.atCyc (set.staged + ms 600000)).csEnd 2 := by
  unfold Core.csIdle
  rw [hset]
  dsimp only
  rw [hopen]
  rfl

/-- COMMISSIONING that ends is recorded, and its time stays what it was. -/
theorem Core.setCommissioning_ends {c : Core} (h : c.rd Od.SEC_COMMISSIONING = 1) :
    c.setCommissioning false = (c.wr Od.SEC_COMMISSIONING 0).log 0x0E07 := by
  unfold Core.setCommissioning
  rw [if_neg (by simp [h])]
  rfl

theorem Core.commissionExpiry_ends {c : Core} (h : c.rd Od.SEC_COMMISSIONING = 1) : c.commissionExpiry =
    (((c.atCyc (ms c.srv.commissionEnd)).wr Od.SEC_COMMISSIONING 0).log 0x0E07).cfgChanged := by
  unfold Core.commissionExpiry
  rw [if_neg (by simp [h]), Core.setCommissioning_ends (by exact h)]

theorem Core.lockExpiry_ends {c : Core} {i t : Nat} (h : c.srv.locks.getD i none = some t) :
    c.lockExpiry i = (c.atCyc (ms (t + 300000))).updSrv fun x => { x with locks := setAt x.locks i none } := by
  unfold Core.lockExpiry
  rw [h]

/-- Settles O39. -/
theorem countersignCommandsComplete : Obligations.CountersignCommandsComplete := by
  intro s c hs
  refine ⟨fun p k v row data set l hm he hdom hp hdec hset hl hlen => ?_,
    fun p k row b set l hm hr hp hk hn hsign h1 h2 h3 h4 hset hl hlen => ?_,
    fun p set sealed d e hm hset hopen hauthor hd hsealed he => ⟨fun htwo => ?_, fun htwo hbar => ?_⟩,
    fun p hm hset => ?_,
    fun p sig set nonce t i d hm hlen hset hsealed haccepted htime hzero hcred hlock hright hd => ?_,
    fun set nonce t hset hsealed haccepted => ?_, fun set hset hopen => ?_, fun i t ht => ?_, fun p hm => ?_, fun hcomm => ?_⟩
  · have hact : exec (.csStageWrite p k data) s = s.act fun c _ => c.pathData p k data := by
      rw [exec_csStageWrite, State.act_finds hs, State.act_finds hs, Core.pathStage_protected he hp]
    rw [hact, State.act_pathDecoded hs hm he hdom hdec, Core.applyNumber_protected hp]
    exact congrArg (fun x : Core => Host.Outcome.next (s.finishing (x.shown p))) (Core.csStage_adds hset hl hlen)
  · have he := Core.mayWriteBytes_entry hm hr hk
    have hact : exec (.csStageWrite p k b) s = s.act fun c _ => c.pathData p k b := by
      rw [exec_csStageWrite, State.act_finds hs, State.act_finds hs, Core.pathStage_protected he hp]
    rw [hact, State.act_pathContent hs hm hr (.inl hk) hn h1 h2 h3 h4, Core.applyDomain_protected hsign hp]
    exact congrArg (fun x : Core => Host.Outcome.next (s.finishing (x.shown p))) (Core.csStage_adds hset hl hlen)
  · subst hd
    exact State.act_csCmd hs hm (Core.csSeal_seals hset hopen hauthor hsealed he htwo)
  · subst hd
    exact State.act_csCmd hs hm (Core.csSeal_judges hset hopen hauthor hsealed he htwo hbar)
  · exact State.act_csCmd hs hm (Core.csAbandon_ends hset)
  · have hjudged := Core.csSign_judged (c := (c.used 3).unlock p Od.CS_SIGN) (sig := sig) hset hsealed haccepted htime hzero
      hcred hlock hright
    rw [← hd] at hjudged
    refine ⟨fun hmac => ?_, fun hmac => ⟨fun hfirst => ?_, fun j hj hij hrole hbar => ?_⟩⟩
    · refine State.act_csSign hs hm hlen ?_
      rw [← hd, hjudged, if_pos (by rw [hd]; exact hmac)]
      rfl
    · refine State.act_csSign hs hm hlen ?_
      rw [← hd, hjudged, if_neg (by rw [hd]; exact not_not.mpr hmac), hfirst]
    · refine State.act_csSign hs hm hlen ?_
      rw [← hd, hjudged, if_neg (by rw [hd]; exact not_not.mpr hmac), hj]
      dsimp only
      rw [if_neg (by rw [hd]; exact not_or.mpr ⟨hij, hrole⟩), if_neg (by rw [hd, Bool.not_eq_true]; exact hbar)]
      rw [hd]
      rfl
  · exact exec_act_finds (exec_csWindowExpiry s) hs (Core.csExpiry_sealed hset hsealed haccepted)
  · exact exec_act_finds (exec_csIdleAbandon s) hs (Core.csIdle_open hset hopen)
  · exact exec_act_finds (exec_credentialLockExpiry i s) hs (Core.lockExpiry_ends ht)
  · exact State.act_secCmd hs hm
  · exact exec_act_finds (exec_commissioningExpiry s) hs (Core.commissionExpiry_ends hcomm)

end Sys2Proof.Machine
end

section
/-! The hourly health evaluation (O41). -/

-- Elaborated in order, so that the memory of its proofs is not held beside that of the rest of the text.
set_option Elab.async false

namespace Sys2Proof.Machine

/-- The largest of a list, as the model and the statement write it. -/
theorem maxOf_eq (l : List Nat) :
    (match l with | d :: ds => ds.foldl F32.max d | [] => 0) = l.tail.foldl F32.max (l.headD 0) := by
  cases l <;> rfl

/-- An evaluation's end shows the smallest life of the items and its warning (R511). -/
def Core.showLife (c : Core) (life item : Nat) : Core :=
  let h := (c.wr Od.HEALTH_MODULE_H life).wr Od.HEALTH_LIMIT_ITEM item
  (if life < h.rd Od.HEALTH_WARN_H ∧ h.bit Od.HEALTH_STATUS 0 = false then h.log 0x0F08 else h).setBit Od.HEALTH_STATUS 0
    (decide (life < h.rd Od.HEALTH_WARN_H))

/-- The evaluation in the steps of its statement. -/
theorem Core.healthEvaluate_eq {c d e f g : Core} {r : Recorder} {x : HealthReading} {hours w delta : Nat}
    {deltas now past : List Nat} {items : List (Nat × Figures)} (hwork : c.tickWork = true)
    (hd : d = ({ c.atCyc (c.monitor.lastCyc + 3600000000000) with
      monitor := { c.monitor with
        lastCyc := (c.atCyc (c.monitor.lastCyc + 3600000000000)).clk.cyc } } : Core).inc32 Od.HEALTH_POWERED_H)
    (hhours : hours = d.rd Od.HEALTH_POWERED_H) (hw : w = min (d.rd Od.HEALTH_WINDOW_H) hours)
    (hdeltas : deltas = (List.range 16).map (fun i => F32.div (F32.sub (x.ages.getD i (0, 0)).1 (x.ages.getD i (0, 0)).2)
      (x.ages.getD i (0, 0)).1))
    (he : e = (deltas.zipIdx.foldl (fun (a : Core) p => a.wr (Od.HEALTH_AGE_DELTA p.2) p.1)
      ((d.wr Od.HEALTH_BANK_ERASES0 (x.banks.getD 0 0)).wr Od.HEALTH_BANK_ERASES1 (x.banks.getD 1 0))).measureVbat x.vbat)
    (hnow : now = e.healthSample r x) (hpast : past = (e.monitor.samples[w - 1]?).getD [])
    (hdelta : delta = deltas.tail.foldl F32.max (deltas.headD 0))
    (hitems : items = ((List.range 86).filter e.itemPresent).map (fun i => (i, e.itemFigures now past w delta i)))
    (hf : f = items.foldl (fun (a : Core) p => a.reportItem p.1 p.2 (decide (24 ≤ hours)))
      { e.used 1 with monitor := { e.monitor with samples := (now :: e.monitor.samples).take 8760 } })
    (hg : g = f.setBit Od.HEALTH_STATUS 1 (items.any fun p => p.2.worn)) :
    c.healthEvaluate r x = if 24 ≤ hours then g.showLife (worstItem items).1 (worstItem items).2 else g := by
  unfold Core.healthEvaluate
  rw [if_neg (by simp [hwork])]
  extract_lets c1 m1 c2 hours' w' c3 deltas' c4 c5 now' past' delta' items' c6 m2 c7 predict c8 c9
  -- Each local value is the statement's, in the order in which they rest on each other.
  have h2 : c2 = d := hd.symm
  have hh : hours' = hours := by rw [hhours, ← h2]
  have hw' : w' = w := by rw [hw, ← hh, ← h2]
  have hds : deltas' = deltas := hdeltas.symm
  have h5 : c5 = e := by rw [he, ← hds, ← h2]
  have hdm : delta' = delta := by
    rw [hdelta, ← hds]
    exact maxOf_eq deltas'
  have hn : now' = now := by rw [hnow, ← h5]
  have hp : past' = past := by rw [hpast, ← h5, ← hw']
  have hi : items' = items := by rw [hitems, ← h5, ← hn, ← hp, ← hw', ← hdm]
  have h8 : c8 = f := by rw [hf, ← hi, ← hh, ← hn, ← h5]
  have h9 : c9 = g := by rw [hg, ← h8, ← hi]
  rw [h9, hi]
  have hpredict : predict = decide (24 ≤ hours) := by rw [← hh]
  rw [hpredict]
  by_cases h24 : 24 ≤ hours
  · rw [if_neg (by simp [h24]), if_pos h24]
    unfold Core.showLife
    obtain ⟨life, item⟩ := worstItem items
    simp
  · rw [if_pos (by simp [h24]), if_neg h24]

/-- Settles O41. -/
theorem healthEvaluationCompletes : Obligations.HealthEvaluationCompletes := by
  intro s c d e f g x hours w delta life item deltas now past items hs hwork hd hhours hw hdeltas he hnow hpast hdelta hitems
    hf hg
  have hmain := Core.healthEvaluate_eq hwork hd hhours hw hdeltas he hnow hpast hdelta hitems hf hg
  refine ⟨fun hlt => ?_, fun hle hworst => ?_⟩
  · exact exec_act_finds (exec_healthEvaluation x s) hs (hmain.trans (if_neg (by omega)))
  · refine exec_act_finds (exec_healthEvaluation x s) hs (hmain.trans ?_)
    rw [if_pos hle, hworst]
    rfl

end Sys2Proof.Machine
end

section
/-! The supplies, the vault domain, RESET_N and start-up (chapter 16): O42 and O43. -/

-- Elaborated in order, so that the memory of its proofs is not held beside that of the rest of the text.
set_option Elab.async false

namespace Sys2Proof.Machine

/-- What an event of the supplies finds and leaves. -/
theorem exec_power_finds {i : Instr} {s : State} {c d : Core} {r : Recorder} {f : Core → Recorder → Core × Recorder}
    (hi : exec i s = s.power f) (hc : c = s.core.starting) (hf : f c s.skein = (d, r)) : exec i s = .next (s.powering d r) := by
  rw [hi, State.power_next, ← hc, hf]

/-! ## The supplies and the vault (R521, R526, R528, R538) -/

theorem Core.supplyLow_changes {c : Core} {b : Bool} (halive : c.alive = true) (h : c.pwr.low ≠ b) :
    c.supplyLow b = ({ c with pwr := { c.pwr with low := b } } : Core).log 0x1001 := by
  unfold Core.supplyLow
  rw [if_neg (by simp [halive, h])]

theorem Core.supplyOver_changes {c : Core} {b : Bool} (halive : c.alive = true) (h : c.pwr.overV ≠ b) :
    c.supplyOver b = ({ c with pwr := { c.pwr with overV := b } } : Core).log 0x1002 := by
  unfold Core.supplyOver
  rw [if_neg (by simp [halive, h])]

theorem Core.hourlyRtc_locked {c : Core} (hrun : c.clk.running = true) (hlocked : c.clk.state = .locked)
    (hvoted : c.ply.unvoted = none) : c.hourlyRtc =
      { c with vault := { c.vault with rtc := c.clk.now * 32768 / 1000000000, vstatus := putBit c.vault.vstatus 0 true } } := by
  unfold Core.hourlyRtc
  rw [if_pos (by simp [hrun, hlocked])]
  unfold Core.writeRtc
  rw [if_neg (by simp [hvoted])]

theorem Core.dieHot_fault {c : Core} (halive : c.alive = true) : c.dieHot = (c.log 0x1005).nest 0x1005 4 0 := by
  have hlevel : codeLevel 0x1005 = 4 := by decide
  unfold Core.dieHot Core.fault'
  rw [if_pos halive, hlevel]

/-- Settles O42. -/
theorem supplyAndRtcCommandsComplete : Obligations.SupplyAndRtcCommandsComplete := by
  intro s c
  refine ⟨fun hs => ⟨fun b h => ?_, fun b h => ?_, fun hrun hlocked hvoted => ?_, ?_⟩, fun hc => ⟨fun d hd =>
    ⟨fun hvault => ⟨?_, rfl⟩, fun hvault => ?_⟩, fun d hd => ⟨fun hoff => ?_, fun hoff => ?_⟩⟩⟩
  · exact exec_act_finds (exec_logicSupplyLow b s) hs (Core.supplyLow_changes hs.2 h)
  · exact exec_act_finds (exec_logicSupplyOvervoltage b s) hs (Core.supplyOver_changes hs.2 h)
  · exact exec_act_finds (exec_rtcWrite s) hs (Core.hourlyRtc_locked hrun hlocked hvoted)
  · exact exec_act_finds (exec_dieOvertemperature s) hs (Core.dieHot_fault hs.2)
  all_goals subst hd
  · exact exec_power_finds (exec_vbatSupervisorTrip s) hc (congrArg (·, s.skein) (if_pos hvault))
  · exact exec_power_finds (exec_vbatSupervisorTrip s) hc (congrArg (·, s.skein) (if_neg hvault))
  · exact exec_power_finds (exec_vbatRestore s) hc (congrArg (·, s.skein) (if_pos hoff))
  · exact exec_power_finds (exec_vbatRestore s) hc (congrArg (·, s.skein) (if_neg hoff))

/-! ## The power-fail sequence (R522) -/

/-- The sequence in a live station: the record and the mirror entries are programmed, LAST_STATE is written, and the die
loses its state. -/
theorem Core.powerFail_live {c d e : Core} {r r' : Recorder} {q : Request} {n rtc : Nat} (hsupply : c.pwr.supply = true)
    (halive : c.alive = true) (hvoted : c.ply.unvoted = none)
    (hq : q = ⟨0x1003, 6, c.fresh 32, Config.freeNat (c.free + 1) % 2 ^ 32, none⟩) (hr : r' = (r.direct c.writer q).powerFail n)
    (hd : d = { (c.used 2) with vault := ({ c.vault with lastState := c.run.code }).seal })
    (he : e = { d.lose (if c.pwr.vbat then .vault else .off) with
      pwr := { (d.lose (if c.pwr.vbat then .vault else .off)).pwr with supply := false, failed := true }
      vault := { d.vault with offStamp := rtc, rtc := rtc, skeinSeq := r'.lastSeq,
                              vstatus := putBit d.vault.vstatus 3 true } }) :
    c.powerFail r n rtc = (if c.pwr.vbat then e else e.vaultTrip, r'.clearRam) := by
  have hsev : codeSev 0x1003 = 6 := by decide
  have hwrite : ((c.used 2).vaultWrite fun v => { v with lastState := c.run.code }) = d := by
    unfold Core.vaultWrite
    rw [if_neg (by simp [hvoted]), hd]
    rfl
  have hvbat : d.pwr.vbat = c.pwr.vbat := by rw [hd]; rfl
  unfold Core.powerFail
  rw [if_neg (by simp [hsupply])]
  extract_lets up q' r1 c1 last c2 seq c3 p3 v3 c4
  have hq' : q' = q := by rw [hq, ← hsev]
  have hr1 : r1 = r' := (if_pos halive).trans (by rw [hr, ← hq'])
  have h2 : c2 = d := (if_pos (by simp [up, c1, halive, hvoted])).trans hwrite
  have hvoted' : d.ply.unvoted = none := by rw [hd]; exact hvoted
  have hseq : seq = r'.lastSeq := (if_pos (by simp [up, halive, h2, hvoted'])).trans (by rw [hr1])
  have h3 : c3 = d.lose (if c.pwr.vbat then .vault else .off) := by rw [← hvbat, ← h2]
  have hlost : c3.vault = d.vault := by rw [h3]; rfl
  have h4 : c4 = e := by rw [he, ← h3, ← hseq, ← hlost]
  have hvbat' : e.pwr.vbat = c.pwr.vbat := by rw [he]; exact hvbat
  rw [h4, hr1, hvbat']

/-! ## Start-up: the boot ROM (R488, R523, R533) -/

/-- Selecting a bank changes neither the run state nor the vault. -/
theorem Core.selectBank_keeps (c : Core) (ok : List Bool) (bank : Nat) :
    (c.selectBank ok bank).1.run = c.run ∧ (c.selectBank ok bank).1.vault = c.vault := by
  unfold Core.selectBank
  split
  · exact ⟨rfl, rfl⟩
  · dsimp only
    split <;> exact ⟨rfl, rfl⟩

theorem Core.measureVbat_run (c : Core) (v : Nat) : (c.measureVbat v).run = c.run := by
  unfold Core.measureVbat
  dsimp only [Core.setBit, Core.wr_run]
  split <;> split <;> rfl

theorem Core.drawVbat_run (c : Core) : c.drawVbat.run = c.run := by
  unfold Core.drawVbat
  dsimp only
  split <;> rfl

/-- The boot ROM's work stands in BOOT, with the cause and the count of this start in the vault. -/
theorem Core.bootRom_vault {c e : Core} {x : StartUp} {cause vstatus : Nat} {found : Option Nat}
    (h : c.bootRom x cause = (e, found, vstatus)) : e.run = .boot ∧ vstatus = c.vault.vstatus ∧
      e.vault.resetCause = cause ∧ e.vault.bootCount = (c.vault.bootCount + 1) % 2 ^ 32 := by
  unfold Core.bootRom at h
  extract_lets v0 v m c1 c2 v2 c3 p3 c4 home at h
  have hrun : c4.run = .boot := by
    have h2 : c2.run = (c1.measureVbat x.vbat).run := Core.drawVbat_run _
    exact h2.trans (Core.measureVbat_run c1 x.vbat)
  have hvault : c4.vault.resetCause = cause ∧ c4.vault.bootCount = (c.vault.bootCount + 1) % 2 ^ 32 := ⟨rfl, rfl⟩
  obtain ⟨g, b, hg, hgrun, hgvault⟩ : ∃ (g : Core) (b : Nat),
      (if cause = 3 then (c4.log 0x1007, 1 - home) else (c4, home)) = (g, b) ∧ g.run = c4.run ∧ g.vault = c4.vault := by
    split <;> exact ⟨_, _, rfl, rfl, rfl⟩
  rw [hg] at h
  simp only [Prod.mk.injEq] at h
  obtain ⟨rfl, -, rfl⟩ := h
  obtain ⟨hsrun, hsvault⟩ := g.selectBank_keeps
    ((List.range 2).map fun b => g.verifies 1 (g.leastVersion x.copies) (g.bank b).execImage) b
  rw [hsrun, hsvault, hgrun, hgvault]
  exact ⟨hrun, rfl, hvault⟩

theorem Core.startUp_unbootable {c e : Core} {r : Recorder} {x : StartUp} {cause vstatus : Nat}
    (h : c.bootRom x cause = (e, none, vstatus)) : c.startUp r x cause = ({ e with run := .failed, out := [] }, r) := by
  unfold Core.startUp
  rw [h]

theorem Core.startUp_boots {c e f : Core} {r r' : Recorder} {x : StartUp} {cause bank vstatus : Nat}
    (h : c.bootRom x cause = (e, some bank, vstatus)) (hf : f = e.selfTest x)
    (hr : r' = r.clearRam.startWriter f.writer (if vstatus.testBit 1 then some e.vault.skeinSeq else none) f.vault.bootCount) :
    c.startUp r x cause = if f.run = .failed then (f, r') else ((f.noteSeq r').enterInit x bank vstatus, r') := by
  unfold Core.startUp
  rw [h]
  subst hf hr
  rfl

/-- Settles O43. -/
theorem powerFailAndStartUpCommandsComplete : Obligations.PowerFailAndStartUpCommandsComplete := by
  intro s c hc
  refine ⟨fun n rtc q d e hsupply halive hvoted hq hd => ⟨fun hvbat he => ?_, fun hvbat => ?_⟩,
    fun d hd => ⟨fun hsupply => ?_, fun hsupply => ?_⟩,
    fun x recovered d hsupply hd => ⟨fun hlow => ?_, fun hlow cause hcause => ?_⟩,
    fun x held d hlow hd => ⟨fun hsupply => ?_, fun hsupply cause hcause => ?_⟩,
    fun d e f r r' x cause bank vstatus => ⟨fun found h => Core.bootRom_vault h, Core.startUp_unbootable, Core.startUp_boots⟩⟩
  · have hlive := Core.powerFail_live (r := s.skein) (n := n) (rtc := rtc) hsupply halive hvoted hq rfl hd
      (e := e) (by rw [hvbat]; exact he)
    rw [hvbat] at hlive
    exact exec_power_finds (exec_powerFail n rtc s) hc hlive
  · have hlive := Core.powerFail_live (r := s.skein) (n := n) (rtc := rtc) hsupply halive hvoted hq rfl hd rfl
    rw [hvbat] at hlive
    exact ⟨_, rfl, rfl, rfl, exec_power_finds (exec_powerFail n rtc s) hc hlive⟩
  · subst hd
    exact exec_power_finds (exec_resetNAssert s) hc (if_pos hsupply)
  · subst hd
    exact exec_power_finds (exec_resetNAssert s) hc (if_neg (by simp [hsupply]))
  · subst hd
    refine exec_power_finds (exec_logicSupplyRise x recovered s) hc ?_
    unfold Core.supplyRise
    rw [if_neg (by simp [hsupply])]
    exact if_pos hlow
  · subst hd hcause
    refine exec_power_finds (exec_logicSupplyRise x recovered s) hc ?_
    unfold Core.supplyRise
    rw [if_neg (by simp [hsupply])]
    refine (if_neg (by simp [hlow])).trans ?_
    simp only [Bool.and_eq_true]
  · subst hd
    refine exec_power_finds (exec_resetNRelease x held s) hc ?_
    unfold Core.resetRelease
    rw [if_neg (by simp [hlow])]
    exact if_pos (by simp [hsupply])
  · subst hd hcause
    refine exec_power_finds (exec_resetNRelease x held s) hc ?_
    unfold Core.resetRelease
    rw [if_neg (by simp [hlow])]
    exact if_neg (by simp [hsupply])

end Sys2Proof.Machine
end

section
/-! The event router's commands (chapter 12): O35 and O36. -/

-- Elaborated in order, so that the memory of its proofs is not held beside that of the rest of the text.
set_option Elab.async false

namespace Sys2Proof.Machine

/-! ## Accesses of the router region (Table 12.4) -/

/-- An aligned word of the router region. -/
def routerWord (a : Nat) : Bool := between 0x60000000 a 0x6000FFFF && a % 4 == 0

theorem routerWord_regions {a : Nat} (h : routerWord a = true) :
    inRouter a = true ∧ inDictWindow a = false ∧ a % 4 = 0 ∧ (∀ m, mayLoad m a = true) ∧ ∀ m, mayStore m a = true := by
  simp only [routerWord, between, Bool.and_eq_true, decide_eq_true_eq, beq_iff_eq] at h
  obtain ⟨⟨hlo, hhi⟩, hal⟩ := h
  have hin : inRouter a = true := by simp [inRouter, between]; omega
  have hout : inDictWindow a = false := by simp [inDictWindow, between]; omega
  exact ⟨hin, hout, hal, fun m => by simp [mayLoad, hin], fun m => by simp [mayStore, hin]⟩

section
variable {c d : Core} {a : Nat} (hdict : c.dictServes = true) (ha : routerWord a = true)
include hdict ha

/-- The Ply's accesses of the region. -/
theorem Core.access_router_ply (hvoted : c.ply.unvoted = none) (hd : d = { c with ply := { c.ply with trap := none } })
    (r : Recorder) :
    (c.pmpOk 0 a 4 0 = true → c.access r 0 a 4 .load = d.routerLoad r 0 a) ∧
      (c.pmpOk 0 a 4 1 = true → ∀ v, c.access r 0 a 4 (.store v) = d.routerStore 0 a v) := by
  obtain ⟨hin, hout, hal, hload, hstore⟩ := routerWord_regions ha
  have hunvoted : c.ply.unvoted.isSome = false := by rw [hvoted]; rfl
  have hkept : ∀ right, d.plyPmp a 4 right = c.pmpOk 0 a 4 right := fun right => by rw [hd]; rfl
  refine ⟨fun hpmp => ?_, fun hpmp v => ?_⟩
  all_goals
    simp only [Core.access, hdict, Core.plyAccess, hunvoted, ← hd, hload, hstore, hkept, hpmp, hin, hout,
      Core.routerAccess, hal, Bool.not_true, Bool.false_eq_true, if_false, if_true, bne_self_eq_false, Bool.or_false,
      decide_false, ne_eq, not_true, Bool.and_self]

/-- A spindle's stores to the region. -/
theorem Core.access_router_spindle {n : Nat} (hexec : c.canExecute n = true) (hahead : (c.untrapped n).tentativeJob n = none)
    (hpmp : c.pmpOk (n + 1) a 4 1 = true) (r : Recorder) (v : Nat) :
    c.access r (n + 1) a 4 (.store v) = (c.untrapped n).routerStore (n + 1) a v := by
  obtain ⟨hin, hout, hal, hload, hstore⟩ := routerWord_regions ha
  have hpmp' : (c.untrapped n).spinPmp n a 4 1 = true := by
    have h := c.accessing_pmpOk (n + 1) a 4 1
    rw [hpmp] at h
    exact h
  have hruns : (!c.spinRuns n || (c.spin n).blocked) = false := by
    simp only [Core.canExecute, Bool.and_eq_true, Bool.not_eq_true'] at hexec
    simp [hexec.1, hexec.2]
  have hd : (c.updSpin n fun s => { s with trap := none }) = c.untrapped n := rfl
  simp only [Core.access, hdict, Core.spinAccess, Nat.add_sub_cancel, hruns, hd, hahead, hstore, hpmp',
    Core.spinReach, hin, hout, Core.routerAccess, hal, Bool.not_true, Bool.false_eq_true, if_false, if_true,
    bne_self_eq_false, Bool.or_false, decide_false, ne_eq, not_true, Bool.and_self, Option.isSome_none, Bool.false_and,
    Nat.add_one_ne_zero]

end

/-! ## Claims and completions (R434 to R436) -/

section
variable {c : Core} {t id : Nat} (hid : id = c.offerSeen t)
include hid

/-- A claim of an offer that still stands takes the source into service. -/
theorem Core.evClaim_takes {e : Core} (h0 : id ≠ 0)
    (hstands : c.evEnable id = true ∧ c.evMask id = false ∧ c.evPending id = true ∧ c.evRoute id = t)
    (he : e = (((((c.updRouter fun r => { r with
      service := r.service ++ [⟨id, t, c.evGroup id⟩], pending := r.pending.filter (· != id),
      withdrawn := r.withdrawn.filter (· != id) }).setEvCount id (field (c.evCount id) 0 16 * 2 ^ 16)).inc64
        (Od.EV_T_CLAIMS t)).inc64 Od.EV_OFFERS).arbitrate 0)) : c.evClaim t = (e, id) := by
  obtain ⟨henable, hmask, hpending, hroute⟩ := hstands
  unfold Core.evClaim
  rw [← hid]
  dsimp only
  rw [if_pos (by simp [h0, henable, hmask, hpending, hroute]), he]

/-- A claim whose offer has been withdrawn is spurious, and the source is remembered. -/
theorem Core.evClaim_withdrawn (h0 : id ≠ 0)
    (hgone : ¬(c.evEnable id = true ∧ c.evMask id = false ∧ c.evPending id = true ∧ c.evRoute id = t)) :
    c.evClaim t = (((c.updRouter fun r => { r with
      withdrawn := if id ∈ r.withdrawn then r.withdrawn else r.withdrawn ++ [id] }).inc32 (Od.EV_T_SPURIOUS t)).arbitrate 0,
        0) := by
  unfold Core.evClaim
  rw [← hid]
  dsimp only
  rw [if_neg (by simpa [h0, and_assoc] using hgone), if_neg h0]
  simp only [List.contains_eq_mem, decide_eq_true_eq]

omit hid in
/-- A claim with no offer is spurious. -/
theorem Core.evClaim_none (h0 : c.offerSeen t = 0) : c.evClaim t = ((c.inc32 (Od.EV_T_SPURIOUS t)).arbitrate 0, 0) := by
  unfold Core.evClaim
  rw [h0]
  rfl

end

/-- A load of CLAIM by the Ply claims for it. -/
theorem Core.routerLoad_claim {d e : Core} {id : Nat} (h : d.evClaim 0 = (e, id)) (r : Recorder) :
    d.routerLoad r 0 0x60004008 = (if id = 0 then e else e.eventClaimed id (e.clk.cyc + 10)).answer (.value id) := by
  unfold Core.routerLoad
  dsimp only
  rw [if_pos ⟨by decide, rfl⟩, h]
  rfl

/-- A store to COMPLETE by the Ply completes for it. -/
theorem Core.routerStore_complete (d : Core) (id : Nat) : d.routerStore 0 0x6000400C id = d.evComplete 0 id := by
  unfold Core.routerStore
  exact if_pos ⟨by decide, rfl⟩

/-! ## The external interrupt of a spindle (R433) -/

theorem Core.interruptTake_offered {c d : Core} {n : Nat} {wfi : Bool} (hruns : c.spinRuns n = true)
    (hoffer : c.offerNow (n + 1) ≠ 0) (hd : d = (if (c.spin n).waiting || wfi then c.inc32 (Od.EV_T_WAKES (n + 1)) else c))
    (mie : Bool) : c.interruptTake n mie wfi =
      if mie = false then d
      else if (d.tentativeJob n).isSome then d.stall n .interrupt
      else d.updSpin n fun x => { x with
        waiting := false, wake := none, cause := 11, cpu := x.cpu.trap 0x8000000B d.clk.cyc } := by
  unfold Core.interruptTake
  rw [if_neg (by simp [hruns, hoffer]), ← hd]
  cases mie
  · rfl
  · refine (if_neg (by simp)).trans ?_
    have hcause : interruptCause 11 = 0x8000000B := by decide
    rw [if_neg (show ¬true = false by simp), Core.interrupted, Core.updSpin_updSpin, hcause]
    rfl

/-- Settles O36. -/
theorem eventTargetCommandsComplete : Obligations.EventTargetCommandsComplete := by
  intro s c hs
  refine ⟨fun n mie wfi d hruns hoffer hd => ?_, fun d hdict hvoted hd => ?_⟩
  · exact exec_act_finds (exec_evInterruptTake n mie wfi s) hs (Core.interruptTake_offered hruns hoffer hd mie)
  · have hload := (Core.access_router_ply (a := 0x60004008) hdict (by decide) hvoted hd s.skein).1
    have hstore := (Core.access_router_ply (a := 0x6000400C) hdict (by decide) hvoted hd s.skein).2
    refine ⟨fun id e hpmp hid h0 hen hmask hpend hroute he => ?_, fun id hpmp hid h0 hgone => ?_, fun hpmp h0 => ?_,
      fun id hpmp => ?_⟩
    · refine exec_act_finds (exec_evPlyClaim s) hs ((hload hpmp).trans ?_)
      rw [Core.routerLoad_claim (Core.evClaim_takes hid h0 ⟨hen, hmask, hpend, hroute⟩ he), if_neg h0]
    · refine exec_act_finds (exec_evPlyClaim s) hs ((hload hpmp).trans ?_)
      rw [Core.routerLoad_claim (Core.evClaim_withdrawn hid h0 hgone), if_pos rfl]
    · refine exec_act_finds (exec_evPlyClaim s) hs ((hload hpmp).trans ?_)
      rw [Core.routerLoad_claim (Core.evClaim_none h0), if_pos rfl]
    · exact exec_act_finds (exec_evPlyComplete id s) hs ((hstore hpmp id).trans (Core.routerStore_complete d id))

/-! ## The keys of the source registers -/

/-- Index and sub-index of the entry of source `e` in an array of four indices. -/
theorem srcKey_index (base e : Nat) : srcKey base e / 256 = base + e / 128 := by
  unfold srcKey odKey
  omega

theorem srcKey_sub (base e : Nat) : srcKey base e % 256 = e % 128 + 1 := by
  unfold srcKey odKey
  omega

theorem source?_srcKey (base : Nat) {e : Nat} (he : e < 512) : source? base (srcKey base e) = some e := by
  unfold source?
  rw [srcKey_index, srcKey_sub]
  dsimp only
  rw [if_pos (by simp; omega)]
  congr 1
  omega

/-- The row of an index and a sub-index: the first one of its page that takes both. -/
theorem odRow?_of_page {k n : Nat} {row : OdRow} (hfold : k / 256 < 0x3000) (hrow : (odPage (k / 256 / 256))[n]? = some row)
    (hbefore : ∀ r ∈ (odPage (k / 256 / 256)).take n, r.idxHi < k / 256 ∨ k / 256 < r.idxLo ∨ r.subHi < k % 256)
    (hidx : row.idxLo ≤ k / 256 ∧ k / 256 ≤ row.idxHi) (hsub : row.subLo ≤ k % 256 ∧ k % 256 ≤ row.subHi) :
    odRow? k = some row := by
  have hsame : odFold (k / 256) = k / 256 := if_neg (by simp; omega)
  obtain ⟨hn, hget⟩ := List.getElem?_eq_some_iff.mp hrow
  unfold odRow?
  dsimp only
  rw [hsame, List.find?_eq_some_iff_getElem]
  refine ⟨by simp [hidx, hsub], n, hn, hget, fun j hj => ?_⟩
  have hr := hbefore _ (List.mem_take_iff_getElem.mpr ⟨j, by omega, rfl⟩)
  simp
  omega

/-- An array of the sources with the four indices from `base` on: its row is the first of its page that takes one of them
with a sub-index from 1 on. -/
theorem odRow?_srcKey {base n : Nat} {row : OdRow} (hbase : base + 3 < 0x3000) (hpage : base / 256 = (base + 3) / 256)
    (hrow : (odPage (base / 256))[n]? = some row)
    (hbefore : ∀ r ∈ (odPage (base / 256)).take n, r.idxHi < base ∨ base + 3 < r.idxLo ∨ r.subHi = 0)
    (hidx : row.idxLo = base ∧ row.idxHi = base + 3) (hsub : row.subLo = 1 ∧ row.subHi = 128) {e : Nat} (he : e < 512) :
    odRow? (srcKey base e) = some row := by
  have hsame : srcKey base e / 256 / 256 = base / 256 := by
    rw [srcKey_index]
    omega
  refine odRow?_of_page (n := n) ?_ (hsame ▸ hrow) (hsame ▸ fun r hr => ?_) ?_ ?_ <;>
    simp only [srcKey_index, srcKey_sub]
  · omega
  · have := hbefore r hr
    omega
  · omega
  · omega

/-! ## EV.S.CTRL and EV.S.CFG as entries -/

/-- The rows of EV.S.CTRL and EV.S.CFG. -/
def evCtrlRow : OdRow := ⟨0x2C14, 0x2C17, 0x01, 0x80, .u32, .rw, 1, .any⟩
def evCfgRow : OdRow := ⟨0x2C10, 0x2C13, 0x01, 0x80, .u32, .rws, 0x1FF0, .any⟩

/-- The entries whose effect comes before that of EV.S.CTRL in the order of `Core.applyNumber`. -/
def beforeEvCtrl (k : Nat) : Bool :=
  !universalCommandKey k || k == Od.PAIR_CMD ||
    [elem? (Od.UIO_ACK 0) 24 k, record? (Od.HART_CANCEL 0) 24 k, record? (Od.CAN_CMD 0) 4 k, elem? (Od.CAN_TXB_CMD 0) 12 k,
      elem? (Od.CAN_Q_ACK 0) 16 k].any Option.isSome

/-- No key of a source register is one of a command or a protected entry. -/
theorem beforeEvCtrl_source {k : Nat} (hlo : 0x2C1400 ≤ k) (hhi : k < 0x2C1800) : beforeEvCtrl k = false := by
  simp [beforeEvCtrl, universalCommandKey, fieldCommandKey, elem?, record?, Od.LOOP_SEL, Od.COMP_SEL, Od.SKEIN_READ_FROM,
    Od.SKEIN_READ_SRC, Od.SKEIN_READ_MIN_SEV, Od.TIME_RESTEP, Od.LOOP_CLEAR_ALL, Od.COMP_SCALE, Od.COMP_OFFSET, Od.COMP_MODE,
    Od.PROG_CMD, Od.SO_ACK, Od.PAIR_CMD, Od.HART_CANCEL, Od.CAN_CMD]
  omega

theorem storedKey_source {k : Nat} (hlo : 0x2C1000 ≤ k) (hhi : k < 0x2C1400) : storedKey k = true := by
  simp [storedKey, elem?, record?, source?, Od.LOOP_SEL, Od.COMP_SEL, Od.SKEIN_READ_FROM, Od.SKEIN_READ_SRC,
    Od.SKEIN_READ_MIN_SEV, Od.TIME_RESTEP, Od.LOOP_CLEAR_ALL, Od.COMP_SCALE, Od.COMP_OFFSET, Od.COMP_MODE, Od.PROG_CMD,
    Od.SO_ACK, Od.PAIR_CMD, Od.SEC_CMD, Od.CS_CMD, Od.STATE_CMD, Od.HART_CANCEL, Od.CAN_CMD]
  omega

theorem deferredKey_source {k : Nat} (hlo : 0x2C1000 ≤ k) (hhi : k < 0x2C1400) : deferredKey k = false := by
  simp [deferredKey, between]
  omega

theorem protectedKey_source {k : Nat} {row : OdRow} (hlo : 0x2C1000 ≤ k) (hhi : k < 0x2C1800)
    (hacc : row.acc ≠ .rwc ∧ row.acc ≠ .rwsc) : protectedKey k row = false := by
  simp [protectedKey, hacc, record?, Od.CRED_SECRET, Od.SEC_PAIR_KEY]
  omega

theorem evCtrl_keys (e : Fin 494) : odRow? (srcKey 0x2C14 e) = some evCtrlRow ∧ srcKey 0x2C14 e / 256 < 0x6000 ∧
    protectedKey (srcKey 0x2C14 e) evCtrlRow = false ∧ beforeEvCtrl (srcKey 0x2C14 e) = false ∧
    source? 0x2C14 (srcKey 0x2C14 e) = some e.val := by
  have he : e.val < 512 := by omega
  have hindex := srcKey_index 0x2C14 e
  exact ⟨odRow?_srcKey (n := 11) (by decide) (by decide) rfl (by decide) (by decide) (by decide) he, by omega,
    protectedKey_source (by omega) (by omega) (by decide), beforeEvCtrl_source (by omega) (by omega), source?_srcKey _ he⟩

theorem evCfg_keys (e : Fin 494) : odRow? (srcKey 0x2C10 e) = some evCfgRow ∧ srcKey 0x2C10 e / 256 < 0x6000 ∧
    protectedKey (srcKey 0x2C10 e) evCfgRow = false ∧ storedKey (srcKey 0x2C10 e) = true ∧
    deferredKey (srcKey 0x2C10 e) = false ∧ source? 0x2C10 (srcKey 0x2C10 e) = some e.val := by
  have he : e.val < 512 := by omega
  have hindex := srcKey_index 0x2C10 e
  exact ⟨odRow?_srcKey (n := 9) (by decide) (by decide) rfl (by decide) (by decide) (by decide) he, by omega,
    protectedKey_source (by omega) (by omega) (by decide), storedKey_source (by omega) (by omega),
    deferredKey_source (by omega) (by omega), source?_srcKey _ he⟩

/-- A write of EV.S.CTRL as an entry is a store to it by one that may name the target. -/
theorem Core.applyNumber_evCtrl (c : Core) (p : Path) (e : Fin 494) (v : Nat) (f : Facts) :
    c.applyNumber p (srcKey 0x2C14 e) evCtrlRow v f = (c.evCtrlStore e v true).answer .done := by
  obtain ⟨-, -, hprot, hbefore, hsource⟩ := evCtrl_keys e
  simp only [beforeEvCtrl, universalCommandKey, fieldCommandKey, Bool.or_eq_false_iff, Bool.not_eq_false', Bool.and_eq_true,
    List.all_cons, List.all_nil, List.any_cons, List.any_nil, bne_iff_ne, ne_eq, Option.isNone_iff_eq_none,
    beq_eq_false_iff_ne, Option.isSome_eq_false_iff] at hbefore
  unfold Core.applyNumber
  simp [hbefore, hprot, hsource]

/-- A configuration word stored as an entry waits for the next boundary. -/
theorem Core.storeValue_evCfg (c : Core) (e : Fin 494) (v : Nat) :
    c.storeValue (srcKey 0x2C10 e) evCfgRow v = (c.evCfgStage e v).cfgChanged := by
  obtain ⟨-, -, -, -, hdefer, hsource⟩ := evCfg_keys e
  unfold Core.storeValue
  rw [if_neg (by simp [hdefer]), hsource]

/-- What a path that is no master's shows of a request is its answer alone. -/
theorem Core.shown_none {p : Path} (hp : p.master = none) (c : Core) : c.shown p = c := by
  unfold Core.shown
  rw [hp]

section
variable {s : State} {c : Core} {e : Fin 494} {p : Path} {v : Nat} (hs : s.finds c) (hp : p.master = none) (hv : v < 2 ^ 32)
include hs hp hv

theorem State.act_evControl (hm : c.mayWrite p (srcKey 0x2C14 e) v = true) :
    (s.act fun c r => c.evControl r p e v) = .next (s.finishing (((c.used 3).evCtrlStore e v true).answer .done)) := by
  obtain ⟨hrow, hk, -⟩ := evCtrl_keys e
  have hpath : (fun (c : Core) (r : Recorder) => c.evControl r p e v) = fun c _ => c.pathNumber p (srcKey 0x2C14 e) v := by
    funext c r
    unfold Core.evControl
    rw [hp]
  rw [hpath, State.act_pathNumber hs hm hrow (.inl hk) (.inr (.inr (.inl rfl))) hv, Core.applyNumber_evCtrl,
    Core.shown_none hp]

theorem State.act_evConfig (hm : c.mayWrite p (srcKey 0x2C10 e) v = true)
    (ha : (c.used 3).acceptsConfig (srcKey 0x2C10 e) v) :
    (s.act fun c r => c.evConfig r p e v) =
      .next (s.finishing ((((c.used 3).evCfgStage e v).cfgChanged).answer .done)) := by
  obtain ⟨hrow, hk, hprot, hstored, -⟩ := evCfg_keys e
  have hpath : (fun (c : Core) (r : Recorder) => c.evConfig r p e v) = fun c _ => c.pathNumber p (srcKey 0x2C10 e) v := by
    funext c r
    unfold Core.evConfig
    rw [hp]
  rw [hpath, State.act_stored hs hm ha hrow (.inl hk) (.inr (.inr (.inl rfl))) hv hstored hprot, Core.storeValue_evCfg,
    Core.shown_none hp]

end

/-! ## EV.S.CTRL and EV.S.CFG as words of the router region -/

/-- The words of a source in the region. -/
theorem routerWord_source (e : Fin 494) : routerWord (0x60000004 + 16 * e) = true ∧ routerWord (0x60000000 + 16 * e) = true := by
  have := e.isLt
  simp only [routerWord, between, Bool.and_eq_true, decide_eq_true_eq, beq_iff_eq]
  omega

/-- A store to EV.S.CTRL whose word has no reserved bit, with a target that the master may name. -/
theorem Core.routerStore_ctrl {c : Core} {m v : Nat} {e : Fin 494} (hbits : v &&& 0x3F0007 = v)
    (htarget : m = 0 → c.evTargetOk (field v 16 6) = true ∧ (c.evTaskSource e = true → field v 16 6 = c.evTarget e)) :
    c.routerStore m (0x60000004 + 16 * e) v = c.evCtrlStore e v (m == 0) := by
  have := e.isLt
  have ho : 0x60000004 + 16 * (e : Nat) - 0x60000000 = 16 * e + 4 := by omega
  have hsrc : (16 * (e : Nat) + 4) / 16 = e := by omega
  unfold Core.routerStore
  rw [ho]
  dsimp only
  rw [hsrc, if_neg (by omega), if_neg (by omega), if_pos (by omega)]
  refine if_neg ?_
  by_cases hm : m = 0
  · obtain ⟨hok, htask⟩ := htarget hm
    simpa [hbits, hm, hok] using htask
  · simp [hbits, hm]

/-- A store to EV.S.CFG by the Ply, in STOP, of a word that R427 accepts. -/
theorem Core.routerStore_cfg {c : Core} {v : Nat} {e : Fin 494} (hrun : c.run = .stop) (hok : c.evCfgOk e v = true) :
    c.routerStore 0 (0x60000000 + 16 * e) v = c.evCfgStage e v := by
  have := e.isLt
  have ho : 0x60000000 + 16 * (e : Nat) - 0x60000000 = 16 * e := by omega
  have hsrc : 16 * (e : Nat) / 16 = e := by omega
  unfold Core.routerStore
  rw [ho]
  dsimp only
  rw [hsrc, if_neg (by omega), if_pos (by omega)]
  exact if_pos (by simp [hrun, hok])

/-! ## Changes of sources -/

theorem Core.evSourceChange_level {c d : Core} {e : Nat} {high : Bool} (hrun : c.clk.running = true)
    (hkind : evLevelKind e = true) (hpresent : c.evPresent e = true) (hchange : c.router.levels.contains e ≠ high)
    (hd : d = c.updRouter (fun r => { r with
      levels := if high then r.levels ++ [e] else r.levels.filter (· != e) })) :
    c.evSourceChange e high = (if d.evTakes e high then d.evEdge e else d).arbitrate 3 := by
  unfold Core.evSourceChange
  rw [if_pos hkind]
  unfold Core.evLevel
  rw [if_neg (by simpa [hrun, hpresent] using hchange)]
  subst hd
  rfl

theorem Core.evSourceChange_pulse {c : Core} {e : Nat} (hrun : c.clk.running = true) (hkind : evLevelKind e = false)
    (hpresent : c.evPresent e = true) :
    c.evSourceChange e true = (if c.evTakes e true then c.evEdge e else c).arbitrate 3 := by
  unfold Core.evSourceChange
  rw [if_neg (by simp [hkind]), if_pos rfl]
  unfold Core.evPulse
  rw [if_neg (by simp [hrun, hpresent])]

theorem Core.evWindowEnd_open {c : Core} {e t : Nat} (hw : c.router.windows.find? (·.1 == e) = some (e, t))
    (ht : c.evCoalT e ≠ 0) :
    c.evWindowEnd e = ((c.atCyc (t + us (2 ^ (c.evCoalT e - 1)))).latchPending e).arbitrate 3 := by
  unfold Core.evWindowEnd
  rw [hw]
  exact if_neg ht

/-- What a store to EV.S.CTRL does to a source that exists (R428, R435, R437), in the words of the statement. -/
def Core.ctrlEffect (d : Core) (e v : Nat) (retarget : Bool) : Core :=
  let x := d.setEvCtrl e ((if retarget then field v 16 6 else d.evTarget e) * 2 ^ 16 + v % 2)
  let y := if v.testBit 2 then x.evClear e else x
  let z := if v.testBit 1 then
      (if 1 ≤ e ∧ e ≤ 64 then (if y.evTakes e true then y.evEdge e else y)
       else (y.inc32 Od.EV_REFUSED_RAISES).log1 0x0C03 e)
    else y
  z.arbitrate (if z.evPending e = true ∧ y.evPending e = false then 3 else 2)

theorem Core.evCtrlStore_eq {d : Core} {e : Nat} (hrun : d.clk.running = true) (h0 : e ≠ 0) (v : Nat) (retarget : Bool) :
    d.evCtrlStore e v retarget = d.ctrlEffect e v retarget := by
  unfold Core.evCtrlStore Core.ctrlEffect
  rw [if_neg (by simp [hrun, h0])]
  simp only [Core.evRaise, evSoftware, Bool.and_eq_true, decide_eq_true_eq, Bool.not_eq_true']

/-- Settles O35. -/
theorem eventSourceCommandsComplete : Obligations.EventSourceCommandsComplete := by
  intro s c e hs hrun
  refine ⟨fun high hkind hpresent hchange d hd => ?_, fun hkind hpresent => ?_, fun t hw ht => ?_,
    fun h0 v effect heffect => ⟨fun d hdict hvoted hpmp hbits hok htask hd => ?_,
      fun n hdict hexec hahead hpmp hbits => ?_, fun p hp hm hv => ?_⟩,
    fun v hstop hok => ⟨fun hdict hvoted hpmp => ?_, fun p h0 hp hm hv ha => ?_⟩⟩
  · exact exec_act_finds (exec_evSourceChange e high s) hs (Core.evSourceChange_level hrun hkind hpresent hchange hd)
  · exact exec_act_finds (exec_evSourceChange e true s) hs (Core.evSourceChange_pulse hrun hkind hpresent)
  · exact exec_act_finds (exec_evCoalWindowEnd e s) hs (Core.evWindowEnd_open hw ht)
  · have heffect : ∀ d retarget, effect d retarget = d.ctrlEffect e v retarget := heffect
    have hok' : d.evTargetOk (field v 16 6) = true := by rw [hd]; exact hok
    have htask' : d.evTaskSource e = true → field v 16 6 = d.evTarget e := by rw [hd]; exact htask
    have hrun' : d.clk.running = true := by rw [hd]; exact hrun
    have hstored : c.evControl s.skein .ply e v = effect d true := by
      refine ((Core.access_router_ply hdict (routerWord_source e).1 hvoted hd s.skein).2 hpmp v).trans ?_
      rw [Core.routerStore_ctrl hbits fun _ => ⟨hok', htask'⟩, heffect]
      exact Core.evCtrlStore_eq hrun' h0 v true
    exact ⟨exec_act_finds (exec_evRaise .ply e v s) hs hstored, exec_act_finds (exec_evClear .ply e v s) hs hstored,
      exec_act_finds (exec_evMaskWrite .ply e v s) hs hstored, exec_act_finds (exec_evRetarget .ply e v s) hs hstored⟩
  · have heffect : ∀ d retarget, effect d retarget = d.ctrlEffect e v retarget := heffect
    have hrun' : (c.untrapped n).clk.running = true := hrun
    have hstored : c.evControl s.skein (.spindle n) e v = effect (c.untrapped n) false := by
      refine (Core.access_router_spindle hdict (routerWord_source e).1 hexec hahead hpmp s.skein v).trans ?_
      rw [Core.routerStore_ctrl hbits fun h => absurd h (by omega), heffect]
      exact Core.evCtrlStore_eq hrun' h0 v false
    exact ⟨exec_act_finds (exec_evRaise _ e v s) hs hstored, exec_act_finds (exec_evClear _ e v s) hs hstored,
      exec_act_finds (exec_evMaskWrite _ e v s) hs hstored, exec_act_finds (exec_evRetarget _ e v s) hs hstored⟩
  · have heffect : ∀ d retarget, effect d retarget = d.ctrlEffect e v retarget := heffect
    have hrun' : (c.used 3).clk.running = true := hrun
    have hstored := State.act_evControl hs hp hv hm
    rw [Core.evCtrlStore_eq hrun' h0 v true, ← heffect] at hstored
    exact ⟨(exec_evRaise p e v s).trans hstored, (exec_evClear p e v s).trans hstored,
      (exec_evMaskWrite p e v s).trans hstored, (exec_evRetarget p e v s).trans hstored⟩
  · refine exec_act_finds (exec_evCfgWrite .ply e v s) hs ?_
    have haccess := (Core.access_router_ply hdict (routerWord_source e).2 hvoted rfl s.skein).2 hpmp v
    exact haccess.trans (Core.routerStore_cfg hstop hok)
  · exact (exec_evCfgWrite p e v s).trans (State.act_evConfig hs hp hv hm ha)

end Sys2Proof.Machine
end

section
/-! The CAN controllers' commands (chapter 11): O31, O32 and O33. -/

-- Elaborated in order, so that the memory of its proofs is not held beside that of the rest of the text.
set_option Elab.async false

namespace Sys2Proof.Machine

/-! ## CAN.CMD, CAN.TXB_CMD and CAN.Q_ACK -/

/-- The rows of CAN.CMD, CAN.TXB_CMD and CAN.Q_ACK. -/
def canCmdRow : OdRow := ⟨0x2B01, 0x2B04, 0x0D, 0x0D, .u8, .wo, 0, .nat 1 3 []⟩
def txbCmdRow : OdRow := ⟨0x2B12, 0x2B12, 0x01, 0x0C, .u8, .wo, 0, .nat 1 1 []⟩
def queueAckRow : OdRow := ⟨0x2B31, 0x2B31, 0x01, 0x10, .u8, .wo, 0, .any⟩

/-- The entries whose effect comes before those of the CAN controllers in the order of `Core.applyNumber`. -/
def beforeCanCmd (k : Nat) : Bool :=
  !universalCommandKey k || k == Od.PAIR_CMD || (elem? (Od.UIO_ACK 0) 24 k).isSome ||
    (record? (Od.HART_CANCEL 0) 24 k).isSome

theorem canCmd_keys : ∀ k : Fin 4, odRow? (Od.CAN_CMD k) = some canCmdRow ∧ Od.CAN_CMD k / 256 < 0x6000 ∧
    protectedKey (Od.CAN_CMD k) canCmdRow = false ∧ beforeCanCmd (Od.CAN_CMD k) = false ∧
    record? (Od.CAN_CMD 0) 4 (Od.CAN_CMD k) = some k.val := by decide +kernel

theorem txbCmd_keys : ∀ b : Fin 12, odRow? (Od.CAN_TXB_CMD b) = some txbCmdRow ∧ Od.CAN_TXB_CMD b / 256 < 0x6000 ∧
    protectedKey (Od.CAN_TXB_CMD b) txbCmdRow = false ∧ beforeCanCmd (Od.CAN_TXB_CMD b) = false ∧
    record? (Od.CAN_CMD 0) 4 (Od.CAN_TXB_CMD b) = none ∧
    elem? (Od.CAN_TXB_CMD 0) 12 (Od.CAN_TXB_CMD b) = some b.val := by decide +kernel

theorem queueAck_keys : ∀ q : Fin 16, odRow? (Od.CAN_Q_ACK q) = some queueAckRow ∧ Od.CAN_Q_ACK q / 256 < 0x6000 ∧
    protectedKey (Od.CAN_Q_ACK q) queueAckRow = false ∧ beforeCanCmd (Od.CAN_Q_ACK q) = false ∧
    record? (Od.CAN_CMD 0) 4 (Od.CAN_Q_ACK q) = none ∧ elem? (Od.CAN_TXB_CMD 0) 12 (Od.CAN_Q_ACK q) = none ∧
    elem? (Od.CAN_Q_ACK 0) 16 (Od.CAN_Q_ACK q) = some q.val := by decide +kernel

/-- A write of an entry of the CAN controllers, by the array it belongs to. -/
theorem Core.applyNumber_can {k : Nat} {r : OdRow} (hbefore : beforeCanCmd k = false) (hprot : protectedKey k r = false)
    (c : Core) (p : Path) (v : Nat) (f : Facts) :
    (∀ i, record? (Od.CAN_CMD 0) 4 k = some i → c.applyNumber p k r v f = c.canCmd i v) ∧
    (record? (Od.CAN_CMD 0) 4 k = none →
      (∀ b, elem? (Od.CAN_TXB_CMD 0) 12 k = some b → c.applyNumber p k r v f = c.txbCancel b v) ∧
      (elem? (Od.CAN_TXB_CMD 0) 12 k = none →
        ∀ q, elem? (Od.CAN_Q_ACK 0) 16 k = some q → c.applyNumber p k r v f = c.queueAck q v)) := by
  simp only [beforeCanCmd, universalCommandKey, fieldCommandKey, Bool.or_eq_false_iff, Bool.not_eq_false', Bool.and_eq_true,
    List.all_cons, List.all_nil, bne_iff_ne, ne_eq, Option.isNone_iff_eq_none, beq_eq_false_iff_ne,
    Option.isSome_eq_false_iff] at hbefore
  unfold Core.applyNumber
  refine ⟨fun i hi => ?_, fun hcmd => ⟨fun b hb => ?_, fun htxb q hq => ?_⟩⟩
  · simp [hbefore, hprot, hi]
  · simp [hbefore, hprot, hcmd, hb]
  · simp [hbefore, hprot, hcmd, htxb, hq]

section
variable {s : State} {c d : Core} {p : Path} (hs : s.finds c)
include hs

theorem State.act_canCmd {k : Fin 4} {v : Nat} (hm : c.mayWrite p (Od.CAN_CMD k) v = true) (hd : (c.used 3).canCmd k v = d) :
    (s.act fun c _ => c.pathNumber p (Od.CAN_CMD k) v) = .next (s.finishing (d.shown p)) := by
  obtain ⟨hrow, hk, hprot, hbefore, hrecord⟩ := canCmd_keys k
  rw [State.act_pathNumber hs hm hrow (.inl hk) (.inl rfl) (Core.mayWrite_u8 hm hrow (.inl hk) rfl rfl (by decide)),
    (Core.applyNumber_can hbefore hprot _ _ _ _).1 k hrecord, hd]

theorem State.act_txbCancel {b : Fin 12} {v : Nat} (hm : c.mayWrite p (Od.CAN_TXB_CMD b) v = true)
    (hd : (c.used 3).txbCancel b v = d) :
    (s.act fun c _ => c.pathNumber p (Od.CAN_TXB_CMD b) v) = .next (s.finishing (d.shown p)) := by
  obtain ⟨hrow, hk, hprot, hbefore, hrecord, helem⟩ := txbCmd_keys b
  rw [State.act_pathNumber hs hm hrow (.inl hk) (.inl rfl) (Core.mayWrite_u8 hm hrow (.inl hk) rfl rfl (by decide)),
    ((Core.applyNumber_can hbefore hprot _ _ _ _).2 hrecord).1 b helem, hd]

theorem State.act_queueAck {q : Fin 16} {n : Nat} (hm : c.mayWrite p (Od.CAN_Q_ACK q) n = true) (hn : n ≤ 64)
    (hd : (c.used 3).queueAck q n = d) :
    (s.act fun c _ => c.pathNumber p (Od.CAN_Q_ACK q) n) = .next (s.finishing (d.shown p)) := by
  obtain ⟨hrow, hk, hprot, hbefore, hrecord, htxb, helem⟩ := queueAck_keys q
  have hwidth : 2 ^ queueAckRow.type.width = 256 := rfl
  rw [State.act_pathNumber hs hm hrow (.inl hk) (.inl rfl) (by omega),
    ((Core.applyNumber_can hbefore hprot _ _ _ _).2 hrecord).2 htxb q helem, hd]

end

/-! ## Transmission (R403 to R408, R413) -/

section
variable {c d : Core} {k b t : Nat}

/-- The next launch leaves the plan at its instant. -/
theorem Core.canLaunch_planned (hrun : c.clk.running = true) (hplan : firstPlan (c.ctl k).plan = some (b, t)) (busy : Bool)
    (hd : d = (c.atTime t).updCtl k (fun x => { x with plan := x.plan.erase (b, t), busy := busy })) :
    c.canLaunch k busy = d.canLaunchAt k b t := by
  unfold Core.canLaunch
  rw [hplan]
  dsimp only
  rw [if_neg (by simp [hrun]), hd]

section
variable (hmode : c.canMode k ≠ 0) (hsilent : c.ttSilent k = false)
include hmode hsilent

theorem Core.canLaunchAt_asleep (h : c.canBit k csAsleep = true) :
    c.canLaunchAt k b t = c.inc32 (Od.CAN_SLEEP_SKIPPED k) := by
  unfold Core.canLaunchAt
  rw [if_neg (by simp [hmode, hsilent]), if_pos h]

theorem Core.canLaunchAt_gated (h : c.canBit k csAsleep = false) (hgate : c.netGate = false) :
    c.canLaunchAt k b t = (c.txbClear k b).txbBit k b tbGated true := by
  unfold Core.canLaunchAt
  rw [if_neg (by simp [hmode, hsilent]), if_neg (by simp [h]), if_pos (by simp [hgate])]

theorem Core.canLaunchAt_due (h : c.canBit k csAsleep = false) (hgate : c.netGate = true) (hd : d = c.txbClear k b) :
    c.canLaunchAt k b t =
      if t < d.clk.now then
        let f := ((d.inc32 Od.CAN_LATE).canLog 0x0B07 k).txbBit k b tbLate true
        if (f.canDesc k b).sendNow then f.launchBuf k b else f.txbBit k b tbDropped true
      else d.launchBuf k b := by
  unfold Core.canLaunchAt
  rw [if_neg (by simp [hmode, hsilent]), if_neg (by simp [h]), if_neg (by simp [hgate]), hd]

end

section
variable (honBus : c.canOnBus k = true)
include honBus

/-- The end of the frame on the bus. -/
theorem Core.frameTxEnd_onBus (hb : c.onBusBuf k = some b) (ok : Bool) :
    c.frameTxEnd k ok = (if ok then c.frameSent k b else c.frameFailed k b).canOffer k := by
  unfold Core.frameTxEnd
  rw [hb]
  exact if_neg (by simp [honBus])

theorem Core.arbitrationLost_onBus (hb : c.onBusBuf k = some b) : c.arbitrationLost k =
    (if (c.buf k b).cancel then c.cancelBuf k b else c.afterFrame k b true).updCtl k fun x => { x with busy := true } := by
  unfold Core.arbitrationLost
  rw [hb]
  exact if_neg (by simp [honBus])

/-- An error moves the counters of its side and shows what follows from them. -/
theorem Core.canBusError_onBus {kind : Nat} {tx first : Bool} {e : Core}
    (hd : d = ((c.inc32 (Od.CAN_ERRORS k)).wr (Od.CAN_LAST_ERR k) kind).updCtl k (fun x => { x with
      tecCount := if tx && !(kind == 3 && c.canBit k csPassive) then x.tecCount + 8 else x.tecCount,
      recCount := if tx then x.recCount else x.recCount + (if first then 8 else 1),
      ackErrs := if tx then (if kind = 3 then x.ackErrs + 1 else 0) else x.ackErrs,
      busy := x.busy && tx }))
    (he : e = (if tx = true ∧ kind = 3 ∧ d.rd (Od.CAN_NOACK_LIMIT k) ≠ 0 ∧
        d.rd (Od.CAN_NOACK_LIMIT k) ≤ (d.ctl k).ackErrs then d.setNoack k true else d)) :
    c.canBusError k kind tx first = ((if 256 ≤ (e.ctl k).tecCount then e.busOff k else e).showErrors k).canOffer k := by
  have hstatus : ((c.inc32 (Od.CAN_ERRORS k)).wr (Od.CAN_LAST_ERR k) kind).canBit k csPassive = c.canBit k csPassive := by
    have h1 : Od.CAN_STATUS k ≠ Od.CAN_LAST_ERR k := by simp only [Od.CAN_STATUS, Od.CAN_LAST_ERR]; omega
    have h2 : Od.CAN_STATUS k ≠ Od.CAN_ERRORS k := by simp only [Od.CAN_STATUS, Od.CAN_ERRORS]; omega
    unfold Core.canBit Core.bit
    rw [Core.rd_wr_other _ _ h1]
    exact congrArg (·.testBit csPassive) (Core.rd_wr_other c _ h2)
  unfold Core.canBusError
  rw [if_neg (by simp [honBus])]
  extract_lets c1 alone c2 lim c3 c4
  have hd2 : c2 = d := by
    rw [hd]
    refine congrArg (fun f => c1.updCtl k f) (funext fun x => ?_)
    simp only [alone, c1, hstatus]
    cases tx <;> simp
  have he3 : c3 = e := by
    rw [he, ← hd2]
    simp only [c3, lim, Bool.and_eq_true, beq_iff_eq, bne_iff_ne, decide_eq_true_eq, and_assoc]
  simp only [c4, he3]

end

section
variable (hmode : c.canMode k ≠ 0)
include hmode

theorem Core.busOffRecovery_recovers (hoff : c.canBit k csBusOff = true) (hrecover : (c.ctl k).recover = true)
    (hawake : c.canBit k csAsleep = false) : c.busOffRecovery k =
      (((((c.updCtl k fun x => { x with tecCount := 0, recCount := 0, recover := false, ackErrs := 0 }).setCanBit k csBusOff
        false).setCanBit k csOnBus true).canLog 0x0B03 k).showErrors k).canOffer k := by
  unfold Core.busOffRecovery
  rw [if_neg (by simp [hmode, hoff, hrecover, hawake])]

theorem Core.integrated_integrates (hint : c.canBit k csIntegrating = true) :
    c.integrated k = ((c.setCanBit k csIntegrating false).setCanBit k csOnBus true).canOffer k := by
  unfold Core.integrated
  rw [if_neg (by simp [hmode, hint])]

end

theorem Core.canRecover_eq (c : Core) (k : Nat) : c.canRecover k =
    if c.canMode k = 0 ∨ c.canBit k csBusOff = false then c.abort 0x08000022
    else (c.updCtl k fun x => { x with recover := true }).answer .done := by
  simp only [Core.canRecover, Bool.or_eq_true, beq_iff_eq, Bool.not_eq_true']

end

/-- Settles O31. -/
theorem canTransmitCommandsComplete : Obligations.CanTransmitCommandsComplete := by
  intro s c k hs
  refine ⟨fun busy b t d hrun hplan hd hmode hsilent => ?_,
    fun honBus => ⟨fun b hb => ⟨?_, ?_, ?_⟩, fun kind tx first d e hd he => ?_⟩,
    fun hmode => ⟨fun hoff hrecover hawake => ?_, fun hint => ?_⟩, fun p => ⟨fun hm => ?_, fun b hm => ?_⟩⟩
  · have hlaunch := Core.canLaunch_planned hrun hplan busy hd
    refine ⟨fun hasleep => ?_, fun hawake hgate => ?_, fun hawake hgate e he => ⟨fun hdue => ?_, fun f hlate hf => ?_⟩⟩
    · exact exec_act_finds (exec_canLaunch k busy s) hs (hlaunch.trans (Core.canLaunchAt_asleep hmode hsilent hasleep))
    · exact exec_act_finds (exec_canLaunch k busy s) hs (hlaunch.trans (Core.canLaunchAt_gated hmode hsilent hawake hgate))
    all_goals
      have hopen := hlaunch.trans (Core.canLaunchAt_due (b := b) (t := t) hmode hsilent hawake hgate he)
    · exact exec_act_finds (exec_canLaunch k busy s) hs (hopen.trans (if_neg (by omega)))
    · subst hf
      exact exec_act_finds (exec_canLaunch k busy s) hs (hopen.trans (if_pos hlate))
  · exact exec_act_finds (exec_canFrameTxEnd k true s) hs (Core.frameTxEnd_onBus honBus hb true)
  · exact exec_act_finds (exec_canFrameTxEnd k false s) hs (Core.frameTxEnd_onBus honBus hb false)
  · exact exec_act_finds (exec_canArbitrationLost k s) hs (Core.arbitrationLost_onBus honBus hb)
  · exact exec_act_finds (exec_canBusError k kind tx first s) hs (Core.canBusError_onBus honBus hd he)
  · exact exec_act_finds (exec_canBusoffRecovery k s) hs (Core.busOffRecovery_recovers hmode hoff hrecover hawake)
  · exact exec_act_finds (exec_canIntegrationComplete k s) hs (Core.integrated_integrates hmode hint)
  · exact State.act_canCmd hs hm (Core.canRecover_eq _ k)
  · exact State.act_txbCancel hs hm rfl

/-! ## Reception (R409 to R412) -/

section
variable {c d : Core} {k : Nat} {x : CanFrame}

/-- A valid frame at a controller that takes part lowers REC, is counted, and goes further unless it is a remote frame. -/
theorem Core.canTaken_counts (honBus : c.canOnBus k = true) (hfd : x.idword.testBit 30 = false ∨ c.canMode k ≠ 1)
    (hd : d = ((((c.updCtl k fun y => { y with
        busy := false, recCount := if 127 < y.recCount then 119 + c.fresh 32 % 9 else y.recCount - 1 }).used 1).showErrors k).inc64
          (Od.CAN_RX_FRAMES k))) (take : Core → Core) :
    c.canTaken k x take = (if x.remote then d else take d).canOffer k := by
  unfold Core.canTaken
  rw [if_neg (by rcases hfd with h | h <;> simp [honBus, h]), hd]

theorem Core.filterFrame_none (h : (List.range 32).find? (fun g => (c.canFilter k g).takes x) = none) :
    c.filterFrame k x = c := by
  unfold Core.filterFrame
  rw [h]

theorem Core.filterFrame_some {g : Nat} (h : (List.range 32).find? (fun g => (c.canFilter k g).takes x) = some g) :
    c.filterFrame k x =
      if (c.canFilter k g).dest = 2 then c.toQueue k (c.canFilter k g).queue g x else c.toObject k g x := by
  unfold Core.filterFrame
  rw [h]

/-- An object whose age reaches its limit at the boundary. -/
theorem Core.canObjectAged_limit {o : Nat} (hrun : c.clk.running = true) (ho : o < 32 * c.canCount)
    (htaken : ∀ x ∈ (c.ctl (o / 32)).taken, x.1 ≠ o % 32) (hd : d = c.atTime c.clk.nextB)
    (hdest : (d.canFilter (o / 32) (o % 32)).dest = 1) (hmax : (d.canFilter (o / 32) (o % 32)).maxAge ≠ 0)
    (hage : (d.canFilter (o / 32) (o % 32)).maxAge ≤ c.rd (Od.CAN_RXO_AGE o) + 1)
    (hbit : d.bit (Od.CAN_RXO_STATUS o) 2 = false) :
    c.canObjectAged o = (d.setBit (Od.CAN_RXO_STATUS o) 2 true).canLog 0x0B06 (o / 32) := by
  have hnone : (c.ctl (o / 32)).taken.any (fun x => x.1 == o % 32) = false := by simpa using htaken
  unfold Core.canObjectAged
  rw [if_neg (by simp [hrun, hnone]; omega), ← hd]
  unfold Core.canObjectAge
  exact if_neg (by simp [hdest, hmax, hbit]; omega)

/-- The oldest entries of a queue that holds as many are released. -/
theorem Core.queueAck_releases {q n : Nat} {l : List Bytes} (h1 : 1 ≤ n) (h64 : n ≤ 64)
    (hl : l = (c.ctl (q / 4)).queues.getD (q % 4) []) (hn : n ≤ l.length)
    (hd : d = (c.updCtl (q / 4) fun y => { y with queues := setAt y.queues (q % 4) (l.drop n) }).wr (Od.CAN_Q_COUNT q)
      (l.length - n)) :
    c.queueAck q n = (if l.length = n then d.evLevel (145 + q) false else d).answer .done := by
  unfold Core.queueAck
  dsimp only
  rw [← hl, if_neg (by simp; omega), hd]

/-! ## Sleep and wake (R418, R419) -/

theorem Core.canSleep_sleeps {e : Core} (hmode : c.canMode k ≠ 0) (hawake : c.canBit k csAsleep = false)
    (hrole : c.rd (Od.TT_ROLE k) ≠ 1)
    (he : e = (List.range 5).foldl (fun (c : Core) b =>
      if (c.buf k b).st = 1 then c.cancelBuf k b else c.updBuf k b fun x => { x with defer := false }) c) :
    c.canSleep k = ((e.updCtl k fun x => { x with sleeping := true }).setCanBit k csWoken false).answer .done := by
  unfold Core.canSleep
  rw [if_neg (by simp [hmode, hawake, hrole]), he]

theorem Core.canWake_eq (c : Core) (k : Nat) : c.canWake k =
    if c.canMode k = 0 ∨ c.canBit k csAsleep = false then c.abort 0x08000022 else (c.canWoken k).answer .done := by
  simp only [Core.canWake, Bool.or_eq_true, beq_iff_eq, Bool.not_eq_true']

theorem Core.sleepEntered_sleeps (hmode : c.canMode k ≠ 0) (hsleeping : (c.ctl k).sleeping = true)
    (hbus : ∀ x ∈ (c.ctl k).bufs, x.st ≠ 2) : c.sleepEntered k =
      ((((((List.range 5).foldl (fun (c : Core) b => if (c.buf k b).st = 1 then c.cancelBuf k b else c) c).updCtl k fun x =>
        { x with sleeping := false, busy := false }).setCanBit k csAsleep true).setCanBit k csOnBus false).setCanBit k
          csIntegrating false).canLog 0x0B0A k := by
  have hnone : (c.ctl k).bufs.any (·.st == 2) = false := by simpa using hbus
  unfold Core.sleepEntered
  rw [if_neg (by simp [hmode, hsleeping, hnone])]

end

/-- Settles O32. -/
theorem canReceiveCommandsComplete : Obligations.CanReceiveCommandsComplete := by
  intro s c k hs
  refine ⟨fun x sof d hsdo honBus hfd href hd hdref => ?_, fun o d hrun ho htaken hd hdest hmax hage hbit => ?_,
    fun p q n l d hm h1 h64 hl hn hd => ?_, fun p d hd => ⟨fun e hm hmode hawake hrole he => ?_, fun hm => ?_⟩,
    fun hmode => ⟨fun hsleeping hbus => ?_, fun e hasleep hwakes => ?_⟩⟩
  · have hframe : c.canFrameRx s.skein k x sof = (if x.remote then d else d.filterFrame k x).canOffer k := by
      unfold Core.canFrameRx
      rw [if_neg (by simp [hsdo])]
      exact (Core.canTaken_counts honBus hfd hd _).trans (by simp only [hdref]; rfl)
    refine ⟨fun hremote => ?_, fun hremote => ⟨fun hnone => ?_, fun g hg => ?_⟩⟩
    all_goals rw [hremote] at hframe
    · exact exec_act_finds (exec_canFrameRx k x sof s) hs hframe
    · exact exec_act_finds (exec_canFrameRx k x sof s) hs (hframe.trans (congrArg (·.canOffer k) (Core.filterFrame_none hnone)))
    · exact exec_act_finds (exec_canFrameRx k x sof s) hs (hframe.trans (congrArg (·.canOffer k) (Core.filterFrame_some hg)))
  · exact exec_act_finds (exec_canRxObjectAged o s) hs (Core.canObjectAged_limit hrun ho htaken hd hdest hmax hage hbit)
  · exact State.act_queueAck hs hm h64 (Core.queueAck_releases h1 h64 hl hn hd)
  · subst hd
    exact State.act_canCmd hs hm (Core.canSleep_sleeps hmode hawake hrole he)
  · subst hd
    exact State.act_canCmd hs hm (Core.canWake_eq _ k)
  · exact exec_act_finds (exec_canSleepEntered k s) hs (Core.sleepEntered_sleeps hmode hsleeping hbus)
  · exact exec_act_finds (exec_canBusWake k e s) hs (if_neg (by simp [hmode, hasleep, hwakes]))

/-! ## Time-triggered operation (R415 to R417) -/

section
variable {c d e : Core} {k : Nat}

section
variable (hmode : c.canMode k ≠ 0)
include hmode

/-- The reference instant of a time master: what has not started is dropped, and the reference of this cycle is offered. -/
theorem Core.ttRefLaunch_due {t : Nat} {rest : List Nat} (hrefs : (c.ctl k).refs = t :: rest) (busy : Bool)
    (hd : d = (c.atTime t).updCtl k (fun x => { x with refs := rest, busy := busy }))
    (he : e = (if (d.buf k bufRef).st = 1 then (d.idleBuf k bufRef).refMissed k else d)) :
    (e.netGate = false ∨ e.canBit k csAsleep = true → c.ttRefLaunch k busy = e) ∧
      (e.netGate = true → e.canBit k csAsleep = false → e.rd (Od.TT_CYCLE_TICKS k) ≠ 0 →
        c.ttRefLaunch k busy = (e.updBuf k bufRef fun x => { x with
          st := 1, idword := e.rd (Od.TT_REF_ID k),
          reg := leBytes 1 (e.rd Od.TICK_NUMBER / e.rd (Od.TT_CYCLE_TICKS k) % max 1 (e.rd (Od.TT_MATRIX_CYCLES k))),
          single := true, cancel := false, defer := false, asked := t }).canOffer k) := by
  unfold Core.ttRefLaunch
  rw [hrefs]
  dsimp only
  rw [if_neg (by simp [hmode]), ← hd, ← he]
  refine ⟨fun h => if_pos (by simpa using h), fun hgate hawake hcycle => ?_⟩
  rw [if_neg (by simp [hgate, hawake]), if_neg hcycle]

/-- A follower without its reference counts it as missed and plans on from the last mark. -/
theorem Core.ttMissed_plans (hstate : c.rd (Od.TT_STATE k) = 1)
    (hd : d = (((c.atTime ((c.ctl k).mark + c.basicCycle k * 3 / 2)).setTt k 2).inc32 (Od.TT_REF_MISSED k)).updCtl k
      (fun x => { x with cycles := 1 })) :
    c.ttMissed k = d.ttPlan k ((d.ctl k).mark + c.basicCycle k)
      ((d.rd (Od.TT_CYCLE_COUNT k) + 1) % max 1 (d.rd (Od.TT_MATRIX_CYCLES k))) true := by
  unfold Core.ttMissed
  rw [if_neg (by simp [hmode, hstate]), hd]

theorem Core.ttLost_silences (hstate : c.rd (Od.TT_STATE k) = 2) : c.ttLost k =
    ((c.atTime ((c.ctl k).mark + (c.rd (Od.TT_LOSS_LIMIT k) + 1) * c.basicCycle k)).setTt k 3).updCtl k fun x =>
      { x with plan := [] } := by
  unfold Core.ttLost
  rw [if_neg (by simp [hmode, hstate])]

end

/-- A reference is a base data frame. -/
theorem Core.isReference_frame {x : CanFrame} (h : c.isReference k x = true) :
    x.idword.testBit 30 = false ∧ x.remote = false := by
  simp only [Core.isReference, Bool.and_eq_true, Bool.not_eq_true'] at h
  exact ⟨h.1.1.2, h.2⟩

/-- A follower takes the start of frame of its reference as the sync mark. -/
theorem Core.ttReference_marks {x : CanFrame} {sof : Nat}
    (he : e = (((d.updCtl k fun y => { y with mark := sof, cycles := 0 }).inc32 (Od.TT_REF_SENT k)).wr (Od.TT_CYCLE_COUNT k)
      (leAt x.data 0 1 % 64)).wr (Od.TT_REF_STAMP k) sof) :
    d.ttReference k x sof = (e.setTt k 1).ttPlan k sof (leAt x.data 0 1 % 64) false := by
  rw [he]
  rfl

end

/-- Settles O33. -/
theorem timeTriggeredCanCommandsComplete : Obligations.TimeTriggeredCanCommandsComplete := by
  intro s c k hs
  refine ⟨fun hmode => ⟨fun t rest busy d e hrefs hd he => ?_, fun hstate d hd => ?_, fun hstate => ?_⟩,
    fun x sof d e href honBus hd hdref he => ?_⟩
  · obtain ⟨hheld, hoffered⟩ := Core.ttRefLaunch_due hmode hrefs busy hd he
    exact ⟨fun h => exec_act_finds (exec_ttReferenceLaunch k busy s) hs (hheld h), fun hgate hawake hcycle =>
      exec_act_finds (exec_ttReferenceLaunch k busy s) hs (hoffered hgate hawake hcycle)⟩
  · exact exec_act_finds (exec_ttReferenceMissed k s) hs (Core.ttMissed_plans hmode hstate hd)
  · exact exec_act_finds (exec_ttFollowerLost k s) hs (Core.ttLost_silences hmode hstate)
  · obtain ⟨hclassic, hdata⟩ := Core.isReference_frame href
    refine exec_act_finds (exec_ttReferenceRx k x sof s) hs ?_
    unfold Core.ttRefRx
    rw [if_pos href, Core.canReceive, Core.canTaken_counts honBus (.inl hclassic) hd]
    simp only [hdata, hdref, Bool.false_eq_true, if_false, if_true]
    rw [Core.ttReference_marks he]

end Sys2Proof.Machine
end

section
/-! The CANopen SDO server's commands (R420, R466): O34. -/

-- Elaborated in order, so that the memory of its proofs is not held beside that of the rest of the text.
set_option Elab.async false

namespace Sys2Proof.Machine

section
variable {c d e : Core} {k : Nat} {f : Bytes} {r : Recorder}

/-! ## A request on its way to the server -/

/-- The COB-ID of a request to node `id`, below 128, is one of 11 bits. -/
theorem frameId_sdo {id : Nat} (hid : id < 128) : frameId (0x600 + id) = 0x600 + id := by
  have h31 : (0x600 + id).testBit 31 = false := Nat.testBit_lt_two_pow (by omega)
  unfold frameId
  rw [h31, if_neg Bool.false_ne_true]
  unfold field
  rw [Nat.shiftRight_zero]
  omega

theorem Core.sdoTakes_request {id dlc : Nat} (hnode : c.sdoNode k = some id) (hid : id < 128) (brs : Bool) :
    c.sdoTakes k ⟨0x600 + id, dlc, brs, false, f⟩ = true := by
  have h31 : (0x600 + id).testBit 31 = false := Nat.testBit_lt_two_pow (by omega)
  have h30 : (0x600 + id).testBit 30 = false := Nat.testBit_lt_two_pow (by omega)
  unfold Core.sdoTakes
  rw [hnode]
  simp [h31, h30, frameId_sdo hid]

theorem Core.sdoRequest_serves (hf : f.length = 8) (hserves : c.dictServes = true) (hvoted : c.ply.unvoted = none) :
    c.sdoRequest r k f = c.sdoServe r k f := by
  unfold Core.sdoRequest
  rw [if_neg (by simp [hf, hserves]), if_neg (by simp [hvoted])]

/-- A request frame of eight bytes is counted and served by its command specifier. -/
theorem Core.sdoRow_serves {id cs : Nat} {ccs : List Nat} (hnode : c.sdoNode k = some id) (hid : id < 128)
    (honBus : c.canOnBus k = true) (hf : f.length = 8)
    (hd : d = ((((c.updCtl k fun y => { y with
        busy := false, recCount := if 127 < y.recCount then 119 + c.fresh 32 % 9 else y.recCount - 1 }).used 1).showErrors k).inc64
          (Od.CAN_RX_FRAMES k)))
    (hserves : d.dictServes = true) (hvoted : d.ply.unvoted = none) (hcs : leAt f 0 1 / 32 = cs)
    (hmem : ccs.contains cs = true) (he : d.sdoServe r k f = e) : c.sdoRow r ccs k f = e.canOffer k := by
  have hfd : (0x600 + id).testBit 30 = false := Nat.testBit_lt_two_pow (by omega)
  unfold Core.sdoRow
  rw [hnode, hcs]
  dsimp only
  rw [if_pos hmem]
  unfold Core.canFrameRx
  rw [if_pos (Core.sdoTakes_request hnode hid _), Core.canTaken_counts (x := ⟨0x600 + id, 8, false, false, f⟩) honBus (.inl hfd) hd,
    Core.sdoRequest_serves hf hserves hvoted, he]
  rfl

/-! ## The server by the command specifier -/

theorem Core.sdoServe_downSegment (h : leAt f 0 1 / 32 = 0) : c.sdoServe r k f = c.sdoDownSegment k f := by
  unfold Core.sdoServe
  simp only [h]

theorem Core.sdoServe_download (h : leAt f 0 1 / 32 = 1) : c.sdoServe r k f = c.sdoDownload k f := by
  unfold Core.sdoServe
  simp only [h]

theorem Core.sdoServe_upload (h : leAt f 0 1 / 32 = 2) : c.sdoServe r k f = c.sdoUpload r k f := by
  unfold Core.sdoServe
  simp only [h]

theorem Core.sdoServe_upSegment (h : leAt f 0 1 / 32 = 3) : c.sdoServe r k f = c.sdoUpSegment k f := by
  unfold Core.sdoServe
  simp only [h]

theorem Core.sdoServe_end (h : leAt f 0 1 / 32 = 4) : c.sdoServe r k f = c.sdoEnd k := by
  unfold Core.sdoServe
  simp only [h]

/-- A block request is refused. -/
theorem Core.sdoServe_block (h : leAt f 0 1 / 32 = 5 ∨ leAt f 0 1 / 32 = 6) :
    c.sdoServe r k f = (c.sdoFresh k).sdoAbort k (odKey (leAt f 1 2) (leAt f 3 1)) abCommand := by
  unfold Core.sdoServe
  rcases h with h | h <;> simp only [h]

/-! ## Downloads -/

/-- An expedited download writes the entry with the bytes it carries. -/
theorem Core.sdoDownload_expedited {cmd key n : Nat} (hcmd : cmd = leAt f 0 1) (hkey : key = odKey (leAt f 1 2) (leAt f 3 1))
    (he : e = c.sdoFresh k) (hexp : cmd.testBit 1 = true)
    (hn : n = (if cmd.testBit 0 then 4 - field cmd 2 2
      else match e.entry? key with | some r => if r.isDomain then 4 else r.type.bytes | none => 4)) :
    c.sdoDownload k f =
      (e.writeFree (.can k) key .le (slice f 4 n)).sdoConfirm k key (leBytes 1 0x60 ++ sdoMux key) := by
  unfold Core.sdoDownload
  dsimp only
  rw [← hcmd, ← hkey, ← he]
  subst hn
  exact if_pos hexp

theorem Core.sdoDownload_refused {key code : Nat} (hkey : key = odKey (leAt f 1 2) (leAt f 3 1)) (he : e = c.sdoFresh k)
    (hseg : (leAt f 0 1).testBit 1 = false) (hcheck : e.checkWrite (.can k) key 0 = .error code) :
    c.sdoDownload k f = e.sdoAbort k key code := by
  unfold Core.sdoDownload
  dsimp only
  rw [← hkey, ← he, hseg, if_neg Bool.false_ne_true, hcheck]

/-- A segmented download of a number begins with its transfer. -/
theorem Core.sdoDownload_begins {key : Nat} {row : OdRow} (hkey : key = odKey (leAt f 1 2) (leAt f 3 1))
    (he : e = c.sdoFresh k) (hseg : (leAt f 0 1).testBit 1 = false) (hcheck : e.checkWrite (.can k) key 0 = .ok row)
    (hdom : row.isDomain = false) :
    c.sdoDownload k f = ((e.setSdo k (some ⟨key, false, false, [], e.clk.cyc⟩)).answer .done).sdoSend k
      (leBytes 1 0x60 ++ sdoMux key) := by
  unfold Core.sdoDownload
  dsimp only
  rw [← hkey, ← he, hseg, if_neg Bool.false_ne_true, hcheck]
  dsimp only
  rw [hdom, if_neg Bool.false_ne_true]

section
variable {t : SdoTransfer} (hnow : c.sdoNow k = some t) (htoggle : (leAt f 0 1).testBit 4 = t.toggle)
include hnow htoggle

section
variable {row : OdRow} (hup : t.up = false) (hrow : c.entry? t.key = some row) (hdom : row.isDomain = false)
include hup hrow hdom

/-- The last segment of a download to a number ends the transfer and writes the number. -/
theorem Core.sdoDownSegment_last (hlast : (leAt f 0 1).testBit 0 = true) : c.sdoDownSegment k f =
    ((c.setSdo k none).writeFree (.can k) t.key .le (t.data ++ slice f 1 (7 - field (leAt f 0 1) 1 3))).sdoConfirm k t.key
      (leBytes 1 (0x20 + 16 * b2n t.toggle)) := by
  unfold Core.sdoDownSegment
  simp only [hnow, hup, htoggle, hrow, hdom, hlast, Bool.false_eq_true, if_false, if_true, ne_eq, not_true]

/-- An earlier segment is kept, and confirmed. -/
theorem Core.sdoDownSegment_kept (hmore : (leAt f 0 1).testBit 0 = false) : c.sdoDownSegment k f =
    ((c.setSdo k (some { t with toggle := !t.toggle, data := t.data ++ slice f 1 (7 - field (leAt f 0 1) 1 3), cyc := c.clk.cyc })).answer
      .done).sdoSend k (leBytes 1 (0x20 + 16 * b2n t.toggle)) := by
  unfold Core.sdoDownSegment
  simp only [hnow, hup, htoggle, hrow, hdom, hmore, Bool.false_eq_true, if_false, ne_eq, not_true]
  rfl

end

/-! ## Uploads -/

/-- The next seven bytes of an upload; the last ones end it. -/
theorem Core.sdoUpSegment_answers (hup : t.up = true) : c.sdoUpSegment k f =
    ((c.setSdo k (if t.data.length ≤ 7 then none
        else some { t with toggle := !t.toggle, data := t.data.drop 7, cyc := c.clk.cyc })).answer
      (.bytes (t.data.take 7))).sdoSend k (leBytes 1 (16 * b2n t.toggle + 2 * (7 - (t.data.take 7).length) +
        b2n (decide (t.data.length ≤ 7))) ++ t.data.take 7) := by
  unfold Core.sdoUpSegment
  simp only [hnow, hup, htoggle, Bool.not_true, Bool.false_eq_true, if_false, ne_eq, not_true, decide_eq_true_eq]

end

theorem Core.sdoUpload_answers {key : Nat} {b : Bytes} (hkey : key = odKey (leAt f 1 2) (leAt f 3 1))
    (hread : (c.sdoFresh k).readBytes r (.can k) key .le = .ok b) (he : e = ((c.sdoFresh k).used 1).answer (.bytes b)) :
    c.sdoUpload r k f =
      if 1 ≤ b.length ∧ b.length ≤ 4 then e.sdoSend k (leBytes 1 (0x43 + 4 * (4 - b.length)) ++ sdoMux key ++ b)
      else (e.setSdo k (some ⟨key, true, false, b, e.clk.cyc⟩)).sdoSend k
        (leBytes 1 0x41 ++ sdoMux key ++ leBytes 4 b.length) := by
  unfold Core.sdoUpload
  dsimp only
  rw [← hkey, hread, he]

theorem Core.sdoTimeout_ends {t : SdoTransfer} (hnow : c.sdoNow k = some t) :
    c.sdoTimeout k = ((c.atCyc (t.cyc + ms 1000)).sdoEnd k).sdoAbort k t.key 0x05040000 := by
  unfold Core.sdoTimeout
  rw [hnow]
  rfl

end

/-- Settles O34. -/
theorem sdoCommandsComplete : Obligations.SdoCommandsComplete := by
  intro s c k hs
  refine ⟨fun f id key cmd d hnode hid honBus hf hd hserves hvoted hcmd hkey => ?_, fun t hnow =>
    exec_act_finds (exec_sdoSegmentTimeout k s) hs (Core.sdoTimeout_ends hnow)⟩
  have hrow : ∀ {e : Core} {ccs : List Nat} {cs : Nat}, cmd / 32 = cs → ccs.contains cs = true →
      d.sdoServe s.skein k f = e → c.sdoRow s.skein ccs k f = e.canOffer k := fun hcs =>
    Core.sdoRow_serves hnode hid honBus hf hd hserves hvoted (hcmd ▸ hcs)
  refine ⟨fun hcs e he => ⟨fun n hexp hn => ?_, fun code hseg hcheck => ?_, fun row hseg hcheck hdom => ?_⟩,
    fun t hnow htoggle => ⟨fun hcs hup seg row hsl hentry hdom => ⟨fun hlast => ?_, fun hmore => ?_⟩, fun hcs hup => ?_⟩,
    fun hcs b e hread he => ?_, fun hcs => ?_, fun hcs => ?_⟩
  · exact exec_act_finds (exec_sdoInitiateDownload k f s) hs (hrow hcs rfl
      ((Core.sdoServe_download (hcmd ▸ hcs)).trans (Core.sdoDownload_expedited hcmd hkey he hexp hn)))
  · exact exec_act_finds (exec_sdoInitiateDownload k f s) hs (hrow hcs rfl
      ((Core.sdoServe_download (hcmd ▸ hcs)).trans (Core.sdoDownload_refused hkey he (hcmd ▸ hseg) hcheck)))
  · exact exec_act_finds (exec_sdoInitiateDownload k f s) hs (hrow hcs rfl
      ((Core.sdoServe_download (hcmd ▸ hcs)).trans (Core.sdoDownload_begins hkey he (hcmd ▸ hseg) hcheck hdom)))
  · subst hsl hcmd
    exact exec_act_finds (exec_sdoDownloadSegment k f s) hs (hrow hcs rfl
      ((Core.sdoServe_downSegment hcs).trans (Core.sdoDownSegment_last hnow htoggle hup hentry hdom hlast)))
  · subst hsl hcmd
    exact exec_act_finds (exec_sdoDownloadSegment k f s) hs (hrow hcs rfl
      ((Core.sdoServe_downSegment hcs).trans (Core.sdoDownSegment_kept hnow htoggle hup hentry hdom hmore)))
  · exact exec_act_finds (exec_sdoUploadSegment k f s) hs (hrow hcs rfl
      ((Core.sdoServe_upSegment (hcmd ▸ hcs)).trans (Core.sdoUpSegment_answers hnow (hcmd ▸ htoggle) hup)))
  · exact exec_act_finds (exec_sdoInitiateUpload k f s) hs (hrow hcs rfl
      ((Core.sdoServe_upload (hcmd ▸ hcs)).trans (Core.sdoUpload_answers hkey hread he)))
  · exact exec_act_finds (exec_sdoAbort k f s) hs (hrow hcs rfl (Core.sdoServe_end (hcmd ▸ hcs)))
  · have hmem : [5, 6].contains (cmd / 32) = true := by rcases hcs with h | h <;> simp [h]
    subst hcmd hkey
    exact exec_act_finds (exec_sdoBlockRequest k f s) hs (hrow rfl hmem (Core.sdoServe_block hcs))

end Sys2Proof.Machine
end
